-- ==== Sys2Proof/Word.lean ====
section
/-! DEFINITION. The word types of the model, sparse tables in one canonical form, and the shape of a
register and of a field of a register. -/

namespace Sys2Proof

/-- A register word (R11: registers are 32 bits wide). -/
abbrev Word := BitVec 32

/-- A byte of a frame, a record or a message. -/
abbrev Byte := BitVec 8

/-- A run of bytes, first byte first. -/
abbrev Bytes := List Byte

/-! Sparse tables: a list of (index, entry) pairs with rising indices, no entry equal to what an
unlisted index reads as. -/

/-- A sparse table of entries of type `α`. -/
abbrev SMap (α : Type) := List (Nat × α)

/-- The entry at index `k`; `d` where nothing is listed. -/
def SMap.get {α : Type} (d : α) : SMap α → Nat → α
  | [], _ => d
  | (a, v) :: m, k => if k = a then v else SMap.get d m k

/-- The table without index `k`. -/
def SMap.erase {α : Type} : SMap α → Nat → SMap α
  | [], _ => []
  | (a, v) :: m, k => if k = a then SMap.erase m k else (a, v) :: SMap.erase m k

/-- Put an entry at its place in the rising order. -/
def SMap.ins {α : Type} : SMap α → Nat → α → SMap α
  | [], k, v => [(k, v)]
  | (a, b) :: m, k, v => if k < a then (k, v) :: (a, b) :: m else (a, b) :: SMap.ins m k v

/-- Write an entry, keeping the canonical form: writing the default removes the index. -/
def SMap.set {α : Type} [DecidableEq α] (d : α) (m : SMap α) (k : Nat) (v : α) : SMap α :=
  if v = d then SMap.erase m k else SMap.ins (SMap.erase m k) k v

/-- Change the entry at one index. -/
def SMap.upd {α : Type} [DecidableEq α] (d : α) (m : SMap α) (k : Nat) (f : α → α) : SMap α :=
  SMap.set d m k (f (SMap.get d m k))

/-- Indices strictly rising, each above `lo`. -/
def SMap.risingFrom {α : Type} : Nat → SMap α → Bool
  | _, [] => true
  | lo, (a, _) :: m => decide (lo ≤ a) && SMap.risingFrom (a + 1) m

/-- The canonical form: indices strictly rising and no entry at the default. -/
def SMap.wf {α : Type} [DecidableEq α] (d : α) (m : SMap α) : Bool :=
  SMap.risingFrom 0 m && m.all (fun e => decide (e.2 ≠ d))

/-! Bytes and numbers. -/

/-- A number as `n` bytes, most significant byte first (the low `8 n` bits of it). -/
def beBytes : Nat → Nat → Bytes
  | 0, _ => []
  | n + 1, v => BitVec.ofNat 8 (v >>> (8 * n)) :: beBytes n v

/-- The number that bytes spell, most significant byte first. -/
def beNat (bs : Bytes) : Nat := bs.foldl (fun a b => a * 256 + b.toNat) 0

/-- `n` zero bytes. -/
def zeros (n : Nat) : Bytes := List.replicate n 0

/-- The bytes from offset `o`, `n` of them (fewer where the run ends). -/
def slice (bs : Bytes) (o n : Nat) : Bytes := (bs.drop o).take n

/-- The number at offset `o` in `n` bytes. -/
def numAt (bs : Bytes) (o n : Nat) : Nat := beNat (slice bs o n)

/-- Byte-wise exclusive or of two runs, as long as the shorter. -/
def xorBytes (a b : Bytes) : Bytes := List.zipWith (· ^^^ ·) a b

/-- A natural number read as a two's complement number of `n` bits. -/
def signed (n v : Nat) : Int := if v % 2 ^ n < 2 ^ (n - 1) then (v % 2 ^ n : Int) else (v % 2 ^ n : Int) - 2 ^ n

/-- Is bit `i` of `v` set? -/
def bit (v i : Nat) : Bool := v.testBit i

/-- Bits `hi` to `lo` of a number. -/
def nbits (v hi lo : Nat) : Nat := (v >>> lo) % 2 ^ (hi + 1 - lo)

/-- A one-bit number. -/
def b2n (b : Bool) : Nat := if b then 1 else 0

/-! Fields of a word. -/

/-- Bits `hi` to `lo` of a register word. -/
def getBits (w : Word) (hi lo : Nat) : Nat := (w.extractLsb' lo (hi + 1 - lo)).toNat

/-- The mask with ones at bits `hi` to `lo`. -/
def fieldMask (hi lo : Nat) : Word := BitVec.ofNat 32 ((2 ^ (hi + 1 - lo) - 1) <<< lo)

/-- A register word with bits `hi` to `lo` replaced by the low bits of `v`. -/
def setBits (w : Word) (hi lo v : Nat) : Word :=
  (w &&& ~~~ (fieldMask hi lo)) ||| (BitVec.ofNat 32 (v <<< lo) &&& fieldMask hi lo)

/-- Access codes of register fields (R13). -/
inductive Acc
  /-- Read-only. -/
  | ro
  /-- Read and write. -/
  | rw
  /-- Read and write until IMAGE_COMMIT, then read-only (R13, R412). -/
  | rwl
  /-- Writing 1 clears. -/
  | w1c
  /-- Reading clears. -/
  | rc
  /-- Write-only, reads zero. -/
  | wo
  /-- Self-clearing command bit. -/
  | sc
  deriving DecidableEq, Repr

/-- The place and access code of one named field. -/
structure FieldSpec where
  hi : Nat
  lo : Nat
  acc : Acc
  deriving DecidableEq, Repr

/-- A register: address of its first instance, stride and number of instances in two dimensions (the
block's instance, then the array index), its named fields, and the reset word of each instance.  Bits
in no named field are reserved and read zero (R12). -/
structure Reg where
  base : Nat
  s1 : Nat
  n1 : Nat
  s2 : Nat
  n2 : Nat
  fields : List FieldSpec
  rst : Nat → Nat → Nat

/-- A named field of a register. -/
structure Fld where
  reg : Reg
  hi : Nat
  lo : Nat

/-- The address of instance `i`, `j` of a register. -/
def Reg.addr (r : Reg) (i j : Nat) : Nat := r.base + i * r.s1 + j * r.s2

/-- The reset word of instance `i`, `j`. -/
def Reg.reset (r : Reg) (i j : Nat) : Word := BitVec.ofNat 32 (r.rst i j)

end Sys2Proof
end

