-- ==== Sys2Proof/Machine/Types.lean ====
section
/-! DEFINITION. The kinds of state outside the register file and the window tables, one structure for
each unit, plain data throughout.  Instants named `…Clk` count control-clock cycles (nanoseconds,
R366) since power-on; instants named `…Net` are network time (48 bits, R367). -/

namespace Sys2Proof.Machine

/-! Masters and accesses (R535). -/

/-- The master of an access to the address map. -/
inductive Master
  /-- Sage A, on its own behalf (code 0). -/
  | sageA
  /-- Sage B, on its own behalf (code 1). -/
  | sageB
  /-- The SPI target (code 2). -/
  | spi
  /-- The I2C target (code 3). -/
  | i2c
  /-- A management Ethernet session of the principal named (code 4). -/
  | eth (principal : Nat)
  /-- The flash loader (code 5). -/
  | loader
  /-- The central counter reader (code 6). -/
  | reader
  deriving DecidableEq, Repr

/-- The lines of the module's outputs: what it sends, in order (log entry 4). -/
inductive Output
  /-- A frame, its FCS included, to the MAC of a client port. -/
  | client (port : Nat) (frame : Bytes)
  /-- Bytes on the lanes of a line port. -/
  | line (port : Nat) (bytes : Bytes)
  /-- The reply bytes of an SPI frame. -/
  | spi (reply : Bytes)
  /-- The reply bytes of an I2C transaction. -/
  | i2c (reply : Bytes)
  /-- An I2C byte that the target does not acknowledge. -/
  | i2cNack
  /-- A management Ethernet frame or datagram body to an address. -/
  | eth (dest : Nat) (bytes : Bytes)
  /-- A fleet message body to a member, in-band or out-of-band. -/
  | fleet (member : Nat) (inBand : Bool) (bytes : Bytes)
  /-- A session reply body on a session. -/
  | session (session : Nat) (bytes : Bytes)
  /-- An exception frame, handed to the active Sage core: reason code, front end, port, service, tag, network time. -/
  | exception (reason fe port svc tag net : Nat) (frame : Bytes)
  /-- The level of a PPS_OUT pin. -/
  | pps (pin : Nat) (active : Bool)
  /-- The value a register read returned. -/
  | read (value : Word)
  deriving DecidableEq, Repr

/-! Network time and Thyme (R366-R391). -/

/-- A transmit stamp record (R378). -/
structure TxStamp where
  port : Nat := 0
  tag : Nat := 0
  net : Nat := 0
  ovf : Bool := false
  deriving DecidableEq, Repr

/-- A PPS_OUT pin (R385). -/
structure PinSt where
  /-- A train runs. -/
  train : Bool := false
  /-- Network time of the train's next leading edge. -/
  nextNet : Nat := 0
  /-- A pulse is in progress. -/
  pulse : Bool := false
  /-- The raw-count instant at which the pulse ends. -/
  endClk : Nat := 0
  /-- Writes that changed MODE, so that an entry sees a change since its write. -/
  modeGen : Nat := 0
  deriving DecidableEq, Repr

/-- The time unit (R366-R378); rates and boundaries are in its registers. -/
structure TimSt where
  /-- Control-clock cycles since power-on: the model's clock. -/
  clk : Nat := 0
  /-- The clock at the release of the control island, where the raw count starts at 0. -/
  rawOrigin : Nat := 0
  /-- base_raw of R368, as a clock instant. -/
  baseClk : Nat := 0
  /-- base_net of R368. -/
  baseNet : Nat := 0
  /-- base_frac of R368, in units of 2^-32 ns. -/
  baseFrac : Nat := 0
  /-- TIM_SEC: the 48-bit second count (R371). -/
  sec : Nat := 0
  /-- Network time of the last Thyme second. -/
  lastSecNet : Nat := 0
  /-- The clock at the last accepted PPS_IN edge (R374). -/
  ppsClk : Option Nat := none
  /-- The stored PPS_IN stamp, seen by the registers at the next status read. -/
  ppsStamp : Nat := 0
  /-- A TOD_IN message has been paired with the last edge (R375). -/
  ppsPaired : Bool := false
  /-- The stored TOD_IN message: SEC_LO, SEC_HI, INFO, RX_NS as the registers show them once frozen. -/
  tod : List Nat := []
  /-- The clock of the last valid TOD_IN message. -/
  todClk : Option Nat := none
  /-- The clock at the start of the running TIMECLK_IN gate (R376). -/
  gateClk : Option Nat := none
  /-- The transmit stamp FIFO, oldest first (16 records). -/
  txs : List TxStamp := []
  /-- A stamp was lost since the last record entered. -/
  txsLost : Bool := false
  /-- Delay_Req sends of each client port in the running second: clock of the second's start, count. -/
  slotRate : SMap (Nat × Nat) := []
  /-- The four PPS_OUT pins. -/
  pins : SMap PinSt := []
  /-- Consecutive servo updates below the lock threshold (R373). -/
  goodUpdates : Nat := 0
  /-- The clock of the last servo update, for the growth of ERR_EST_NS in HOLDOVER. -/
  servoClk : Nat := 0
  deriving DecidableEq, Repr

/-- A Thyme entry (R379, R389). -/
structure ThyEnt where
  /-- 0 FREE, 1 PENDING, 2 DONE, 3 ABORTED. -/
  st : Nat := 0
  late : Bool := false
  stepped : Bool := false
  action : Nat := 0
  ticket : Nat := 0
  /-- The instant, network time. -/
  at_ : Nat := 0
  arg : Nat := 0
  reason : Nat := 0
  count : Nat := 0
  missed : Nat := 0
  endNet : Nat := 0
  endClk : Nat := 0
  /-- The pin's `modeGen` at the write, for pulse actions. -/
  gen : Nat := 0
  deriving DecidableEq, Repr

/-- A record of THY_DONE_FIFO (R384). -/
structure ThyRec where
  aborted : Bool := false
  stepped : Bool := false
  action : Nat := 0
  entry : Nat := 0
  ticket : Nat := 0
  reason : Nat := 0
  count : Nat := 0
  deriving DecidableEq, Repr

/-- The Thyme schedule (R379-R384). -/
structure ThySt where
  ent : SMap ThyEnt := []
  /-- The ticket of the last accepted WRITE, 0 before the first. -/
  ticket : Nat := 0
  fifo : List ThyRec := []
  deriving DecidableEq, Repr

/-! Events, tamper and Rosemary (R478-R502). -/

/-- An occurrence that the arbiter has not yet ordered (R480). -/
structure Occ where
  clk : Nat := 0
  net : Nat := 0
  /-- 0 completions and firings, 1 other occurrences, 2 abort requests. -/
  kind : Nat := 1
  src : Nat := 0
  bit : Nat := 0
  /-- Made by EVT_FORCE. -/
  forced : Bool := false
  /-- The block status register's value, for the EVENT record. -/
  status : Nat := 0
  /-- The alarm has taken its response: its class, one more than the class (0: not yet), and whether the response changed
  anything (R489, R490). -/
  took : Nat := 0
  acted : Bool := false
  deriving DecidableEq, Repr

/-- A record of the event FIFO (R483). -/
structure EvtRec where
  seq : Nat := 0
  net : Nat := 0
  src : Nat := 0
  bit : Nat := 0
  forced : Bool := false
  deriving DecidableEq, Repr

/-- The event arbiter. -/
structure EvtSt where
  occ : List Occ := []
  fifo : List EvtRec := []
  /-- A record was dropped since the last read. -/
  lost : Bool := false
  deriving DecidableEq, Repr

/-- A Rosemary record (R494): its 64 bytes and what the writer needs to know of it. -/
structure RsmRec where
  lseq : Nat := 0
  kind : Nat := 0
  retained : Bool := false
  clk : Nat := 0
  /-- Flash or the level kept it from being programmed at once (R496). -/
  late : Bool := false
  bytes : Bytes := []
  deriving DecidableEq, Repr

/-- The Rosemary log (R494-R498). -/
structure RsmSt where
  /-- The last LSEQ assigned. -/
  lseq : Nat := 0
  /-- The highest LSEQ durable. -/
  durable : Nat := 0
  /-- The on-die ring, by LSEQ mod 4,096. -/
  ring : SMap RsmRec := []
  /-- LSEQs in the ring not yet durable, oldest first. -/
  wait : List Nat := []
  /-- The last record assigned, for the CHAIN of the next. -/
  last : Bytes := []
  /-- The general ring in flash, oldest first. -/
  general : List Bytes := []
  /-- The retained area in flash, oldest first. -/
  kept : List Bytes := []
  /-- Pages programmed into the active segment of the general ring. -/
  segPages : Nat := 0
  /-- Segments begun since the ring was first written. -/
  segNo : Nat := 0
  /-- The token bucket level in units of 10^-9 byte when last reckoned, and the clock then. -/
  level : Nat := 3686400000000000
  levelClk : Nat := 0
  /-- Records suppressed so far, and the first LSEQ suppressed. -/
  supCount : Nat := 0
  supFirst : Nat := 0
  /-- Flash answers the controller. -/
  flashOk : Bool := true
  /-- BOOT records durable in flash (EVT_BOOT_COUNT). -/
  boots : Nat := 0
  deriving DecidableEq, Repr

/-- Tamper and environment monitors (R484-R493). -/
structure TampSt where
  /-- Since when the two designs of each region disagree. -/
  disagree : SMap (Option Nat) := []
  /-- Light detectors tripped now, by region, bit d; environment sources tripped now, bit k. -/
  light : SMap Nat := []
  env : Nat := 0
  /-- Sources that mute half A, half B and the shell. -/
  muteA : List Nat := []
  muteB : List Nat := []
  muteS : List Nat := []
  /-- The clock at which the last muting source of each scope was last seen tripped. -/
  clearA : Nat := 0
  clearB : Nat := 0
  clearS : Nat := 0
  /-- Detector-fault regions that have occurred and still disagree. -/
  detFault : Nat := 0
  /-- The clock of the last TAMP_FUSE_CONFIRM with the right value (R487). -/
  fuseArmed : Option Nat := none
  /-- Regions being blown. -/
  fuseRun : Nat := 0
  /-- A class 3 response has been taken and awaits its hold, with the alarm's clock (R492). -/
  class3 : Option Nat := none
  /-- The class 3 hold is in force (R514). -/
  hold : Bool := false
  /-- LSEQs of STICKY records not yet durable (COPY_PENDING, R493). -/
  copies : List Nat := []
  deriving DecidableEq, Repr

/-! Reset and power (R503-R534). -/

/-- A reset domain: half A, half B, client shell, or a Sage core (R503, R512). -/
structure DomSt where
  /-- Causes holding it: bit 0 clock, bit 1 rail, bit 2 mute, bit 3 software, bit 4 zeroization failed; bit 5: every
  cause has ended and the domain is being zeroized (R512). -/
  causes : Nat := 0
  /-- The clock until which a software reset is held (1 µs, R512). -/
  swUntil : Nat := 0
  /-- The clock at which the last assertion ended. -/
  endClk : Nat := 0
  deriving DecidableEq, Repr

/-- A copy of the trim fuses (R521). -/
structure TrimCopy where
  good : Bool := true
  vcoreMv : Nat := 750
  rev : Nat := 0
  deriving DecidableEq, Repr

/-- The fuses (R1, R415, R487, R521, R558-R560): they survive every reset. -/
structure FuseSt where
  /-- 0 FACTORY, 1 PROVISIONED, 2 OPERATIONAL, 3 FIELD_RETURN, 4 DECOMMISSIONED. -/
  lcs : Nat := 0
  opFused : Nat := 0
  opRevoked : Nat := 0
  venFused : Nat := 3
  venRevoked : Nat := 0
  /-- The operator key hashes fused, by slot (48 bytes). -/
  opHash : SMap Bytes := []
  /-- The vendor key hashes fused, by slot (48 bytes). -/
  venHash : SMap Bytes := []
  /-- The fused tamper regions (R487). -/
  light : Nat := 0
  svn : Nat := 0
  serial : Nat := 0
  variantN : Bool := false
  trim0 : TrimCopy := {}
  trim1 : TrimCopy := {}
  /-- The image-key fuse is blown (R560, FIELD_RETURN). -/
  imageKeyBlown : Bool := false
  /-- The device-secret fuses are blown (R560, DECOMMISSION). -/
  secretBlown : Bool := false
  deriving DecidableEq, Repr

/-- The reset controller (R505-R522). -/
structure RstSt where
  /-- The clock of the assertion of the current power-on or system reset (R506). -/
  atClk : Nat := 0
  /-- The step of R509 that comes next: 1-7, 8 when the cores are released, 9 after IMAGE_COMMIT. -/
  step : Nat := 1
  /-- The clock at which the current power-on or system reset's causes ended. -/
  endClk : Nat := 0
  /-- The clock of the control island's release. -/
  relClk : Nat := 0
  /-- Half A (0), half B (1), client shell (2), Sage A (3), Sage B (4). -/
  dom : SMap DomSt := []
  /-- Zeroization is running over domains being released. -/
  zeroBusy : Bool := false
  /-- Zeroization failed twice: held until power is cycled (R511). -/
  zeroDead : Bool := false
  /-- Events found before the release: bit 0 TRIM_COPY_BAD, bit 1 TRIM_BAD, bit 2 STRAP_INVALID, bit 3 SEQ_DONE,
  bit 4 ZERO_RESTARTED. -/
  early : Nat := 0
  /-- The boot's choice (R408): 0 none running, 1 the first slot, 2 the second; the slot being verified; the header
  digest of the commit record that chose it, if one did; and when verification began. -/
  bootTry : Nat := 0
  bootSlot : Nat := 0
  bootRec : Option Bytes := none
  bootClk : Nat := 0
  /-- The pin configuration has been applied (R44, R515). -/
  pinsOn : Bool := false
  /-- The strap-default configuration of R45 applies. -/
  noImage : Bool := false
  deriving DecidableEq, Repr

/-- The power manager, beside its registers (R523-R528, R533). -/
structure PwrSt where
  /-- The rails are up; VIN and VAUX are above their brown-out thresholds (R525, R526). -/
  up : Bool := false
  vin : Bool := true
  vaux : Bool := true
  /-- Rail instances with a fault (R528), bit i. -/
  fault : Nat := 0
  /-- Energy from VIN since release, in mJ (64 bits). -/
  energy : Nat := 0
  /-- The part of a mJ not yet counted, in units of 0.1 W × 1 ms. -/
  energyFrac : Nat := 0
  /-- The clock of the last calibration. -/
  calClk : Nat := 0
  deriving DecidableEq, Repr

/-! Management access (R535-R566). -/

/-- One master's copy of the table window (R541). -/
structure Win where
  sel : Nat := 0
  index : Nat := 0
  data : List Nat := []
  /-- 0 IDLE, 1 BUSY, 2 DONE, 3 ABORTED. -/
  st : Nat := 0
  reason : Nat := 0
  deriving DecidableEq, Repr

/-- A telemetry subscription (R579). -/
structure Sub where
  sets : Nat := 0
  period : Nat := 1
  tag : Nat := 0
  /-- Replies of the last export not yet sent, and one more than the second of that export. -/
  unsent : Nat := 0
  done : Nat := 0
  deriving DecidableEq, Repr

/-- A session slot (R551-R554). -/
structure Sess where
  /-- 0 closed, 1 MODULE_HELLO sent, 2 open. -/
  st : Nat := 0
  principal : Nat := 0
  id : Nat := 0
  addr : Nat := 0
  keyRx : Bytes := []
  keyTx : Bytes := []
  keyConf : Bytes := []
  /-- The hash of the handshake transcript. -/
  th : Bytes := []
  /-- The highest sequence number accepted, and the window map below it (R432). -/
  rxHigh : Nat := 0
  rxMap : Nat := 0
  txSeq : Nat := 0
  openClk : Nat := 0
  idleClk : Nat := 0
  /-- The start of the running second of the request rate, and requests in it. -/
  rateClk : Nat := 0
  rateCount : Nat := 0
  sub : Option Sub := none
  /-- The bytes of a change set that have arrived over the session (R553). -/
  csBuf : Bytes := []
  deriving DecidableEq, Repr

/-- Management (R538-R561). -/
structure MgmtSt where
  /-- Window state by master code. -/
  wins : SMap Win := []
  /-- RESULT of the last SPI frame and I2C transaction (R547). -/
  spiResult : Nat := 0
  i2cResult : Nat := 0
  sess : SMap Sess := []
  /-- Authentication failures: source address, clock. -/
  fails : List (Nat × Nat) := []
  /-- Ignored source addresses: address, clock at which each is unblocked. -/
  blocked : List (Nat × Nat) := []
  /-- The clock of the last GLB_LCS_CONFIRM with the right value. -/
  lcsArmed : Option Nat := none
  /-- The running lifecycle transition: OP, 0 none. -/
  lcsOp : Nat := 0
  /-- Its phase: 1 export waits, 2 record being made durable. -/
  lcsPhase : Nat := 0
  /-- The clock at which the export became ready, or the record was written. -/
  lcsClk : Nat := 0
  /-- The running key-slot command: OP, 0 none. -/
  ksOp : Nat := 0
  ksSlot : Nat := 0
  ksHash : Bytes := []
  /-- The LSEQ of the running transition's CONFIG record (R560). -/
  lcsLseq : Nat := 0
  /-- The provisioning buffer: 256 entries of 64 bytes (R561, R563). -/
  prov : SMap Bytes := []
  /-- Page words by address offset from 0x4000_0000, current and next snapshot (R556, R557). -/
  page : SMap Nat := []
  pageNext : SMap Nat := []
  /-- Live page counts by service × 16 + word, and their values at the last capture (R556). -/
  svcCount : SMap Nat := []
  svcPrev : SMap Nat := []
  /-- The high word each LO read latched, by the LO register's address (R173 and its like). -/
  hiLatch : SMap Nat := []
  deriving DecidableEq, Repr

/-! Counters and monitors (R567-R583). -/

/-- A programmable counter (R569-R573). -/
structure Cnt where
  /-- DATA0-DATA4. -/
  cfg : List Nat := []
  value : Nat := 0
  prev : Nat := 0
  restarted : Bool := false
  wrappedIn : Bool := false
  deriving DecidableEq, Repr

/-- A monitor channel (R575-R578). -/
structure Mon where
  /-- DATA0-DATA3. -/
  cfg : List Nat := []
  min : Nat := 0xFFFFFFFF
  max : Nat := 0
  count : Nat := 0
  sum : Nat := 0
  under : Nat := 0
  bins : SMap Nat := []
  alert : Bool := false
  deriving DecidableEq, Repr

/-- What the 1 ms telemetry measures (R37): the board and the die give it. -/
structure Telemetry where
  /-- VIN and VAUX in mV, the current from VIN in 10 mA, and the input power in 0.1 W. -/
  vin : Nat := 0
  vaux : Nat := 0
  iin : Nat := 0
  power : Nat := 0
  /-- Each rail instance's voltage in mV and current in 0.1 A. -/
  rails : List (Nat × Nat) := []
  /-- The current of each phase in 0.1 A. -/
  phases : List Nat := []
  /-- Junction sensors and bays in units of 0.25 °C. -/
  temps : List Int := []
  bays : List Int := []
  /-- The SNR of each lane in units of 0.25 dB. -/
  snr : List Nat := []
  deriving DecidableEq, Repr

/-- Counters, monitors and their snapshots. -/
structure MonSt where
  /-- Counters by unit × 16 + index. -/
  cnt : SMap Cnt := []
  chan : SMap Mon := []
  /-- ALERT has been raised in the running Thyme second (R578). -/
  alerted : Bool := false
  /-- The current snapshot bank: counters as DATA0-DATA4 words, and monitors. -/
  snapCnt : SMap (List Nat) := []
  snapMon : SMap Mon := []
  /-- The bank being filled. -/
  nextCnt : SMap (List Nat) := []
  nextMon : SMap Mon := []
  nextSec : Nat := 0
  nextNet : Nat := 0
  nextClk : Nat := 0
  deriving DecidableEq, Repr

/-! Frames and the client front ends (R22-R28, R47-R87). -/

/-- A client frame on its way through the module, in either direction (R22, R28, R31). -/
structure Frame where
  /-- The frame from its destination address to the last byte before the FCS. -/
  data : Bytes := []
  /-- Client port of arrival, or line port in the decrypt direction. -/
  port : Nat := 0
  /-- Arrival: the clock, and network time (R23, R369). -/
  arr : Nat := 0
  arrNet : Nat := 0
  /-- The tag of the rule version it was classified under (R69). -/
  tag : Nat := 0
  svc : Nat := 0
  cls : Nat := 0
  yellow : Bool := false
  /-- The slice that carries this copy. -/
  slice : Nat := 0
  /-- The slices of the copies still to be made at the crossbar (R59, R296). -/
  slices : List Nat := []
  /-- A frame of a protected service, and the slice of its working copy (R298). -/
  prot : Bool := false
  work : Nat := 0
  /-- The merge sequence number (R296). -/
  msn : Nat := 0
  /-- The deadline (R234) on the clock in units of 2^-16 ns, none for the Express transmit bound, which the line port
  fixes (R235). -/
  deadline : Option Nat := none
  /-- A PTP event message corrected on this path, with its correctionField's byte offset (R250). -/
  ptp : Option Nat := none
  /-- Transmit entry, line port and queue chosen at the steer stage (R88). -/
  txEntry : Nat := 0
  lport : Nat := 0
  queue : Nat := 0
  /-- Receive entry (bits 12:0 of the KSI) and line port, in the decrypt direction. -/
  rxEntry : Nat := 0
  /-- Bay cells that hold it (bay, cell). -/
  cells : List (Nat × Nat) := []
  /-- Client ports still to receive it, in the decrypt direction. -/
  outPort : Nat := 0
  /-- The path of a copy of a protected frame (R298). -/
  path : Bool := false
  /-- The receive-side bound in ns: sent in the shim (R145), or received (R237). -/
  bound : Nat := 0
  /-- Verify-hold units it occupies (R159). -/
  units : Nat := 0
  /-- The aligned-merge hold H in ns (R248), and its release instant (R309). -/
  holdNs : Nat := 0
  release : Nat := 0
  /-- The seal stage has counted its wait for masks (R166). -/
  waited : Bool := false
  /-- Its encryption-aware length, taken when it becomes the head of its queue (R214); 0 before. -/
  elen : Nat := 0
  /-- A module control record: `data` is its text P, in F-mode after the two addresses (R430). -/
  ctl : Bool := false
  deriving DecidableEq, Repr

/-- A frame in the exception buffer (R64, R67). -/
structure ExcRec where
  reason : Nat := 0
  fe : Nat := 0
  port : Nat := 0
  arrNet : Nat := 0
  svc : Nat := 0
  tag : Nat := 0
  data : Bytes := []
  /-- The receive entry of a control record, as slice × 8,192 + entry. -/
  entry : Nat := 0
  deriving DecidableEq, Repr

/-- A two-rate meter (R202). -/
structure MeterSt where
  /-- Tokens tc and tp in units of 2^-16 byte, and the raw time of the last update (R202). -/
  tc : Nat := 0
  tp : Nat := 0
  last : Nat := 0
  deriving DecidableEq, Repr

/-- The client front ends and the exception path (R64-R83), the meters (R200-R207) and the banks of the
bound tables (R239). -/
structure FeSt where
  /-- The running pass: 0 none, 1 OPEN, 2 CLOSE. -/
  pass : Nat := 0
  /-- Commit instant of the current version, network time and clock (R74, R77). -/
  commitNet : Nat := 0
  commitClk : Nat := 0
  /-- Bucket levels of R65, R66 in units of 10^-11 frame and byte: frames general and reserved,
  bytes general and reserved; and the clock at which they were reckoned. -/
  frGen : Nat := 3200000000000
  frRes : Nat := 3200000000000
  byGen : Nat := 13107200000000000
  byRes : Nat := 13107200000000000
  bktClk : Nat := 0
  /-- The exception buffer, oldest first. -/
  buf : List ExcRec := []
  /-- Entries with an uncorrectable error awaiting repair: front end, TBL_SEL, index (R81). -/
  bad : List (Nat × Nat × Nat) := []
  /-- Frames waiting in each front end's hold, oldest first (R244). -/
  hold : SMap (List Frame) := []
  /-- Copies carried over the crossbar and waiting at each slice's steer stage, oldest first. -/
  steer : SMap (List Frame) := []
  meter : SMap MeterSt := []
  /-- Meters with an uncorrectable error (R207). -/
  meterBad : List Nat := []
  /-- The active bank of the bound tables, the clock of the last BOUND_SWITCH, and whether the copy of
  R239 has yet to begin or runs. -/
  bank : Nat := 0
  switchClk : Nat := 0
  copyWait : Bool := false
  copyBusy : Bool := false
  deriving DecidableEq, Repr

/-! Security associations (R87-R128). -/

/-- A key position of a transmit entry (R103, R126). -/
structure TxPos where
  /-- 0 EMPTY, 1 LOADED, 2 ACTIVE, 3 EXHAUSTED, 4 DRAINING, 5 FAULTED. -/
  st : Nat := 0
  suite : Nat := 0
  ssciSrc : Bool := false
  an : Nat := 0
  group : Nat := 0
  lport : Nat := 0
  peerKsi : Nat := 0
  sci : Nat := 0
  ssci : Nat := 0
  pn : Nat := 0
  frames : Nat := 0
  blocks : Nat := 0
  /-- Limits in units of 65,536. -/
  frmLim : Nat := 0
  blkLim : Nat := 0
  starve : Nat := 0
  pnStart : Nat := 0
  key : Bytes := []
  salt : Bytes := []
  /-- The pre-trigger has been recorded (R100). -/
  pretrig : Bool := false
  /-- Frames whose sealing has begun under it and whose tag is not complete. -/
  busy : Nat := 0
  deriving DecidableEq, Repr

/-- A receive entry (R104, R108, R126). -/
structure RxEnt where
  /-- 0 EMPTY, 1 LOADED, 2 OPEN, 3 CLOSING, 5 FAULTED. -/
  st : Nat := 0
  suite : Nat := 0
  emode : Bool := false
  mode : Nat := 0
  an : Nat := 0
  group : Nat := 0
  window : Nat := 0
  sci : Nat := 0
  ssci : Nat := 0
  highest : Nat := 0
  ok : Nat := 0
  replayDisc : Nat := 0
  /-- OPEN_AT, or CLOSE_AT when CLOSING, network time. -/
  at_ : Nat := 0
  /-- Bit k: PN HIGHEST - k has been accepted (mode 2). -/
  map : Nat := 0
  key : Bytes := []
  salt : Bytes := []
  /-- Records of the entry whose opening has begun. -/
  busy : Nat := 0
  deriving DecidableEq, Repr

/-- An SA command with the parameters taken at acceptance (R115). -/
structure SatCmd where
  op : Nat := 0
  dir : Nat := 0
  entry : Nat := 0
  ticket : Nat := 0
  /-- SAT_STAGE_ATTR, SAT_STAGE_LINK, the SCI, SSCI and initial PN, the limits. -/
  attr : Nat := 0
  link : Nat := 0
  sci : Nat := 0
  ssci : Nat := 0
  pn : Nat := 0
  frm : Nat := 0
  blk : Nat := 0
  words : List Nat := []
  deriving DecidableEq, Repr

/-- The SA tables of a slice, outside its registers. -/
structure SatSl where
  cmd : Option SatCmd := none
  /-- The last ticket given, and the last command that ended DONE. -/
  ticket : Nat := 0
  done : Option Nat := none
  /-- Key and salt words staged, first first. -/
  words : List Nat := []
  /-- The key-storage mask that Mint supplied (R118). -/
  mask : Bytes := []
  /-- SAT_TRIGGER_FIFO, oldest first. -/
  fifo : List Nat := []
  deriving DecidableEq, Repr

/-- The SA tables: positions by slice × 2^14 + position × 2^13 + entry, receive entries by KSI. -/
structure SatSt where
  tx : SMap TxPos := []
  rx : SMap RxEnt := []
  sl : SMap SatSl := []
  deriving DecidableEq, Repr

/-! The cipher transform (R129-R174). -/

/-- A frame that a slice seals for a line port (R132, R155). -/
structure Seal where
  f : Frame := {}
  entry : Nat := 0
  pos : Nat := 0
  pn : Nat := 0
  emode : Bool := true
  /-- PEER_KSI and AN of the position. -/
  ksi : Nat := 0
  an : Nat := 0
  /-- A in F-mode: the addresses and the SecTAG. -/
  head : Bytes := []
  ct : Bytes := []
  tag : Bytes := []
  /-- The next segment number, and the text bytes in the segments already closed. -/
  seg : Nat := 0
  off : Nat := 0
  /-- The place of its present segment among the items of the port's back end. -/
  id : Nat := 0
  /-- Express frames sealed for the port since it began (R154). -/
  passes : Nat := 0
  deriving DecidableEq, Repr

/-- The sealing context of a slice for a line port (R132). -/
structure SealCtx where
  cur : Option Seal := none
  park : Option Seal := none
  /-- Frames whose last block has entered and whose tag is not complete, in sealing order. -/
  tail : List Seal := []
  /-- Frames dequeued and not yet begun, oldest first. -/
  ready : List Frame := []
  deriving DecidableEq, Repr

/-- A record or secured frame being received by a slice (R158, R159). -/
structure OpenRec where
  ksi : Nat := 0
  /-- The receive entry, after redirection (R317). -/
  entry : Nat := 0
  an : Nat := 0
  textlen : Nat := 0
  pn : Nat := 0
  /-- The last segment's number. -/
  seg : Nat := 0
  ct : Bytes := []
  tag : Bytes := []
  aad : Bytes := []
  /-- The stamp: the clock, and network time. -/
  clk : Nat := 0
  net : Nat := 0
  port : Nat := 0
  units : Nat := 0
  emode : Bool := true
  /-- The shim is expected (R135). -/
  shim : Bool := true
  abort : Bool := false
  /-- Refused for want of verify-hold units (R159). -/
  refused : Bool := false
  /-- A decrypt-side fault struck it (R170). -/
  fault : Bool := false
  /-- The key and the IV it is opened with, taken at its first segment (R136-R139). -/
  key : Bytes := []
  iv : Nat := 0
  /-- In F-mode: the two addresses of the secured frame. -/
  addrs : Bytes := []
  deriving DecidableEq, Repr

/-- A mask generator (R165). -/
structure MaskGen where
  seed : Bytes := []
  drawn : Nat := 0
  seeded : Bool := false
  pending : Bool := false
  stopped : Bool := false
  /-- The clock of the request. -/
  askClk : Nat := 0
  deriving DecidableEq, Repr

/-- A known-answer test that runs (R171). -/
structure KatRun where
  dir : Nat := 0
  pipe : Nat := 0
  all : Bool := false
  /-- Started by the fault handling, not through CIP_KAT_CTRL. -/
  auto : Bool := false
  deriving DecidableEq, Repr

/-- The cipher transform of all slices. -/
structure CipSt where
  /-- Sealing contexts by slice × 32 + line port. -/
  ctx : SMap SealCtx := []
  /-- Receive park registers by slice × 32 + line port. -/
  park : SMap (Option OpenRec) := []
  /-- Records complete and awaiting their tag check, by slice, oldest first. -/
  opened : SMap (List OpenRec) := []
  /-- Released frames in verify-hold, by slice, oldest first. -/
  vhold : SMap (List Frame) := []
  /-- Mask generators by the numbers of R469: slice × 16 + generator, then envelope engines and bays. -/
  gen : SMap MaskGen := []
  /-- Clocks of the transient faults of a slice within the last second. -/
  trans : SMap (List Nat) := []
  /-- Known-answer tests that run, by slice + 8 × direction. -/
  kat : SMap (Option KatRun) := []
  deriving DecidableEq, Repr

/-! Learning (R175-R199). -/

/-- A learning entry (R197). -/
structure LrnEnt where
  valid : Bool := false
  static : Bool := false
  hit : Bool := false
  frozen : Bool := false
  /-- Sweeper visits since it froze. -/
  visits : Nat := 0
  mpi : Nat := 0
  mac : Nat := 0
  moves : Nat := 0
  peer : Nat := 0
  tx : Nat := 0
  deriving DecidableEq, Repr

/-- A request in a learn queue (R190). -/
structure LrnReq where
  entry : Nat := 0
  mpi : Nat := 0
  mac : Nat := 0
  peer : Nat := 0
  tx : Nat := 0
  deriving DecidableEq, Repr

/-- Learning of all slices. -/
structure LrnSt where
  /-- By slice × 2^15 + bucket × 4 + way. -/
  tab : SMap LrnEnt := []
  queue : SMap (List LrnReq) := []
  /-- The next bucket of a running flush, and the LRN_FLUSH word that started it. -/
  flushAt : SMap Nat := []
  flushSel : SMap Nat := []
  /-- The clock at which each slice's sweeper began its pass. -/
  sweepClk : SMap (Option Nat) := []
  deriving DecidableEq, Repr

/-! Queues and scheduling (R208-R233). -/

/-- The scheduling state of a node in one plane of one port (R219, R221). -/
structure NodeSt where
  /-- Virtual time as a parent; start tag, lead and parent's time at idling as a child. -/
  v : Nat := 0
  s : Nat := 0
  lead : Nat := 0
  vIdle : Nat := 0
  /-- Deficit as a child; active list and current child as a parent. -/
  d : Nat := 0
  list : List Nat := []
  cur : Option Nat := none
  deriving DecidableEq, Repr

/-- A token bucket: what is missing from full in units of 1/8,000,000 byte, and the clock of the last
reckoning. -/
structure Bkt where
  debt : Nat := 0
  clk : Nat := 0
  deriving DecidableEq, Repr

/-- An item of a line port's back end (R157, R264): a record segment or a secured frame. -/
structure Item where
  bytes : Bytes := []
  /-- Its number among the port's items, and whether its bytes are complete. -/
  id : Nat := 0
  ready : Bool := true
  /-- The launch time of a timed record, a clock instant (R265), and the slice that sealed it. -/
  launch : Option Nat := none
  slice : Nat := 0
  deriving DecidableEq, Repr

/-- A frame of a line port's control queue (R216): the finished F-mode frame, or a control record to seal. -/
structure CtlFrame where
  /-- Slice and transmit entry of a control record; none for an EAPOL frame sent in the clear. -/
  sa : Option (Nat × Nat) := none
  data : Bytes := []
  deriving DecidableEq, Repr

/-- Queues, schedulers and the client egress. -/
structure SchSt where
  /-- Queues by slice × 2^13 + queue, oldest frame first. -/
  q : SMap (List Frame) := []
  /-- Largest delay since the last read, by queue (R227). -/
  maxDelay : SMap Nat := []
  /-- Port clocks of line ports and client ports in units of 2^-16 ns (R215, R226). -/
  dp : SMap Nat := []
  cp : SMap Nat := []
  /-- Node state by port, plane, level, slice and index. -/
  node : SMap NodeSt := []
  /-- Shapers of service nodes (level 2) and subscriber nodes (level 1) by level × 2^17 + slice × 2^14 + index;
  plane caps by 2^20 + port × 4 + plane; control queues by 2^21 + port. -/
  bkt : SMap Bkt := []
  /-- Control queues by line port. -/
  ctl : SMap (List CtlFrame) := []
  /-- A flush: slice, queue, frames discarded so far (R212). -/
  flush : Option (Nat × Nat × Nat) := none
  /-- Client egress queues by client port × 4 + class. -/
  egr : SMap (List Frame) := []
  /-- The deficits of the Standard and Bulk queues of a client port. -/
  egrNode : SMap NodeSt := []
  /-- Entries of the tables of R229 and R255 with an uncorrectable error: TBL_SEL, index. -/
  bad : List (Nat × Nat) := []
  deriving DecidableEq, Repr

/-! Bay memory (R322-R342). -/

/-- A cell of a bay (R327, R332). -/
structure CellSt where
  ctr : Nat := 0
  /-- Its last write used key slot 0: its EPOCH_MAP bit is 0 (R333; lines start with slot 1, R339). -/
  slot0 : Bool := false
  poison : Bool := false
  /-- It belongs to a stored frame. -/
  live : Bool := false
  /-- Its counter is exhausted (R332). -/
  withdrawn : Bool := false
  /-- The epoch of its withdrawal. -/
  wdEpoch : Nat := 0
  /-- LINK, the stored bytes and the cell tag (R327, R330, R331). -/
  link : Nat := 0
  stored : Bytes := []
  tag : Bytes := []
  deriving DecidableEq, Repr

/-- A group of 64 cells (R325, R326). -/
structure GrpSt where
  /-- 0 free, 1 open, 2 closed, 3 quarantined. -/
  st : Nat := 0
  /-- Cells taken since it opened. -/
  taken : Nat := 0
  live : Nat := 0
  closeClk : Nat := 0
  /-- The counter line is cached, and dirty since. -/
  cached : Bool := false
  dirty : Bool := false
  dirtyClk : Nat := 0
  /-- The epoch in which it was quarantined. -/
  qEpoch : Nat := 0
  deriving DecidableEq, Repr

/-- The bays. -/
structure BaySt where
  /-- Cells by bay × 2^26 + cell. -/
  cell : SMap CellSt := []
  /-- Groups by bay × 2^20 + group. -/
  grp : SMap GrpSt := []
  /-- Open groups by bay × 1024 + slice × 32 + line port, or bay × 1024 + 1023 for holds: group + 1. -/
  opens : SMap Nat := []
  /-- Epoch keys by bay × 2 + slot. -/
  key : SMap Bytes := []
  /-- A key from Mint that awaits its epoch. -/
  newKey : SMap Bytes := []
  /-- The clock at which the current epoch began, and the command that asked for the next. -/
  epochClk : SMap Nat := []
  cmd : SMap Bool := []
  /-- The clock of the first quarantine of the current epoch. -/
  quarClk : SMap (Option Nat) := []
  /-- The clock at which each bay's patrol began its pass (R338). -/
  patrolClk : SMap (Option Nat) := []
  /-- Errors corrected since the last telemetry sample, by bay (R576, source 0x0F). -/
  corr : SMap Nat := []
  deriving DecidableEq, Repr

/-! Line framing (R256-R295). -/

/-- An envelope key position (R269). -/
structure EnvPos where
  /-- 0 EMPTY, 1 LOADED, 2 ACTIVE, 3 EXHAUSTED. -/
  st : Nat := 0
  /-- It becomes ACTIVE at the next multiframe boundary. -/
  due : Bool := false
  key : Bytes := []
  salt : Bytes := []
  group : Nat := 0
  limit : Nat := 0
  frames : Nat := 0
  pretrig : Bool := false
  /-- The highest EFN accepted (receive). -/
  highest : Nat := 0
  deriving DecidableEq, Repr

/-- An envelope key command (R273). -/
structure EnvCmd where
  op : Nat := 0
  dir : Nat := 0
  pos : Nat := 0
  group : Nat := 0
  ticket : Nat := 0
  deriving DecidableEq, Repr

/-- Payload bytes of a received envelope frame that items have not yet been read from (R261, R277). -/
structure RxChunk where
  bytes : Bytes := []
  /-- The first payload block still in `bytes`, and the frame's first-item pointer. -/
  off : Nat := 0
  fip : Nat := 0
  /-- The frame's start in units of 0.04 ns, and its TLD. -/
  start : Nat := 0
  tld : Nat := 0
  /-- Delineation is lost here, with a format error or without (R263, R277). -/
  brk : Bool := false
  err : Bool := false
  deriving DecidableEq, Repr

/-- The envelope of a line port (R258-R286). -/
structure EnvPort where
  /-- The next EFN to send, the frame's start in units of 0.04 ns. -/
  efn : Nat := 0x100
  start : Nat := 0
  /-- The payload area of the frame being assembled, from its first byte, and its first-item pointer. -/
  pay : Bytes := []
  fip : Option Nat := none
  tld : Nat := 0
  /-- SBIP, STAG and PBIP of the previous frame. -/
  sbip : Nat := 0
  stag : Bytes := []
  pbip : Nat := 0
  /-- The frame concerned carries a zero STAG next (R268). -/
  zeroTag : Bool := false
  /-- Section and path errors to report in the next frame (R282). -/
  sErr : Nat := 0
  pErr : Nat := 0
  /-- Candidates of the alignment machine: block number, FIDX (R275). -/
  cand : List (Nat × Nat) := []
  /-- The number of the next block examined outside SYNC. -/
  blk : Nat := 0
  /-- Consecutive bad positions in SYNC. -/
  badPos : Nat := 0
  /-- The previous received frame: accepted, EFN, its tag, SBIP and PBIP as computed, uncorrectable codeword in it. -/
  rxPrev : Bool := false
  rxEfn : Nat := 0
  rxTag : Bytes := []
  rxSbip : Option Nat := none
  rxPbip : Nat := 0
  rxBad : Bool := false
  /-- A receive engine fault strikes the frame now arriving, at this block (R268). -/
  rxFault : Option Nat := none
  /-- Delineation is known, and the stream of payload bytes not yet delineated. -/
  delin : Bool := false
  strm : List RxChunk := []
  /-- F-mode: frames received and held back for masks, with their stamps. -/
  pend : List (Bytes × Nat) := []
  /-- The first segment or frame has been held back for masks and counted (R166). -/
  segWait : Bool := false
  /-- The raw condition of each defect: the clock since when it has lasted (bit set) or been absent. -/
  raw : Nat := 0
  rawClk : SMap Nat := []
  /-- Consecutive failing and passing frames for dLOM, dRDI; seal failures of the last 16 checked; passes. -/
  lomFail : Nat := 0
  lomOk : Nat := 0
  lomFailClk : Nat := 0
  lomOkClk : Nat := 0
  rdiSet : Nat := 0
  rdiClr : Nat := 0
  seal16 : List Bool := []
  sealOk : Nat := 0
  /-- Seconds for dDEG, and the frames of this second with path errors. -/
  degSec : Nat := 0
  degClr : Nat := 0
  degFrames : Nat := 0
  /-- This second: an error or defect was seen (ES), a severe defect (SES), frame periods and bad ones. -/
  es : Bool := false
  ses : Bool := false
  periods : Nat := 0
  badPeriods : Nat := 0
  /-- Key commands: the running one, the last ticket, the last ended DONE, the key staging. -/
  cmd : Option EnvCmd := none
  ticket : Nat := 0
  done : Option Nat := none
  words : List Nat := []
  deriving DecidableEq, Repr

/-- The line ports' envelopes and back ends. -/
structure EnvSt where
  port : SMap EnvPort := []
  /-- Key positions by port × 4 + direction × 2 + position. -/
  pos : SMap EnvPos := []
  /-- Items of each port's back end in sealing order. -/
  be : SMap (List Item) := []
  /-- Items numbered so far. -/
  ids : Nat := 0
  /-- The raw counters at the last per-second latch, by port × 32 + k (R286). -/
  latch : SMap Nat := []
  /-- Envelope engines by (n - 4) × 2 + direction: one more than the pipeline that the spare has replaced (R268). -/
  spare : SMap Nat := []
  /-- F-mode: the clock at which each port's last frame has left, in units of 2^-16 ns. -/
  busy : SMap Nat := []
  /-- Entries of receive channel tables with an uncorrectable error. -/
  bad : List (Nat × Nat) := []
  deriving DecidableEq, Repr

/-! Protected operation (R296-R321). -/

/-- A merge stream (R303-R310). -/
structure StreamSt where
  seeded : Bool := false
  highest : Nat := 0
  map : Nat := 0
  /-- Raw stamp of the last passed copy. -/
  lastPass : Nat := 0
  h0 : Nat := 0
  h1 : Nat := 0
  capped : Bool := false
  /-- This interval's samples of the delay difference, and whether targets have been set since the seed. -/
  dmin : Int := 0
  dmax : Int := 0
  n : Nat := 0
  aligned : Bool := false
  /-- The interval before: shown by MRG_SAMPLE registers. -/
  lastMin : Int := 0
  lastMax : Int := 0
  lastN : Nat := 0
  intervalClk : Nat := 0
  deriving DecidableEq, Repr

/-- A held copy (R309). -/
structure HeldCopy where
  f : Frame := {}
  stream : Nat := 0
  /-- It waits to take the place of its twin. -/
  twin : Bool := false
  deriving DecidableEq, Repr

/-- The sequence-generator and merge pairs. -/
structure MrgSt where
  stream : SMap StreamSt := []
  held : List HeldCopy := []
  /-- Clocks at which the pairs were fenced, and of their last restarts. -/
  seqClk : Nat := 0
  mergeClk : Nat := 0
  seqRestart : Option Nat := none
  mergeRestart : Option Nat := none
  /-- Pairs that refuse restarts (R301). -/
  seqLocked : Bool := false
  mergeLocked : Bool := false
  /-- The restart that runs: 1 RESTART_SEQ, 2 RESTART_MERGE. -/
  run : Nat := 0
  /-- The clock of the copy decided last, and its stream and MSN, for copies of one cycle (R304). -/
  lastClk : Nat := 0
  lastMsn : Nat := 0
  /-- Entries of the tables of R319 with an uncorrectable error: TBL_SEL, index. -/
  bad : List (Nat × Nat) := []
  deriving DecidableEq, Repr

/-! Mint (R459-R477). -/

/-- A request for random output (R469). -/
structure MintReq where
  /-- 1 mask generator, 2 key generation, 3 Sage requests. -/
  prio : Nat := 0
  /-- 0 mask generator, 1 key-storage mask of a slice, 2 bay epoch key, 3 OP KEY, 4 OP RAND. -/
  kind : Nat := 0
  /-- Generator, slice or bay. -/
  idx : Nat := 0
  words : Nat := 0
  clk : Nat := 0
  deriving DecidableEq, Repr

/-- The state of a CTR_DRBG (R465). -/
structure Drbg where
  key : Bytes := []
  v : Nat := 0
  deriving DecidableEq, Repr

/-- A noise source (R459-R464). -/
structure NoiseSrc where
  /-- 0 STARTUP, 1 RUN, 2 RESTART, 3 DEAD. -/
  st : Nat := 0
  /-- The clocks of the consecutive failures, newest first. -/
  fails : List Nat := []
  /-- The last sample's value and the length of its run. -/
  last : Bool := false
  run : Nat := 0
  /-- Words of the injection FIFO. -/
  fifo : List Nat := []
  /-- Health-test failures in the running Thyme second. -/
  sec : Nat := 0
  deriving DecidableEq, Repr

/-- Mint. -/
structure MintSt where
  src : SMap NoiseSrc := []
  /-- Conditioned blocks, oldest first, with their sources. -/
  pool : List (Nat × Bytes) := []
  drbg : Option Drbg := none
  /-- The DRBG awaits an instantiation with PERS replaced by zero (R474). -/
  zeroPers : Bool := false
  /-- Every generator is being reseeded before READY is reported again (R474). -/
  settling : Bool := false
  reqs : List MintReq := []
  /-- Requests served, and the clock, since the last reseed. -/
  served : Nat := 0
  reseedClk : Nat := 0
  /-- A RESEED command is pending. -/
  reseedCmd : Bool := false
  /-- Since when it has been STARVED. -/
  starved : Option Nat := none
  keyOut : List Nat := []
  randOut : List Nat := []
  testOut : List Nat := []
  /-- The source chosen by the first write of a pair to MNT_TEST_DATA. -/
  testSrc : Option Nat := none
  katWords : List Nat := []
  kat : Option Drbg := none
  /-- Captured samples not yet read. -/
  cap : Option Nat := none
  capOvf : Bool := false
  /-- Tamper has erased it (R472). -/
  erased : Bool := false
  deriving DecidableEq, Repr

/-! Lanes and ports (R343-R365). -/

/-- Lanes and ports, outside their registers. -/
structure PortSt where
  /-- The LANE_TX_EQ word in effect, by lane, one more than it (R348); unlisted: the reset word. -/
  eq : SMap Nat := []
  /-- The clock of each lane's CDR_LOCK or last restart of adaptation (R356). -/
  lockClk : SMap Nat := []
  /-- Ports in a run of windows above DEGRADE_SYMBOLS: client port, 32 + line port (R352). -/
  degr : List Nat := []
  /-- Lanes whose PRBS_ERR has been raised since CLEAR (R360). -/
  prbs : List Nat := []
  /-- Verification attempts made by a client port, and the clock of the last (R355). -/
  tries : SMap Nat := []
  triesClk : SMap Nat := []
  /-- The raw counters at the last latch: side × 512 + port × 16 + k (R363). -/
  latch : SMap Nat := []
  deriving DecidableEq, Repr

/-! Fleet keying (R426-R458). -/

/-- Where a fleet message waits for the core: among the messages reassembled from the management port, or in the
exception buffer. -/
inductive FleetAt
  | inbox (index : Nat)
  | buffer (index : Nat)
  deriving DecidableEq, Repr

/-- A fleet message (R430). -/
structure FleetMsg where
  hdr : Bytes := []
  body : Bytes := []
  inBand : Bool := false
  /-- The receive entry of a control record, as slice × 8,192 + entry. -/
  entry : Nat := 0
  /-- The keys that opened it: 0 none, 1 the association's, 2 the former keys, 3 those of the running handshake. -/
  keyed : Nat := 0
  deriving DecidableEq, Repr

/-- The fragments received of a message (R432). -/
structure FragSet where
  src : Nat := 0
  msgId : Nat := 0
  kind : Nat := 0
  total : Nat := 0
  hdr : Bytes := []
  seq : Nat := 0
  parts : SMap Bytes := []
  clk : Nat := 0
  deriving DecidableEq, Repr

/-- What the active core holds of a peer, beside its row of the peer status table (R434-R437, R446-R454). -/
structure Peer where
  /-- Handshake: 0 none, 1 HELLO_INIT sent, 2 HELLO_RESP sent, 3 HELLO_CONFIRM sent. -/
  hs : Nat := 0
  /-- When it was sent or failed, and the retry interval in seconds. -/
  hsClk : Nat := 0
  retry : Nat := 0
  h1 : Bytes := []
  th : Bytes := []
  ecPriv : Bytes := []
  kemPriv : Bytes := []
  /-- The 160 bytes of R436 while the handshake runs. -/
  newKeys : Bytes := []
  /-- This module was the initiator. -/
  initiator : Bool := false
  /-- The 128 bytes of the association's keys; the former ones and when they were replaced. -/
  keys : Bytes := []
  old : Bytes := []
  oldClk : Nat := 0
  /-- Control sequence numbers: the last sent; the highest accepted and those accepted below it. -/
  cseqTx : Nat := 0
  cseqHigh : Nat := 0
  cseqMap : Nat := 0
  /-- Datagram sequence numbers, likewise; and those of the former keys. -/
  seqTx : Nat := 0
  seqHigh : Nat := 0
  seqMap : Nat := 0
  oldHigh : Nat := 0
  oldMap : Nat := 0
  upClk : Nat := 0
  lastClk : Nat := 0
  /-- When a NUDGE of it was last answered. -/
  nudgeClk : Option Nat := none
  /-- Services gated with it, and when; services whose digests it was asked for, and when. -/
  gated : SMap Nat := []
  asked : List Nat := []
  askClk : Nat := 0
  /-- Since when its SCHED_DIGEST differs, and since when it has been KS_CAPABLE. -/
  schedClk : Option Nat := none
  capClk : Option Nat := none
  /-- The change set it last showed as STAGED: version and instant. -/
  staged : Nat × Nat := (0, 0)
  deriving DecidableEq, Repr

/-- A key offer that this module has sent (R438). -/
structure Offer where
  member : Nat := 0
  id : Nat := 0
  role : Nat := 0
  svc : Nat := 0
  /-- The sender's slice, its line port for an envelope key, or the half of a group key. -/
  place : Nat := 0
  entry : Nat := 0
  an : Nat := 0
  timed : Bool := false
  at_ : Nat := 0
  body : Bytes := []
  /-- Key and salt as staging words. -/
  words : List Nat := []
  /-- Times sent, and when last. -/
  sends : Nat := 0
  clk : Nat := 0
  /-- The switch group, and the ticket of the KEY_SWITCH entry. -/
  group : Nat := 0
  lport : Nat := 0
  ticket : Option Nat := none
  /-- The offer has been accepted and its change waits for T. -/
  acked : Bool := false
  deriving DecidableEq, Repr

/-- A flood entry of a multipoint service, with the member its line port reaches (R183). -/
structure FloodPut where
  slice : Nat := 0
  entry : Nat := 0
  group : Nat := 0
  lport : Nat := 0
  neighbour : Nat := 0
  an : Nat := 0
  deriving DecidableEq, Repr

/-- A receive entry for a replica of a group key: the member that seals under it and its slice (R94, R445). -/
structure ReplicaPut where
  slice : Nat := 0
  entry : Nat := 0
  member : Nat := 0
  sender : Nat := 0
  sci : Nat := 0
  ssci : Nat := 0
  old : Option Nat := none
  deriving DecidableEq, Repr

/-- Where the receiver of an offer places its key: its own configuration of the service decides (R438, R445). -/
structure Placement where
  /-- Slice, or line port for an envelope key. -/
  slice : Nat := 0
  entry : Nat := 0
  group : Nat := 0
  emode : Bool := true
  /-- An F-mode channel's line port and entry of the receive channel table. -/
  lport : Nat := 0
  chan : Nat := 0
  /-- REPLAY_MODE and REPLAY_WINDOW. -/
  mode : Nat := 2
  window : Nat := 0
  /-- The receive entry that carries the channel's former key. -/
  old : Option Nat := none
  /-- A group key's flood entries and receive entries. -/
  floods : List FloodPut := []
  replicas : List ReplicaPut := []
  deriving DecidableEq, Repr

/-- A key offer that this module has accepted (R440-R445). -/
structure RxOffer where
  member : Nat := 0
  id : Nat := 0
  role : Nat := 0
  svc : Nat := 0
  place : Nat := 0
  txEntry : Nat := 0
  timed : Bool := false
  at_ : Nat := 0
  lead : Nat := 0
  lag : Nat := 0
  put : Placement := {}
  clk : Nat := 0
  /-- Tickets of the Thyme entries written for it. -/
  tickets : List Nat := []
  /-- Half of a local group switch has been made (R445). -/
  half : Bool := false
  deriving DecidableEq, Repr

/-- A channel this module transmits on, as its firmware knows it. -/
structure Chan where
  member : Nat := 0
  role : Nat := 0
  svc : Nat := 0
  slice : Nat := 0
  entry : Nat := 0
  lport : Nat := 0
  group : Nat := 0
  deriving DecidableEq, Repr

/-- The image's MKA configuration of an F-mode port (R290). -/
structure MkaCfg where
  port : Nat := 0
  cak : Bytes := []
  ckn : Bytes := []
  prio : Nat := 0
  window : Nat := 0
  /-- The SAK change interval in seconds, 0 for none. -/
  interval : Nat := 0
  slice : Nat := 0
  txEntry : Nat := 0
  rxEntry0 : Nat := 0
  rxEntry1 : Nat := 0
  xpn : Bool := false
  /-- The entry of the receive channel table of the port's front end. -/
  chan : Nat := 0
  deriving DecidableEq, Repr

/-- What an MKPDU says (IEEE 802.1X-2020, R290). -/
structure MkPdu where
  /-- Its sender: member identifier, message number, key-server priority. -/
  mi : Bytes := []
  mn : Nat := 0
  prio : Nat := 0
  sci : Nat := 0
  /-- It lists this module's member identifier as live. -/
  live : Bool := false
  /-- Message number under which it lists this module. -/
  ownMn : Nat := 0
  /-- A SAK it distributes, unwrapped: key and salt words, AN, SSCI of its sender and of the receiver. -/
  sak : Option (List Nat × Nat × Nat × Nat) := none
  /-- The AN of the SAK it reports in use for receive. -/
  rxAn : Option Nat := none
  deriving DecidableEq, Repr

/-- MKA on an F-mode port. -/
structure MkaPort where
  cfg : MkaCfg := {}
  /-- The live peer: identifier, message number, SCI, priority and the clock of its last MKPDU. -/
  peer : Option Bytes := none
  peerMn : Nat := 0
  peerSci : Nat := 0
  peerPrio : Nat := 0
  peerClk : Nat := 0
  mn : Nat := 0
  helloClk : Nat := 0
  /-- The SAK last distributed or received: words, AN; installed for transmit and switched. -/
  sak : Option (List Nat × Nat) := none
  switched : Bool := false
  sakClk : Nat := 0
  /-- The receive entry that the SAK before it uses, until it is retired. -/
  old : Option Nat := none
  deriving DecidableEq, Repr

/-- Fleet keying, outside its tables. -/
structure FleetSt where
  /-- DOMAIN and member index of the booted image (R426). -/
  domain : Nat := 0
  member : Nat := 0
  /-- Fleet keying has started (R426). -/
  on : Bool := false
  peers : SMap Peer := []
  frags : List FragSet := []
  inbox : List FleetMsg := []
  /-- MSG_ID of the last datagram, OFFER_ID of the last offer. -/
  msgId : Nat := 0
  offerId : Nat := 0
  offers : List Offer := []
  taken : List RxOffer := []
  chans : List Chan := []
  /-- The recognised key server (R446): member, term, priority, the clock to which its lease runs. -/
  ks : Option (Nat × Nat × Nat × Nat) := none
  ksSince : Nat := 0
  term : Nat := 0
  claim : Bool := false
  /-- Multipoint services that the key server is to rekey. -/
  rekey : List Nat := []
  /-- This module's CFG_DIGEST, and the last configuration it committed: version and instant. -/
  digest : Bytes := []
  commit : Nat × Nat := (0, 0)
  /-- Registers and table entries that configuration records have written (R449). -/
  cfgRegs : List Nat := []
  cfgEnts : List (Nat × Nat) := []
  mka : SMap MkaPort := []
  /-- The service behind each receive entry, by KSI, plus one (R556). -/
  rxSvc : SMap Nat := []
  deriving DecidableEq, Repr

/-! The control cores, flash and change sets (R392-R425). -/

/-- A change set in the core's hands (R416-R419). -/
structure CsSt where
  bytes : Bytes := []
  /-- It changed a table or register: kind, target, index and the words before, newest first. -/
  shadow : List (Nat × Nat × Nat × List Nat) := []
  /-- Tickets of its Thyme entries. -/
  tickets : List Nat := []
  /-- It opened its rule version. -/
  opened : Bool := false
  /-- Its journal record has been appended. -/
  filed : Bool := false
  /-- CS_CUTOFF has been ordered. -/
  cut : Bool := false
  ver : Nat := 0
  at_ : Nat := 0
  deriving DecidableEq, Repr

/-- The cores, the lease and what state memory holds. -/
structure SageSt where
  /-- The last accepted renewal (R393). -/
  renewClk : Nat := 0
  /-- Sage A (0) and B (1): the last SAGE_ALIVE written since the core's reset, the last kick of its watchdog. -/
  alive : SMap (Option Nat) := []
  kick : SMap Nat := []
  /-- A core that lost the lease is held out until it writes SAGE_ALIVE again (R394). -/
  out : SMap Bool := []
  /-- A core that was reset while it held the lease: it returns as standby, and renews no more before a grant (R398, R421). -/
  lapsed : SMap Bool := []
  /-- Since when Sage A has been eligible (R397). -/
  eligClk : Option Nat := none
  /-- Since when nobody has held the lease; an expiry, not a handover, began the gap. -/
  noneClk : Nat := 0
  expired : Bool := false
  /-- The core that the next grant is for: the target of a handover, or the core that was eligible at an expiry. -/
  next : Option Nat := none
  /-- Deferred writes (R395): I2C or SPI, address, word. -/
  defer : List (Bool × Nat × Nat) := []
  /-- The mailbox (R416). -/
  mbox : List Nat := []
  csTicket : Nat := 0
  cs : CsSt := {}
  /-- The deferred-lock list: register address, mask; and the bits of it that have locked since (R412). -/
  deferLock : List (Nat × Nat) := []
  lockedBits : SMap Nat := []
  /-- Firmware memory and the sections kept in state memory (R392, R410). -/
  firmware : Bytes := []
  fleetSec : Bytes := []
  secrets : Bytes := []
  /-- State memory and private memory have been erased (R392). -/
  erased : Bool := false
  /-- The configuration of the booted image has been applied. -/
  booted : Bool := false
  deriving DecidableEq, Repr

/-- Flash (R401-R402, R407, R418): it survives every reset. -/
structure FlashSt where
  /-- The devices on CS0 and CS1 as NVL_ID codes them: 1 for 1 Gbit, 2 for 2 Gbit. -/
  size0 : Nat := 1
  size1 : Nat := 1
  /-- Commit records of CS0 and CS1, oldest first, 256 bytes each. -/
  recs : SMap (List Bytes) := []
  /-- Image slots A (0) and B (1), as programmed. -/
  slot : SMap Bytes := []
  /-- Journals of the slots: each record with its change set. -/
  jrnl : SMap (List Bytes) := []
  /-- Erases of each Rosemary sector, by chip select × 4,096 + sector; all sectors of the other regions together. -/
  wear : SMap Nat := []
  /-- The update engine: its owner (master and principal code), last ticket, bytes of the page being filled. -/
  owner : Option Nat := none
  ticket : Nat := 0
  page : Bytes := []
  /-- Commit records that the update has written, by chip select. -/
  wrote : List Nat := []
  /-- The SVN being programmed (R415). -/
  svnNew : Option Nat := none
  deriving DecidableEq, Repr

end Sys2Proof.Machine
end

