-- ==== Sys2Proof/Syntax.lean ====
section
/-! DEFINITION. The commands of the module: one constructor for each row of the command table, with the
operands the row's rule gives it.  The rule is named in each docstring. -/

namespace Sys2Proof

open Sys2Proof.Machine (Master FleetAt Placement Chan Telemetry)

/-- A command: an access, a pin or frame event, a protocol message, or the moment at which an engine of the
module acts. -/
inductive Instr
  /-- CLIENT_FRAME_ARRIVAL: A client frame taken whole from the client MAC is checked, parsed, stamped, classified, policed and given its slices at the client front end (R22) -/
  | clientFrameArrival (port : Nat) (frame : Bytes) (at_ : Nat) (ecc : Option (Nat × Nat × Bool))
  /-- CROSSBAR_TRANSFER: A frame waiting in the front-end hold is carried over the client crossbar once a credit is held (R244) -/
  | crossbarTransfer (fe : Nat) (express : Bool) (disagree : Nat) (ecc : Option Bool)
  /-- STEER: The steer stage takes a frame on credit, chooses its transmit entry, line port and queue, and admits it (R88) -/
  | steer (slice : Nat) (express : Bool) (ecc : Option (Nat × Nat × Bool))
  /-- LINE_DEQUEUE: At a dequeue opportunity the line scheduler chooses a frame for the port and charges it (R217) -/
  | lineDequeue (port : Nat) (entered : Nat) (err : Option (Nat × Nat))
  /-- SEAL_START: A dequeued frame begins sealing when its sealing context is free and masks suffice, fixing key and PN (R24) -/
  | sealStart (slice : Nat) (port : Nat)
  /-- SEAL_RESUME: A parked frame resumes sealing after the Express frame that preempted it has entered (R156) -/
  | sealResume (slice : Nat) (port : Nat)
  /-- SEAL_TAG_COMPLETE: A frame's tag completes after its last block leaves the pipeline (R130) -/
  | sealTagComplete (slice : Nat) (port : Nat) (bayErr : Option (Nat × Nat))
  /-- ITEM_EMIT: The line back end starts emitting a record segment or F-mode frame once its predecessor has left (R264) -/
  | itemEmit (port : Nat)
  /-- TIMED_LAUNCH: A held timed PTP record is launched at its launch time t_L (R265) -/
  | timedLaunch (port : Nat)
  /-- ENVELOPE_FRAME_TX: An envelope frame of 2,048 blocks is assembled, filled, sealed and sent each frame period (R266) -/
  | envelopeFrameTx (port : Nat)
  /-- ENVELOPE_FRAME_RX: A received envelope frame is aligned, checked for sequence and key, accepted or refused (R276) -/
  | envelopeFrameRx (port : Nat) (bytes : Bytes) (at_ : Nat) (bad : Bool)
  /-- SEGMENT_DISPATCH: A delineated segment header is checked, stamped and dispatched to the slice its KSI names (R279) -/
  | segmentDispatch (port : Nat)
  /-- FMODE_FRAME_RX: A frame received on an F-mode line port is classified as EAPOL, secured frame or other and handled (R288) -/
  | fmodeFrameRx (port : Nat) (frame : Bytes) (at_ : Nat)
  /-- TAG_CHECK_DONE: A decrypted record's tag comparison ends and the remaining checks decide release or discard (R160) -/
  | tagCheckDone (slice : Nat) (holdErr : Bool) (lrnErr : Bool)
  /-- SEGMENT_TIMEOUT: A parked received record whose continuation has not completed within CIP_SEG_TIMEOUT is discarded (R158) -/
  | segmentTimeout (slice : Nat) (port : Nat)
  /-- VERIFY_HOLD_RELEASE: A verified frame leaves verify-hold on credit towards the merge pair or client egress (R161) -/
  | verifyHoldRelease (slice : Nat) (disagree : Nat) (ecc : Option (Nat × Nat × Bool))
  /-- HOLD_RELEASE: A held aligned-merge copy reaches its release instant and goes to the client egress buffer (R309) -/
  | holdRelease (err : Option (Nat × Nat))
  /-- HOLD_INTERVAL_END: At the end of each 2^20 ns interval a stream updates its hold targets from DMIN and DMAX (R310) -/
  | holdIntervalEnd (stream : Nat)
  /-- CLIENT_EGRESS_DEQUEUE: The client egress scheduler chooses a frame for a client port and sends it to the MAC (R225) -/
  | clientEgressDequeue (port : Nat) (preempts : Bool)
  /-- LEARN_REQUEST: The learning unit serves one queued insert or move request (R190) -/
  | learnRequest (slice : Nat)
  /-- CONTROL_QUEUE_SEND: A control record or MKA EAPOL frame from the Sage core is queued on a line port's control queue (R216) -/
  | controlQueueSend (port : Nat) (sa : Option (Nat × Nat)) (data : Bytes)
  /-- TIME_MESSAGE_SEND: A Delay_Req from the time-message slot is sent at the next frame boundary and stamped (R378) -/
  | timeMessageSend (port : Nat) (tag : Nat) (frame : Bytes)
  /-- PATROL_SCRUB: The bay patrol reads cells and metadata and checks their ECC within its share (R338) -/
  | patrolScrub (bay : Nat) (part : Nat) (index : Nat) (err : Nat)
  /-- COUNTER_LINE_LOAD: A counter line is loaded into the counter cache and checked (R334) -/
  | counterLineLoad (bay : Nat) (line : Nat) (err : Nat)
  /-- COUNTER_LINE_WRITEBACK: A dirty counter line is written back within 100 µs, at group close or on eviction (R334) -/
  | counterLineWriteback (bay : Nat) (line : Nat) (evict : Bool)
  /-- ORPHAN_RECLAIM: A closed group still live 300 ms after closing has its remaining cells freed (R326) -/
  | orphanReclaim (bay : Nat) (group : Nat)
  /-- SA_TABLE_SCRUB: The SA-table scrub reads an entry, corrects it or faults it (R122) -/
  | saTableScrub (slice : Nat) (dir : Nat) (entry : Nat) (pos : Nat) (err : Nat)
  /-- SWEEPER_VISIT: The learning sweeper visits a bucket, clearing HIT or aging out entries (R193) -/
  | sweeperVisit (slice : Nat) (bucket : Nat) (err : Option Nat)
  /-- LANE_ADAPTATION_UPDATE: A lane's equalizer is updated every 16 µs and pending LANE_TX_EQ writes take effect (R348) -/
  | laneAdaptationUpdate (lane : Nat) (snr : Nat) (errors : Nat)
  /-- REGULATOR_CALIBRATION: Every 100 ms the phases of each rail instance are balanced and failing phases shed (R527) -/
  | regulatorCalibration (failed : List Nat) (spreads : List Nat)
  /-- TELEMETRY_SAMPLE: Every 1 ms temperature, voltage, depth and other periodic values are sampled (R37) -/
  | telemetrySample (t : Telemetry)
  /-- ROSEMARY_COMPACTION: When the active log segment passes 75% full the oldest general-ring segment is compacted (R497) -/
  | rosemaryCompaction
  /-- OPEN: FE_VER_CMD OPEN stages a new rule version as a copy of the current one (R72) -/
  | openVersion (version : Nat)
  /-- CLOSE: FE_VER_CMD CLOSE freezes the staged version and starts validation and digest (R73) -/
  | closeVersion
  /-- DISCARD: FE_VER_CMD DISCARD drops the staged version and frees its tag (R78) -/
  | discardVersion
  /-- COMMIT_NOW: FE_VER_CMD COMMIT_NOW makes a closed staged version current at once (R79) -/
  | commitNow
  /-- OPEN_PASS_DONE: The OPEN pass over every table completes (R72) -/
  | openPassDone
  /-- CLOSE_PASS_DONE: The CLOSE validation and digest pass completes and closes or leaves open the version (R73) -/
  | closePassDone
  /-- VERSION_RETIRE: The draining version retires when DRAIN_COUNT reaches zero or at T + 40 µs (R77) -/
  | versionRetire
  /-- FE_RESYNC: FE_RESYNC START copies every entry from a named running client front end (R80) -/
  | feResync (fe : Nat) (source : Nat)
  /-- RESYNC_DONE: The FE_RESYNC copy completes and the front end is IN_SYNC again (R80) -/
  | resyncDone (fe : Nat)
  /-- EXACT_MATCH_INSERT: A window WRITE to the exact-match table inserts or replaces a key in the staged version (R71) -/
  | exactMatchInsert (words : List Nat) (master : Master)
  /-- EXACT_MATCH_DELETE: A window WRITE with index bit 31 clears the staged bit of an exact-match key (R84) -/
  | exactMatchDelete (words : List Nat) (master : Master)
  /-- TERNARY_WRITE: A window WRITE of a ternary rule part, the part-2 write setting the staged bit (R71) -/
  | ternaryWrite (rule : Nat) (part : Nat) (words : List Nat) (master : Master)
  /-- TERNARY_DELETE: A part-2 WRITE with index bit 31 clears the staged bit of a ternary rule (R71) -/
  | ternaryDelete (rule : Nat) (master : Master)
  /-- TBL_READ: TBL_CMD READ copies a table entry into the master's DATA registers (R542) -/
  | tblRead (sel : Nat) (index : Nat) (master : Master)
  /-- TBL_WRITE: TBL_CMD WRITE copies the DATA registers into a table entry under that table's rules (R542) -/
  | tblWrite (sel : Nat) (index : Nat) (words : List Nat) (master : Master)
  /-- INSTALL_TX: SA command INSTALL_TX installs a staged key into a transmit key position (R115) -/
  | installTx (slice : Nat) (entry : Nat) (master : Master)
  /-- INSTALL_RX: SA command INSTALL_RX installs a staged key into a receive entry (R115) -/
  | installRx (slice : Nat) (entry : Nat) (master : Master)
  /-- SWITCH_NOW_TX: SA command SWITCH_NOW_TX makes a LOADED transmit position ACTIVE at once (R115) -/
  | switchNowTx (slice : Nat) (entry : Nat) (master : Master)
  /-- OPEN_NOW_RX: SA command OPEN_NOW_RX opens a LOADED receive entry (R115) -/
  | openNowRx (slice : Nat) (entry : Nat) (master : Master)
  /-- RETIRE_RX: SA command RETIRE_RX makes an OPEN receive entry CLOSING (R115) -/
  | retireRx (slice : Nat) (entry : Nat) (master : Master)
  /-- SET_LIMITS: SA command SET_LIMITS sets new usage limits on the ACTIVE or EXHAUSTED position (R117) -/
  | setLimits (slice : Nat) (entry : Nat) (master : Master)
  /-- ZEROIZE: SA command ZEROIZE stops and then erases one transmit or receive entry (R118) -/
  | zeroize (slice : Nat) (dir : Nat) (entry : Nat) (master : Master)
  /-- ZEROIZE_ALL: SA command ZEROIZE_ALL stops and erases every entry of the slice (R118) -/
  | zeroizeAll (slice : Nat) (master : Master)
  /-- SAT_CMD_ABORT: A write to SAT_CMD_ABORT requests the abort of an SA command by ticket (R119) -/
  | satCmdAbort (slice : Nat) (ticket : Nat) (master : Master)
  /-- SA_CMD_COMPLETE: An accepted SA command reaches its completion cycle and changes the tables (R118) -/
  | saCmdComplete (slice : Nat)
  /-- SAT_KEY_STAGE: A write to SAT_KEY_STAGE fills the next key or salt word (R127) -/
  | satKeyStage (slice : Nat) (word : Nat) (master : Master)
  /-- RX_CLOSING_END: A CLOSING receive entry becomes EMPTY once no record stamped before CLOSE_AT remains (R104) -/
  | rxClosingEnd (slice : Nat) (entry : Nat)
  /-- SAT_TRIGGER_FIFO_READ: A read of SAT_TRIGGER_FIFO returns and removes the oldest trigger record (R123) -/
  | satTriggerFifoRead (slice : Nat)
  /-- DIAG_OPEN: Writing SAT_DIAG_CTRL.OPEN = 1 opens a slice's diagnostic test window (R124) -/
  | diagOpen (slice : Nat) (master : Master)
  /-- DIAG_CLOSE: Writing SAT_DIAG_CTRL.OPEN = 0 closes the window and clears the test buffer (R125) -/
  | diagClose (slice : Nat) (master : Master)
  /-- DIAG_GO: SAT_DIAG_CTRL.GO runs one GCM operation on the test buffer (R125) -/
  | diagGo (slice : Nat) (op : Nat) (pipe : Nat)
  /-- PIPELINE_FAULT: A parity, GHASH residue or stuck-mask check detects a pipeline fault and starts its handling (R171) -/
  | pipelineFault (slice : Nat) (dir : Nat) (pipe : Nat) (kind : Nat)
  /-- PIPE_KAT_DONE: The known-answer test after a pipeline fault ends as transient or failed (R171) -/
  | pipeKatDone (slice : Nat) (dir : Nat) (pass : Bool)
  /-- KAT_GO: CIP_KAT_CTRL.GO starts the built-in known-answer test on a fenced slice (R171) -/
  | katGo (slice : Nat) (dir : Nat) (pipe : Nat) (all : Bool)
  /-- KAT_DONE: A software-started known-answer test ends and sets DONE and PASS (R171) -/
  | katDone (slice : Nat) (pass : Bool)
  /-- MASK_RESEED_REQUEST: A mask generator reaches 2^20 blocks under its seed and asks Mint for a reseed (R165) -/
  | maskReseedRequest (gen : Nat)
  /-- MASK_GENERATOR_STOP: A mask generator reaches 2^24 blocks and stops until reseeded (R165) -/
  | maskGeneratorStop (gen : Nat)
  /-- LRN_FLUSH: LRN_FLUSH START deletes every learning entry matching the selector in one pass (R194) -/
  | lrnFlush (slice : Nat) (value : Nat)
  /-- FLUSH_DONE: A learning flush pass completes and raises FLUSH_DONE (R194) -/
  | flushDone (slice : Nat)
  /-- FILL: POL_CMD FILL sets both buckets of a meter full (R205) -/
  | fill (meter : Nat)
  /-- FLUSH_QUEUE: SCH_CMD FLUSH_QUEUE discards every frame in one queue (R212) -/
  | flushQueue (slice : Nat) (queue : Nat)
  /-- FLUSH_QUEUE_DONE: A queue flush completes (R212) -/
  | flushQueueDone
  /-- BOUND_SWITCH: A Thyme BOUND_SWITCH entry makes the inactive bound bank active (R239) -/
  | boundSwitch (entry : Nat)
  /-- BOUND_BANK_COPY: At T + 2 µs the new active bound bank is copied into the other bank (R239) -/
  | boundBankCopy
  /-- ENV_INSTALL_TX: ENV_KEY_CMD INSTALL_TX installs an envelope transmit key (R273) -/
  | envInstallTx (port : Nat) (pos : Nat) (group : Nat) (master : Master)
  /-- ENV_INSTALL_RX: ENV_KEY_CMD INSTALL_RX installs an envelope receive key (R273) -/
  | envInstallRx (port : Nat) (pos : Nat) (master : Master)
  /-- ENV_SWITCH_NOW_TX: ENV_KEY_CMD SWITCH_NOW_TX switches to the LOADED envelope position at the next multiframe boundary (R273) -/
  | envSwitchNowTx (port : Nat) (master : Master)
  /-- ENV_ZEROIZE: ENV_KEY_CMD ZEROIZE erases one envelope key position (R273) -/
  | envZeroize (port : Nat) (dir : Nat) (pos : Nat) (master : Master)
  /-- ENV_ZEROIZE_ALL: ENV_KEY_CMD ZEROIZE_ALL erases all four envelope key positions (R273) -/
  | envZeroizeAll (port : Nat) (master : Master)
  /-- ENV_KEY_ABORT: ENV_KEY_CMD ABORT requests the abort of an envelope key command by ticket (R273) -/
  | envKeyAbort (port : Nat) (ticket : Nat) (master : Master)
  /-- ENV_KEY_STAGE: A write to ENV_KEY_STAGE fills the next envelope key or salt word (R295) -/
  | envKeyStage (port : Nat) (word : Nat) (master : Master)
  /-- MULTIFRAME_BOUNDARY: At a multiframe boundary a LOADED envelope position becomes ACTIVE and the old one EMPTY (R269) -/
  | multiframeBoundary (port : Nat)
  /-- DEFECT_TIMER: A defect's set or clear integration time elapses and the defect changes state (R283) -/
  | defectTimer (port : Nat) (defect : Nat)
  /-- ENGINE_FAULT: A fault in an envelope engine replaces the pipeline with the spare or fails the engine (R268) -/
  | engineFault (port : Nat) (dir : Nat) (pipe : Nat) (block : Nat)
  /-- RESTART_SEQ: MRG_CMD RESTART_SEQ restarts a fenced sequence-generator pair (R301) -/
  | restartSeq (master : Master)
  /-- RESTART_MERGE: MRG_CMD RESTART_MERGE restarts a fenced merge pair (R301) -/
  | restartMerge (master : Master)
  /-- RESTART_SELF_CHECK_DONE: The restart self-check ends and unfences the pair or leaves it fenced (R301) -/
  | restartSelfCheckDone (pass : Bool)
  /-- QUIET_TIME_MET: A fenced pair has been fenced for QUIET_MS, allowing or triggering its restart (R301) -/
  | quietTimeMet (pair : Nat)
  /-- SLICE_RELOCATION: After an unprotected slice fence the active Sage core moves its services to the relocation slice (R316) -/
  | sliceRelocation (slice : Nat) (target : Nat)
  /-- NEW_EPOCH: BAY_CMD NEW_EPOCH requests a new scrambler epoch (R337) -/
  | newEpoch (bay : Nat) (master : Master)
  /-- EPOCH_START: A pending epoch request is served: the new key fills the free slot (R337) -/
  | epochStart (bay : Nat)
  /-- PREV_KEY_ERASE: At T0 + 300 ms old-epoch live cells are poisoned, the old key erased and quarantines released (R337) -/
  | prevKeyErase (bay : Nat)
  /-- EPOCH_AUTO_TIMER: One second after the first quarantine of an epoch a new epoch is requested (R337) -/
  | epochAutoTimer (bay : Nat)
  /-- EPOCH_PERIOD_TIMER: EPOCH_PERIOD_H hours after an epoch began a new epoch is requested (R337) -/
  | epochPeriodTimer (bay : Nat)
  /-- BAY_TRAINING_DONE: A bay finishes training and initialisation and sets READY or FAILED (R339) -/
  | bayTrainingDone (bay : Nat) (ok : Bool) (rows : Nat)
  /-- BAY_STACK_FAULT: A bay reports a stack fault and sets FAILED (R339) -/
  | bayStackFault (bay : Nat)
  /-- PORT_FORM: A write of WIDTH and LANE_RATE forms or unforms a port (R345) -/
  | portForm (line : Bool) (port : Nat) (rate : Nat) (width : Nat)
  /-- PORT_ENABLE: Setting ENABLE on a formed port starts its bring-up (R356) -/
  | portEnable (line : Bool) (port : Nat)
  /-- PORT_DISABLE: Clearing ENABLE ends transmission, discards received and queued frames and erases envelope keys (R358) -/
  | portDisable (line : Bool) (port : Nat) (cut : Bool)
  /-- LANE_PLL_LOCK: A lane group's PLL locks and the transmit PCS starts (R356) -/
  | lanePllLock (group : Nat)
  /-- CDR_LOCK: A receiver's clock and data recovery locks once signal is present (R356) -/
  | cdrLock (lane : Nat)
  /-- ADAPT_DONE: A lane's initial equalizer adaptation completes (R356) -/
  | adaptDone (lane : Nat)
  /-- ADAPT_RESTART: A lane not adapted 50 ms after CDR_LOCK restarts from defaults (R356) -/
  | adaptRestart (lane : Nat)
  /-- LINK_UP: The port's PCS reaches FEC, marker lock and deskew, and the link is up (R356) -/
  | linkUp (line : Bool) (port : Nat) (skew : Nat) (freq : Nat)
  /-- LINK_DOWN: An aligned port loses its link and returns to step 3 of bring-up (R357) -/
  | linkDown (line : Bool) (port : Nat) (cut : Bool)
  /-- FEC_WINDOW_END: A window of 8,192 codewords ends and HI_SER and FEC_DEGRADE are evaluated (R352) -/
  | fecWindowEnd (line : Bool) (port : Nat) (corrected : Nat) (uncorrectable : Nat) (symbols : Nat) (errors : Nat) (blocks : Nat) (cut : Bool)
  /-- REFCLK_LOSS: A lane PLL loses lock or its reference and its group's lanes reset and squelch (R350) -/
  | refclkLoss (group : Nat) (cut : Bool)
  /-- LOS: A lane loses its received signal (R364) -/
  | los (lane : Nat)
  /-- PREEMPT_VERIFY_ATTEMPT: An 802.3br verification attempt is made every VERIFY_MS, succeeding or failing (R355) -/
  | preemptVerifyAttempt (port : Nat) (ok : Bool)
  /-- PRBS_CLEAR: LANE_PRBS_CTRL.CLEAR clears the error count and rearms PRBS_ERR (R360) -/
  | prbsClear (lane : Nat)
  /-- STEP: TIM_ADJ_CMD STEP steps network time, firing stepped Thyme entries (R370) -/
  | step (load : Bool) (master : Master)
  /-- RATE: TIM_ADJ_CMD RATE rebases and loads a new rate adjustment (R370) -/
  | rate (master : Master)
  /-- STEP_AND_RATE: TIM_ADJ_CMD STEP_AND_RATE steps network time and loads a new rate (R370) -/
  | stepAndRate (load : Bool) (master : Master)
  /-- THYME_SECOND: Network time reaches TIM_SEC_NEXT: TIM_SEC rises and every per-second latch is taken (R371) -/
  | thymeSecond
  /-- RAW_NS_WRAP: The raw nanosecond counter wraps, the wrap count rises and the time unit rebases (R368) -/
  | rawNsWrap
  /-- PPS_IN_EDGE: An active edge on PPS_IN is accepted and stamped or ignored as a glitch (R374) -/
  | ppsInEdge (at_ : Nat)
  /-- PPS_IN_LOSS: No PPS_IN edge has been accepted for 1.5 s (R374) -/
  | ppsInLoss
  /-- TOD_IN_MESSAGE: A 20-byte TOD_IN message is received, checked and paired with a PPS_IN edge (R375) -/
  | todInMessage (msg : Bytes) (start : Nat) (at_ : Nat)
  /-- TIMECLK_GATE: Every 8,388,608th TIMECLK_IN edge ends a frequency measurement (R376) -/
  | timeclkGate (at_ : Nat)
  /-- CLK_LOSS: No TIMECLK_IN edge for 1 µs clears TIMECLK_PRESENT (R376) -/
  | clkLoss
  /-- THY_WRITE: THY_CMD WRITE places a pending entry in the Thyme schedule or refuses it (R380) -/
  | thyWrite (master : Master)
  /-- THY_ABORT: THY_CMD ABORT requests the abort of a pending entry by ticket (R383) -/
  | thyAbort (ticket : Nat) (master : Master)
  /-- THY_RELEASE: THY_CMD RELEASE frees an ended entry at once (R383) -/
  | thyRelease (entry : Nat) (master : Master)
  /-- ENTRY_HOLD_EXPIRY: An ended Thyme entry becomes FREE HOLD_MS after it ended (R383) -/
  | entryHoldExpiry (entry : Nat)
  /-- THY_DONE_FIFO_READ: A read of THY_DONE_FIFO removes the oldest result and latches its ticket and count (R384) -/
  | thyDoneFifoRead
  /-- RULE_COMMIT: A RULE_COMMIT entry fires and makes the closed staged version current (R75) -/
  | ruleCommit (entry : Nat)
  /-- KEY_ACCEPT: A KEY_ACCEPT entry fires and opens every LOADED receive entry of its group (R111) -/
  | keyAccept (entry : Nat)
  /-- KEY_SWITCH: A KEY_SWITCH entry fires and switches every LOADED transmit position of its group (R111) -/
  | keySwitch (entry : Nat)
  /-- KEY_RETIRE: A KEY_RETIRE entry fires and makes every OPEN receive entry of its group CLOSING (R111) -/
  | keyRetire (entry : Nat)
  /-- PULSE_ONE: A PULSE_ONE entry fires and gives one pulse on its pin (R385) -/
  | pulseOne (entry : Nat)
  /-- PULSE_START: A PULSE_START entry fires and starts a periodic pulse train (R385) -/
  | pulseStart (entry : Nat)
  /-- PULSE_STOP: A PULSE_STOP entry fires and stops the train after its current pulse (R385) -/
  | pulseStop (entry : Nat)
  /-- EVENT: An EVENT entry fires, placing its ARG in THY_USER_ARG and raising USER (R379) -/
  | event (entry : Nat)
  /-- PULSE_EDGE: A running pulse train reaches its next leading edge (R385) -/
  | pulseEdge (pin : Nat)
  /-- PULSE_END: A pulse on a PPS_OUT pin ends after its width (R385) -/
  | pulseEnd (pin : Nat)
  /-- PPS_OUT_CTRL_WRITE: A write to TIM_PPS_OUT_CTRL changes the pin's mode, stopping a train if MODE changes (R385) -/
  | ppsOutCtrlWrite (pin : Nat) (value : Nat)
  /-- SNAPSHOT_CAPTURE: A read of TIM_SNAP_RAW_NS captures every time snapshot register in one cycle (R390) -/
  | snapshotCapture
  /-- TXS_FIFO_READ: A read of TIM_TXS_INFO removes the oldest transmit stamp and latches its ns (R390) -/
  | txsFifoRead
  /-- PPS_IN_STATUS_READ: A read of TIM_PPS_IN_STATUS clears VALID and freezes the stamp registers (R390) -/
  | ppsInStatusRead
  /-- TOD_STATUS_READ: A read of TIM_TOD_STATUS clears VALID and freezes the message registers (R390) -/
  | todStatusRead
  /-- SAGE_RENEW: A write to SAGE_RENEW by the holder renews the lease (R393) -/
  | sageRenew (value : Nat) (master : Master)
  /-- SAGE_ALIVE: A write to SAGE_ALIVE records the writing core as alive and healthy or not (R393) -/
  | sageAlive (value : Nat) (master : Master)
  /-- ALIVE_TIMEOUT: A core that has not written SAGE_ALIVE for 4 ms ceases to be eligible (R393) -/
  | aliveTimeout (core : Nat)
  /-- LEASE_EXPIRY: The lease expires LEASE_MS after the last accepted renewal (R394) -/
  | leaseExpiry
  /-- LEASE_GRANT: The lease is granted to an eligible core and the takeover gap ends (R394) -/
  | leaseGrant
  /-- SAGE_HANDOVER: A write to SAGE_HANDOVER passes the lease to the eligible other core (R397) -/
  | sageHandover (value : Nat) (master : Master)
  /-- REVERT_HOLDOFF_MET: Sage A has been eligible for HOLDOFF_S while Sage B holds the lease, so a revert is pending (R397) -/
  | revertHoldoffMet
  /-- SAGE_WDT_KICK: A write to SAGE_WDT_KICK restarts the writing core's watchdog (R398) -/
  | sageWdtKick (value : Nat) (master : Master)
  /-- CORE_WATCHDOG_EXPIRY: A core watchdog expires and resets that core alone (R398) -/
  | coreWatchdogExpiry (core : Nat)
  /-- GLOBAL_WATCHDOG_EXPIRY: Nobody has held the lease for GLOBAL_S and a system reset follows (R398) -/
  | globalWatchdogExpiry
  /-- IMAGE_COMMIT: SAGE_CTRL.IMAGE_COMMIT locks RWL fields and leaves the restricted state (R412) -/
  | imageCommit (master : Master)
  /-- BOOT_CONFIGURATION: After core release the firmware applies the image, scans and replays the journal and commits the rule version (R410) -/
  | bootConfiguration
  /-- UPD_START: NVL_UPD_CMD START withdraws the target slot's commit records and erases the slot (R413) -/
  | updStart (master : Master)
  /-- UPD_ERASE_DONE: Erasure of the target slot and journal completes and the engine is RECEIVING (R413) -/
  | updEraseDone (fail : Option Nat)
  /-- UPD_DATA: A write to NVL_UPD_DATA fills the next page of the image and programs full pages (R413) -/
  | updData (word : Nat) (fail : Bool) (master : Master)
  /-- UPD_FINISH: NVL_UPD_CMD FINISH starts verification of the target slot (R413) -/
  | updFinish (master : Master)
  /-- UPD_VERIFY_DONE: Verification of the updated slot ends VERIFIED or ABORTED (R413) -/
  | updVerifyDone (readErr : Bool)
  /-- UPD_COMMIT: NVL_UPD_CMD COMMIT writes commit records for the target slot on both chip selects (R413) -/
  | updCommit (master : Master)
  /-- UPD_COMPLETE: Both commit records read back valid and the update is DONE (R414) -/
  | updComplete (fail : Option (Nat × Nat))
  /-- UPD_ABORT: NVL_UPD_CMD ABORT requests the abort of an update by ticket (R414) -/
  | updAbort (ticket : Nat) (master : Master)
  /-- SVN_ADVANCE: NVL_SVN_CMD ADVANCE programs a higher fused SVN (R415) -/
  | svnAdvance (value : Nat) (master : Master)
  /-- SVN_DONE: Programming and verification of the SVN fuses complete (R415) -/
  | svnDone
  /-- CS_LOAD: SAGE_CS_CMD LOAD takes the change set in the mailbox into VERIFYING (R416) -/
  | csLoad (master : Master)
  /-- SAGE_MBOX_CLEAR: SAGE_MBOX_CTRL.CLEAR empties the change-set mailbox (R416) -/
  | sageMboxClear (master : Master)
  /-- SAGE_MBOX_DATA: A write to SAGE_MBOX_DATA appends the next word of a change set (R416) -/
  | sageMboxData (word : Nat) (master : Master)
  /-- CS_VERIFY_DONE: Verification of a change set ends, refusing it or moving it to STAGING (R417) -/
  | csVerifyDone
  /-- CS_STAGING_DONE: Staging of a change set ends with its journal record, version and Thyme entries written (R417) -/
  | csStagingDone (fail : Option Nat)
  /-- CS_CUTOFF: Network time reaches T - 1 ms and the change-set cut-off is ordered (R417) -/
  | csCutoff
  /-- CS_ABORT: SAGE_CS_CMD ABORT requests the abort of a change set by ticket (R419) -/
  | csAbort (ticket : Nat) (master : Master)
  /-- CS_POST_AND_MARK: After the change set's entries fire the core applies POST records and programs the journal MARK (R417) -/
  | csPostAndMark
  /-- OOB_DATAGRAM_RX: An out-of-band fleet datagram is received, reassembled and unsealed (R432) -/
  | oobDatagramRx (datagram : Bytes)
  /-- FRAGMENT_TIMEOUT: A message whose fragments are not all received within 1 s is discarded (R432) -/
  | fragmentTimeout
  /-- HELLO_INIT: A HELLO_INIT is checked and answered with HELLO_RESP (R435) -/
  | helloInit (at_ : FleetAt)
  /-- HELLO_RESP: A HELLO_RESP is checked, keys are derived and HELLO_CONFIRM sent (R435) -/
  | helloResp (at_ : FleetAt)
  /-- HELLO_CONFIRM: A HELLO_CONFIRM tag is verified and the responder holds the association up (R436) -/
  | helloConfirm (at_ : FleetAt)
  /-- NUDGE: A NUDGE from a valid member makes the module send HELLO_INIT (R434) -/
  | nudge (at_ : FleetAt)
  /-- NUDGE_TIMER: Once per second a module nudges each lower-indexed member it is not associated with (R434) -/
  | nudgeTimer
  /-- HELLO_WAIT_TIMEOUT: The initiator's wait for HELLO_RESP or its retry interval expires (R437) -/
  | helloWaitTimeout (member : Nat)
  /-- ASSOC_RENEWAL: At 90% of ASSOC_LIFE_H the initiator runs a new handshake (R437) -/
  | assocRenewal (member : Nat)
  /-- OLD_KEYS_EXPIRY: Old association keys are erased 60 s after the new association is up (R437) -/
  | oldKeysExpiry (member : Nat)
  /-- HEARTBEAT: A received HEARTBEAT sets the peer's consensus state and key-server view (R453) -/
  | heartbeat (at_ : FleetAt)
  /-- HEARTBEAT_SEND: Once per Thyme second at its index offset a module sends each associated peer a heartbeat (R448) -/
  | heartbeatSend
  /-- PEER_LOST: No message from a peer for PEER_LOST_S ends the association and flushes its learning entries (R448) -/
  | peerLost (member : Nat)
  /-- DIGEST_REQ: A DIGEST_REQ is answered with the service digests asked for (R454) -/
  | digestReq (at_ : FleetAt)
  /-- DIGEST_RESP: A DIGEST_RESP is compared and services whose digests differ are gated or ungated (R454) -/
  | digestResp (at_ : FleetAt)
  /-- DIGEST_RESP_TIMEOUT: A service with no digest answer within 2 s is gated (R454) -/
  | digestRespTimeout (member : Nat)
  /-- GATE_GRACE_EXPIRY: After GATE_GRACE_S a STOP-gated service's transmit entries towards the peer are zeroized (R454) -/
  | gateGraceExpiry (member : Nat) (service : Nat)
  /-- KEY_OFFER: A KEY_OFFER is unwrapped and its receive entry or envelope position installed, then answered (R438) -/
  | keyOffer (at_ : FleetAt) (put : Placement)
  /-- KEY_ACK: A KEY_ACK makes the transmitter install its key and schedule the switch, or fail the offer (R440) -/
  | keyAck (at_ : FleetAt)
  /-- KEY_CANCEL: A KEY_CANCEL makes the receiver abort the offer's entries and zeroize the new entry (R443) -/
  | keyCancel (at_ : FleetAt)
  /-- KSI_NOTICE: A KSI_NOTICE sets the PEER_KSI of the flood entries towards the neighbour (R445) -/
  | ksiNotice (at_ : FleetAt)
  /-- REKEY_REQ: A REKEY_REQ makes the key server rekey the group key of the service (R445) -/
  | rekeyReq (at_ : FleetAt)
  /-- KS_HANDOVER: A KS_HANDOVER passes the key-server role to the successor with the new term (R446) -/
  | ksHandover (at_ : FleetAt)
  /-- OFFER_RESEND: An unanswered key offer is re-sent every 2 s, up to five times (R438) -/
  | offerResend (index : Nat)
  /-- KEY_CHANGE_START: On a PRETRIGGER or exhaustion the transmitting module draws a new key and offers it (R440) -/
  | keyChangeStart (ch : Chan) (an : Nat) (suite : Nat) (soon : Bool) (put : Placement)
  /-- KS_LEASE_EXPIRY: No key-server claim for KS_LEASE_S lets the top-ranked capable member claim the role (R446) -/
  | ksLeaseExpiry
  /-- KS_HOLDOFF_MET: A higher-ranked member has been capable for KS_HOLDOFF_S and the holder hands over (R446) -/
  | ksHoldoffMet (member : Nat)
  /-- MKA_MKPDU: An MKA EAPOL frame received on an F-mode port is processed by the active Sage core (R290) -/
  | mkaMkpdu (index : Nat)
  /-- MKA_HELLO_TIMER: The MKA hello time of 2 s elapses and an MKPDU is sent (R290) -/
  | mkaHelloTimer (port : Nat)
  /-- NOISE_BLOCK_COMPLETE: A block of 1,024 samples completes, is conditioned and enters the pool (R459) -/
  | noiseBlockComplete (source : Nat) (samples : Bytes)
  /-- STARTUP_TEST_DONE: A source's start-up test ends and it enters RUN (R462) -/
  | startupTestDone (source : Nat) (samples : Bytes)
  /-- SOURCE_RESTART_DONE: A source's restart test ends, returning it to RUN or counting a further failure (R463) -/
  | sourceRestartDone (source : Nat) (samples : Bytes)
  /-- DRBG_INSTANTIATE: The DRBG is instantiated from the first conditioned block and Mint becomes READY (R465) -/
  | drbgInstantiate
  /-- MINT_REQUEST_SERVE: Mint serves the next generate request by priority (R469) -/
  | mintRequestServe
  /-- MINT_RESEED: At a request boundary with a pool block, a due reseed of the DRBG is made (R466) -/
  | mintReseed
  /-- RESEED_TIMER: RESEED_MS elapse since the last reseed and a reseed becomes due (R466) -/
  | reseedTimer
  /-- MNT_CMD_KEY: MNT_CMD OP KEY asks Mint for key material into MNT_KEY_OUT (R471) -/
  | mntCmdKey (words : Nat) (master : Master)
  /-- MNT_CMD_RAND: MNT_CMD OP RAND asks Mint for random words into MNT_RAND_OUT (R471) -/
  | mntCmdRand (words : Nat) (master : Master)
  /-- MNT_CMD_RESEED: MNT_CMD OP RESEED makes a reseed pending (R466) -/
  | mntCmdReseed (master : Master)
  /-- MNT_CMD_KAT: MNT_CMD OP KAT generates 512 bits from the DRBG test instance (R474) -/
  | mntCmdKat (master : Master)
  /-- MNT_KEY_OUT_READ: A read of MNT_KEY_OUT returns and erases the next key word (R471) -/
  | mntKeyOutRead (master : Master)
  /-- MNT_RAND_OUT_READ: A read of MNT_RAND_OUT returns and erases the next random word (R471) -/
  | mntRandOutRead (master : Master)
  /-- SOURCE_RESTART: MNT_SRC_CTRL.RESTART restarts a noise source (R463) -/
  | sourceRestart (mask : Nat) (master : Master)
  /-- SOURCE_ENABLE: A write of MNT_SRC_CTRL.EN enables or disables sources, re-enabling running the start-up test (R462) -/
  | sourceEnable (enable : Nat)
  /-- TEST_CTRL_WRITE: A write to MNT_TEST_CTRL switches injection, live injection or capture on or off (R474) -/
  | testCtrlWrite (value : Nat) (master : Master)
  /-- MNT_TEST_DATA: A write to MNT_TEST_DATA selects a source or supplies an injection or KAT word (R476) -/
  | mntTestData (word : Nat) (master : Master)
  /-- MNT_TEST_OUT_READ: A read of MNT_TEST_OUT returns the next conditioned or KAT output word (R474) -/
  | mntTestOutRead (master : Master)
  /-- RAW_CAPTURE_READ: A read of MNT_RAW_CAPTURE returns and removes 16 captured samples (R474) -/
  | rawCaptureRead (master : Master)
  /-- EVENT_ORDERING: The arbiter orders the cycle's occurrences, latches them and drives IRQ_N and ALARM_N (R480) -/
  | eventOrdering
  /-- EVT_FIFO_READ: A read of EVT_FIFO_INFO removes the oldest event record and latches its sequence and time (R483) -/
  | evtFifoRead
  /-- EVT_SW_RAISE: A write to EVT_SW_RAISE by the active Sage core raises a firmware source (R479) -/
  | evtSwRaise (bit : Nat) (master : Master)
  /-- EVT_FORCE: A write to EVT_FORCE forces an occurrence of a source without response (R499) -/
  | evtForce (source : Nat) (eventBit : Nat) (master : Master)
  /-- LIGHT_DETECTOR_TRIP: A light detector of a tamper region trips and its response class is taken (R485) -/
  | lightDetectorTrip (region : Nat) (detector : Nat)
  /-- DETECTOR_DISAGREE: A region's two detector designs disagree for DISAGREE_MS and its detector fault occurs (R486) -/
  | detectorDisagree (region : Nat)
  /-- ENVIRONMENT_TRIP: An environment monitor trips on voltage, glitch, rail, clock, temperature or flash loss (R488) -/
  | environmentTrip (source : Nat)
  /-- CLASS3_HOLD: After a class 3 response the module is held in reset once records are durable or 10 ms pass (R492) -/
  | class3Hold
  /-- TAMP_UNMUTE: A write to TAMP_UNMUTE ends the mute of a scope or is refused (R491) -/
  | tampUnmute (scopes : Nat) (master : Master)
  /-- AUTO_UNMUTE: With AUTO_UNMUTE, a mute ends when no muting source has been tripped for MUTE_HOLD_MS (R491) -/
  | autoUnmute (scope : Nat)
  /-- TAMP_FUSE_CONFIRM: A write to TAMP_FUSE_CONFIRM arms a region fuse command for 1 ms (R487) -/
  | tampFuseConfirm (value : Nat) (master : Master)
  /-- TAMP_FUSE_CMD: TAMP_FUSE_CMD blows the fuses of the named tamper regions (R487) -/
  | tampFuseCmd (regions : Nat) (master : Master)
  /-- FUSE_DONE: Blowing a region fuse completes (R487) -/
  | fuseDone (ok : Bool)
  /-- STICKY_CLEAR: A W1C write to a sticky tamper flag clears it only when its Rosemary copy is durable (R493) -/
  | stickyClear (which : Nat) (mask : Nat) (master : Master)
  /-- ROSEMARY_PAGE_PROGRAM: The Rosemary writer programs a page of four records to flash when full or due (R496) -/
  | rosemaryPageProgram
  /-- POWER_ON: VAUX crosses its power-on threshold rising, or falls below it, resetting everything (R525) -/
  | powerOn (up : Bool)
  /-- BOR_VIN: VIN falls below its brown-out threshold and a system reset is asserted (R525) -/
  | borVin (below : Bool)
  /-- BOR_VAUX: VAUX falls below its brown-out threshold and a system reset is asserted (R525) -/
  | borVaux (below : Bool)
  /-- RESET_PIN: RESET_N held low for at least 1 µs causes a system reset (R505) -/
  | resetPin (ns : Nat)
  /-- SW_RESET: RST_SW_CMD with the right KEY resets the system, a domain or a core (R505) -/
  | swReset (key : Nat) (scope : Nat) (master : Master)
  /-- DEBUG_RESET: The JTAG debug-reset instruction causes a system reset where permitted (R505) -/
  | debugReset
  /-- CLOCK_FAILURE: A clock monitor finds a domain clock failed and resets that domain or the system (R510) -/
  | clockFailure (domain : Nat)
  /-- LOCKUP_CORE: A core retires no instruction for 100,000 cycles with an access outstanding and is reset (R505) -/
  | lockupCore (core : Nat) (target : Nat)
  /-- LOCKUP_FABRIC: An interconnect access outstanding for 1,000,000 cycles causes a system reset (R505) -/
  | lockupFabric (master : Nat) (target : Nat)
  /-- RAIL_FAULT: A rail instance outside ±10% for 10 µs holds its domain in reset (R528) -/
  | railFault (rail : Nat)
  /-- RAIL_RECOVERED: A faulted rail has been within ±5% for 1 ms and its domain may leave reset (R528) -/
  | railRecovered (rail : Nat)
  /-- PHASE_OCP: A phase above 150% of its share for 1 µs is shed (R527) -/
  | phaseOcp (phase : Nat)
  /-- RAIL_POWER_UP: The power manager brings up the internal rails in order (R526) -/
  | railPowerUp (us : Nat)
  /-- TRIM_LOAD: Analog trims are loaded from fuse copies while the strap is measured (R521) -/
  | trimLoad (ohms : Nat)
  /-- CLOCKS_GOOD: Every PLL reports lock and 4,096 stable cycles (R510) -/
  | clocksGood (mask : Nat)
  /-- ZEROIZATION_DONE: Zeroization of the domains being released completes and verifies (R511) -/
  | zeroizationDone (us : Nat) (fails : Nat)
  /-- DOMAIN_RELEASE: The control island, then the shell and the halves are released in order (R509) -/
  | domainRelease
  /-- SLOT_CHOICE: The flash loader reads option bytes if needed, chooses a slot and starts verification (R408) -/
  | slotChoice (size0 : Nat) (size1 : Nat) (copy0 : Bytes) (copy1 : Bytes)
  /-- IMAGE_VERIFY_DONE: Verification of a slot ends; a passing slot is loaded and the cores released, else fallback (R406) -/
  | imageVerifyDone (readErr : Bool) (usec : Nat)
  /-- DOMAIN_RESET_END: A domain whose reset causes have ended is zeroized and released (R512) -/
  | domainResetEnd (domain : Nat) (us : Nat) (fails : Nat)
  /-- SPI_READ: An SPI READ frame returns up to 16 words with a CRC (R544) -/
  | spiRead (rest : Bytes)
  /-- SPI_WRITE: A complete SPI WRITE frame with matching CRC writes its words (R545) -/
  | spiWrite (rest : Bytes)
  /-- SPI_RESET: An SPI RESET frame with the right key causes the MGMT_CMD system reset (R545) -/
  | spiReset (rest : Bytes)
  /-- SPI_STATUS: An SPI STATUS frame returns the STATUS byte (R544) -/
  | spiStatus
  /-- I2C_READ: An I²C READ transaction returns up to 16 words with a PEC (R546) -/
  | i2cRead (target : Nat) (rest : Bytes)
  /-- I2C_WRITE: An I²C WRITE transaction with matching PEC writes its words at STOP (R546) -/
  | i2cWrite (target : Nat) (rest : Bytes)
  /-- I2C_RESET: An I²C RESET with the right key causes the MGMT_CMD system reset at STOP (R546) -/
  | i2cReset (target : Nat) (rest : Bytes)
  /-- I2C_STATUS: An I²C STATUS transaction returns the STATUS byte (R546) -/
  | i2cStatus (target : Nat)
  /-- I2C_SCL_TIMEOUT: SCL held low for more than 25 ms drops the transaction (R546) -/
  | i2cSclTimeout
  /-- MGMT_ETH_FRAME: An ARP, neighbour discovery or ICMP frame on the management port is answered (R549) -/
  | mgmtEthFrame (frame : Bytes)
  /-- CLIENT_HELLO: A session CLIENT_HELLO is checked and answered with MODULE_HELLO (R552) -/
  | clientHello (source : Nat) (hdr : Bytes) (body : Bytes)
  /-- CLIENT_CONFIRM: A CLIENT_CONFIRM is verified and the session opens (R552) -/
  | clientConfirm (source : Nat) (hdr : Bytes) (body : Bytes)
  /-- SESSION_READ: Session request READ returns up to 1,024 words (R553) -/
  | sessionRead (source : Nat) (hdr : Bytes) (seq : Nat) (data : Bytes)
  /-- SESSION_WRITE: Session request WRITE writes words as principal 1 (R553) -/
  | sessionWrite (source : Nat) (hdr : Bytes) (seq : Nat) (data : Bytes)
  /-- SESSION_TABLE: Session request TABLE runs a window command (R553) -/
  | sessionTable (source : Nat) (hdr : Bytes) (seq : Nat) (data : Bytes)
  /-- SESSION_LOG: Session request LOG returns durable Rosemary records (R553) -/
  | sessionLog (source : Nat) (hdr : Bytes) (seq : Nat) (data : Bytes)
  /-- ATTEST: Session request ATTEST returns a signed attestation (R455) -/
  | attest (source : Nat) (hdr : Bytes) (seq : Nat) (data : Bytes)
  /-- SESSION_CHANGE_SET: Session request CHANGE_SET delivers a chunk of a change set (R553) -/
  | sessionChangeSet (source : Nat) (hdr : Bytes) (seq : Nat) (data : Bytes)
  /-- SESSION_IMAGE: Session request IMAGE drives the image update engine (R553) -/
  | sessionImage (source : Nat) (hdr : Bytes) (seq : Nat) (data : Bytes)
  /-- SESSION_CS_ABORT: Session request CS_ABORT aborts a change set by ticket (R553) -/
  | sessionCsAbort (source : Nat) (hdr : Bytes) (seq : Nat) (data : Bytes)
  /-- SESSION_CLOSE: Session request CLOSE ends the session and erases its keys (R553) -/
  | sessionClose (source : Nat) (hdr : Bytes) (seq : Nat) (data : Bytes)
  /-- SUBSCRIBE: Session request SUBSCRIBE sets or ends a telemetry subscription (R579) -/
  | subscribe (source : Nat) (hdr : Bytes) (seq : Nat) (data : Bytes)
  /-- SESSION_IDLE_TIMEOUT: A session without a request for 300 s ends (R554) -/
  | sessionIdleTimeout (session : Nat)
  /-- SESSION_LIFETIME_EXPIRY: A session ends 24 h after its handshake (R554) -/
  | sessionLifetimeExpiry (session : Nat)
  /-- SOURCE_BLOCK_EXPIRY: A source address blocked for repeated authentication failures is unblocked after 60 s (R552) -/
  | sourceBlockExpiry (source : Nat)
  /-- GLB_LCS_CONFIRM: A write to GLB_LCS_CONFIRM arms a lifecycle or key-slot command for 1 ms (R560) -/
  | glbLcsConfirm (value : Nat) (master : Master)
  /-- PROVISION: GLB_LCS_CMD PROVISION exports the image key and moves FACTORY to PROVISIONED (R560) -/
  | provision (master : Master)
  /-- OPERATE: GLB_LCS_CMD OPERATE moves PROVISIONED to OPERATIONAL (R560) -/
  | operate (master : Master)
  /-- FIELD_RETURN: GLB_LCS_CMD FIELD_RETURN blows the image-key fuse and enters FIELD_RETURN (R560) -/
  | fieldReturn (master : Master)
  /-- DECOMMISSION: GLB_LCS_CMD DECOMMISSION erases images and the device secret and enters DECOMMISSIONED (R560) -/
  | decommission (master : Master)
  /-- LCS_TRANSITION_COMPLETE: A lifecycle transition's record is durable and its state fuses verify, then the LIFECYCLE reset follows (R560) -/
  | lcsTransitionComplete (ok : Bool)
  /-- PROVISION_BUFFER_READ: A read of a provisioning-buffer export entry erases it, the last one continuing PROVISION (R561) -/
  | provisionBufferRead (index : Nat) (master : Master)
  /-- EXPORT_TIMEOUT: The image-key export is not read within 60 s and PROVISION is refused (R561) -/
  | exportTimeout
  /-- FUSE_OPERATOR: GLB_KEYSLOT_CMD FUSE_OPERATOR fuses an operator key hash (R559) -/
  | fuseOperator (slot : Nat) (master : Master)
  /-- REVOKE_OPERATOR: GLB_KEYSLOT_CMD REVOKE_OPERATOR revokes an operator key slot (R559) -/
  | revokeOperator (slot : Nat) (master : Master)
  /-- REVOKE_VENDOR: GLB_KEYSLOT_CMD REVOKE_VENDOR revokes a vendor key slot (R559) -/
  | revokeVendor (slot : Nat) (master : Master)
  /-- KEYSLOT_DONE: Programming and verification of a key-slot fuse complete (R559) -/
  | keyslotDone (ok : Bool)
  /-- SNAPSHOT_BANK_SWITCH: 100 µs after the Thyme second the filled snapshot bank and pages become current (R573) -/
  | snapshotBankSwitch
  /-- TELEMETRY_EXPORT: On a period second the active Sage core sends each subscription's export (R580) -/
  | telemetryExport (session : Nat) (room : Nat)
  /-- READ_CLEAR: A read of an RC field returns its value and clears it (R14) -/
  | readClear (addr : Nat) (master : Master)
  /-- W1C_WRITE: A write of 1 to a W1C bit clears it unless hardware sets it in the same cycle (R13) -/
  | w1cWrite (addr : Nat) (mask : Nat) (master : Master)
  /-- LO_LATCH_READ: A read of the low word of a 64-bit counter or value latches its high word (R173) -/
  | loLatchRead (addr : Nat) (master : Master)
  /-- REGISTER_WRITE: A write to a register without a row of its own sets its fields under its access codes (R13) -/
  | registerWrite (addr : Nat) (word : Nat) (master : Master)
  /-- NOISE_SAMPLE_TEST_FAILURE: A repetition-count or adaptive-proportion test fails on a sample of a source in RUN, discarding its block and restarting the source (R463) -/
  | noiseSampleTestFailure (source : Nat)
  /-- ALIGNMENT_SEARCH_BLOCK: In SEARCH or CONFIRM the line front end examines each received block for the alignment word and keeps, confirms or drops candidates (R275) -/
  | alignmentSearchBlock (port : Nat) (block : Bytes) (good : Bool)
  /-- CDR_UNLOCK: A lane's clock and data recovery loses lock (R364) -/
  | cdrUnlock (lane : Nat)
  /-- PRBS_LOCK_GAINED: The pattern checker sees 256 consecutive correct symbols and sets PRBS_LOCK (R360) -/
  | prbsLockGained (lane : Nat)
  /-- PRBS_LOCK_LOST: The pattern checker sees 4,096 errored symbols among 8,192, loses lock and seeks it again (R360) -/
  | prbsLockLost (lane : Nat) (errors : Nat)
  /-- MGMT_ETH_LINK_UP: The 1000BASE-X management port completes auto-negotiation and its link comes up (R549) -/
  | mgmtEthLinkUp
  /-- MGMT_ETH_LINK_DOWN: The management port's link goes down (R549) -/
  | mgmtEthLinkDown
  /-- MKA_LIFE_TIME_EXPIRY: No MKPDU from the MKA live peer for the 6 s life time, so the peer is lost (R290) -/
  | mkaLifeTimeExpiry (port : Nat)
  /-- SAK_CHANGE_INTERVAL: The image's SAK change interval elapses and the key server distributes a new SAK (R290) -/
  | sakChangeInterval (port : Nat)
  /-- TOD_IN_LOSS: No valid TOD_IN message for 3 s makes the time servo enter HOLDOVER (R373) -/
  | todInLoss
  /-- ANNOUNCE_RECEIPT_TIMEOUT: The PTP announce receipt timeout expires and the servo enters HOLDOVER (R373) -/
  | announceReceiptTimeout
  /-- PTP_SLAVE_MESSAGE: The active Sage core takes a PTP message of its slave ports from the exception buffer and updates the servo and best master clock choice (R377) -/
  | ptpSlaveMessage (index : Nat) (err : Nat)
  /-- ALARM_CONDITION_END: The condition of a tripped tamper or environment source ends and the trip clears, with temperature hysteresis (R488) -/
  | alarmConditionEnd (source : Nat) (temp : Int)
  /-- ENV_KEY_CMD_COMPLETE: An accepted envelope key command reaches its completion, ordered against any abort by the arbiter (R273) -/
  | envKeyCmdComplete (port : Nat)
  /-- BOUND_COPY_DONE: The copy of the new active bound bank into the other bank completes and writes to the inactive bank are accepted again (R239) -/
  | boundCopyDone
  /-- UNTIMED_RETIRE_TIMER: After an untimed change the receiver issues RETIRE_RX on the old entry once records under the new entry have arrived for D, or the old entry has received nothing for D (R442) -/
  | untimedRetireTimer (index : Nat)
  /-- UNUSED_NEW_ENTRY_TIMEOUT: A new receive entry OPEN with no record received under it by T + D, after a lost cancel, is zeroized (R443) -/
  | unusedNewEntryTimeout (index : Nat)
  /-- LOCAL_GROUP_SWITCH: A member that is not time-fit switches its flood entries at its local T + D/2 and retires old group entries at its local T + D (R445) -/
  | localGroupSwitch (index : Nat)
  deriving DecidableEq, Repr

end Sys2Proof
end

