-- ==== Sys2Proof/Decode.lean ====
section
/-! DEFINITION. The command that a word spells by the bits of the command table: the table gives no row any
bits, so no word spells a command (log entry 16). -/

namespace Sys2Proof

/-- The command of a word: none for every word, since no row of the table has bits. -/
def decodeTableWord (_nbits _w : Nat) : Option Instr := none

end Sys2Proof
end

