-- ==== Sys2Proof/Config.lean ====
section
/-! DEFINITION. What the spec leaves open: the free values, each an opaque constant about which no proof
can know anything, and the public-key primitives the spec names by their standards only. -/

namespace Sys2Proof

/-- A value the spec leaves open, one for each number: the model applies it to a counter of its own
(`State.free`), so that each use is a fresh value (log entry 2). -/
opaque Config.freeValue : Nat → Nat

/-- ECDSA P-384 and ML-DSA-87 verification of a message by two public keys and two signatures (R405,
R435); the standards give the functions, the spec only their names (log entry 3). -/
opaque Config.verifyHybrid (ecPub mlPub msg ecSig mlSig : Bytes) : Bool

/-- The hybrid signature of a message by the module's identity keys (R428, R435, R455): ECDSA
signature, then ML-DSA signature (log entry 3). -/
opaque Config.signHybrid (identity : Nat) (msg : Bytes) : Bytes × Bytes

/-- The identity public keys (EC, ML-DSA) derived from the device secret (R428, log entry 3). -/
opaque Config.identityPub (identity : Nat) : Bytes × Bytes

/-- A P-384 key pair from seed words: private, public (R435, log entry 3). -/
opaque Config.ecKeyPair (seed : Bytes) : Bytes × Bytes

/-- The P-384 shared secret of a private and a public key (R435, log entry 3). -/
opaque Config.ecdh (priv pub : Bytes) : Bytes

/-- Is this a valid P-384 public key or ML-KEM-1024 encapsulation key, as R435 has it checked (log
entry 3)? -/
opaque Config.keysValid (ecPub kemKey : Bytes) : Bool

/-- An ML-KEM-1024 key pair from a seed: decapsulation, encapsulation key (R435, log entry 3). -/
opaque Config.kemKeyPair (seed : Bytes) : Bytes × Bytes

/-- ML-KEM-1024 encapsulation: ciphertext and shared secret (R435, log entry 3). -/
opaque Config.kemEncaps (encKey seed : Bytes) : Bytes × Bytes

/-- ML-KEM-1024 decapsulation (R435, log entry 3). -/
opaque Config.kemDecaps (decKey ct : Bytes) : Bytes

/-- The 256-bit device secret (0) and the image key (1) that the key-derivation logic makes from it (R428); no register
reads them (log entry 3). -/
opaque Config.deviceSecret : Nat → Bytes

/-- What an MKPDU says once its ICV has been checked under a CAK and its name, none where the check fails
(IEEE 802.1X-2020, R290, log entry 3). -/
opaque Config.mkaDecode (cak ckn pdu : Bytes) : Option Machine.MkPdu

/-- The MKPDU that says something under a CAK and its name (R290, log entry 3). -/
opaque Config.mkaEncode (cak ckn : Bytes) (say : Machine.MkPdu) : Bytes

/-- The MKA configuration that an image's SECRETS and configuration carry: their layout is not in the spec
(R290, R403, log entry 3). -/
opaque Config.mkaPorts (secrets config : Bytes) : List Machine.MkaCfg

end Sys2Proof
end

