-- ==== Sys2Proof/Machine/Crypto.lean ====
section
/-! DEFINITION. The named standard functions the spec calls: the CRCs with the parameters of R60,
R73, R375 and R546, AES-256 (R129, R330, R465), GCM (R138), AES key wrap (R438, R561) and SHA-384
(R405, R428, R449, R494).  The standards' own texts are not part of the spec; the functions below are
theirs (PRESUMED, log entry 1). -/

namespace Sys2Proof.Machine

/-! CRCs, one byte at a time. -/

/-- One bit of a left-shifting CRC of `n` bits with polynomial `p`. -/
def crcStepL (n p c : Nat) : Nat :=
  if c.testBit (n - 1) then ((c <<< 1) % 2 ^ n) ^^^ p else (c <<< 1) % 2 ^ n

/-- A left-shifting (unreflected) CRC over bytes. -/
def crcL (n p init : Nat) (bs : Bytes) : Nat :=
  bs.foldl (fun c b =>
    let c := c ^^^ (b.toNat <<< (n - 8))
    crcStepL n p (crcStepL n p (crcStepL n p (crcStepL n p
      (crcStepL n p (crcStepL n p (crcStepL n p (crcStepL n p c)))))))) init

/-- One bit of a reflected CRC with reflected polynomial `p`. -/
def crcStepR (p c : Nat) : Nat := if c % 2 = 1 then (c >>> 1) ^^^ p else c >>> 1

/-- A reflected CRC over bytes, with final exclusive or `x`. -/
def crcR (p init x : Nat) (bs : Bytes) : Nat :=
  (bs.foldl (fun c b =>
    let c := c ^^^ b.toNat
    crcStepR p (crcStepR p (crcStepR p (crcStepR p
      (crcStepR p (crcStepR p (crcStepR p (crcStepR p c)))))))) init) ^^^ x

/-- CRC-32 with the parameters of R60. -/
def crc32 (bs : Bytes) : Nat := crcR 0xEDB88320 0xFFFFFFFF 0xFFFFFFFF bs

/-- CRC-64 with the parameters of R73. -/
def crc64 (bs : Bytes) : Nat := crcL 64 0x42F0E1EBA9EA3693 0 bs

/-- CRC-16 with the parameters of R375. -/
def crc16 (bs : Bytes) : Nat := crcL 16 0x1021 0xFFFF bs

/-- CRC-8 with the parameters of R546. -/
def crc8 (bs : Bytes) : Nat := crcL 8 0x07 0 bs

/-! AES-256 on 128-bit blocks held as numbers, first byte most significant. -/

/-- The substitution box, byte `x` at bits `8 x + 7` to `8 x`. -/
def aesSboxTable : Nat :=
  0x16bb54b00f2d99416842e6bf0d89a18cdf2855cee9871e9b948ed9691198f8e19e1dc186b95735610ef6034866b53e708a8bbd4b1f74dde8c6b4a61c2e2578ba08ae7a65eaf4566ca94ed58d6d37c8e779e4959162acd3c25c2406490a3a32e0db0b5ede14b8ee4688902a22dc4f816073195d643d7ea7c41744975fec130ccdd2f3ff1021dab6bcf5389d928f40a351a89f3c507f02f94585334d43fbaaefd0cf584c4a39becb6a5bb1fc20ed00d153842fe329b3d63b52a05a6e1b1a2c830975b227ebe28012079a059618c323c7041531d871f1e5a534ccf73f362693fdb7c072a49cafa2d4adf04759fa7dc982ca76abd7fe2b670130c56f6bf27b777c63

/-- The inverse substitution box, laid out likewise. -/
def aesInvSboxTable : Nat :=
  0x7d0c2155631469e126d677ba7e042b17619953833cbbebc8b0f52aae4d3be0a0ef9cc9939f7ae52d0d4ab519a97f51605fec8027591012b131c7078833a8dd1ff45acd78fec0db9a2079d2c64b3e56fc1bbe18aa0e62b76f89c5291d711af1476edf751ce837f9e28535ade72274ac9673e6b4f0cecff297eadc674f4111913a6b8a130103bdafc1020f3fca8f1e2cd00645b3b80558e4f70ad3bc8c00abd890849d8da75746155edab9edfd5048706c92b6655dcc5ca4d41698688664f6f87225d18b6d49a25b76b224d92866a12e084ec3fa420b954cee3d23c2a632947b54cbe9dec444438e3487ff2f9b8239e37cfbd7f3819ea340bf38a53630d56a0952

def aesSub (x : Nat) : Nat := (aesSboxTable >>> (8 * x)) % 256

def aesInvSub (x : Nat) : Nat := (aesInvSboxTable >>> (8 * x)) % 256

/-- Byte `i` of a 16-byte block, byte 0 first. -/
def blkByte (b i : Nat) : Nat := (b >>> (120 - 8 * i)) % 256

/-- A number from bytes, first byte most significant. -/
def ofBytesN (bs : List Nat) : Nat := bs.foldl (fun a b => a * 256 + b) 0

/-- Multiplication by x in the field of AES. -/
def aesX (a : Nat) : Nat := if a < 128 then 2 * a else (2 * a) ^^^ 0x11B

def aesMul (a c : Nat) : Nat :=
  let a1 := aesX a
  let a2 := aesX a1
  let a3 := aesX a2
  (if c.testBit 0 then a else 0) ^^^ (if c.testBit 1 then a1 else 0) ^^^
    (if c.testBit 2 then a2 else 0) ^^^ (if c.testBit 3 then a3 else 0)

/-- The substitution of a 32-bit word. -/
def aesSubWord (w : Nat) : Nat :=
  (aesSub (w >>> 24 % 256) <<< 24) ||| (aesSub (w >>> 16 % 256) <<< 16) |||
    (aesSub (w >>> 8 % 256) <<< 8) ||| aesSub (w % 256)

/-- The next eight words of the key schedule. -/
def aesNext8 (rcon : Nat) : List Nat → List Nat
  | [w0, w1, w2, w3, w4, w5, w6, w7] =>
    let a0 := w0 ^^^ aesSubWord (((w7 <<< 8) % 2 ^ 32) ||| (w7 >>> 24)) ^^^ (rcon <<< 24)
    let a1 := w1 ^^^ a0
    let a2 := w2 ^^^ a1
    let a3 := w3 ^^^ a2
    let a4 := w4 ^^^ aesSubWord a3
    let a5 := w5 ^^^ a4
    let a6 := w6 ^^^ a5
    [a0, a1, a2, a3, a4, a5, a6, w7 ^^^ a6]
  | _ => []

/-- The schedule from eight words on, one rcon for each further eight. -/
def aesSchedule : List Nat → List Nat → List Nat
  | [], ws => ws
  | r :: rs, ws => ws ++ aesSchedule rs (aesNext8 r ws)

/-- The words of a run of bytes, four to a word. -/
def words32 : Bytes → List Nat
  | a :: b :: c :: d :: bs => beNat [a, b, c, d] :: words32 bs
  | _ => []

/-- Four words to a round key. -/
def roundKeys : List Nat → List Nat
  | a :: b :: c :: d :: ws => ((a <<< 96) ||| (b <<< 64) ||| (c <<< 32) ||| d) :: roundKeys ws
  | _ => []

/-- The fifteen round keys of a 32-byte key. -/
def aesKeys (key : Bytes) : List Nat :=
  (roundKeys (aesSchedule [1, 2, 4, 8, 16, 32, 64] (words32 key))).take 15

/-- SubBytes and ShiftRows. -/
def aesSubShift (b : Nat) : Nat :=
  ofBytesN ([0, 5, 10, 15, 4, 9, 14, 3, 8, 13, 2, 7, 12, 1, 6, 11].map (fun i => aesSub (blkByte b i)))

def aesInvSubShift (b : Nat) : Nat :=
  ofBytesN ([0, 13, 10, 7, 4, 1, 14, 11, 8, 5, 2, 15, 12, 9, 6, 3].map
    (fun i => aesInvSub (blkByte b i)))

/-- MixColumns with the coefficients of one row. -/
def aesMixWith (c0 c1 c2 c3 b : Nat) : Nat :=
  ofBytesN ([0, 4, 8, 12].flatMap (fun c =>
    let x := fun r => blkByte b (c + r)
    [0, 1, 2, 3].map (fun r =>
      aesMul (x r) c0 ^^^ aesMul (x ((r + 1) % 4)) c1 ^^^ aesMul (x ((r + 2) % 4)) c2 ^^^
        aesMul (x ((r + 3) % 4)) c3)))

def aesMix (b : Nat) : Nat := aesMixWith 2 3 1 1 b

def aesInvMix (b : Nat) : Nat := aesMixWith 14 11 13 9 b

/-- The rounds after the first key addition. -/
def aesRounds : List Nat → Nat → Nat
  | [], b => b
  | [k], b => aesSubShift b ^^^ k
  | k :: ks, b => aesRounds ks (aesMix (aesSubShift b) ^^^ k)

/-- AES-256 encryption of one block under round keys. -/
def aesEncK (ks : List Nat) (b : Nat) : Nat :=
  match ks with
  | [] => b
  | k :: ks => aesRounds ks (b ^^^ k)

/-- The inverse rounds, keys last to first. -/
def aesInvRounds : List Nat → Nat → Nat
  | [], b => b
  | [k], b => aesInvSubShift b ^^^ k
  | k :: ks, b => aesInvRounds ks (aesInvMix (aesInvSubShift b ^^^ k))

/-- AES-256 decryption of one block. -/
def aesDecK (ks : List Nat) (b : Nat) : Nat :=
  match ks.reverse with
  | [] => b
  | k :: ks => aesInvRounds ks (b ^^^ k)

/-- AES-256 encryption of one block under a key. -/
def aes256 (key : Bytes) (b : Nat) : Nat := aesEncK (aesKeys key) b

/-! GCM. -/

/-- One step of the product in the field of GHASH. -/
def ghashStep (x : Nat) (i : Nat) (zv : Nat × Nat) : Nat × Nat :=
  (if x.testBit (127 - i) then zv.1 ^^^ zv.2 else zv.1,
   if zv.2 % 2 = 1 then (zv.2 >>> 1) ^^^ (0xE1 <<< 120) else zv.2 >>> 1)

/-- The product of two blocks in the field of GHASH. -/
def ghashMul (x y : Nat) : Nat :=
  ((List.range 128).foldl (fun zv i => ghashStep x i zv) (0, y)).1

/-- Bytes cut into 16-byte blocks, the last padded with zeros. -/
def blocks16 : Nat → Bytes → List Nat
  | 0, _ => []
  | _, [] => []
  | n + 1, bs => beNat ((bs.take 16 ++ zeros 16).take 16) :: blocks16 n (bs.drop 16)

/-- GHASH of associated data and ciphertext under hash key `h`, with their length block. -/
def ghash (h : Nat) (aad ct : Bytes) : Nat :=
  ((blocks16 aad.length aad ++ blocks16 ct.length ct
    ++ [((8 * aad.length) <<< 64) ||| (8 * ct.length)]).foldl (fun y x => ghashMul (y ^^^ x) h) 0)

/-- The keystream of `n` blocks from counter `c` under round keys and a 96-bit IV. -/
def ctrStream (ks : List Nat) (iv : Nat) : Nat → Nat → Bytes
  | 0, _ => []
  | n + 1, c => beBytes 16 (aesEncK ks ((iv <<< 32) ||| (c % 2 ^ 32))) ++ ctrStream ks iv n (c + 1)

/-- Counter-mode encryption from counter 2 (R138). -/
def gctr (ks : List Nat) (iv : Nat) (t : Bytes) : Bytes :=
  xorBytes t (ctrStream ks iv ((t.length + 15) / 16) 2)

/-- AES-256-GCM: ciphertext and 16-byte tag (R138). -/
def gcmSeal (key : Bytes) (iv : Nat) (aad pt : Bytes) : Bytes × Bytes :=
  let ks := aesKeys key
  let ct := gctr ks iv pt
  let tag := ghash (aesEncK ks 0) aad ct ^^^ aesEncK ks ((iv <<< 32) ||| 1)
  (ct, beBytes 16 tag)

/-- The plaintext of a ciphertext and the tag it should carry. -/
def gcmOpen (key : Bytes) (iv : Nat) (aad ct : Bytes) : Bytes × Bytes :=
  let ks := aesKeys key
  let tag := ghash (aesEncK ks 0) aad ct ^^^ aesEncK ks ((iv <<< 32) ||| 1)
  (gctr ks iv ct, beBytes 16 tag)

/-! AES key wrap (RFC 3394). -/

/-- One pass of the wrap over the registers, from step `t`. -/
def kwPass (ks : List Nat) : Nat → Nat → List Nat → Nat × List Nat
  | _, a, [] => (a, [])
  | t, a, r :: rs =>
    let b := aesEncK ks ((a <<< 64) ||| r)
    let a' := (b >>> 64) ^^^ t
    let x := kwPass ks (t + 1) a' rs
    (x.1, (b % 2 ^ 64) :: x.2)

/-- Bytes cut into 8-byte numbers. -/
def words64 : Nat → Bytes → List Nat
  | 0, _ => []
  | _, [] => []
  | n + 1, bs => beNat (bs.take 8) :: words64 n (bs.drop 8)

/-- AES key wrap of a run of 8-byte units under a 32-byte key. -/
def keyWrap (kek pt : Bytes) : Bytes :=
  let ks := aesKeys kek
  let rs := words64 pt.length pt
  let x := (List.range 6).foldl (fun (x : Nat × List Nat) j => kwPass ks (j * rs.length + 1) x.1 x.2)
    (0xA6A6A6A6A6A6A6A6, rs)
  beBytes 8 x.1 ++ x.2.flatMap (beBytes 8)

/-- One pass of the unwrap, registers last to first, from step `t` down. -/
def kuPass (ks : List Nat) : Nat → Nat → List Nat → Nat × List Nat
  | _, a, [] => (a, [])
  | t, a, r :: rs =>
    let b := aesDecK ks (((a ^^^ t) <<< 64) ||| r)
    let x := kuPass ks (t - 1) (b >>> 64) rs
    (x.1, (b % 2 ^ 64) :: x.2)

/-- AES key unwrap: the key material, or nothing where the integrity value is wrong. -/
def keyUnwrap (kek ct : Bytes) : Option Bytes :=
  let ks := aesKeys kek
  let rs := words64 ct.length (ct.drop 8)
  let x := (List.range 6).foldl
    (fun (x : Nat × List Nat) j => kuPass ks ((6 - j) * rs.length) x.1 x.2)
    (beNat (ct.take 8), rs.reverse)
  if x.1 = 0xA6A6A6A6A6A6A6A6 then some (x.2.reverse.flatMap (beBytes 8)) else none

/-! SHA-384. -/

/-- The round constants. -/
def sha512K : List Nat :=
  [0x428a2f98d728ae22,
   0x7137449123ef65cd,
   0xb5c0fbcfec4d3b2f,
   0xe9b5dba58189dbbc,
   0x3956c25bf348b538,
   0x59f111f1b605d019,
   0x923f82a4af194f9b,
   0xab1c5ed5da6d8118,
   0xd807aa98a3030242,
   0x12835b0145706fbe,
   0x243185be4ee4b28c,
   0x550c7dc3d5ffb4e2,
   0x72be5d74f27b896f,
   0x80deb1fe3b1696b1,
   0x9bdc06a725c71235,
   0xc19bf174cf692694,
   0xe49b69c19ef14ad2,
   0xefbe4786384f25e3,
   0xfc19dc68b8cd5b5,
   0x240ca1cc77ac9c65,
   0x2de92c6f592b0275,
   0x4a7484aa6ea6e483,
   0x5cb0a9dcbd41fbd4,
   0x76f988da831153b5,
   0x983e5152ee66dfab,
   0xa831c66d2db43210,
   0xb00327c898fb213f,
   0xbf597fc7beef0ee4,
   0xc6e00bf33da88fc2,
   0xd5a79147930aa725,
   0x6ca6351e003826f,
   0x142929670a0e6e70,
   0x27b70a8546d22ffc,
   0x2e1b21385c26c926,
   0x4d2c6dfc5ac42aed,
   0x53380d139d95b3df,
   0x650a73548baf63de,
   0x766a0abb3c77b2a8,
   0x81c2c92e47edaee6,
   0x92722c851482353b]
   ++ [0xa2bfe8a14cf10364,
   0xa81a664bbc423001,
   0xc24b8b70d0f89791,
   0xc76c51a30654be30,
   0xd192e819d6ef5218,
   0xd69906245565a910,
   0xf40e35855771202a,
   0x106aa07032bbd1b8,
   0x19a4c116b8d2d0c8,
   0x1e376c085141ab53,
   0x2748774cdf8eeb99,
   0x34b0bcb5e19b48a8,
   0x391c0cb3c5c95a63,
   0x4ed8aa4ae3418acb,
   0x5b9cca4f7763e373,
   0x682e6ff3d6b2b8a3,
   0x748f82ee5defb2fc,
   0x78a5636f43172f60,
   0x84c87814a1f0ab72,
   0x8cc702081a6439ec,
   0x90befffa23631e28,
   0xa4506cebde82bde9,
   0xbef9a3f7b2c67915,
   0xc67178f2e372532b,
   0xca273eceea26619c,
   0xd186b8c721c0c207,
   0xeada7dd6cde0eb1e,
   0xf57d4f7fee6ed178,
   0x6f067aa72176fba,
   0xa637dc5a2c898a6,
   0x113f9804bef90dae,
   0x1b710b35131c471b,
   0x28db77f523047d84,
   0x32caab7b40c72493,
   0x3c9ebe0a15c9bebc,
   0x431d67c49c100d4c,
   0x4cc5d4becb3e42b6,
   0x597f299cfc657e2a,
   0x5fcb6fab3ad6faec,
   0x6c44198c4a475817]

/-- The initial hash value of SHA-384. -/
def sha384Init : List Nat :=
  [0xcbbb9d5dc1059ed8,
   0x629a292a367cd507,
   0x9159015a3070dd17,
   0x152fecd8f70e5939,
   0x67332667ffc00b31,
   0x8eb44a8768581511,
   0xdb0c2e0d64f98fa7,
   0x47b5481dbefa4fa4]

def rotr64 (n x : Nat) : Nat := ((x >>> n) ||| (x <<< (64 - n))) % 2 ^ 64

/-- The message schedule: `n` more words from the last sixteen. -/
def shaSchedule : Nat → List Nat → List Nat
  | 0, w => w
  | n + 1, w =>
    let g := fun i => w.getD i 0
    let s0 := rotr64 1 (g 1) ^^^ rotr64 8 (g 1) ^^^ (g 1 >>> 7)
    let s1 := rotr64 19 (g 14) ^^^ rotr64 61 (g 14) ^^^ (g 14 >>> 6)
    let x := (g 0 + s0 + g 9 + s1) % 2 ^ 64
    g 0 :: shaSchedule n (w.drop 1 ++ [x])

/-- One round on the eight working words. -/
def shaRound (v : List Nat) (kw : Nat × Nat) : List Nat :=
  match v with
  | [a, b, c, d, e, f, g, h] =>
    let s1 := rotr64 14 e ^^^ rotr64 18 e ^^^ rotr64 41 e
    let ch := (e &&& f) ^^^ ((2 ^ 64 - 1 - e) &&& g)
    let t1 := h + s1 + ch + kw.1 + kw.2
    let s0 := rotr64 28 a ^^^ rotr64 34 a ^^^ rotr64 39 a
    let mj := (a &&& b) ^^^ (a &&& c) ^^^ (b &&& c)
    [(t1 + s0 + mj) % 2 ^ 64, a, b, c, (d + t1) % 2 ^ 64, e, f, g]
  | _ => v

/-- One block of the compression. -/
def shaBlock (h : List Nat) (blk : Bytes) : List Nat :=
  let w := shaSchedule 64 (words64 128 blk)
  List.zipWith (fun a b => (a + b) % 2 ^ 64) h ((sha512K.zip w).foldl shaRound h)

/-- Blocks of 128 bytes. -/
def shaBlocks : Nat → List Nat → Bytes → List Nat
  | 0, h, _ => h
  | _, h, [] => h
  | n + 1, h, bs => shaBlocks n (shaBlock h (bs.take 128)) (bs.drop 128)

/-- SHA-384 of a run of bytes: 48 bytes. -/
def sha384 (m : Bytes) : Bytes :=
  let pad := (111 + 128 - m.length % 128) % 128
  let p := m ++ [0x80] ++ zeros pad ++ beBytes 16 (8 * m.length)
  ((shaBlocks (p.length / 128) sha384Init p).take 6).flatMap (beBytes 8)

/-- HMAC with SHA-384 (block of 128 bytes). -/
def hmac384 (key m : Bytes) : Bytes :=
  let k0 := (if key.length ≤ 128 then key else sha384 key)
  let k := (k0 ++ zeros 128).take 128
  sha384 (k.map (· ^^^ 0x5C) ++ sha384 (k.map (· ^^^ 0x36) ++ m))

/-- The bytes of an ASCII text. -/
def ascii (t : String) : Bytes := t.toList.map (fun c => BitVec.ofNat 8 c.toNat)

end Sys2Proof.Machine
end

