-- ==== Sys2Proof/Machine/Drbg.lean ====
section
/-! DEFINITION. The key-derivation function of R428 and the CTR_DRBG of R465. -/

namespace Sys2Proof.Machine

/-- The one-step KDF of SP 800-56C with SHA-384 (R428): `n` bytes from secret `z` and FixedInfo. -/
def kdf (z info : Bytes) (n : Nat) : Bytes :=
  ((List.range ((n + 47) / 48)).flatMap (fun i => sha384 (beBytes 4 (i + 1) ++ z ++ info))).take n

/-- The update function of CTR_DRBG with AES-256 and 48 bytes of data (SP 800-90A, log entry 1). -/
def drbgUpdate (g : Drbg) (data : Bytes) : Drbg :=
  let blk (i : Nat) : Bytes := beBytes 16 (aes256 g.key ((g.v + i) % 2 ^ 128))
  let t := xorBytes (blk 1 ++ blk 2 ++ blk 3) data
  ⟨t.take 32, beNat (t.drop 32)⟩

/-- Instantiation without a derivation function (R465). -/
def drbgStart (entropy pers : Bytes) : Drbg := drbgUpdate ⟨zeros 32, 0⟩ (xorBytes entropy pers)

/-- A reseed without additional input (R466). -/
def drbgReseed (g : Drbg) (entropy : Bytes) : Drbg := drbgUpdate g entropy

/-- A generate request for `n` bytes, with the update of the state (R466). -/
def drbgGen (g : Drbg) (n : Nat) : Drbg × Bytes :=
  let k := (n + 15) / 16
  let out := (List.range k).flatMap (fun i => beBytes 16 (aes256 g.key ((g.v + i + 1) % 2 ^ 128)))
  (drbgUpdate { g with v := (g.v + k) % 2 ^ 128 } (zeros 48), out.take n)

end Sys2Proof.Machine
end

