-- ==== Sys2Proof/Machine/RegMap.lean ====
section
/-! DEFINITION. The register map: every register of every block of R540, with its address, its
instances, the places and access codes of its named fields, and its reset word.  Written from the
register tables of the chapters (R85, R86, R127, R128, R173, R174, R198, R199, R230-R233, R293-R295,
R320, R321, R341, R342, R364, R365, R390, R391, R422-R425, R476, R477, R500-R502, R531-R534,
R564-R566, R582, R583).  `R.<REGISTER>` is a register and `F.<REGISTER>_<FIELD>` a field of it, each
under the name the spec gives it; the registers of the line-side front ends FE4-FE7, which share
names with the client-side ones, carry the prefix LFE. -/

namespace Sys2Proof.Machine

/-- Alarm sources of group `g`: groups 8-12 and sources 7, 15 and 20-23 (R479); bits of reserved
sources read zero. -/
def alarmMask (g : Nat) : Nat :=
  if g = 0 then 0xF08080 else if g = 8 ∨ g = 9 ∨ g = 10 then 0xFFFFFFFF
  else if g = 11 then 0xFFF else if g = 12 then 0x3FFFFF else 0

/-- Phases of rail instance 0-11 (R524). -/
def railPhases : List Nat := [24, 24, 8, 4, 4, 4, 4, 4, 6, 6, 1, 1]

/-- Targets in mV of rail instance 0-11 (R524), VCORE at its safe default (R521). -/
def railTargetMv : List Nat := [800, 800, 800, 800, 900, 900, 750, 750, 1100, 1100, 1800, 1800]

/-- Rated currents in 0.1 A of rail instance 0-11 (R524). -/
def railRatedDa : List Nat := [1800, 1800, 600, 160, 200, 200, 160, 160, 300, 300, 20, 20]

/-- Programmable counters of unit `u` (R567). -/
def unitCounters (u : Nat) : Nat :=
  if (19 ≤ u ∧ u ≤ 22) ∨ u = 25 ∨ u = 26 ∨ u = 28 ∨ u = 29 then 8 else if u < 30 then 16 else 0

def R.FE_ID : Reg := ⟨0x180000, 0x2000, 4, 0x0, 1, [⟨4, 4, .ro⟩, ⟨3, 0, .ro⟩], fun i _ => i⟩
def R.FE_CTRL : Reg := ⟨0x180004, 0x2000, 4, 0x0, 1, [⟨2, 2, .rw⟩, ⟨1, 1, .rw⟩, ⟨0, 0, .rw⟩], fun _ _ => 0⟩
def R.FE_STATUS : Reg := ⟨0x180008, 0x2000, 4, 0x0, 1, [⟨5, 5, .ro⟩, ⟨4, 4, .ro⟩, ⟨3, 3, .ro⟩, ⟨2, 2, .ro⟩, ⟨1, 1, .ro⟩, ⟨0, 0, .ro⟩], fun _ _ => 0x2⟩
def R.FE_EVT_STATUS : Reg := ⟨0x18000C, 0x2000, 4, 0x0, 1, [⟨7, 7, .w1c⟩, ⟨6, 6, .w1c⟩, ⟨5, 5, .w1c⟩, ⟨4, 4, .w1c⟩, ⟨3, 3, .w1c⟩, ⟨2, 2, .w1c⟩, ⟨1, 1, .w1c⟩, ⟨0, 0, .w1c⟩], fun _ _ => 0⟩
def R.FE_VER_CMD : Reg := ⟨0x180010, 0x0, 1, 0x0, 1, [⟨31, 28, .wo⟩, ⟨15, 0, .wo⟩], fun _ _ => 0⟩
def R.FE_VER_CMD_STATUS : Reg := ⟨0x180014, 0x0, 1, 0x0, 1, [⟨31, 30, .ro⟩, ⟨27, 24, .ro⟩, ⟨23, 16, .ro⟩, ⟨15, 0, .ro⟩], fun _ _ => 0⟩
def R.FE_VER_CURRENT : Reg := ⟨0x180018, 0x0, 1, 0x0, 1, [⟨31, 31, .ro⟩, ⟨30, 30, .ro⟩, ⟨17, 16, .ro⟩, ⟨15, 0, .ro⟩], fun _ _ => 0x80000000⟩
def R.FE_VER_DRAINING : Reg := ⟨0x18001C, 0x0, 1, 0x0, 1, [⟨31, 31, .ro⟩, ⟨30, 30, .ro⟩, ⟨17, 16, .ro⟩, ⟨15, 0, .ro⟩], fun _ _ => 0⟩
def R.FE_VER_STAGED : Reg := ⟨0x180020, 0x0, 1, 0x0, 1, [⟨31, 31, .ro⟩, ⟨30, 30, .ro⟩, ⟨17, 16, .ro⟩, ⟨15, 0, .ro⟩], fun _ _ => 0⟩
def R.FE_LIVE_TAGS : Reg := ⟨0x180024, 0x0, 1, 0x0, 1, [⟨3, 0, .ro⟩], fun _ _ => 0⟩
def R.FE_INFLIGHT : Reg := ⟨0x180028, 0x0, 1, 0x0, 1, [⟨31, 31, .ro⟩, ⟨23, 0, .ro⟩], fun _ _ => 0⟩
def R.FE_DIGEST_LO : Reg := ⟨0x18002C, 0x2000, 4, 0x0, 1, [⟨31, 0, .ro⟩], fun _ _ => 0⟩
def R.FE_DIGEST_HI : Reg := ⟨0x180030, 0x2000, 4, 0x0, 1, [⟨31, 0, .ro⟩], fun _ _ => 0⟩
def R.FE_EM_OCCUPANCY : Reg := ⟨0x180034, 0x2000, 4, 0x0, 1, [⟨17, 0, .ro⟩], fun _ _ => 0⟩
def R.FE_TCAM_OCCUPANCY : Reg := ⟨0x180038, 0x2000, 4, 0x0, 1, [⟨13, 0, .ro⟩], fun _ _ => 0⟩
def R.FE_HASH_SEED : Reg := ⟨0x18003C, 0x0, 1, 0x0, 1, [⟨31, 0, .rwl⟩], fun _ _ => 0⟩
def R.FE_RESYNC : Reg := ⟨0x180040, 0x2000, 4, 0x0, 1, [⟨31, 31, .sc⟩, ⟨1, 0, .rw⟩], fun _ _ => 0⟩
def R.FE_ECC_STATUS : Reg := ⟨0x180044, 0x2000, 4, 0x0, 1, [⟨31, 31, .ro⟩, ⟨30, 28, .ro⟩, ⟨16, 0, .ro⟩], fun _ _ => 0⟩
def R.FE_EXC_RATE_FPS : Reg := ⟨0x180048, 0x0, 1, 0x0, 1, [⟨27, 18, .rw⟩, ⟨17, 0, .rw⟩], fun _ _ => 0x1004e20⟩
def R.FE_EXC_RATE_BPS : Reg := ⟨0x18004C, 0x0, 1, 0x0, 1, [⟨25, 16, .rw⟩, ⟨9, 0, .rw⟩], fun _ _ => 0x1000190⟩
def R.FE_SLICE_REMAP : Reg := ⟨0x180050, 0x0, 1, 0x0, 1, [⟨15, 0, .rw⟩], fun _ _ => 0xe4e4⟩
def R.FE_EXC_CTRL_SHARE : Reg := ⟨0x180054, 0x0, 1, 0x0, 1, [⟨6, 0, .rw⟩], fun _ _ => 0x32⟩
def R.FE_PTP_CTRL : Reg := ⟨0x180058, 0x0, 1, 0x0, 1, [⟨2, 2, .rw⟩, ⟨1, 1, .rw⟩, ⟨0, 0, .rw⟩], fun _ _ => 0x7⟩
def R.FE_PARSE_CTRL : Reg := ⟨0x18005C, 0x0, 1, 0x0, 1, [⟨31, 16, .rwl⟩, ⟨0, 0, .rwl⟩], fun _ _ => 0x91000000⟩
def R.FE_CNT_PARSE_ERR : Reg := ⟨0x180060, 0x2000, 4, 0x0, 1, [⟨31, 0, .rc⟩], fun _ _ => 0⟩
def R.FE_CNT_PARSE_TRUNC : Reg := ⟨0x180064, 0x2000, 4, 0x0, 1, [⟨31, 0, .rc⟩], fun _ _ => 0⟩
def R.FE_CNT_CTRL_REJECT : Reg := ⟨0x180068, 0x2000, 4, 0x0, 1, [⟨31, 0, .rc⟩], fun _ _ => 0⟩
def R.FE_CNT_NO_MATCH : Reg := ⟨0x18006C, 0x2000, 4, 0x0, 1, [⟨31, 0, .rc⟩], fun _ _ => 0⟩
def R.FE_CNT_RULE_DISCARD : Reg := ⟨0x180070, 0x2000, 4, 0x0, 1, [⟨31, 0, .rc⟩], fun _ _ => 0⟩
def R.FE_CNT_CLASS_DENIED : Reg := ⟨0x180074, 0x2000, 4, 0x0, 1, [⟨31, 0, .rc⟩], fun _ _ => 0⟩
def R.FE_CNT_SERVICE_INVALID : Reg := ⟨0x180078, 0x2000, 4, 0x0, 1, [⟨31, 0, .rc⟩], fun _ _ => 0⟩
def R.FE_CNT_VERSION_STALE : Reg := ⟨0x18007C, 0x2000, 4, 0x0, 1, [⟨31, 0, .rc⟩], fun _ _ => 0⟩
def R.FE_CNT_ECC_DISCARD : Reg := ⟨0x180080, 0x2000, 4, 0x0, 1, [⟨31, 0, .rc⟩], fun _ _ => 0⟩
def R.FE_CNT_ECC_CORRECTED : Reg := ⟨0x180084, 0x2000, 4, 0x0, 1, [⟨31, 0, .rc⟩], fun _ _ => 0⟩
def R.FE_CNT_EXC_SENT : Reg := ⟨0x180088, 0x2000, 4, 0x0, 1, [⟨31, 0, .rc⟩], fun _ _ => 0⟩
def R.FE_CNT_EXC_RATE_DROP : Reg := ⟨0x18008C, 0x2000, 4, 0x0, 1, [⟨31, 0, .rc⟩], fun _ _ => 0⟩
def R.FE_CNT_EXC_OVERFLOW : Reg := ⟨0x180090, 0x2000, 4, 0x0, 1, [⟨31, 0, .rc⟩], fun _ _ => 0⟩
def R.FE_CNT_NOT_READY : Reg := ⟨0x180094, 0x2000, 4, 0x0, 1, [⟨31, 0, .rc⟩], fun _ _ => 0⟩
def R.FE_CNT_PTP_EVENT : Reg := ⟨0x180098, 0x2000, 4, 0x0, 1, [⟨31, 0, .rc⟩], fun _ _ => 0⟩
def R.FE_CNT_SLICE_FENCED : Reg := ⟨0x18009C, 0x2000, 4, 0x0, 1, [⟨31, 0, .rc⟩], fun _ _ => 0⟩
def R.SAT_ID : Reg := ⟨0x200000, 0x20000, 8, 0x0, 1, [⟨2, 0, .ro⟩], fun i _ => i⟩
def R.SAT_CTRL : Reg := ⟨0x200004, 0x20000, 8, 0x0, 1, [⟨2, 2, .rw⟩, ⟨1, 1, .rw⟩, ⟨0, 0, .rw⟩], fun _ _ => 0x5⟩
def R.SAT_STATUS : Reg := ⟨0x200008, 0x20000, 8, 0x0, 1, [⟨31, 28, .ro⟩, ⟨5, 5, .ro⟩, ⟨4, 4, .ro⟩, ⟨3, 3, .ro⟩, ⟨2, 2, .ro⟩, ⟨1, 1, .ro⟩, ⟨0, 0, .ro⟩], fun _ _ => 0⟩
def R.SAT_EVT_STATUS : Reg := ⟨0x20000C, 0x20000, 8, 0x0, 1, [⟨8, 8, .w1c⟩, ⟨7, 7, .w1c⟩, ⟨6, 6, .w1c⟩, ⟨5, 5, .w1c⟩, ⟨4, 4, .w1c⟩, ⟨3, 3, .w1c⟩, ⟨2, 2, .w1c⟩, ⟨1, 1, .w1c⟩, ⟨0, 0, .w1c⟩], fun _ _ => 0⟩
def R.SAT_CMD : Reg := ⟨0x200010, 0x20000, 8, 0x0, 1, [⟨31, 28, .wo⟩, ⟨27, 27, .wo⟩, ⟨12, 0, .wo⟩], fun _ _ => 0⟩
def R.SAT_CMD_STATUS : Reg := ⟨0x200014, 0x20000, 8, 0x0, 1, [⟨31, 30, .ro⟩, ⟨29, 28, .ro⟩, ⟨27, 24, .ro⟩, ⟨23, 16, .ro⟩, ⟨15, 0, .ro⟩], fun _ _ => 0⟩
def R.SAT_CMD_ABORT : Reg := ⟨0x200018, 0x20000, 8, 0x0, 1, [⟨15, 0, .wo⟩], fun _ _ => 0⟩
def R.SAT_STAGE_ATTR : Reg := ⟨0x20001C, 0x20000, 8, 0x0, 1, [⟨31, 31, .rw⟩, ⟨30, 30, .rw⟩, ⟨29, 28, .rw⟩, ⟨27, 27, .rw⟩, ⟨26, 25, .rw⟩, ⟨24, 24, .rw⟩, ⟨9, 0, .rw⟩], fun _ _ => 0x85000000⟩
def R.SAT_STAGE_LINK : Reg := ⟨0x200020, 0x20000, 8, 0x0, 1, [⟨31, 0, .rw⟩], fun _ _ => 0⟩
def R.SAT_STAGE_SCI_HI : Reg := ⟨0x200024, 0x20000, 8, 0x0, 1, [⟨31, 0, .rw⟩], fun _ _ => 0⟩
def R.SAT_STAGE_SCI_LO : Reg := ⟨0x200028, 0x20000, 8, 0x0, 1, [⟨31, 0, .rw⟩], fun _ _ => 0⟩
def R.SAT_STAGE_SSCI : Reg := ⟨0x20002C, 0x20000, 8, 0x0, 1, [⟨31, 0, .rw⟩], fun _ _ => 0⟩
def R.SAT_STAGE_PN_HI : Reg := ⟨0x200030, 0x20000, 8, 0x0, 1, [⟨31, 0, .rw⟩], fun _ _ => 0⟩
def R.SAT_STAGE_PN_LO : Reg := ⟨0x200034, 0x20000, 8, 0x0, 1, [⟨31, 0, .rw⟩], fun _ _ => 1⟩
def R.SAT_USAGE_LIMIT_FRM : Reg := ⟨0x200038, 0x20000, 8, 0x0, 1, [⟨31, 0, .rw⟩], fun _ _ => 0x1000000⟩
def R.SAT_USAGE_LIMIT_BLK : Reg := ⟨0x20003C, 0x20000, 8, 0x0, 1, [⟨31, 0, .rw⟩], fun _ _ => 0x10000000⟩
def R.SAT_KEY_STAGE : Reg := ⟨0x200040, 0x20000, 8, 0x0, 1, [⟨31, 0, .wo⟩], fun _ _ => 0⟩
def R.SAT_OCCUPANCY : Reg := ⟨0x200044, 0x20000, 8, 0x0, 1, [⟨29, 16, .ro⟩, ⟨13, 0, .ro⟩], fun _ _ => 0⟩
def R.SAT_TRIGGER_FIFO : Reg := ⟨0x200048, 0x20000, 8, 0x0, 1, [⟨31, 31, .rc⟩, ⟨30, 28, .rc⟩, ⟨27, 27, .rc⟩, ⟨13, 13, .rc⟩, ⟨12, 0, .rc⟩], fun _ _ => 0⟩
def R.SAT_DIAG_CTRL : Reg := ⟨0x20004C, 0x20000, 8, 0x0, 1, [⟨31, 31, .rw⟩, ⟨30, 30, .sc⟩, ⟨29, 29, .rw⟩, ⟨28, 26, .rw⟩, ⟨25, 25, .ro⟩, ⟨24, 24, .ro⟩, ⟨23, 23, .ro⟩], fun _ _ => 0⟩
def R.SAT_ECC_STATUS : Reg := ⟨0x200050, 0x20000, 8, 0x0, 1, [⟨31, 31, .ro⟩, ⟨30, 30, .ro⟩, ⟨13, 13, .ro⟩, ⟨12, 0, .ro⟩], fun _ _ => 0⟩
def R.SAT_CNT_STARVE : Reg := ⟨0x200054, 0x20000, 8, 0x0, 1, [⟨31, 0, .rc⟩], fun _ _ => 0⟩
def R.SAT_CNT_TX_NO_SA : Reg := ⟨0x200058, 0x20000, 8, 0x0, 1, [⟨31, 0, .rc⟩], fun _ _ => 0⟩
def R.SAT_CNT_RX_REJECT : Reg := ⟨0x20005C, 0x20000, 8, 0x0, 1, [⟨31, 0, .rc⟩], fun _ _ => 0⟩
def R.CIP_ID : Reg := ⟨0x202000, 0x20000, 8, 0x0, 1, [⟨2, 0, .ro⟩], fun i _ => i⟩
def R.CIP_CTRL : Reg := ⟨0x202004, 0x20000, 8, 0x0, 1, [⟨2, 2, .rw⟩, ⟨1, 1, .rw⟩, ⟨0, 0, .rw⟩], fun _ _ => 0x1⟩
def R.CIP_STATUS : Reg := ⟨0x202008, 0x20000, 8, 0x0, 1, [⟨5, 5, .ro⟩, ⟨4, 4, .ro⟩, ⟨3, 3, .ro⟩, ⟨2, 2, .ro⟩, ⟨1, 1, .ro⟩, ⟨0, 0, .ro⟩], fun _ _ => 0⟩
def R.CIP_EVT_STATUS : Reg := ⟨0x20200C, 0x20000, 8, 0x0, 1, [⟨9, 9, .w1c⟩, ⟨8, 8, .w1c⟩, ⟨7, 7, .w1c⟩, ⟨6, 6, .w1c⟩, ⟨5, 5, .w1c⟩, ⟨4, 4, .w1c⟩, ⟨3, 3, .w1c⟩, ⟨2, 2, .w1c⟩, ⟨1, 1, .w1c⟩, ⟨0, 0, .w1c⟩], fun _ _ => 0⟩
def R.CIP_PIPE_STATUS : Reg := ⟨0x202010, 0x20000, 8, 0x0, 1, [⟨31, 24, .ro⟩, ⟨23, 16, .ro⟩, ⟨15, 8, .ro⟩, ⟨7, 0, .ro⟩], fun _ _ => 0⟩
def R.CIP_MASK_STATUS : Reg := ⟨0x202014, 0x20000, 8, 0x0, 1, [⟨31, 16, .ro⟩, ⟨15, 0, .ro⟩], fun _ _ => 0⟩
def R.CIP_MASK_RESERVE : Reg := ⟨0x202018, 0x20000, 8, 0x0, 1, [⟨19, 16, .ro⟩, ⟨9, 0, .ro⟩], fun _ _ => 0⟩
def R.CIP_HOLD_STATUS : Reg := ⟨0x20201C, 0x20000, 8, 0x0, 1, [⟨27, 16, .rc⟩, ⟨11, 0, .ro⟩], fun _ _ => 0⟩
def R.CIP_SEG_TIMEOUT : Reg := ⟨0x202020, 0x20000, 8, 0x0, 1, [⟨15, 0, .rw⟩], fun _ _ => 0x32⟩
def R.CIP_FAULT_STATUS : Reg := ⟨0x202024, 0x20000, 8, 0x0, 1, [⟨31, 31, .w1c⟩, ⟨30, 30, .ro⟩, ⟨29, 27, .ro⟩, ⟨26, 24, .ro⟩, ⟨2, 0, .ro⟩], fun _ _ => 0⟩
def R.CIP_KAT_CTRL : Reg := ⟨0x202028, 0x20000, 8, 0x0, 1, [⟨31, 31, .sc⟩, ⟨30, 30, .rw⟩, ⟨29, 27, .rw⟩, ⟨26, 26, .rw⟩, ⟨25, 25, .ro⟩, ⟨24, 24, .ro⟩], fun _ _ => 0⟩
def R.CIP_PARK_STATUS : Reg := ⟨0x20202C, 0x20000, 8, 0x0, 1, [⟨15, 8, .rc⟩, ⟨4, 0, .ro⟩], fun _ _ => 0⟩
def R.CIP_CNT_SEALED_LO : Reg := ⟨0x202030, 0x20000, 8, 0x0, 1, [⟨31, 0, .ro⟩], fun _ _ => 0⟩
def R.CIP_CNT_SEALED_HI : Reg := ⟨0x202034, 0x20000, 8, 0x0, 1, [⟨31, 0, .ro⟩], fun _ _ => 0⟩
def R.CIP_CNT_OPENED_LO : Reg := ⟨0x202038, 0x20000, 8, 0x0, 1, [⟨31, 0, .ro⟩], fun _ _ => 0⟩
def R.CIP_CNT_OPENED_HI : Reg := ⟨0x20203C, 0x20000, 8, 0x0, 1, [⟨31, 0, .ro⟩], fun _ _ => 0⟩
def R.CIP_CNT_TAG_FAIL : Reg := ⟨0x202040, 0x20000, 8, 0x0, 1, [⟨31, 0, .rc⟩], fun _ _ => 0⟩
def R.CIP_CNT_SEG_ERR : Reg := ⟨0x202044, 0x20000, 8, 0x0, 1, [⟨31, 0, .rc⟩], fun _ _ => 0⟩
def R.CIP_CNT_SHIM_ERR : Reg := ⟨0x202048, 0x20000, 8, 0x0, 1, [⟨31, 0, .rc⟩], fun _ _ => 0⟩
def R.CIP_CNT_OVERSIZE : Reg := ⟨0x20204C, 0x20000, 8, 0x0, 1, [⟨31, 0, .rc⟩], fun _ _ => 0⟩
def R.CIP_CNT_HOLD_FULL : Reg := ⟨0x202050, 0x20000, 8, 0x0, 1, [⟨31, 0, .rc⟩], fun _ _ => 0⟩
def R.CIP_CNT_HOLD_ECC : Reg := ⟨0x202054, 0x20000, 8, 0x0, 1, [⟨31, 0, .rc⟩], fun _ _ => 0⟩
def R.CIP_CNT_TX_ABORT : Reg := ⟨0x202058, 0x20000, 8, 0x0, 1, [⟨31, 0, .rc⟩], fun _ _ => 0⟩
def R.CIP_CNT_RX_FAULT : Reg := ⟨0x20205C, 0x20000, 8, 0x0, 1, [⟨31, 0, .rc⟩], fun _ _ => 0⟩
def R.CIP_CNT_SUSPEND : Reg := ⟨0x202060, 0x20000, 8, 0x0, 1, [⟨31, 0, .rc⟩], fun _ _ => 0⟩
def R.CIP_CNT_PREEMPT_CAP : Reg := ⟨0x202064, 0x20000, 8, 0x0, 1, [⟨31, 0, .rc⟩], fun _ _ => 0⟩
def R.CIP_CNT_MASK_WAIT : Reg := ⟨0x202068, 0x20000, 8, 0x0, 1, [⟨31, 0, .rc⟩], fun _ _ => 0⟩
def R.CIP_CNT_FENCE_DISCARD : Reg := ⟨0x20206C, 0x20000, 8, 0x0, 1, [⟨31, 0, .rc⟩], fun _ _ => 0⟩
def R.CIP_CNT_PIPE_TRANSIENT : Reg := ⟨0x202070, 0x20000, 8, 0x0, 1, [⟨31, 0, .rc⟩], fun _ _ => 0⟩
def R.CIP_CNT_RESEED : Reg := ⟨0x202074, 0x20000, 8, 0x0, 1, [⟨31, 0, .rc⟩], fun _ _ => 0⟩
def R.CIP_CNT_CTRL_REC : Reg := ⟨0x202078, 0x20000, 8, 0x0, 1, [⟨31, 0, .rc⟩], fun _ _ => 0⟩
def R.CIP_CNT_UNSUPPORTED : Reg := ⟨0x20207C, 0x20000, 8, 0x0, 1, [⟨31, 0, .rc⟩], fun _ _ => 0⟩
def R.LRN_ID : Reg := ⟨0x204000, 0x20000, 8, 0x0, 1, [⟨2, 0, .ro⟩], fun i _ => i⟩
def R.LRN_CTRL : Reg := ⟨0x204004, 0x20000, 8, 0x0, 1, [⟨6, 4, .rw⟩, ⟨3, 3, .rw⟩, ⟨2, 2, .rw⟩, ⟨1, 1, .rw⟩, ⟨0, 0, .rw⟩], fun _ _ => 0x4b⟩
def R.LRN_STATUS : Reg := ⟨0x204008, 0x20000, 8, 0x0, 1, [⟨31, 31, .ro⟩, ⟨28, 16, .ro⟩, ⟨15, 6, .ro⟩, ⟨5, 4, .ro⟩, ⟨3, 3, .ro⟩, ⟨1, 1, .ro⟩, ⟨0, 0, .ro⟩], fun _ _ => 0⟩
def R.LRN_EVT_STATUS : Reg := ⟨0x20400C, 0x20000, 8, 0x0, 1, [⟨6, 6, .w1c⟩, ⟨5, 5, .w1c⟩, ⟨4, 4, .w1c⟩, ⟨3, 3, .w1c⟩, ⟨2, 2, .w1c⟩, ⟨1, 1, .w1c⟩, ⟨0, 0, .w1c⟩], fun _ _ => 0⟩
def R.LRN_SWEEP_INTERVAL : Reg := ⟨0x204010, 0x20000, 8, 0x0, 1, [⟨19, 0, .rw⟩], fun _ _ => 0x3e8⟩
def R.LRN_FLUSH : Reg := ⟨0x204014, 0x20000, 8, 0x0, 1, [⟨31, 31, .sc⟩, ⟨30, 30, .ro⟩, ⟨29, 28, .rw⟩, ⟨27, 27, .rw⟩, ⟨21, 10, .rw⟩, ⟨9, 0, .rw⟩], fun _ _ => 0⟩
def R.LRN_OCCUPANCY : Reg := ⟨0x204018, 0x20000, 8, 0x0, 1, [⟨31, 16, .ro⟩, ⟨15, 0, .ro⟩], fun _ _ => 0⟩
def R.LRN_CNT_LEARNED : Reg := ⟨0x20401C, 0x20000, 8, 0x0, 1, [⟨31, 0, .rc⟩], fun _ _ => 0⟩
def R.LRN_CNT_AGED : Reg := ⟨0x204020, 0x20000, 8, 0x0, 1, [⟨31, 0, .rc⟩], fun _ _ => 0⟩
def R.LRN_CNT_MOVES : Reg := ⟨0x204024, 0x20000, 8, 0x0, 1, [⟨31, 0, .rc⟩], fun _ _ => 0⟩
def R.LRN_CNT_MOVE_REFUSED : Reg := ⟨0x204028, 0x20000, 8, 0x0, 1, [⟨31, 0, .rc⟩], fun _ _ => 0⟩
def R.LRN_CNT_INSERT_FAIL : Reg := ⟨0x20402C, 0x20000, 8, 0x0, 1, [⟨31, 0, .rc⟩], fun _ _ => 0⟩
def R.LRN_CNT_FLOODED : Reg := ⟨0x204030, 0x20000, 8, 0x0, 1, [⟨31, 0, .rc⟩], fun _ _ => 0⟩
def R.LRN_CNT_FLOOD_DROP : Reg := ⟨0x204034, 0x20000, 8, 0x0, 1, [⟨31, 0, .rc⟩], fun _ _ => 0⟩
def R.LRN_CNT_LEARN_DROP : Reg := ⟨0x204038, 0x20000, 8, 0x0, 1, [⟨31, 0, .rc⟩], fun _ _ => 0⟩
def R.LRN_CNT_NO_BIND : Reg := ⟨0x20403C, 0x20000, 8, 0x0, 1, [⟨31, 0, .rc⟩], fun _ _ => 0⟩
def R.POL_ID : Reg := ⟨0x1A0000, 0x0, 1, 0x0, 1, [⟨15, 0, .ro⟩], fun _ _ => 0x8000⟩
def R.POL_CTRL : Reg := ⟨0x1A0004, 0x0, 1, 0x0, 1, [⟨1, 1, .rw⟩, ⟨0, 0, .rw⟩], fun _ _ => 0x1⟩
def R.POL_STATUS : Reg := ⟨0x1A0008, 0x0, 1, 0x0, 1, [⟨1, 1, .ro⟩, ⟨0, 0, .ro⟩], fun _ _ => 0⟩
def R.POL_EVT_STATUS : Reg := ⟨0x1A000C, 0x0, 1, 0x0, 1, [⟨1, 1, .w1c⟩, ⟨0, 0, .w1c⟩], fun _ _ => 0⟩
def R.POL_ECC_STATUS : Reg := ⟨0x1A0010, 0x0, 1, 0x0, 1, [⟨31, 31, .ro⟩, ⟨14, 0, .ro⟩], fun _ _ => 0⟩
def R.POL_CMD : Reg := ⟨0x1A0014, 0x0, 1, 0x0, 1, [⟨31, 28, .wo⟩, ⟨14, 0, .wo⟩], fun _ _ => 0⟩
def R.POL_CMD_STATUS : Reg := ⟨0x1A0018, 0x0, 1, 0x0, 1, [⟨31, 30, .ro⟩, ⟨14, 0, .ro⟩], fun _ _ => 0⟩
def R.POL_CNT_ECC_CORRECTED : Reg := ⟨0x1A001C, 0x0, 1, 0x0, 1, [⟨31, 0, .rc⟩], fun _ _ => 0⟩
def R.POL_CNT_GREEN : Reg := ⟨0x1A0020, 0x18, 4, 0x0, 1, [⟨31, 0, .rc⟩], fun _ _ => 0⟩
def R.POL_CNT_YELLOW : Reg := ⟨0x1A0024, 0x18, 4, 0x0, 1, [⟨31, 0, .rc⟩], fun _ _ => 0⟩
def R.POL_CNT_YELLOW_DROP : Reg := ⟨0x1A0028, 0x18, 4, 0x0, 1, [⟨31, 0, .rc⟩], fun _ _ => 0⟩
def R.POL_CNT_RED : Reg := ⟨0x1A002C, 0x18, 4, 0x0, 1, [⟨31, 0, .rc⟩], fun _ _ => 0⟩
def R.POL_CNT_UNPOLICED : Reg := ⟨0x1A0030, 0x18, 4, 0x0, 1, [⟨31, 0, .rc⟩], fun _ _ => 0⟩
def R.POL_CNT_ECC_DISCARD : Reg := ⟨0x1A0034, 0x18, 4, 0x0, 1, [⟨31, 0, .rc⟩], fun _ _ => 0⟩
def R.SCH_ID : Reg := ⟨0x1B0000, 0x0, 1, 0x0, 1, [⟨31, 16, .ro⟩, ⟨3, 0, .ro⟩], fun _ _ => 0x20000008⟩
def R.SCH_CTRL : Reg := ⟨0x1B0004, 0x0, 1, 0x0, 1, [⟨2, 2, .rw⟩, ⟨1, 1, .rw⟩, ⟨0, 0, .rw⟩], fun _ _ => 0x1⟩
def R.SCH_STATUS : Reg := ⟨0x1B0008, 0x0, 1, 0x0, 1, [⟨3, 3, .ro⟩, ⟨2, 2, .ro⟩, ⟨1, 1, .ro⟩, ⟨0, 0, .ro⟩], fun _ _ => 0⟩
def R.SCH_EVT_STATUS : Reg := ⟨0x1B000C, 0x0, 1, 0x0, 1, [⟨5, 5, .w1c⟩, ⟨4, 4, .w1c⟩, ⟨3, 3, .w1c⟩, ⟨2, 2, .w1c⟩, ⟨1, 1, .w1c⟩, ⟨0, 0, .w1c⟩], fun _ _ => 0⟩
def R.SCH_ECC_STATUS : Reg := ⟨0x1B0010, 0x0, 1, 0x0, 1, [⟨31, 31, .ro⟩, ⟨30, 28, .ro⟩, ⟨26, 24, .ro⟩, ⟨15, 0, .ro⟩], fun _ _ => 0⟩
def R.SCH_CMD : Reg := ⟨0x1B0014, 0x0, 1, 0x0, 1, [⟨31, 28, .wo⟩, ⟨26, 24, .wo⟩, ⟨12, 0, .wo⟩], fun _ _ => 0⟩
def R.SCH_CMD_STATUS : Reg := ⟨0x1B0018, 0x0, 1, 0x0, 1, [⟨31, 30, .ro⟩, ⟨20, 0, .ro⟩], fun _ _ => 0⟩
def R.SCH_SAMPLE_SEL : Reg := ⟨0x1B001C, 0x0, 1, 0x0, 1, [⟨31, 31, .rw⟩, ⟨26, 24, .rw⟩, ⟨12, 0, .rw⟩], fun _ _ => 0⟩
def R.SCH_SAMPLE_DEPTH : Reg := ⟨0x1B0020, 0x0, 1, 0x0, 1, [⟨23, 0, .ro⟩], fun _ _ => 0⟩
def R.SCH_SAMPLE_HEAD_AGE : Reg := ⟨0x1B0024, 0x0, 1, 0x0, 1, [⟨31, 0, .ro⟩], fun _ _ => 0⟩
def R.SCH_SAMPLE_DELAY_MAX : Reg := ⟨0x1B0028, 0x0, 1, 0x0, 1, [⟨31, 0, .rc⟩], fun _ _ => 0⟩
def R.SCH_EGR_BUF_STATUS : Reg := ⟨0x1B002C, 0x0, 1, 0x0, 1, [⟨16, 0, .ro⟩], fun _ _ => 0x10000⟩
def R.SCH_EGR_CLASS_LEVEL : Reg := ⟨0x1B0030, 0x4, 4, 0x0, 1, [⟨16, 0, .ro⟩], fun _ _ => 0⟩
def R.SCH_DESC_FREE : Reg := ⟨0x1B0040, 0x4, 8, 0x0, 1, [⟨20, 0, .ro⟩], fun _ _ => 0x100000⟩
def R.SCH_CELLS_FREE : Reg := ⟨0x1B0060, 0x4, 2, 0x0, 1, [⟨27, 0, .ro⟩], fun _ _ => 0⟩
def R.SCH_CNT_DEQUEUED_LO : Reg := ⟨0x1B00F8, 0x0, 1, 0x0, 1, [⟨31, 0, .ro⟩], fun _ _ => 0⟩
def R.SCH_CNT_DEQUEUED_HI : Reg := ⟨0x1B00FC, 0x0, 1, 0x0, 1, [⟨31, 0, .ro⟩], fun _ _ => 0⟩
def R.SCH_CNT_NO_QUEUE : Reg := ⟨0x1B0068, 0x0, 1, 0x0, 1, [⟨31, 0, .rc⟩], fun _ _ => 0⟩
def R.SCH_CNT_FLUSHED : Reg := ⟨0x1B006C, 0x0, 1, 0x0, 1, [⟨31, 0, .rc⟩], fun _ _ => 0⟩
def R.SCH_CNT_QUEUE_FULL : Reg := ⟨0x1B0070, 0x4, 4, 0x0, 1, [⟨31, 0, .rc⟩], fun _ _ => 0⟩
def R.SCH_CNT_YELLOW_DROP : Reg := ⟨0x1B0080, 0x4, 4, 0x0, 1, [⟨31, 0, .rc⟩], fun _ _ => 0⟩
def R.SCH_CNT_LATE_ADMIT : Reg := ⟨0x1B0090, 0x4, 4, 0x0, 1, [⟨31, 0, .rc⟩], fun _ _ => 0⟩
def R.SCH_CNT_NO_BUFFER : Reg := ⟨0x1B00A0, 0x4, 4, 0x0, 1, [⟨31, 0, .rc⟩], fun _ _ => 0⟩
def R.SCH_CNT_GUARD_LINE : Reg := ⟨0x1B00B0, 0x4, 4, 0x0, 1, [⟨31, 0, .rc⟩], fun _ _ => 0⟩
def R.SCH_CNT_GUARD_CLIENT : Reg := ⟨0x1B00C0, 0x4, 4, 0x0, 1, [⟨31, 0, .rc⟩], fun _ _ => 0⟩
def R.SCH_CNT_EGR_FULL : Reg := ⟨0x1B00D0, 0x4, 4, 0x0, 1, [⟨31, 0, .rc⟩], fun _ _ => 0⟩
def R.SCH_CNT_CAP_DEMOTE_EXP : Reg := ⟨0x1B00E0, 0x0, 1, 0x0, 1, [⟨31, 0, .rc⟩], fun _ _ => 0⟩
def R.SCH_CNT_CAP_DEMOTE_ASR : Reg := ⟨0x1B00E4, 0x0, 1, 0x0, 1, [⟨31, 0, .rc⟩], fun _ _ => 0⟩
def R.SCH_CNT_SUSPEND_CHARGE : Reg := ⟨0x1B00E8, 0x0, 1, 0x0, 1, [⟨31, 0, .rc⟩], fun _ _ => 0⟩
def R.SCH_CNT_PREEMPT : Reg := ⟨0x1B00EC, 0x0, 1, 0x0, 1, [⟨31, 0, .rc⟩], fun _ _ => 0⟩
def R.SCH_CNT_ECC_CORRECTED : Reg := ⟨0x1B00F0, 0x0, 1, 0x0, 1, [⟨31, 0, .rc⟩], fun _ _ => 0⟩
def R.SCH_CNT_ECC_DISCARD : Reg := ⟨0x1B00F4, 0x0, 1, 0x0, 1, [⟨31, 0, .rc⟩], fun _ _ => 0⟩
def R.LFE_ID : Reg := ⟨0x188000, 0x2000, 4, 0x0, 1, [⟨4, 4, .ro⟩, ⟨3, 0, .ro⟩], fun i _ => 0x10 + 4 + i⟩
def R.LFE_CTRL : Reg := ⟨0x188004, 0x2000, 4, 0x0, 1, [⟨3, 3, .rw⟩, ⟨2, 2, .rw⟩, ⟨1, 1, .rw⟩, ⟨0, 0, .rw⟩], fun _ _ => 0⟩
def R.LFE_STATUS : Reg := ⟨0x188008, 0x2000, 4, 0x0, 1, [⟨27, 16, .ro⟩, ⟨5, 5, .ro⟩, ⟨4, 4, .ro⟩, ⟨3, 3, .ro⟩, ⟨2, 2, .ro⟩, ⟨0, 0, .ro⟩], fun _ _ => 0⟩
def R.LFE_EVT_STATUS : Reg := ⟨0x18800C, 0x2000, 4, 0x0, 1, [⟨7, 7, .w1c⟩, ⟨6, 6, .w1c⟩, ⟨5, 5, .w1c⟩, ⟨4, 4, .w1c⟩, ⟨3, 3, .w1c⟩, ⟨2, 2, .w1c⟩, ⟨1, 1, .w1c⟩, ⟨0, 0, .w1c⟩], fun _ _ => 0⟩
def R.LFE_ECC_STATUS : Reg := ⟨0x188010, 0x2000, 4, 0x0, 1, [⟨31, 31, .ro⟩, ⟨10, 0, .ro⟩], fun _ _ => 0⟩
def R.LFE_CNT_EXC_SENT : Reg := ⟨0x188014, 0x2000, 4, 0x0, 1, [⟨31, 0, .rc⟩], fun _ _ => 0⟩
def R.LFE_CNT_EXC_RATE_DROP : Reg := ⟨0x188018, 0x2000, 4, 0x0, 1, [⟨31, 0, .rc⟩], fun _ _ => 0⟩
def R.LFE_CNT_EXC_OVERFLOW : Reg := ⟨0x18801C, 0x2000, 4, 0x0, 1, [⟨31, 0, .rc⟩], fun _ _ => 0⟩
def R.LFE_CNT_HALF_MISMATCH : Reg := ⟨0x188020, 0x2000, 4, 0x10, 8, [⟨31, 0, .rc⟩], fun _ _ => 0⟩
def R.LFE_CNT_UNKNOWN_KSI : Reg := ⟨0x188024, 0x2000, 4, 0x10, 8, [⟨31, 0, .rc⟩], fun _ _ => 0⟩
def R.LFE_CNT_FORMAT_ERR : Reg := ⟨0x188028, 0x2000, 4, 0x10, 8, [⟨31, 0, .rc⟩], fun _ _ => 0⟩
def R.LFE_CNT_DEFECT_DISCARD : Reg := ⟨0x18802C, 0x2000, 4, 0x10, 8, [⟨31, 0, .rc⟩], fun _ _ => 0⟩
def R.ENV_CTRL : Reg := ⟨0x140000, 0x800, 32, 0x0, 1, [⟨31, 30, .rw⟩, ⟨29, 29, .rw⟩, ⟨28, 28, .rw⟩, ⟨27, 27, .rw⟩, ⟨26, 26, .rw⟩, ⟨25, 22, .rw⟩, ⟨15, 0, .rw⟩], fun _ _ => 0x3dc00100⟩
def R.ENV_STATUS : Reg := ⟨0x140004, 0x800, 32, 0x0, 1, [⟨31, 30, .ro⟩, ⟨29, 28, .ro⟩, ⟨27, 26, .ro⟩, ⟨25, 25, .ro⟩, ⟨24, 24, .ro⟩, ⟨23, 23, .ro⟩, ⟨22, 22, .ro⟩, ⟨21, 20, .ro⟩, ⟨8, 8, .ro⟩, ⟨7, 0, .ro⟩], fun _ _ => 0⟩
def R.ENV_EVT_STATUS : Reg := ⟨0x140008, 0x800, 32, 0x0, 1, [⟨25, 25, .w1c⟩, ⟨24, 24, .w1c⟩, ⟨23, 23, .w1c⟩, ⟨22, 22, .w1c⟩, ⟨21, 21, .w1c⟩, ⟨20, 20, .w1c⟩, ⟨19, 19, .w1c⟩, ⟨18, 18, .w1c⟩, ⟨15, 8, .w1c⟩, ⟨7, 0, .w1c⟩], fun _ _ => 0⟩
def R.ENV_DEF_INTEG_SET : Reg := ⟨0x14000C, 0x800, 32, 0x0, 1, [⟨31, 24, .rw⟩, ⟨23, 16, .rw⟩, ⟨15, 8, .rw⟩, ⟨7, 0, .rw⟩], fun _ _ => 0xa0a0a0a⟩
def R.ENV_DEF_INTEG_CLR : Reg := ⟨0x140010, 0x800, 32, 0x0, 1, [⟨31, 24, .rw⟩, ⟨23, 16, .rw⟩, ⟨15, 8, .rw⟩, ⟨7, 0, .rw⟩], fun _ _ => 0xa0a0a0a⟩
def R.ENV_TRAIL : Reg := ⟨0x140014, 0x800, 32, 0x0, 1, [⟨27, 16, .rw⟩, ⟨4, 0, .rw⟩], fun _ _ => 0⟩
def R.ENV_RX_TRAIL : Reg := ⟨0x140018, 0x800, 32, 0x0, 1, [⟨31, 31, .ro⟩, ⟨30, 30, .ro⟩, ⟨27, 16, .ro⟩, ⟨4, 0, .ro⟩], fun _ _ => 0⟩
def R.ENV_FAR_END : Reg := ⟨0x14001C, 0x800, 32, 0x0, 1, [⟨27, 24, .ro⟩, ⟨12, 8, .ro⟩, ⟨3, 0, .ro⟩], fun _ _ => 0⟩
def R.ENV_KEY_CMD : Reg := ⟨0x140020, 0x800, 32, 0x0, 1, [⟨31, 28, .wo⟩, ⟨27, 27, .wo⟩, ⟨26, 26, .wo⟩, ⟨25, 16, .wo⟩, ⟨15, 0, .wo⟩], fun _ _ => 0⟩
def R.ENV_KEY_STATUS : Reg := ⟨0x140024, 0x800, 32, 0x0, 1, [⟨31, 30, .ro⟩, ⟨29, 28, .ro⟩, ⟨27, 24, .ro⟩, ⟨23, 16, .ro⟩, ⟨15, 0, .ro⟩], fun _ _ => 0⟩
def R.ENV_KEY_STAGE : Reg := ⟨0x140028, 0x800, 32, 0x0, 1, [⟨31, 0, .wo⟩], fun _ _ => 0⟩
def R.ENV_KEY_LIMIT : Reg := ⟨0x14002C, 0x800, 32, 0x0, 1, [⟨31, 0, .rw⟩], fun _ _ => 0x100000⟩
def R.MRG_ID : Reg := ⟨0x160000, 0x0, 1, 0x0, 1, [⟨31, 16, .ro⟩, ⟨15, 0, .ro⟩], fun _ _ => 0x80004000⟩
def R.MRG_CTRL : Reg := ⟨0x160004, 0x0, 1, 0x0, 1, [⟨3, 3, .rw⟩, ⟨2, 2, .rw⟩, ⟨1, 1, .rw⟩, ⟨0, 0, .rw⟩], fun _ _ => 0x8⟩
def R.MRG_STATUS : Reg := ⟨0x160008, 0x0, 1, 0x0, 1, [⟨6, 6, .ro⟩, ⟨5, 5, .ro⟩, ⟨4, 4, .ro⟩, ⟨3, 3, .ro⟩, ⟨2, 2, .ro⟩, ⟨1, 1, .ro⟩, ⟨0, 0, .ro⟩], fun _ _ => 0⟩
def R.MRG_EVT_STATUS : Reg := ⟨0x16000C, 0x0, 1, 0x0, 1, [⟨12, 12, .w1c⟩, ⟨11, 11, .w1c⟩, ⟨10, 10, .w1c⟩, ⟨9, 9, .w1c⟩, ⟨8, 8, .w1c⟩, ⟨7, 7, .w1c⟩, ⟨6, 6, .w1c⟩, ⟨5, 5, .w1c⟩, ⟨4, 4, .w1c⟩, ⟨3, 3, .w1c⟩, ⟨2, 2, .w1c⟩, ⟨1, 1, .w1c⟩, ⟨0, 0, .w1c⟩], fun _ _ => 0⟩
def R.MRG_CMD : Reg := ⟨0x160010, 0x0, 1, 0x0, 1, [⟨31, 28, .wo⟩], fun _ _ => 0⟩
def R.MRG_CMD_STATUS : Reg := ⟨0x160014, 0x0, 1, 0x0, 1, [⟨31, 30, .ro⟩, ⟨27, 24, .ro⟩, ⟨23, 16, .ro⟩], fun _ _ => 0⟩
def R.MRG_SEQ_FENCE_INFO : Reg := ⟨0x160018, 0x0, 1, 0x0, 1, [⟨31, 31, .ro⟩, ⟨27, 24, .ro⟩, ⟨13, 0, .ro⟩], fun _ _ => 0⟩
def R.MRG_MERGE_FENCE_INFO : Reg := ⟨0x16001C, 0x0, 1, 0x0, 1, [⟨31, 31, .ro⟩, ⟨27, 24, .ro⟩, ⟨14, 0, .ro⟩], fun _ _ => 0⟩
def R.MRG_QUIET : Reg := ⟨0x160020, 0x0, 1, 0x0, 1, [⟨9, 0, .rwl⟩], fun _ _ => 0x3e8⟩
def R.MRG_WIN_FREE : Reg := ⟨0x160024, 0x0, 1, 0x0, 1, [⟨14, 0, .ro⟩], fun _ _ => 0x4000⟩
def R.MRG_HOLD_RESERVE : Reg := ⟨0x160028, 0x4, 2, 0x0, 1, [⟨26, 0, .rw⟩], fun _ _ => 0⟩
def R.MRG_HOLD_USED : Reg := ⟨0x160030, 0x4, 2, 0x0, 1, [⟨26, 0, .ro⟩], fun _ _ => 0⟩
def R.MRG_RX_REDIRECT : Reg := ⟨0x160038, 0x0, 1, 0x0, 1, [⟨31, 24, .rw⟩, ⟨15, 0, .rw⟩], fun _ _ => 0xe4e4⟩
def R.MRG_ECC_STATUS : Reg := ⟨0x16003C, 0x0, 1, 0x0, 1, [⟨31, 31, .ro⟩, ⟨30, 28, .ro⟩, ⟨26, 24, .ro⟩, ⟨15, 0, .ro⟩], fun _ _ => 0⟩
def R.MRG_CNT_NUMBERED_LO : Reg := ⟨0x160080, 0x0, 1, 0x0, 1, [⟨31, 0, .ro⟩], fun _ _ => 0⟩
def R.MRG_CNT_NUMBERED_HI : Reg := ⟨0x160084, 0x0, 1, 0x0, 1, [⟨31, 0, .ro⟩], fun _ _ => 0⟩
def R.MRG_CNT_PASSED_LO : Reg := ⟨0x160088, 0x0, 1, 0x0, 1, [⟨31, 0, .ro⟩], fun _ _ => 0⟩
def R.MRG_CNT_PASSED_HI : Reg := ⟨0x16008C, 0x0, 1, 0x0, 1, [⟨31, 0, .ro⟩], fun _ _ => 0⟩
def R.MRG_CNT_DUP_LO : Reg := ⟨0x160090, 0x0, 1, 0x0, 1, [⟨31, 0, .ro⟩], fun _ _ => 0⟩
def R.MRG_CNT_DUP_HI : Reg := ⟨0x160094, 0x0, 1, 0x0, 1, [⟨31, 0, .ro⟩], fun _ _ => 0⟩
def R.MRG_CNT_HELD_LO : Reg := ⟨0x160098, 0x0, 1, 0x0, 1, [⟨31, 0, .ro⟩], fun _ _ => 0⟩
def R.MRG_CNT_HELD_HI : Reg := ⟨0x16009C, 0x0, 1, 0x0, 1, [⟨31, 0, .ro⟩], fun _ _ => 0⟩
def R.MRG_SAMPLE_SEL : Reg := ⟨0x1600A0, 0x0, 1, 0x0, 1, [⟨31, 31, .rw⟩, ⟨14, 0, .rw⟩], fun _ _ => 0⟩
def R.MRG_SAMPLE_HIGHEST : Reg := ⟨0x1600A4, 0x0, 1, 0x0, 1, [⟨31, 0, .ro⟩], fun _ _ => 0⟩
def R.MRG_SAMPLE_DMIN : Reg := ⟨0x1600A8, 0x0, 1, 0x0, 1, [⟨31, 0, .ro⟩], fun _ _ => 0⟩
def R.MRG_SAMPLE_DMAX : Reg := ⟨0x1600AC, 0x0, 1, 0x0, 1, [⟨31, 0, .ro⟩], fun _ _ => 0⟩
def R.MRG_SAMPLE_HOLD0 : Reg := ⟨0x1600B0, 0x0, 1, 0x0, 1, [⟨24, 0, .ro⟩], fun _ _ => 0⟩
def R.MRG_SAMPLE_HOLD1 : Reg := ⟨0x1600B4, 0x0, 1, 0x0, 1, [⟨24, 0, .ro⟩], fun _ _ => 0⟩
def R.MRG_SAMPLE_IDLE : Reg := ⟨0x1600B8, 0x0, 1, 0x0, 1, [⟨31, 0, .ro⟩], fun _ _ => 0⟩
def R.MRG_SAMPLE_STATUS : Reg := ⟨0x1600BC, 0x0, 1, 0x0, 1, [⟨31, 31, .ro⟩, ⟨30, 30, .ro⟩, ⟨29, 29, .ro⟩, ⟨15, 0, .ro⟩], fun _ _ => 0⟩
def R.MRG_CNT_COPIES : Reg := ⟨0x1600C0, 0x4, 8, 0x0, 1, [⟨31, 0, .rc⟩], fun _ _ => 0⟩
def R.MRG_CNT_FIRST : Reg := ⟨0x1600E0, 0x4, 8, 0x0, 1, [⟨31, 0, .rc⟩], fun _ _ => 0⟩
def R.MRG_CNT_SEQ_FENCED : Reg := ⟨0x160040, 0x0, 1, 0x0, 1, [⟨31, 0, .rc⟩], fun _ _ => 0⟩
def R.MRG_CNT_MERGE_FENCED : Reg := ⟨0x160044, 0x0, 1, 0x0, 1, [⟨31, 0, .rc⟩], fun _ _ => 0⟩
def R.MRG_CNT_NO_STREAM : Reg := ⟨0x160048, 0x0, 1, 0x0, 1, [⟨31, 0, .rc⟩], fun _ _ => 0⟩
def R.MRG_CNT_PATH_ERR : Reg := ⟨0x16004C, 0x0, 1, 0x0, 1, [⟨31, 0, .rc⟩], fun _ _ => 0⟩
def R.MRG_CNT_STALE : Reg := ⟨0x160050, 0x0, 1, 0x0, 1, [⟨31, 0, .rc⟩], fun _ _ => 0⟩
def R.MRG_CNT_RESYNC : Reg := ⟨0x160054, 0x0, 1, 0x0, 1, [⟨31, 0, .rc⟩], fun _ _ => 0⟩
def R.MRG_CNT_HOLD_NO_CELL : Reg := ⟨0x160058, 0x0, 1, 0x0, 1, [⟨31, 0, .rc⟩], fun _ _ => 0⟩
def R.MRG_CNT_HOLD_LOST : Reg := ⟨0x16005C, 0x0, 1, 0x0, 1, [⟨31, 0, .rc⟩], fun _ _ => 0⟩
def R.MRG_CNT_HOLD_REPLACED : Reg := ⟨0x160060, 0x0, 1, 0x0, 1, [⟨31, 0, .rc⟩], fun _ _ => 0⟩
def R.MRG_CNT_HOLD_FENCE_DISCARD : Reg := ⟨0x160064, 0x0, 1, 0x0, 1, [⟨31, 0, .rc⟩], fun _ _ => 0⟩
def R.MRG_CNT_ALIGN_CAPPED : Reg := ⟨0x160068, 0x0, 1, 0x0, 1, [⟨31, 0, .rc⟩], fun _ _ => 0⟩
def R.MRG_CNT_FENCES : Reg := ⟨0x16006C, 0x0, 1, 0x0, 1, [⟨31, 0, .rc⟩], fun _ _ => 0⟩
def R.MRG_CNT_ECC_CORRECTED : Reg := ⟨0x160070, 0x0, 1, 0x0, 1, [⟨31, 0, .rc⟩], fun _ _ => 0⟩
def R.MRG_CNT_ECC_DISCARD : Reg := ⟨0x160074, 0x0, 1, 0x0, 1, [⟨31, 0, .rc⟩], fun _ _ => 0⟩
def R.MRG_CNT_SAME_CYCLE : Reg := ⟨0x160078, 0x0, 1, 0x0, 1, [⟨31, 0, .rc⟩], fun _ _ => 0⟩
def R.MRG_CNT_REDIRECTED : Reg := ⟨0x16007C, 0x0, 1, 0x0, 1, [⟨31, 0, .rc⟩], fun _ _ => 0⟩
def R.BAY_ID : Reg := ⟨0x1C0000, 0x100, 4, 0x0, 1, [⟨15, 8, .ro⟩, ⟨1, 0, .ro⟩], fun i _ => 0x1000 + i⟩
def R.BAY_CTRL : Reg := ⟨0x1C0004, 0x100, 4, 0x0, 1, [⟨31, 16, .rw⟩, ⟨3, 3, .rw⟩, ⟨2, 2, .rw⟩, ⟨1, 1, .rw⟩, ⟨0, 0, .rw⟩], fun _ _ => 0x7⟩
def R.BAY_STATUS : Reg := ⟨0x1C0008, 0x100, 4, 0x0, 1, [⟨6, 6, .ro⟩, ⟨5, 5, .ro⟩, ⟨4, 4, .ro⟩, ⟨3, 3, .ro⟩, ⟨2, 2, .ro⟩, ⟨1, 1, .ro⟩, ⟨0, 0, .ro⟩], fun _ _ => 0x8⟩
def R.BAY_EVT_STATUS : Reg := ⟨0x1C000C, 0x100, 4, 0x0, 1, [⟨11, 11, .w1c⟩, ⟨10, 10, .w1c⟩, ⟨9, 9, .w1c⟩, ⟨8, 8, .w1c⟩, ⟨7, 7, .w1c⟩, ⟨6, 6, .w1c⟩, ⟨5, 5, .w1c⟩, ⟨4, 4, .w1c⟩, ⟨3, 3, .w1c⟩, ⟨2, 2, .w1c⟩, ⟨1, 1, .w1c⟩, ⟨0, 0, .w1c⟩], fun _ _ => 0⟩
def R.BAY_CMD : Reg := ⟨0x1C0010, 0x100, 4, 0x0, 1, [⟨31, 28, .wo⟩], fun _ _ => 0⟩
def R.BAY_CMD_STATUS : Reg := ⟨0x1C0014, 0x100, 4, 0x0, 1, [⟨31, 30, .ro⟩, ⟨23, 16, .ro⟩, ⟨15, 0, .ro⟩], fun _ _ => 0⟩
def R.BAY_EPOCH : Reg := ⟨0x1C0018, 0x100, 4, 0x0, 1, [⟨17, 17, .ro⟩, ⟨16, 16, .ro⟩, ⟨15, 0, .ro⟩], fun _ _ => 0⟩
def R.BAY_ERR_ADDR : Reg := ⟨0x1C001C, 0x100, 4, 0x0, 1, [⟨31, 31, .rc⟩, ⟨30, 28, .rc⟩, ⟨25, 0, .rc⟩], fun _ _ => 0⟩
def R.BAY_QUARANTINE : Reg := ⟨0x1C0020, 0x100, 4, 0x0, 1, [⟨20, 0, .ro⟩], fun _ _ => 0⟩
def R.BAY_CACHE_STATUS : Reg := ⟨0x1C0024, 0x100, 4, 0x0, 1, [⟨27, 16, .ro⟩, ⟨11, 0, .ro⟩], fun _ _ => 0⟩
def R.BAY_TRAIN_STATUS : Reg := ⟨0x1C0028, 0x100, 4, 0x0, 1, [⟨31, 31, .ro⟩, ⟨30, 30, .ro⟩, ⟨23, 16, .ro⟩, ⟨15, 0, .ro⟩], fun _ _ => 0⟩
def R.BAY_CNT_CORRECTED : Reg := ⟨0x1C002C, 0x100, 4, 0x0, 1, [⟨31, 0, .rc⟩], fun _ _ => 0⟩
def R.BAY_CNT_DATA_UNCORR : Reg := ⟨0x1C0030, 0x100, 4, 0x0, 1, [⟨31, 0, .rc⟩], fun _ _ => 0⟩
def R.BAY_CNT_TAG_FAIL : Reg := ⟨0x1C0034, 0x100, 4, 0x0, 1, [⟨31, 0, .rc⟩], fun _ _ => 0⟩
def R.BAY_CNT_POISON_DISCARD : Reg := ⟨0x1C0038, 0x100, 4, 0x0, 1, [⟨31, 0, .rc⟩], fun _ _ => 0⟩
def R.BAY_CNT_DESC_ERR : Reg := ⟨0x1C003C, 0x100, 4, 0x0, 1, [⟨31, 0, .rc⟩], fun _ _ => 0⟩
def R.LANE_CTRL : Reg := ⟨0x100000, 0x400, 64, 0x0, 1, [⟨7, 7, .rw⟩, ⟨6, 5, .rw⟩, ⟨4, 4, .rw⟩, ⟨3, 3, .rw⟩, ⟨2, 2, .rw⟩, ⟨1, 1, .rw⟩], fun _ _ => 0⟩
def R.LANE_STATUS : Reg := ⟨0x100004, 0x400, 64, 0x0, 1, [⟨31, 24, .ro⟩, ⟨17, 16, .ro⟩, ⟨5, 5, .ro⟩, ⟨4, 4, .ro⟩, ⟨3, 3, .ro⟩, ⟨2, 2, .ro⟩, ⟨1, 1, .ro⟩, ⟨0, 0, .ro⟩], fun _ _ => 0⟩
def R.LANE_EVT_STATUS : Reg := ⟨0x100008, 0x400, 64, 0x0, 1, [⟨4, 4, .w1c⟩, ⟨3, 3, .w1c⟩, ⟨2, 2, .w1c⟩, ⟨1, 1, .w1c⟩, ⟨0, 0, .w1c⟩], fun _ _ => 0⟩
def R.LANE_TX_EQ : Reg := ⟨0x10000C, 0x400, 64, 0x0, 1, [⟨31, 24, .rw⟩, ⟨23, 16, .rw⟩, ⟨15, 8, .rw⟩, ⟨7, 0, .rw⟩], fun _ _ => 0x4360600⟩
def R.LANE_PRBS_CTRL : Reg := ⟨0x100010, 0x400, 64, 0x0, 1, [⟨31, 31, .rw⟩, ⟨30, 30, .rw⟩, ⟨29, 28, .rw⟩, ⟨0, 0, .sc⟩], fun _ _ => 0⟩
def R.LANE_PRBS_ERR : Reg := ⟨0x100014, 0x400, 64, 0x0, 1, [⟨31, 0, .rc⟩], fun _ _ => 0⟩
def R.TIM_ID : Reg := ⟨0x20000, 0x0, 1, 0x0, 1, [⟨7, 4, .ro⟩], fun _ _ => 0x40⟩
def R.TIM_CTRL : Reg := ⟨0x20004, 0x0, 1, 0x0, 1, [⟨31, 30, .rwl⟩, ⟨29, 29, .rwl⟩, ⟨3, 3, .rw⟩, ⟨2, 2, .rw⟩, ⟨1, 1, .rw⟩, ⟨0, 0, .rw⟩], fun _ _ => 0x1⟩
def R.TIM_STATUS : Reg := ⟨0x20008, 0x0, 1, 0x0, 1, [⟨6, 6, .ro⟩, ⟨5, 5, .ro⟩, ⟨4, 4, .ro⟩, ⟨3, 3, .ro⟩, ⟨2, 2, .ro⟩, ⟨1, 1, .ro⟩, ⟨0, 0, .ro⟩], fun _ _ => 0x1⟩
def R.TIM_EVT_STATUS : Reg := ⟨0x2000C, 0x0, 1, 0x0, 1, [⟨11, 11, .w1c⟩, ⟨10, 10, .w1c⟩, ⟨9, 9, .w1c⟩, ⟨8, 8, .w1c⟩, ⟨7, 7, .w1c⟩, ⟨6, 6, .w1c⟩, ⟨5, 5, .w1c⟩, ⟨4, 4, .w1c⟩, ⟨3, 3, .w1c⟩, ⟨2, 2, .w1c⟩, ⟨1, 1, .w1c⟩, ⟨0, 0, .w1c⟩], fun _ _ => 0⟩
def R.TIM_SNAP_RAW_NS : Reg := ⟨0x20010, 0x0, 1, 0x0, 1, [⟨31, 0, .ro⟩], fun _ _ => 0⟩
def R.TIM_SNAP_RAW_WRAP : Reg := ⟨0x20014, 0x0, 1, 0x0, 1, [⟨15, 0, .ro⟩], fun _ _ => 0⟩
def R.TIM_SNAP_NET_NS : Reg := ⟨0x20018, 0x0, 1, 0x0, 1, [⟨31, 0, .ro⟩], fun _ _ => 0⟩
def R.TIM_SNAP_NET_WRAP : Reg := ⟨0x2001C, 0x0, 1, 0x0, 1, [⟨15, 0, .ro⟩], fun _ _ => 0⟩
def R.TIM_SNAP_SEC_LO : Reg := ⟨0x20020, 0x0, 1, 0x0, 1, [⟨31, 0, .ro⟩], fun _ _ => 0⟩
def R.TIM_SNAP_SEC_HI : Reg := ⟨0x20024, 0x0, 1, 0x0, 1, [⟨15, 0, .ro⟩], fun _ _ => 0⟩
def R.TIM_RATE : Reg := ⟨0x20028, 0x0, 1, 0x0, 1, [⟨31, 0, .ro⟩], fun _ _ => 0⟩
def R.TIM_SEC_NEXT_NS : Reg := ⟨0x2002C, 0x0, 1, 0x0, 1, [⟨31, 0, .ro⟩], fun _ _ => 0x3b9aca00⟩
def R.TIM_SEC_NEXT_WRAP : Reg := ⟨0x20030, 0x0, 1, 0x0, 1, [⟨15, 0, .ro⟩], fun _ _ => 0⟩
def R.TIM_STAGE_NS : Reg := ⟨0x20034, 0x0, 1, 0x0, 1, [⟨31, 0, .rw⟩], fun _ _ => 0⟩
def R.TIM_STAGE_WRAP : Reg := ⟨0x20038, 0x0, 1, 0x0, 1, [⟨15, 0, .rw⟩], fun _ _ => 0⟩
def R.TIM_STAGE_SECNEXT_NS : Reg := ⟨0x2003C, 0x0, 1, 0x0, 1, [⟨31, 0, .rw⟩], fun _ _ => 0⟩
def R.TIM_STAGE_SECNEXT_WRAP : Reg := ⟨0x20040, 0x0, 1, 0x0, 1, [⟨15, 0, .rw⟩], fun _ _ => 0⟩
def R.TIM_STAGE_SEC_LO : Reg := ⟨0x20044, 0x0, 1, 0x0, 1, [⟨31, 0, .rw⟩], fun _ _ => 0⟩
def R.TIM_STAGE_SEC_HI : Reg := ⟨0x20048, 0x0, 1, 0x0, 1, [⟨15, 0, .rw⟩], fun _ _ => 0⟩
def R.TIM_STAGE_RATE : Reg := ⟨0x2004C, 0x0, 1, 0x0, 1, [⟨31, 0, .rw⟩], fun _ _ => 0⟩
def R.TIM_ADJ_CMD : Reg := ⟨0x20050, 0x0, 1, 0x0, 1, [⟨31, 28, .wo⟩, ⟨27, 27, .wo⟩], fun _ _ => 0⟩
def R.TIM_ADJ_STATUS : Reg := ⟨0x20054, 0x0, 1, 0x0, 1, [⟨31, 30, .ro⟩, ⟨27, 24, .ro⟩, ⟨23, 16, .ro⟩, ⟨15, 0, .ro⟩], fun _ _ => 0⟩
def R.TIM_SYNC : Reg := ⟨0x20058, 0x0, 1, 0x0, 1, [⟨31, 30, .rw⟩, ⟨23, 0, .rw⟩], fun _ _ => 0xffffff⟩
def R.TIM_PPS_IN_CTRL : Reg := ⟨0x2005C, 0x0, 1, 0x0, 1, [⟨31, 31, .rw⟩, ⟨30, 30, .rw⟩, ⟨15, 0, .rw⟩], fun _ _ => 0⟩
def R.TIM_PPS_IN_NS : Reg := ⟨0x20060, 0x0, 1, 0x0, 1, [⟨31, 0, .ro⟩], fun _ _ => 0⟩
def R.TIM_PPS_IN_WRAP : Reg := ⟨0x20064, 0x0, 1, 0x0, 1, [⟨15, 0, .ro⟩], fun _ _ => 0⟩
def R.TIM_PPS_IN_STATUS : Reg := ⟨0x20068, 0x0, 1, 0x0, 1, [⟨31, 31, .rc⟩, ⟨30, 30, .rc⟩, ⟨15, 0, .ro⟩], fun _ _ => 0⟩
def R.TIM_TOD_CTRL : Reg := ⟨0x2006C, 0x0, 1, 0x0, 1, [⟨31, 31, .rw⟩, ⟨30, 30, .rw⟩], fun _ _ => 0x40000000⟩
def R.TIM_TOD_STATUS : Reg := ⟨0x20070, 0x0, 1, 0x0, 1, [⟨31, 31, .rc⟩, ⟨30, 30, .ro⟩, ⟨29, 29, .rc⟩, ⟨15, 0, .ro⟩], fun _ _ => 0⟩
def R.TIM_TOD_SEC_LO : Reg := ⟨0x20074, 0x0, 1, 0x0, 1, [⟨31, 0, .ro⟩], fun _ _ => 0⟩
def R.TIM_TOD_SEC_HI : Reg := ⟨0x20078, 0x0, 1, 0x0, 1, [⟨31, 16, .ro⟩, ⟨15, 0, .ro⟩], fun _ _ => 0⟩
def R.TIM_TOD_INFO : Reg := ⟨0x2007C, 0x0, 1, 0x0, 1, [⟨31, 24, .ro⟩, ⟨23, 16, .ro⟩, ⟨15, 8, .ro⟩, ⟨7, 0, .ro⟩], fun _ _ => 0⟩
def R.TIM_TOD_RX_NS : Reg := ⟨0x20080, 0x0, 1, 0x0, 1, [⟨31, 0, .ro⟩], fun _ _ => 0⟩
def R.TIM_CLK_CTRL : Reg := ⟨0x20084, 0x0, 1, 0x0, 1, [⟨31, 31, .rw⟩], fun _ _ => 0⟩
def R.TIM_CLK_MEAS : Reg := ⟨0x20088, 0x0, 1, 0x0, 1, [⟨31, 0, .ro⟩], fun _ _ => 0⟩
def R.TIM_TXS_INFO : Reg := ⟨0x2008C, 0x0, 1, 0x0, 1, [⟨31, 31, .rc⟩, ⟨30, 30, .rc⟩, ⟨28, 24, .rc⟩, ⟨23, 16, .rc⟩, ⟨15, 0, .rc⟩], fun _ _ => 0⟩
def R.TIM_TXS_NS : Reg := ⟨0x20090, 0x0, 1, 0x0, 1, [⟨31, 0, .ro⟩], fun _ _ => 0⟩
def R.TIM_CNT_TOD_ORPHAN : Reg := ⟨0x20094, 0x0, 1, 0x0, 1, [⟨31, 0, .rc⟩], fun _ _ => 0⟩
def R.TIM_PPS_OUT_CTRL : Reg := ⟨0x20098, 0x4, 4, 0x0, 1, [⟨31, 30, .rw⟩, ⟨29, 29, .rw⟩, ⟨28, 28, .ro⟩, ⟨19, 0, .rw⟩], fun _ _ => 0x64⟩
def R.TIM_PPS_OUT_PERIOD : Reg := ⟨0x200A8, 0x4, 4, 0x0, 1, [⟨31, 0, .rw⟩], fun _ _ => 0x3b9aca00⟩
def R.TIM_CNT_PPS_GLITCH : Reg := ⟨0x200B8, 0x0, 1, 0x0, 1, [⟨31, 0, .rc⟩], fun _ _ => 0⟩
def R.TIM_CNT_TOD_BAD : Reg := ⟨0x200BC, 0x0, 1, 0x0, 1, [⟨31, 0, .rc⟩], fun _ _ => 0⟩
def R.THY_ID : Reg := ⟨0x28000, 0x0, 1, 0x0, 1, [⟨12, 0, .ro⟩], fun _ _ => 0x1000⟩
def R.THY_CTRL : Reg := ⟨0x28004, 0x0, 1, 0x0, 1, [⟨31, 16, .rw⟩, ⟨1, 1, .rw⟩, ⟨0, 0, .rw⟩], fun _ _ => 0x3e80002⟩
def R.THY_STATUS : Reg := ⟨0x28008, 0x0, 1, 0x0, 1, [⟨3, 3, .ro⟩, ⟨2, 2, .ro⟩, ⟨1, 1, .ro⟩, ⟨0, 0, .ro⟩], fun _ _ => 0x1⟩
def R.THY_EVT_STATUS : Reg := ⟨0x2800C, 0x0, 1, 0x0, 1, [⟨5, 5, .w1c⟩, ⟨4, 4, .w1c⟩, ⟨3, 3, .w1c⟩, ⟨2, 2, .w1c⟩, ⟨1, 1, .w1c⟩, ⟨0, 0, .w1c⟩], fun _ _ => 0⟩
def R.THY_STAGE_ACTION : Reg := ⟨0x28010, 0x0, 1, 0x0, 1, [⟨31, 31, .rw⟩, ⟨7, 0, .rw⟩], fun _ _ => 0⟩
def R.THY_STAGE_AT_WRAP : Reg := ⟨0x28014, 0x0, 1, 0x0, 1, [⟨15, 0, .rw⟩], fun _ _ => 0⟩
def R.THY_STAGE_AT_NS : Reg := ⟨0x28018, 0x0, 1, 0x0, 1, [⟨31, 0, .rw⟩], fun _ _ => 0⟩
def R.THY_STAGE_ARG : Reg := ⟨0x2801C, 0x0, 1, 0x0, 1, [⟨31, 0, .rw⟩], fun _ _ => 0⟩
def R.THY_CMD : Reg := ⟨0x28020, 0x0, 1, 0x0, 1, [⟨31, 28, .wo⟩, ⟨27, 16, .wo⟩, ⟨15, 0, .wo⟩], fun _ _ => 0⟩
def R.THY_CMD_STATUS : Reg := ⟨0x28024, 0x0, 1, 0x0, 1, [⟨31, 30, .ro⟩, ⟨29, 28, .ro⟩, ⟨27, 24, .ro⟩, ⟨23, 16, .ro⟩, ⟨11, 0, .ro⟩], fun _ _ => 0⟩
def R.THY_CMD_TICKET : Reg := ⟨0x28028, 0x0, 1, 0x0, 1, [⟨15, 0, .ro⟩], fun _ _ => 0⟩
def R.THY_PENDING : Reg := ⟨0x2802C, 0x0, 1, 0x0, 1, [⟨28, 16, .ro⟩, ⟨12, 0, .ro⟩], fun _ _ => 0⟩
def R.THY_NEXT_INFO : Reg := ⟨0x28030, 0x0, 1, 0x0, 1, [⟨31, 31, .ro⟩, ⟨27, 20, .ro⟩, ⟨11, 0, .ro⟩], fun _ _ => 0⟩
def R.THY_NEXT_WRAP : Reg := ⟨0x28034, 0x0, 1, 0x0, 1, [⟨15, 0, .ro⟩], fun _ _ => 0⟩
def R.THY_NEXT_NS : Reg := ⟨0x28038, 0x0, 1, 0x0, 1, [⟨31, 0, .ro⟩], fun _ _ => 0⟩
def R.THY_DONE_FIFO : Reg := ⟨0x2803C, 0x0, 1, 0x0, 1, [⟨31, 31, .rc⟩, ⟨30, 30, .rc⟩, ⟨29, 29, .rc⟩, ⟨27, 20, .rc⟩, ⟨11, 0, .rc⟩], fun _ _ => 0⟩
def R.THY_DONE_TICKET : Reg := ⟨0x28040, 0x0, 1, 0x0, 1, [⟨31, 24, .ro⟩, ⟨15, 0, .ro⟩], fun _ _ => 0⟩
def R.THY_DONE_COUNT : Reg := ⟨0x28044, 0x0, 1, 0x0, 1, [⟨16, 0, .ro⟩], fun _ _ => 0⟩
def R.THY_USER_ARG : Reg := ⟨0x28048, 0x0, 1, 0x0, 1, [⟨31, 0, .ro⟩], fun _ _ => 0⟩
def R.THY_CNT_DONE : Reg := ⟨0x2804C, 0x0, 1, 0x0, 1, [⟨31, 0, .rc⟩], fun _ _ => 0⟩
def R.THY_CNT_ABORTED : Reg := ⟨0x28050, 0x0, 1, 0x0, 1, [⟨31, 0, .rc⟩], fun _ _ => 0⟩
def R.THY_CNT_REFUSED : Reg := ⟨0x28054, 0x0, 1, 0x0, 1, [⟨31, 0, .rc⟩], fun _ _ => 0⟩
def R.THY_CNT_STEPPED : Reg := ⟨0x28058, 0x0, 1, 0x0, 1, [⟨31, 0, .rc⟩], fun _ _ => 0⟩
def R.THY_CNT_SECONDS : Reg := ⟨0x2805C, 0x0, 1, 0x0, 1, [⟨31, 0, .rc⟩], fun _ _ => 0⟩
def R.SAGE_ID : Reg := ⟨0x50000, 0x0, 1, 0x0, 1, [⟨7, 0, .ro⟩], fun _ _ => 0x2⟩
def R.SAGE_CTRL : Reg := ⟨0x50004, 0x0, 1, 0x0, 1, [⟨3, 3, .sc⟩, ⟨2, 2, .rwl⟩, ⟨1, 1, .rw⟩, ⟨0, 0, .rw⟩], fun _ _ => 0x7⟩
def R.SAGE_STATUS : Reg := ⟨0x50008, 0x0, 1, 0x0, 1, [⟨7, 7, .ro⟩, ⟨6, 6, .ro⟩, ⟨5, 5, .ro⟩, ⟨4, 4, .ro⟩, ⟨3, 3, .ro⟩, ⟨1, 0, .ro⟩], fun _ _ => 0x1⟩
def R.SAGE_EVT_STATUS : Reg := ⟨0x5000C, 0x0, 1, 0x0, 1, [⟨11, 11, .w1c⟩, ⟨10, 10, .w1c⟩, ⟨9, 9, .w1c⟩, ⟨8, 8, .w1c⟩, ⟨7, 7, .w1c⟩, ⟨6, 6, .w1c⟩, ⟨5, 5, .w1c⟩, ⟨4, 4, .w1c⟩, ⟨3, 3, .w1c⟩, ⟨2, 2, .w1c⟩, ⟨1, 1, .w1c⟩, ⟨0, 0, .w1c⟩], fun _ _ => 0⟩
def R.SAGE_LEASE : Reg := ⟨0x50010, 0x0, 1, 0x0, 1, [⟨31, 30, .ro⟩, ⟨23, 0, .ro⟩], fun _ _ => 0x40002710⟩
def R.SAGE_RENEW : Reg := ⟨0x50014, 0x0, 1, 0x0, 1, [⟨0, 0, .wo⟩], fun _ _ => 0⟩
def R.SAGE_ALIVE : Reg := ⟨0x50018, 0x0, 1, 0x0, 1, [⟨1, 1, .wo⟩, ⟨0, 0, .wo⟩], fun _ _ => 0⟩
def R.SAGE_HANDOVER : Reg := ⟨0x5001C, 0x0, 1, 0x0, 1, [⟨0, 0, .wo⟩], fun _ _ => 0⟩
def R.SAGE_LEASE_CFG : Reg := ⟨0x50020, 0x0, 1, 0x0, 1, [⟨31, 16, .rwl⟩, ⟨15, 8, .rwl⟩, ⟨7, 0, .rwl⟩], fun _ _ => 0x3c050a⟩
def R.SAGE_WDT_CFG : Reg := ⟨0x50024, 0x0, 1, 0x0, 1, [⟨15, 0, .rwl⟩], fun _ _ => 0x32⟩
def R.SAGE_WDT_KICK : Reg := ⟨0x50028, 0x0, 1, 0x0, 1, [⟨0, 0, .wo⟩], fun _ _ => 0⟩
def R.SAGE_A_STATE : Reg := ⟨0x5002C, 0x0, 1, 0x0, 1, [⟨31, 29, .ro⟩, ⟨28, 28, .ro⟩, ⟨15, 0, .ro⟩], fun _ _ => 0x20000000⟩
def R.SAGE_B_STATE : Reg := ⟨0x50030, 0x0, 1, 0x0, 1, [⟨31, 29, .ro⟩, ⟨28, 28, .ro⟩, ⟨15, 0, .ro⟩], fun _ _ => 0x40000000⟩
def R.SAGE_FW_VERSION : Reg := ⟨0x50034, 0x0, 1, 0x0, 1, [⟨31, 0, .ro⟩], fun _ _ => 0⟩
def R.SAGE_CFG_VERSION : Reg := ⟨0x50038, 0x0, 1, 0x0, 1, [⟨31, 0, .ro⟩], fun _ _ => 0⟩
def R.SAGE_DIGEST_HI : Reg := ⟨0x5003C, 0x0, 1, 0x0, 1, [⟨31, 0, .ro⟩], fun _ _ => 0⟩
def R.SAGE_DIGEST_LO : Reg := ⟨0x50040, 0x0, 1, 0x0, 1, [⟨31, 0, .ro⟩], fun _ _ => 0⟩
def R.SAGE_CS_CMD : Reg := ⟨0x50044, 0x0, 1, 0x0, 1, [⟨31, 28, .wo⟩, ⟨15, 0, .wo⟩], fun _ _ => 0⟩
def R.SAGE_CS_STATUS : Reg := ⟨0x50048, 0x0, 1, 0x0, 1, [⟨31, 29, .ro⟩, ⟨28, 27, .ro⟩, ⟨23, 16, .ro⟩, ⟨15, 0, .ro⟩], fun _ _ => 0⟩
def R.SAGE_CS_AT_WRAP : Reg := ⟨0x5004C, 0x0, 1, 0x0, 1, [⟨15, 0, .ro⟩], fun _ _ => 0⟩
def R.SAGE_CS_AT_NS : Reg := ⟨0x50050, 0x0, 1, 0x0, 1, [⟨31, 0, .ro⟩], fun _ _ => 0⟩
def R.SAGE_MBOX_CTRL : Reg := ⟨0x50054, 0x0, 1, 0x0, 1, [⟨31, 31, .sc⟩], fun _ _ => 0⟩
def R.SAGE_MBOX_STATUS : Reg := ⟨0x50058, 0x0, 1, 0x0, 1, [⟨31, 31, .ro⟩, ⟨18, 0, .ro⟩], fun _ _ => 0⟩
def R.SAGE_MBOX_DATA : Reg := ⟨0x5005C, 0x0, 1, 0x0, 1, [⟨31, 0, .wo⟩], fun _ _ => 0⟩
def R.SAGE_DEFER_STATUS : Reg := ⟨0x50060, 0x0, 1, 0x0, 1, [⟨6, 0, .ro⟩], fun _ _ => 0⟩
def R.SAGE_EXC_LEVEL : Reg := ⟨0x50064, 0x0, 1, 0x0, 1, [⟨12, 0, .ro⟩], fun _ _ => 0⟩
def R.SAGE_BOOT_TIME : Reg := ⟨0x50068, 0x0, 1, 0x0, 1, [⟨31, 16, .ro⟩, ⟨15, 0, .ro⟩], fun _ _ => 0⟩
def R.SAGE_CNT_TAKEOVER : Reg := ⟨0x5006C, 0x0, 1, 0x0, 1, [⟨31, 0, .rc⟩], fun _ _ => 0⟩
def R.SAGE_CNT_DEFER_DROP : Reg := ⟨0x50070, 0x0, 1, 0x0, 1, [⟨31, 0, .rc⟩], fun _ _ => 0⟩
def R.SAGE_CNT_WDT : Reg := ⟨0x50074, 0x0, 1, 0x0, 1, [⟨31, 0, .rc⟩], fun _ _ => 0⟩
def R.SAGE_CNT_CS_DONE : Reg := ⟨0x50078, 0x0, 1, 0x0, 1, [⟨31, 0, .rc⟩], fun _ _ => 0⟩
def R.SAGE_CNT_CS_ABORTED : Reg := ⟨0x5007C, 0x0, 1, 0x0, 1, [⟨31, 0, .rc⟩], fun _ _ => 0⟩
def R.NVL_ID : Reg := ⟨0x58000, 0x0, 1, 0x0, 1, [⟨23, 16, .ro⟩, ⟨15, 8, .ro⟩, ⟨7, 0, .ro⟩], fun _ _ => 0⟩
def R.NVL_CTRL : Reg := ⟨0x58004, 0x0, 1, 0x0, 1, [⟨2, 2, .rw⟩, ⟨1, 1, .rw⟩], fun _ _ => 0x6⟩
def R.NVL_STATUS : Reg := ⟨0x58008, 0x0, 1, 0x0, 1, [⟨5, 5, .ro⟩, ⟨4, 4, .ro⟩, ⟨3, 3, .ro⟩, ⟨2, 2, .ro⟩, ⟨1, 1, .ro⟩, ⟨0, 0, .ro⟩], fun _ _ => 0⟩
def R.NVL_EVT_STATUS : Reg := ⟨0x5800C, 0x0, 1, 0x0, 1, [⟨9, 9, .w1c⟩, ⟨8, 8, .w1c⟩, ⟨7, 7, .w1c⟩, ⟨6, 6, .w1c⟩, ⟨5, 5, .w1c⟩, ⟨4, 4, .w1c⟩, ⟨3, 3, .w1c⟩, ⟨1, 1, .w1c⟩, ⟨0, 0, .w1c⟩], fun _ _ => 0⟩
def R.NVL_BOOT_INFO : Reg := ⟨0x58010, 0x0, 1, 0x0, 1, [⟨31, 31, .ro⟩, ⟨30, 30, .ro⟩, ⟨29, 28, .ro⟩, ⟨27, 24, .ro⟩, ⟨23, 20, .ro⟩, ⟨19, 0, .ro⟩], fun _ _ => 0⟩
def R.NVL_SLOT_A_VER : Reg := ⟨0x58014, 0x0, 1, 0x0, 1, [⟨31, 0, .ro⟩], fun _ _ => 0⟩
def R.NVL_SLOT_B_VER : Reg := ⟨0x58018, 0x0, 1, 0x0, 1, [⟨31, 0, .ro⟩], fun _ _ => 0⟩
def R.NVL_COMMIT_SEQ : Reg := ⟨0x5801C, 0x0, 1, 0x0, 1, [⟨31, 0, .ro⟩], fun _ _ => 0⟩
def R.NVL_UPD_CMD : Reg := ⟨0x58020, 0x0, 1, 0x0, 1, [⟨31, 28, .wo⟩, ⟨15, 0, .wo⟩], fun _ _ => 0⟩
def R.NVL_UPD_STATUS : Reg := ⟨0x58024, 0x0, 1, 0x0, 1, [⟨31, 29, .ro⟩, ⟨28, 27, .ro⟩, ⟨26, 26, .ro⟩, ⟨23, 16, .ro⟩, ⟨15, 0, .ro⟩], fun _ _ => 0⟩
def R.NVL_UPD_LEN : Reg := ⟨0x58028, 0x0, 1, 0x0, 1, [⟨24, 0, .rw⟩], fun _ _ => 0⟩
def R.NVL_UPD_OFFSET : Reg := ⟨0x5802C, 0x0, 1, 0x0, 1, [⟨24, 0, .ro⟩], fun _ _ => 0⟩
def R.NVL_UPD_DATA : Reg := ⟨0x58030, 0x0, 1, 0x0, 1, [⟨31, 0, .wo⟩], fun _ _ => 0⟩
def R.NVL_JRNL_STATUS : Reg := ⟨0x58034, 0x0, 1, 0x0, 1, [⟨31, 16, .ro⟩, ⟨15, 0, .ro⟩], fun _ _ => 0⟩
def R.NVL_RSM_STATUS : Reg := ⟨0x58038, 0x0, 1, 0x0, 1, [⟨31, 31, .ro⟩, ⟨27, 16, .ro⟩, ⟨6, 0, .ro⟩], fun _ _ => 0⟩
def R.NVL_WEAR_MAX : Reg := ⟨0x5803C, 0x0, 1, 0x0, 1, [⟨31, 0, .ro⟩], fun _ _ => 0⟩
def R.NVL_WEAR_MEAN : Reg := ⟨0x58040, 0x0, 1, 0x0, 1, [⟨31, 0, .ro⟩], fun _ _ => 0⟩
def R.NVL_ERASE_CNT : Reg := ⟨0x58044, 0x0, 1, 0x0, 1, [⟨31, 0, .rc⟩], fun _ _ => 0⟩
def R.NVL_SVN : Reg := ⟨0x58048, 0x0, 1, 0x0, 1, [⟨5, 0, .ro⟩], fun _ _ => 0⟩
def R.NVL_SVN_CMD : Reg := ⟨0x5804C, 0x0, 1, 0x0, 1, [⟨31, 28, .wo⟩, ⟨5, 0, .wo⟩], fun _ _ => 0⟩
def R.NVL_ERR_ADDR : Reg := ⟨0x58050, 0x0, 1, 0x0, 1, [⟨31, 31, .rc⟩, ⟨30, 30, .rc⟩, ⟨27, 0, .rc⟩], fun _ _ => 0⟩
def R.MNT_ID : Reg := ⟨0x30000, 0x0, 1, 0x0, 1, [⟨24, 16, .ro⟩, ⟨3, 0, .ro⟩], fun _ _ => 0x1800004⟩
def R.MNT_CTRL : Reg := ⟨0x30004, 0x0, 1, 0x0, 1, [⟨3, 3, .rw⟩, ⟨2, 2, .rw⟩, ⟨1, 1, .rw⟩, ⟨0, 0, .rw⟩], fun _ _ => 0x7⟩
def R.MNT_STATUS : Reg := ⟨0x30008, 0x0, 1, 0x0, 1, [⟨31, 29, .ro⟩, ⟨11, 8, .ro⟩, ⟨2, 0, .ro⟩], fun _ _ => 0⟩
def R.MNT_EVT_STATUS : Reg := ⟨0x3000C, 0x0, 1, 0x0, 1, [⟨6, 6, .w1c⟩, ⟨5, 5, .w1c⟩, ⟨4, 4, .w1c⟩, ⟨3, 3, .w1c⟩, ⟨2, 2, .w1c⟩, ⟨1, 1, .w1c⟩, ⟨0, 0, .w1c⟩], fun _ _ => 0⟩
def R.MNT_SRC_STATUS : Reg := ⟨0x30010, 0x0, 1, 0x0, 1, [⟨7, 6, .ro⟩, ⟨15, 14, .ro⟩, ⟨23, 22, .ro⟩, ⟨31, 30, .ro⟩, ⟨5, 3, .ro⟩, ⟨13, 11, .ro⟩, ⟨21, 19, .ro⟩, ⟨29, 27, .ro⟩, ⟨2, 2, .ro⟩, ⟨10, 10, .ro⟩, ⟨18, 18, .ro⟩, ⟨26, 26, .ro⟩, ⟨1, 1, .ro⟩, ⟨9, 9, .ro⟩, ⟨17, 17, .ro⟩, ⟨25, 25, .ro⟩], fun _ _ => 0⟩
def R.MNT_SRC_CTRL : Reg := ⟨0x30014, 0x0, 1, 0x0, 1, [⟨7, 4, .sc⟩, ⟨3, 0, .rw⟩], fun _ _ => 0xf⟩
def R.MNT_RESEED_CFG : Reg := ⟨0x30018, 0x0, 1, 0x0, 1, [⟨25, 21, .rwl⟩, ⟨9, 0, .rwl⟩], fun _ _ => 0x2000064⟩
def R.MNT_CMD : Reg := ⟨0x3001C, 0x0, 1, 0x0, 1, [⟨31, 28, .wo⟩, ⟨4, 0, .wo⟩], fun _ _ => 0⟩
def R.MNT_CMD_STATUS : Reg := ⟨0x30020, 0x0, 1, 0x0, 1, [⟨31, 30, .ro⟩, ⟨27, 24, .ro⟩, ⟨23, 16, .ro⟩], fun _ _ => 0⟩
def R.MNT_POOL_STATUS : Reg := ⟨0x30024, 0x0, 1, 0x0, 1, [⟨15, 12, .ro⟩, ⟨3, 0, .ro⟩], fun _ _ => 0⟩
def R.MNT_DRBG_STATUS : Reg := ⟨0x30028, 0x0, 1, 0x0, 1, [⟨31, 21, .ro⟩, ⟨20, 0, .ro⟩], fun _ _ => 0⟩
def R.MNT_KEY_OUT : Reg := ⟨0x3002C, 0x0, 1, 0x0, 1, [⟨31, 0, .rc⟩], fun _ _ => 0⟩
def R.MNT_RAND_OUT : Reg := ⟨0x30030, 0x0, 1, 0x0, 1, [⟨31, 0, .rc⟩], fun _ _ => 0⟩
def R.MNT_OUT_STATUS : Reg := ⟨0x30034, 0x0, 1, 0x0, 1, [⟨20, 16, .ro⟩, ⟨4, 0, .ro⟩], fun _ _ => 0⟩
def R.MNT_TEST_CTRL : Reg := ⟨0x30038, 0x0, 1, 0x0, 1, [⟨31, 28, .rw⟩, ⟨27, 27, .rw⟩, ⟨26, 26, .rw⟩, ⟨25, 24, .rw⟩, ⟨23, 23, .rw⟩, ⟨8, 0, .ro⟩], fun _ _ => 0⟩
def R.MNT_TEST_DATA : Reg := ⟨0x3003C, 0x0, 1, 0x0, 1, [⟨31, 30, .wo⟩], fun _ _ => 0⟩
def R.MNT_TEST_OUT : Reg := ⟨0x30040, 0x0, 1, 0x0, 1, [⟨31, 0, .rc⟩], fun _ _ => 0⟩
def R.MNT_RAW_CAPTURE : Reg := ⟨0x30044, 0x0, 1, 0x0, 1, [⟨31, 16, .rc⟩, ⟨15, 15, .rc⟩, ⟨14, 14, .rc⟩], fun _ _ => 0⟩
def R.MNT_HT_CFG : Reg := ⟨0x30048, 0x0, 1, 0x0, 1, [⟨31, 16, .ro⟩, ⟨15, 8, .ro⟩, ⟨7, 0, .ro⟩], fun _ _ => 0x34051e9⟩
def R.MNT_MASK_PENDING : Reg := ⟨0x3004C, 0x0, 1, 0x0, 1, [⟨24, 16, .ro⟩, ⟨8, 0, .ro⟩], fun _ _ => 0⟩
def R.MNT_MASK_WAIT_MAX : Reg := ⟨0x30050, 0x0, 1, 0x0, 1, [⟨31, 0, .rc⟩], fun _ _ => 0⟩
def R.MNT_CNT_HT_FAIL : Reg := ⟨0x30054, 0x4, 4, 0x0, 1, [⟨31, 0, .rc⟩], fun _ _ => 0⟩
def R.MNT_CNT_BLOCKS : Reg := ⟨0x30064, 0x0, 1, 0x0, 1, [⟨31, 0, .rc⟩], fun _ _ => 0⟩
def R.MNT_CNT_POOL_DROP : Reg := ⟨0x30068, 0x0, 1, 0x0, 1, [⟨31, 0, .rc⟩], fun _ _ => 0⟩
def R.MNT_CNT_RESEED : Reg := ⟨0x3006C, 0x0, 1, 0x0, 1, [⟨31, 0, .rc⟩], fun _ _ => 0⟩
def R.MNT_CNT_MASK_SEED : Reg := ⟨0x30070, 0x0, 1, 0x0, 1, [⟨31, 0, .rc⟩], fun _ _ => 0⟩
def R.MNT_CNT_KEY_REQ : Reg := ⟨0x30074, 0x0, 1, 0x0, 1, [⟨31, 0, .rc⟩], fun _ _ => 0⟩
def R.MNT_CNT_SAGE_REQ : Reg := ⟨0x30078, 0x0, 1, 0x0, 1, [⟨31, 0, .rc⟩], fun _ _ => 0⟩
def R.MNT_CNT_STARVED : Reg := ⟨0x3007C, 0x0, 1, 0x0, 1, [⟨31, 0, .rc⟩], fun _ _ => 0⟩
def R.EVT_ID : Reg := ⟨0x10000, 0x0, 1, 0x0, 1, [⟨31, 16, .ro⟩, ⟨15, 8, .ro⟩], fun _ _ => 0x6003000⟩
def R.EVT_CTRL : Reg := ⟨0x10004, 0x0, 1, 0x0, 1, [⟨0, 0, .rw⟩], fun _ _ => 0x1⟩
def R.EVT_STATUS : Reg := ⟨0x10008, 0x0, 1, 0x0, 1, [⟨2, 2, .ro⟩, ⟨1, 1, .ro⟩, ⟨0, 0, .ro⟩], fun _ _ => 0⟩
def R.EVT_EVT_STATUS : Reg := ⟨0x1000C, 0x0, 1, 0x0, 1, [⟨3, 3, .w1c⟩, ⟨2, 2, .w1c⟩, ⟨1, 1, .w1c⟩, ⟨0, 0, .w1c⟩], fun _ _ => 0⟩
def R.EVT_SEQ : Reg := ⟨0x10010, 0x0, 1, 0x0, 1, [⟨31, 0, .ro⟩], fun _ _ => 0⟩
def R.EVT_IRQ_SUM_LO : Reg := ⟨0x10014, 0x0, 1, 0x0, 1, [⟨31, 0, .ro⟩], fun _ _ => 0⟩
def R.EVT_IRQ_SUM_HI : Reg := ⟨0x10018, 0x0, 1, 0x0, 1, [⟨15, 0, .ro⟩], fun _ _ => 0⟩
def R.EVT_ALARM_SUM_LO : Reg := ⟨0x1001C, 0x0, 1, 0x0, 1, [⟨31, 0, .ro⟩], fun _ _ => 0⟩
def R.EVT_ALARM_SUM_HI : Reg := ⟨0x10020, 0x0, 1, 0x0, 1, [⟨15, 0, .ro⟩], fun _ _ => 0⟩
def R.EVT_FIFO_INFO : Reg := ⟨0x10024, 0x0, 1, 0x0, 1, [⟨31, 31, .rc⟩, ⟨30, 30, .rc⟩, ⟨29, 29, .rc⟩, ⟨26, 16, .rc⟩, ⟨15, 11, .rc⟩], fun _ _ => 0⟩
def R.EVT_FIFO_SEQ : Reg := ⟨0x10028, 0x0, 1, 0x0, 1, [⟨31, 0, .ro⟩], fun _ _ => 0⟩
def R.EVT_FIFO_WRAP : Reg := ⟨0x1002C, 0x0, 1, 0x0, 1, [⟨15, 0, .ro⟩], fun _ _ => 0⟩
def R.EVT_FIFO_NS : Reg := ⟨0x10030, 0x0, 1, 0x0, 1, [⟨31, 0, .ro⟩], fun _ _ => 0⟩
def R.EVT_FIFO_LEVEL : Reg := ⟨0x10034, 0x0, 1, 0x0, 1, [⟨10, 0, .ro⟩], fun _ _ => 0⟩
def R.EVT_SW_RAISE : Reg := ⟨0x10038, 0x0, 1, 0x0, 1, [⟨4, 0, .wo⟩], fun _ _ => 0⟩
def R.EVT_FORCE : Reg := ⟨0x1003C, 0x0, 1, 0x0, 1, [⟨26, 16, .wo⟩, ⟨15, 11, .wo⟩], fun _ _ => 0⟩
def R.EVT_RSM_CTRL : Reg := ⟨0x10040, 0x0, 1, 0x0, 1, [⟨15, 0, .rwl⟩], fun _ _ => 0x3e8⟩
def R.EVT_RSM_STATUS : Reg := ⟨0x10044, 0x0, 1, 0x0, 1, [⟨31, 31, .ro⟩, ⟨30, 30, .ro⟩, ⟨29, 29, .ro⟩, ⟨12, 0, .ro⟩], fun _ _ => 0⟩
def R.EVT_RSM_LSEQ_LO : Reg := ⟨0x10048, 0x0, 1, 0x0, 1, [⟨31, 0, .ro⟩], fun _ _ => 0⟩
def R.EVT_RSM_LSEQ_HI : Reg := ⟨0x1004C, 0x0, 1, 0x0, 1, [⟨31, 0, .ro⟩], fun _ _ => 0⟩
def R.EVT_RSM_DURABLE_LO : Reg := ⟨0x10050, 0x0, 1, 0x0, 1, [⟨31, 0, .ro⟩], fun _ _ => 0⟩
def R.EVT_RSM_DURABLE_HI : Reg := ⟨0x10054, 0x0, 1, 0x0, 1, [⟨31, 0, .ro⟩], fun _ _ => 0⟩
def R.EVT_RSM_BUCKET : Reg := ⟨0x10058, 0x0, 1, 0x0, 1, [⟨23, 0, .ro⟩], fun _ _ => 0xe10⟩
def R.EVT_BOOT_COUNT : Reg := ⟨0x1005C, 0x0, 1, 0x0, 1, [⟨31, 0, .ro⟩], fun _ _ => 0⟩
def R.EVT_GRP_LATCH : Reg := ⟨0x10100, 0x4, 48, 0x0, 1, [⟨31, 0, .w1c⟩], fun _ _ => 0⟩
def R.EVT_GRP_IRQ_EN : Reg := ⟨0x10200, 0x4, 48, 0x0, 1, [⟨31, 0, .rw⟩], fun _ _ => 0⟩
def R.EVT_GRP_ALARM_EN : Reg := ⟨0x10300, 0x4, 48, 0x0, 1, [⟨31, 0, .rw⟩], fun i _ => (alarmMask i)⟩
def R.EVT_GRP_LOG_EN : Reg := ⟨0x10400, 0x4, 48, 0x0, 1, [⟨31, 0, .rw⟩], fun i _ => (alarmMask i)⟩
def R.TAMP_ID : Reg := ⟨0x40000, 0x0, 1, 0x0, 1, [⟨15, 8, .ro⟩, ⟨7, 0, .ro⟩], fun _ _ => 0xc60⟩
def R.TAMP_CTRL : Reg := ⟨0x40004, 0x0, 1, 0x0, 1, [⟨31, 31, .rwl⟩, ⟨15, 0, .rwl⟩], fun _ _ => 0x3e8⟩
def R.TAMP_STATUS : Reg := ⟨0x40008, 0x0, 1, 0x0, 1, [⟨31, 31, .ro⟩, ⟨30, 30, .ro⟩, ⟨29, 29, .ro⟩, ⟨28, 28, .ro⟩, ⟨27, 27, .ro⟩, ⟨26, 26, .ro⟩, ⟨11, 0, .ro⟩], fun _ _ => 0⟩
def R.TAMP_EVT_STATUS : Reg := ⟨0x4000C, 0x0, 1, 0x0, 1, [⟨4, 4, .w1c⟩, ⟨3, 3, .w1c⟩, ⟨2, 2, .w1c⟩, ⟨1, 1, .w1c⟩, ⟨0, 0, .w1c⟩], fun _ _ => 0⟩
def R.TAMP_RESPONSE : Reg := ⟨0x40010, 0x0, 1, 0x0, 1, [⟨31, 30, .ro⟩, ⟨10, 0, .ro⟩], fun _ _ => 0⟩
def R.TAMP_UNMUTE : Reg := ⟨0x40014, 0x0, 1, 0x0, 1, [⟨2, 2, .wo⟩, ⟨1, 1, .wo⟩, ⟨0, 0, .wo⟩], fun _ _ => 0⟩
def R.TAMP_FUSE_CONFIRM : Reg := ⟨0x40018, 0x0, 1, 0x0, 1, [⟨31, 0, .wo⟩], fun _ _ => 0⟩
def R.TAMP_FUSE_CMD : Reg := ⟨0x4001C, 0x0, 1, 0x0, 1, [⟨11, 0, .wo⟩], fun _ _ => 0⟩
def R.TAMP_FUSE_STATUS : Reg := ⟨0x40020, 0x0, 1, 0x0, 1, [⟨31, 31, .ro⟩, ⟨30, 30, .ro⟩, ⟨11, 0, .ro⟩], fun _ _ => 0⟩
def R.TAMP_STICKY_ENV : Reg := ⟨0x40024, 0x0, 1, 0x0, 1, [⟨21, 0, .w1c⟩], fun _ _ => 0⟩
def R.TAMP_STICKY_MISC : Reg := ⟨0x40028, 0x0, 1, 0x0, 1, [⟨11, 11, .w1c⟩, ⟨10, 10, .w1c⟩, ⟨9, 9, .w1c⟩, ⟨8, 5, .w1c⟩, ⟨4, 4, .w1c⟩, ⟨3, 3, .w1c⟩], fun _ _ => 0⟩
def R.TAMP_CLASS_ENV_LO : Reg := ⟨0x4002C, 0x0, 1, 0x0, 1, [⟨31, 0, .rwl⟩], fun _ _ => 0xaa88⟩
def R.TAMP_CLASS_ENV_HI : Reg := ⟨0x40030, 0x0, 1, 0x0, 1, [⟨11, 0, .rwl⟩], fun _ _ => 0x20⟩
def R.TAMP_CLASS_MISC : Reg := ⟨0x40034, 0x0, 1, 0x0, 1, [⟨7, 6, .rwl⟩, ⟨5, 4, .rwl⟩, ⟨3, 2, .rwl⟩, ⟨1, 0, .rwl⟩], fun _ _ => 0x2⟩
def R.TAMP_VMON_CFG : Reg := ⟨0x40038, 0x0, 1, 0x0, 1, [⟨31, 24, .rwl⟩, ⟨23, 16, .rwl⟩, ⟨15, 8, .rwl⟩, ⟨7, 0, .rwl⟩], fun _ _ => 0x53b953b9⟩
def R.TAMP_TEMP_CFG : Reg := ⟨0x4003C, 0x0, 1, 0x0, 1, [⟨15, 8, .rwl⟩, ⟨7, 0, .rwl⟩], fun _ _ => 0x6900⟩
def R.TAMP_REG_CTRL : Reg := ⟨0x40100, 0x10, 12, 0x0, 1, [⟨31, 30, .rwl⟩, ⟨15, 0, .rwl⟩], fun _ _ => 0x80000064⟩
def R.TAMP_REG_STATUS : Reg := ⟨0x40104, 0x10, 12, 0x0, 1, [⟨31, 31, .ro⟩, ⟨30, 30, .ro⟩, ⟨7, 0, .ro⟩], fun _ _ => 0⟩
def R.TAMP_REG_STICKY : Reg := ⟨0x40108, 0x10, 12, 0x0, 1, [⟨8, 8, .w1c⟩, ⟨7, 0, .w1c⟩], fun _ _ => 0⟩
def R.TAMP_REG_CNT : Reg := ⟨0x4010C, 0x10, 12, 0x0, 1, [⟨31, 0, .rc⟩], fun _ _ => 0⟩
def R.RST_ID : Reg := ⟨0x1000, 0x0, 1, 0x0, 1, [⟨15, 8, .ro⟩, ⟨7, 0, .ro⟩], fun _ _ => 0x1005⟩
def R.RST_CTRL : Reg := ⟨0x1004, 0x0, 1, 0x0, 1, [⟨3, 3, .rw⟩, ⟨2, 2, .rwl⟩, ⟨1, 1, .rwl⟩, ⟨0, 0, .rwl⟩], fun _ _ => 0xf⟩
def R.RST_STATUS : Reg := ⟨0x1008, 0x0, 1, 0x0, 1, [⟨4, 4, .ro⟩, ⟨3, 3, .ro⟩, ⟨2, 2, .ro⟩, ⟨1, 1, .ro⟩, ⟨0, 0, .ro⟩], fun _ _ => 0x1⟩
def R.RST_EVT_STATUS : Reg := ⟨0x100C, 0x0, 1, 0x0, 1, [⟨9, 9, .w1c⟩, ⟨8, 8, .w1c⟩, ⟨7, 7, .w1c⟩, ⟨6, 6, .w1c⟩, ⟨5, 5, .w1c⟩, ⟨4, 4, .w1c⟩, ⟨3, 3, .w1c⟩, ⟨2, 2, .w1c⟩, ⟨1, 1, .w1c⟩, ⟨0, 0, .w1c⟩], fun _ _ => 0⟩
def R.RST_CAUSE : Reg := ⟨0x1010, 0x0, 1, 0x0, 1, [⟨31, 16, .ro⟩, ⟨3, 0, .ro⟩], fun _ _ => 0⟩
def R.RST_CAUSE_HIST : Reg := ⟨0x1014, 0x0, 1, 0x0, 1, [⟨31, 0, .ro⟩], fun _ _ => 0⟩
def R.RST_SW_CMD : Reg := ⟨0x1018, 0x0, 1, 0x0, 1, [⟨31, 16, .wo⟩, ⟨2, 0, .wo⟩], fun _ _ => 0⟩
def R.RST_DOMAIN_STATUS : Reg := ⟨0x101C, 0x0, 1, 0x0, 1, [⟨19, 16, .ro⟩, ⟨15, 12, .ro⟩, ⟨11, 8, .ro⟩, ⟨7, 4, .ro⟩, ⟨3, 0, .ro⟩], fun _ _ => 0x11111⟩
def R.RST_MGMT_KEY : Reg := ⟨0x1020, 0x0, 1, 0x0, 1, [⟨31, 0, .rwl⟩], fun _ _ => 0x9e376b21⟩
def R.RST_STRAP : Reg := ⟨0x1024, 0x0, 1, 0x0, 1, [⟨31, 31, .ro⟩, ⟨30, 30, .ro⟩, ⟨23, 20, .ro⟩, ⟨19, 0, .ro⟩], fun _ _ => 0⟩
def R.RST_SETTINGS : Reg := ⟨0x1028, 0x0, 1, 0x0, 1, [⟨31, 28, .ro⟩, ⟨3, 3, .ro⟩, ⟨2, 2, .ro⟩, ⟨1, 1, .ro⟩, ⟨0, 0, .ro⟩], fun _ _ => 0⟩
def R.RST_OPT_LO : Reg := ⟨0x102C, 0x0, 1, 0x0, 1, [⟨31, 0, .ro⟩], fun _ _ => 0⟩
def R.RST_OPT_HI : Reg := ⟨0x1030, 0x0, 1, 0x0, 1, [⟨31, 0, .ro⟩], fun _ _ => 0⟩
def R.RST_TRIM_STATUS : Reg := ⟨0x1034, 0x0, 1, 0x0, 1, [⟨31, 31, .ro⟩, ⟨30, 30, .ro⟩, ⟨29, 29, .ro⟩, ⟨15, 0, .ro⟩], fun _ _ => 0⟩
def R.RST_ZERO_STATUS : Reg := ⟨0x1038, 0x0, 1, 0x0, 1, [⟨31, 31, .ro⟩, ⟨30, 30, .ro⟩, ⟨29, 29, .ro⟩, ⟨15, 0, .ro⟩], fun _ _ => 0⟩
def R.RST_LOCKUP_STATUS : Reg := ⟨0x103C, 0x0, 1, 0x0, 1, [⟨31, 31, .ro⟩, ⟨30, 30, .ro⟩, ⟨19, 16, .ro⟩, ⟨15, 0, .ro⟩], fun _ _ => 0⟩
def R.RST_CLK_STATUS : Reg := ⟨0x1040, 0x0, 1, 0x0, 1, [⟨8, 8, .ro⟩, ⟨7, 4, .rc⟩, ⟨3, 0, .ro⟩], fun _ _ => 0⟩
def R.RST_BOOT_STAGE : Reg := ⟨0x1044, 0x0, 1, 0x0, 1, [⟨31, 28, .ro⟩, ⟨15, 0, .ro⟩], fun _ _ => 0⟩
def R.RST_REL_TIME : Reg := ⟨0x1048, 0x4, 4, 0x0, 1, [⟨23, 0, .ro⟩], fun _ _ => 0⟩
def R.RST_DOM_REL_WRAP : Reg := ⟨0x1058, 0x4, 3, 0x0, 1, [⟨15, 0, .ro⟩], fun _ _ => 0⟩
def R.RST_DOM_REL_NS : Reg := ⟨0x1064, 0x4, 3, 0x0, 1, [⟨31, 0, .ro⟩], fun _ _ => 0⟩
def R.RST_CNT_DOMAIN : Reg := ⟨0x1070, 0x4, 4, 0x0, 1, [⟨31, 0, .rc⟩], fun _ _ => 0⟩
def R.RST_CNT : Reg := ⟨0x1080, 0x4, 16, 0x0, 1, [⟨31, 0, .rc⟩], fun _ _ => 0⟩
def R.PWR_ID : Reg := ⟨0x2000, 0x0, 1, 0x0, 1, [⟨15, 8, .ro⟩, ⟨7, 0, .ro⟩], fun _ _ => 0xc5a⟩
def R.PWR_CTRL : Reg := ⟨0x2004, 0x0, 1, 0x0, 1, [⟨3, 3, .rw⟩, ⟨2, 2, .rw⟩, ⟨1, 1, .rw⟩, ⟨0, 0, .rw⟩], fun _ _ => 0xf⟩
def R.PWR_STATUS : Reg := ⟨0x2008, 0x0, 1, 0x0, 1, [⟨7, 7, .ro⟩, ⟨6, 6, .ro⟩, ⟨5, 5, .ro⟩, ⟨4, 4, .ro⟩, ⟨3, 3, .ro⟩, ⟨2, 2, .ro⟩, ⟨1, 1, .ro⟩, ⟨0, 0, .ro⟩], fun _ _ => 0⟩
def R.PWR_EVT_STATUS : Reg := ⟨0x200C, 0x0, 1, 0x0, 1, [⟨6, 6, .w1c⟩, ⟨5, 5, .w1c⟩, ⟨4, 4, .w1c⟩, ⟨3, 3, .w1c⟩, ⟨2, 2, .w1c⟩, ⟨1, 1, .w1c⟩, ⟨0, 0, .w1c⟩], fun _ _ => 0⟩
def R.PWR_VIN_MEAS : Reg := ⟨0x2010, 0x0, 1, 0x0, 1, [⟨15, 0, .ro⟩], fun _ _ => 0⟩
def R.PWR_VAUX_MEAS : Reg := ⟨0x2014, 0x0, 1, 0x0, 1, [⟨15, 0, .ro⟩], fun _ _ => 0⟩
def R.PWR_IIN_MEAS : Reg := ⟨0x2018, 0x0, 1, 0x0, 1, [⟨15, 0, .ro⟩], fun _ _ => 0⟩
def R.PWR_PIN_MEAS : Reg := ⟨0x201C, 0x0, 1, 0x0, 1, [⟨15, 0, .ro⟩], fun _ _ => 0⟩
def R.PWR_PIN_MAX : Reg := ⟨0x2020, 0x0, 1, 0x0, 1, [⟨15, 0, .rc⟩], fun _ _ => 0⟩
def R.PWR_ENERGY_LO : Reg := ⟨0x2024, 0x0, 1, 0x0, 1, [⟨31, 0, .ro⟩], fun _ _ => 0⟩
def R.PWR_ENERGY_HI : Reg := ⟨0x2028, 0x0, 1, 0x0, 1, [⟨31, 0, .ro⟩], fun _ _ => 0⟩
def R.PWR_PIN_WARN : Reg := ⟨0x202C, 0x0, 1, 0x0, 1, [⟨15, 0, .rw⟩], fun _ _ => 0x125c⟩
def R.PWR_VIN_MIN : Reg := ⟨0x2030, 0x0, 1, 0x0, 1, [⟨15, 0, .rc⟩], fun _ _ => 0xffff⟩
def R.PWR_SEQ_STATUS : Reg := ⟨0x2034, 0x0, 1, 0x0, 1, [⟨31, 28, .ro⟩, ⟨15, 0, .ro⟩], fun _ _ => 0⟩
def R.PWR_CAL_STATUS : Reg := ⟨0x2038, 0x0, 1, 0x0, 1, [⟨31, 31, .ro⟩, ⟨15, 0, .ro⟩], fun _ _ => 0⟩
def R.PWR_PHASE_SHED : Reg := ⟨0x203C, 0x4, 3, 0x0, 1, [⟨31, 0, .ro⟩], fun _ _ => 0⟩
def R.PWR_TRIM_VCORE : Reg := ⟨0x2048, 0x0, 1, 0x0, 1, [⟨15, 0, .ro⟩], fun _ _ => 0x320⟩
def R.PWR_RAIL_CTRL : Reg := ⟨0x2100, 0x20, 12, 0x0, 1, [⟨8, 8, .rw⟩, ⟨7, 0, .rw⟩], fun _ _ => 0x100⟩
def R.PWR_RAIL_STATUS : Reg := ⟨0x2104, 0x20, 12, 0x0, 1, [⟨31, 31, .ro⟩, ⟨30, 30, .ro⟩, ⟨29, 29, .ro⟩, ⟨23, 16, .ro⟩, ⟨15, 8, .ro⟩], fun i _ => (railPhases.getD i 0) <<< 8⟩
def R.PWR_RAIL_VOLT : Reg := ⟨0x2108, 0x20, 12, 0x0, 1, [⟨31, 16, .ro⟩, ⟨15, 0, .ro⟩], fun i _ => (railTargetMv.getD i 0) <<< 16⟩
def R.PWR_RAIL_CURR : Reg := ⟨0x210C, 0x20, 12, 0x0, 1, [⟨31, 16, .ro⟩, ⟨15, 0, .ro⟩], fun i _ => (railRatedDa.getD i 0) <<< 16⟩
def R.PWR_RAIL_PEAK : Reg := ⟨0x2110, 0x20, 12, 0x0, 1, [⟨31, 16, .rc⟩, ⟨15, 0, .rc⟩], fun _ _ => 0xffff0000⟩
def R.PWR_RAIL_TRIM : Reg := ⟨0x2114, 0x20, 12, 0x0, 1, [⟨31, 31, .ro⟩, ⟨15, 8, .ro⟩], fun _ _ => 0⟩
def R.GLB_ID : Reg := ⟨0x0, 0x0, 1, 0x0, 1, [⟨31, 16, .ro⟩, ⟨15, 12, .ro⟩, ⟨0, 0, .ro⟩], fun _ _ => 0x64002000⟩
def R.GLB_STEPPING : Reg := ⟨0x4, 0x0, 1, 0x0, 1, [⟨7, 0, .ro⟩], fun _ _ => 0xb0⟩
def R.GLB_SERIAL_HI : Reg := ⟨0x8, 0x0, 1, 0x0, 1, [⟨31, 0, .ro⟩], fun _ _ => 0⟩
def R.GLB_SERIAL_LO : Reg := ⟨0xC, 0x0, 1, 0x0, 1, [⟨31, 0, .ro⟩], fun _ _ => 0⟩
def R.GLB_CAP_UNITS : Reg := ⟨0x10, 0x0, 1, 0x0, 1, [⟨31, 28, .ro⟩, ⟨27, 24, .ro⟩, ⟨23, 20, .ro⟩, ⟨19, 16, .ro⟩, ⟨15, 8, .ro⟩, ⟨7, 4, .ro⟩], fun _ _ => 0x82482080⟩
def R.GLB_CAP_SA : Reg := ⟨0x14, 0x0, 1, 0x0, 1, [⟨31, 16, .ro⟩, ⟨15, 0, .ro⟩], fun _ _ => 0x20002000⟩
def R.GLB_CAP_SERVICES : Reg := ⟨0x18, 0x0, 1, 0x0, 1, [⟨31, 16, .ro⟩, ⟨15, 0, .ro⟩], fun _ _ => 0x40001000⟩
def R.GLB_CAP_CLASSIFY : Reg := ⟨0x1C, 0x0, 1, 0x0, 1, [⟨31, 14, .ro⟩, ⟨13, 0, .ro⟩], fun _ _ => 0x80002000⟩
def R.GLB_CAP_LEARN : Reg := ⟨0x20, 0x0, 1, 0x0, 1, [⟨31, 16, .ro⟩, ⟨15, 0, .ro⟩], fun _ _ => 0x80000400⟩
def R.GLB_CAP_DESC : Reg := ⟨0x24, 0x0, 1, 0x0, 1, [⟨31, 8, .ro⟩, ⟨7, 0, .ro⟩], fun _ _ => 0x80000019⟩
def R.GLB_CTRL : Reg := ⟨0x28, 0x0, 1, 0x0, 1, [⟨1, 1, .rw⟩, ⟨0, 0, .rw⟩], fun _ _ => 0x1⟩
def R.GLB_STATUS : Reg := ⟨0x2C, 0x0, 1, 0x0, 1, [⟨3, 3, .ro⟩, ⟨2, 2, .ro⟩, ⟨1, 1, .ro⟩, ⟨0, 0, .ro⟩], fun _ _ => 0x9⟩
def R.GLB_EVT_STATUS : Reg := ⟨0x30, 0x0, 1, 0x0, 1, [⟨5, 5, .w1c⟩, ⟨4, 4, .w1c⟩, ⟨3, 3, .w1c⟩, ⟨2, 2, .w1c⟩, ⟨1, 1, .w1c⟩, ⟨0, 0, .w1c⟩], fun _ _ => 0⟩
def R.GLB_LCS_STATUS : Reg := ⟨0x34, 0x0, 1, 0x0, 1, [⟨31, 29, .ro⟩, ⟨28, 26, .ro⟩, ⟨25, 25, .ro⟩, ⟨24, 24, .ro⟩, ⟨23, 16, .ro⟩], fun _ _ => 0⟩
def R.GLB_LCS_CONFIRM : Reg := ⟨0x38, 0x0, 1, 0x0, 1, [⟨31, 0, .wo⟩], fun _ _ => 0⟩
def R.GLB_LCS_CMD : Reg := ⟨0x3C, 0x0, 1, 0x0, 1, [⟨31, 28, .wo⟩], fun _ _ => 0⟩
def R.GLB_KEYSLOT_STATUS : Reg := ⟨0x40, 0x0, 1, 0x0, 1, [⟨31, 28, .ro⟩, ⟨27, 24, .ro⟩, ⟨23, 22, .ro⟩, ⟨21, 20, .ro⟩, ⟨19, 19, .ro⟩, ⟨18, 18, .ro⟩], fun _ _ => 0xc00000⟩
def R.GLB_KEYSLOT_CMD : Reg := ⟨0x44, 0x0, 1, 0x0, 1, [⟨31, 28, .wo⟩, ⟨1, 0, .wo⟩], fun _ _ => 0⟩
def R.GLB_MGMT_CFG : Reg := ⟨0x48, 0x0, 1, 0x0, 1, [⟨31, 31, .rwl⟩, ⟨30, 30, .rwl⟩, ⟨22, 16, .rwl⟩], fun _ _ => 0xc04c0000⟩
def R.GLB_MGMT_STATUS : Reg := ⟨0x4C, 0x0, 1, 0x0, 1, [⟨3, 3, .ro⟩, ⟨2, 2, .ro⟩, ⟨1, 1, .ro⟩, ⟨0, 0, .ro⟩], fun _ _ => 0⟩
def R.GLB_ETH_CFG : Reg := ⟨0x50, 0x0, 1, 0x0, 1, [⟨31, 31, .rwl⟩, ⟨30, 30, .rwl⟩, ⟨15, 0, .rwl⟩], fun _ _ => 0x400088b6⟩
def R.GLB_ETH_STATUS : Reg := ⟨0x54, 0x0, 1, 0x0, 1, [⟨31, 31, .ro⟩, ⟨30, 30, .ro⟩, ⟨29, 29, .ro⟩], fun _ _ => 0⟩
def R.GLB_SESSION_STATUS : Reg := ⟨0x58, 0x0, 1, 0x0, 1, [⟨31, 28, .ro⟩, ⟨27, 24, .ro⟩, ⟨7, 0, .ro⟩], fun _ _ => 0⟩
def R.GLB_SCRATCH : Reg := ⟨0x5C, 0x0, 1, 0x0, 1, [⟨31, 0, .rw⟩], fun _ _ => 0⟩
def R.GLB_CNT_SPI_FRAMES : Reg := ⟨0x60, 0x0, 1, 0x0, 1, [⟨31, 0, .rc⟩], fun _ _ => 0⟩
def R.GLB_CNT_SPI_CRC : Reg := ⟨0x64, 0x0, 1, 0x0, 1, [⟨31, 0, .rc⟩], fun _ _ => 0⟩
def R.GLB_CNT_I2C_FRAMES : Reg := ⟨0x68, 0x0, 1, 0x0, 1, [⟨31, 0, .rc⟩], fun _ _ => 0⟩
def R.GLB_CNT_I2C_CRC : Reg := ⟨0x6C, 0x0, 1, 0x0, 1, [⟨31, 0, .rc⟩], fun _ _ => 0⟩
def R.GLB_CNT_MGMT_REFUSED : Reg := ⟨0x70, 0x0, 1, 0x0, 1, [⟨31, 0, .rc⟩], fun _ _ => 0⟩
def R.GLB_CNT_RESET_KEY_BAD : Reg := ⟨0x74, 0x0, 1, 0x0, 1, [⟨31, 0, .rc⟩], fun _ _ => 0⟩
def R.GLB_CNT_SESSION_AUTH_FAIL : Reg := ⟨0x78, 0x0, 1, 0x0, 1, [⟨31, 0, .rc⟩], fun _ _ => 0⟩
def R.GLB_CNT_SESSION_DROP : Reg := ⟨0x7C, 0x0, 1, 0x0, 1, [⟨31, 0, .rc⟩], fun _ _ => 0⟩
def R.PAGE_ID : Reg := ⟨0x70000, 0x0, 1, 0x0, 1, [⟨15, 8, .ro⟩, ⟨7, 0, .ro⟩], fun _ _ => 0x810⟩
def R.PAGE_CTRL : Reg := ⟨0x70004, 0x0, 1, 0x0, 1, [⟨0, 0, .rw⟩], fun _ _ => 0x1⟩
def R.PAGE_STATUS : Reg := ⟨0x70008, 0x0, 1, 0x0, 1, [⟨15, 0, .ro⟩], fun _ _ => 0⟩
def R.PAGE_EVT_STATUS : Reg := ⟨0x7000C, 0x0, 1, 0x0, 1, [⟨0, 0, .w1c⟩], fun _ _ => 0⟩
def R.PAGE_VIOL_ADDR : Reg := ⟨0x70010, 0x0, 1, 0x0, 1, [⟨31, 0, .ro⟩], fun _ _ => 0⟩
def R.PAGE_VIOL_INFO : Reg := ⟨0x70014, 0x0, 1, 0x0, 1, [⟨31, 31, .rc⟩, ⟨30, 30, .rc⟩, ⟨29, 29, .rc⟩, ⟨28, 25, .rc⟩, ⟨24, 21, .rc⟩], fun _ _ => 0⟩
def R.PAGE_CNT_VIOL_SAGE : Reg := ⟨0x70018, 0x0, 1, 0x0, 1, [⟨31, 0, .rc⟩], fun _ _ => 0⟩
def R.PAGE_SNAP_SEC : Reg := ⟨0x7001C, 0x0, 1, 0x0, 1, [⟨31, 0, .ro⟩], fun _ _ => 0⟩
def R.PAGE_SESS_INFO : Reg := ⟨0x70020, 0x4, 8, 0x0, 1, [⟨31, 31, .ro⟩, ⟨30, 27, .ro⟩, ⟨15, 0, .ro⟩], fun _ _ => 0⟩
def R.PAGE_VIOL_CNT : Reg := ⟨0x70040, 0x4, 16, 0x0, 1, [⟨31, 0, .rc⟩], fun _ _ => 0⟩
def R.MON_ID : Reg := ⟨0x60000, 0x0, 1, 0x0, 1, [⟨31, 16, .ro⟩, ⟨15, 8, .ro⟩, ⟨7, 0, .ro⟩], fun _ _ => 0x1a1001e⟩
def R.MON_CTRL : Reg := ⟨0x60004, 0x0, 1, 0x0, 1, [⟨3, 3, .rw⟩, ⟨2, 2, .rw⟩, ⟨1, 1, .rw⟩, ⟨0, 0, .rw⟩], fun _ _ => 0xc⟩
def R.MON_STATUS : Reg := ⟨0x60008, 0x0, 1, 0x0, 1, [⟨2, 2, .ro⟩, ⟨1, 1, .ro⟩, ⟨0, 0, .ro⟩], fun _ _ => 0⟩
def R.MON_EVT_STATUS : Reg := ⟨0x6000C, 0x0, 1, 0x0, 1, [⟨4, 4, .w1c⟩, ⟨3, 3, .w1c⟩, ⟨2, 2, .w1c⟩, ⟨1, 1, .w1c⟩, ⟨0, 0, .w1c⟩], fun _ _ => 0⟩
def R.MON_SNAP_SEC_LO : Reg := ⟨0x60010, 0x0, 1, 0x0, 1, [⟨31, 0, .ro⟩], fun _ _ => 0⟩
def R.MON_SNAP_SEC_HI : Reg := ⟨0x60014, 0x0, 1, 0x0, 1, [⟨15, 0, .ro⟩], fun _ _ => 0⟩
def R.MON_SNAP_WRAP : Reg := ⟨0x60018, 0x0, 1, 0x0, 1, [⟨15, 0, .ro⟩], fun _ _ => 0⟩
def R.MON_SNAP_NS : Reg := ⟨0x6001C, 0x0, 1, 0x0, 1, [⟨31, 0, .ro⟩], fun _ _ => 0⟩
def R.MON_READ_US : Reg := ⟨0x60020, 0x0, 1, 0x0, 1, [⟨7, 0, .ro⟩], fun _ _ => 0⟩
def R.MON_EXPORT_STATUS : Reg := ⟨0x60024, 0x0, 1, 0x0, 1, [⟨31, 28, .ro⟩], fun _ _ => 0⟩
def R.MON_WRAP_SUM : Reg := ⟨0x60028, 0x0, 1, 0x0, 1, [⟨29, 0, .ro⟩], fun _ _ => 0⟩
def R.MON_ALERT_SUM : Reg := ⟨0x6002C, 0x0, 1, 0x0, 1, [⟨7, 0, .ro⟩], fun _ _ => 0⟩
def R.MON_TEMP_MAX : Reg := ⟨0x60030, 0x0, 1, 0x0, 1, [⟨31, 28, .ro⟩, ⟨15, 0, .ro⟩], fun _ _ => 0⟩
def R.MON_LAST_ALERT : Reg := ⟨0x60034, 0x0, 1, 0x0, 1, [⟨7, 0, .ro⟩], fun _ _ => 0⟩
def R.MON_UNIT_WRAP : Reg := ⟨0x60080, 0x4, 30, 0x0, 1, [⟨15, 0, .w1c⟩], fun _ _ => 0⟩
def R.MON_UNIT_CTRL : Reg := ⟨0x60100, 0x4, 30, 0x0, 1, [⟨20, 16, .ro⟩, ⟨0, 0, .rw⟩], fun i _ => (unitCounters i) <<< 16⟩
def R.MON_CH_ALERT : Reg := ⟨0x60180, 0x4, 8, 0x0, 1, [⟨31, 0, .w1c⟩], fun _ _ => 0⟩
def R.MON_CH_ACTIVE : Reg := ⟨0x601A0, 0x4, 8, 0x0, 1, [⟨31, 0, .ro⟩], fun i _ => (if i = 0 then 0xFF else 0)⟩
def R.MON_TEMP : Reg := ⟨0x601C0, 0x4, 16, 0x0, 1, [⟨15, 0, .ro⟩], fun _ _ => 0⟩
def R.MON_QV_SEL : Reg := ⟨0x60200, 0x4, 16, 0x0, 1, [⟨31, 31, .rw⟩, ⟨28, 24, .rw⟩, ⟨3, 0, .rw⟩], fun _ _ => 0⟩
def R.MON_QV_HI : Reg := ⟨0x60240, 0x4, 16, 0x0, 1, [⟨15, 0, .ro⟩], fun _ _ => 0⟩
def R.MON_QV_LO : Reg := ⟨0x60280, 0x4, 16, 0x0, 1, [⟨31, 0, .ro⟩], fun _ _ => 0⟩
def R.MON_CNT_SNAPSHOTS : Reg := ⟨0x60038, 0x0, 1, 0x0, 1, [⟨31, 0, .rc⟩], fun _ _ => 0⟩
def R.MON_CNT_CFG_REFUSED : Reg := ⟨0x6003C, 0x0, 1, 0x0, 1, [⟨31, 0, .rc⟩], fun _ _ => 0⟩
def R.MON_CNT_EXPORT_SENT : Reg := ⟨0x60040, 0x0, 1, 0x0, 1, [⟨31, 0, .rc⟩], fun _ _ => 0⟩
def R.MON_CNT_EXPORT_DROP : Reg := ⟨0x60044, 0x0, 1, 0x0, 1, [⟨31, 0, .rc⟩], fun _ _ => 0⟩
def R.MON_CNT_ALERTS : Reg := ⟨0x60048, 0x0, 1, 0x0, 1, [⟨31, 0, .rc⟩], fun _ _ => 0⟩
def R.MON_CNT_WRAPS : Reg := ⟨0x6004C, 0x0, 1, 0x0, 1, [⟨31, 0, .rc⟩], fun _ _ => 0⟩
def R.CPORT_CTRL : Reg := ⟨0x120000, 0x400, 32, 0x0, 1, [⟨31, 31, .rw⟩, ⟨27, 26, .rw⟩, ⟨23, 20, .rw⟩, ⟨2, 2, .rw⟩], fun _ _ => 0xc000004⟩
def R.CPORT_STATUS : Reg := ⟨0x120004, 0x400, 32, 0x0, 1, [⟨31, 31, .ro⟩, ⟨30, 30, .ro⟩, ⟨29, 29, .ro⟩, ⟨28, 28, .ro⟩, ⟨27, 27, .ro⟩, ⟨26, 26, .ro⟩, ⟨25, 25, .ro⟩, ⟨24, 24, .ro⟩, ⟨15, 8, .ro⟩, ⟨2, 0, .ro⟩], fun _ _ => 0⟩
def R.CPORT_EVT_STATUS : Reg := ⟨0x120008, 0x400, 32, 0x0, 1, [⟨6, 6, .w1c⟩, ⟨5, 5, .w1c⟩, ⟨4, 4, .w1c⟩, ⟨3, 3, .w1c⟩, ⟨2, 2, .w1c⟩, ⟨1, 1, .w1c⟩, ⟨0, 0, .w1c⟩], fun _ _ => 0⟩
def R.CPORT_PREEMPT : Reg := ⟨0x12000C, 0x400, 32, 0x0, 1, [⟨31, 31, .rw⟩, ⟨30, 30, .rw⟩, ⟨29, 28, .rw⟩, ⟨23, 16, .rw⟩], fun _ _ => 0xa0000⟩
def R.CPORT_PREEMPT_STATUS : Reg := ⟨0x120010, 0x400, 32, 0x0, 1, [⟨31, 29, .ro⟩], fun _ _ => 0⟩
def R.CPORT_FEC_THRESH : Reg := ⟨0x120014, 0x400, 32, 0x0, 1, [⟨31, 16, .rw⟩, ⟨15, 0, .rw⟩], fun _ _ => 0x138803e8⟩
def R.LPORT_CTRL : Reg := ⟨0x130000, 0x400, 32, 0x0, 1, [⟨31, 31, .rw⟩, ⟨27, 26, .rw⟩, ⟨23, 20, .rw⟩, ⟨2, 2, .rw⟩], fun _ _ => 0xc000004⟩
def R.LPORT_STATUS : Reg := ⟨0x130004, 0x400, 32, 0x0, 1, [⟨31, 31, .ro⟩, ⟨30, 30, .ro⟩, ⟨29, 29, .ro⟩, ⟨28, 28, .ro⟩, ⟨27, 27, .ro⟩, ⟨26, 26, .ro⟩, ⟨25, 25, .ro⟩, ⟨24, 24, .ro⟩, ⟨15, 8, .ro⟩, ⟨2, 0, .ro⟩], fun _ _ => 0⟩
def R.LPORT_EVT_STATUS : Reg := ⟨0x130008, 0x400, 32, 0x0, 1, [⟨6, 6, .w1c⟩, ⟨5, 5, .w1c⟩, ⟨4, 4, .w1c⟩, ⟨3, 3, .w1c⟩, ⟨2, 2, .w1c⟩, ⟨1, 1, .w1c⟩, ⟨0, 0, .w1c⟩], fun _ _ => 0⟩
def R.LPORT_RX_FREQ : Reg := ⟨0x13000C, 0x400, 32, 0x0, 1, [⟨31, 0, .ro⟩], fun _ _ => 0⟩
def R.LPORT_RX_LATENCY : Reg := ⟨0x130010, 0x400, 32, 0x0, 1, [⟨15, 0, .ro⟩], fun _ _ => 0⟩
def R.LPORT_FEC_THRESH : Reg := ⟨0x130014, 0x400, 32, 0x0, 1, [⟨31, 16, .rw⟩, ⟨15, 0, .rw⟩], fun _ _ => 0x138803e8⟩
def R.NVL_CNT_PROG_FAIL : Reg := ⟨0x58054, 0x0, 1, 0x0, 1, [⟨31, 0, .rc⟩], fun _ _ => 0⟩
def R.NVL_CNT_ERASE_FAIL : Reg := ⟨0x58058, 0x0, 1, 0x0, 1, [⟨31, 0, .rc⟩], fun _ _ => 0⟩
def R.NVL_CNT_VERIFY_FAIL : Reg := ⟨0x5805C, 0x0, 1, 0x0, 1, [⟨31, 0, .rc⟩], fun _ _ => 0⟩
def R.EVT_CNT_FIFO_DROP : Reg := ⟨0x10060, 0x0, 1, 0x0, 1, [⟨31, 0, .rc⟩], fun _ _ => 0⟩
def R.EVT_CNT_SW_RAISE : Reg := ⟨0x10064, 0x0, 1, 0x0, 1, [⟨31, 0, .rc⟩], fun _ _ => 0⟩
def R.EVT_CNT_FORCED : Reg := ⟨0x10068, 0x0, 1, 0x0, 1, [⟨31, 0, .rc⟩], fun _ _ => 0⟩
def R.EVT_CNT_RSM_SUPPRESSED : Reg := ⟨0x1006C, 0x0, 1, 0x0, 1, [⟨31, 0, .rc⟩], fun _ _ => 0⟩
def R.EVT_CNT_RSM_WAIT : Reg := ⟨0x10070, 0x0, 1, 0x0, 1, [⟨31, 0, .rc⟩], fun _ _ => 0⟩
def R.EVT_CNT_RSM_LATE : Reg := ⟨0x10074, 0x0, 1, 0x0, 1, [⟨31, 0, .rc⟩], fun _ _ => 0⟩
def R.EVT_CNT_RSM_PAGES : Reg := ⟨0x10078, 0x0, 1, 0x0, 1, [⟨31, 0, .rc⟩], fun _ _ => 0⟩
def R.EVT_CNT_RSM_DISCARDED : Reg := ⟨0x1007C, 0x0, 1, 0x0, 1, [⟨31, 0, .rc⟩], fun _ _ => 0⟩
def R.PWR_CNT_PHASE_FAULT : Reg := ⟨0x204C, 0x0, 1, 0x0, 1, [⟨31, 0, .rc⟩], fun _ _ => 0⟩
def R.PWR_CNT_RAIL_FAULT : Reg := ⟨0x2050, 0x0, 1, 0x0, 1, [⟨31, 0, .rc⟩], fun _ _ => 0⟩
def R.PWR_CNT_OCP : Reg := ⟨0x2054, 0x0, 1, 0x0, 1, [⟨31, 0, .rc⟩], fun _ _ => 0⟩
def R.PWR_CNT_CAL : Reg := ⟨0x2058, 0x0, 1, 0x0, 1, [⟨31, 0, .rc⟩], fun _ _ => 0⟩
def R.PWR_CNT_PIN_WARN : Reg := ⟨0x205C, 0x0, 1, 0x0, 1, [⟨31, 0, .rc⟩], fun _ _ => 0⟩

def F.FE_ID_ROLE : Fld := ⟨R.FE_ID, 4, 4⟩
def F.FE_ID_FE_NUM : Fld := ⟨R.FE_ID, 3, 0⟩
def F.FE_CTRL_CTRL_REJECT_EVT_EN : Fld := ⟨R.FE_CTRL, 2, 2⟩
def F.FE_CTRL_ECC_EVT_EN : Fld := ⟨R.FE_CTRL, 1, 1⟩
def F.FE_CTRL_ENABLE : Fld := ⟨R.FE_CTRL, 0, 0⟩
def F.FE_STATUS_ECC_BAD_ENTRY : Fld := ⟨R.FE_STATUS, 5, 5⟩
def F.FE_STATUS_DIGEST_MISMATCH : Fld := ⟨R.FE_STATUS, 4, 4⟩
def F.FE_STATUS_STAGE_BUSY : Fld := ⟨R.FE_STATUS, 3, 3⟩
def F.FE_STATUS_RESYNC_BUSY : Fld := ⟨R.FE_STATUS, 2, 2⟩
def F.FE_STATUS_IN_SYNC : Fld := ⟨R.FE_STATUS, 1, 1⟩
def F.FE_STATUS_RUNNING : Fld := ⟨R.FE_STATUS, 0, 0⟩
def F.FE_EVT_STATUS_EXC_RATE_DROP : Fld := ⟨R.FE_EVT_STATUS, 7, 7⟩
def F.FE_EVT_STATUS_RETIRED : Fld := ⟨R.FE_EVT_STATUS, 6, 6⟩
def F.FE_EVT_STATUS_COMMIT_ABORTED : Fld := ⟨R.FE_EVT_STATUS, 5, 5⟩
def F.FE_EVT_STATUS_DIGEST_MISMATCH : Fld := ⟨R.FE_EVT_STATUS, 4, 4⟩
def F.FE_EVT_STATUS_VERSION_STALE : Fld := ⟨R.FE_EVT_STATUS, 3, 3⟩
def F.FE_EVT_STATUS_CTRL_REJECT : Fld := ⟨R.FE_EVT_STATUS, 2, 2⟩
def F.FE_EVT_STATUS_ECC_CORR : Fld := ⟨R.FE_EVT_STATUS, 1, 1⟩
def F.FE_EVT_STATUS_ECC_UNCORR : Fld := ⟨R.FE_EVT_STATUS, 0, 0⟩
def F.FE_VER_CMD_OP : Fld := ⟨R.FE_VER_CMD, 31, 28⟩
def F.FE_VER_CMD_VERSION : Fld := ⟨R.FE_VER_CMD, 15, 0⟩
def F.FE_VER_CMD_STATUS_STATE : Fld := ⟨R.FE_VER_CMD_STATUS, 31, 30⟩
def F.FE_VER_CMD_STATUS_OP : Fld := ⟨R.FE_VER_CMD_STATUS, 27, 24⟩
def F.FE_VER_CMD_STATUS_REASON : Fld := ⟨R.FE_VER_CMD_STATUS, 23, 16⟩
def F.FE_VER_CMD_STATUS_VERSION : Fld := ⟨R.FE_VER_CMD_STATUS, 15, 0⟩
def F.FE_VER_CURRENT_VALID : Fld := ⟨R.FE_VER_CURRENT, 31, 31⟩
def F.FE_VER_CURRENT_CLOSED : Fld := ⟨R.FE_VER_CURRENT, 30, 30⟩
def F.FE_VER_CURRENT_TAG : Fld := ⟨R.FE_VER_CURRENT, 17, 16⟩
def F.FE_VER_CURRENT_VERSION : Fld := ⟨R.FE_VER_CURRENT, 15, 0⟩
def F.FE_VER_DRAINING_VALID : Fld := ⟨R.FE_VER_DRAINING, 31, 31⟩
def F.FE_VER_DRAINING_CLOSED : Fld := ⟨R.FE_VER_DRAINING, 30, 30⟩
def F.FE_VER_DRAINING_TAG : Fld := ⟨R.FE_VER_DRAINING, 17, 16⟩
def F.FE_VER_DRAINING_VERSION : Fld := ⟨R.FE_VER_DRAINING, 15, 0⟩
def F.FE_VER_STAGED_VALID : Fld := ⟨R.FE_VER_STAGED, 31, 31⟩
def F.FE_VER_STAGED_CLOSED : Fld := ⟨R.FE_VER_STAGED, 30, 30⟩
def F.FE_VER_STAGED_TAG : Fld := ⟨R.FE_VER_STAGED, 17, 16⟩
def F.FE_VER_STAGED_VERSION : Fld := ⟨R.FE_VER_STAGED, 15, 0⟩
def F.FE_LIVE_TAGS_LIVE : Fld := ⟨R.FE_LIVE_TAGS, 3, 0⟩
def F.FE_INFLIGHT_RETIRE_PENDING : Fld := ⟨R.FE_INFLIGHT, 31, 31⟩
def F.FE_INFLIGHT_DRAIN_COUNT : Fld := ⟨R.FE_INFLIGHT, 23, 0⟩
def F.FE_DIGEST_LO_DIGEST : Fld := ⟨R.FE_DIGEST_LO, 31, 0⟩
def F.FE_DIGEST_HI_DIGEST : Fld := ⟨R.FE_DIGEST_HI, 31, 0⟩
def F.FE_EM_OCCUPANCY_COUNT : Fld := ⟨R.FE_EM_OCCUPANCY, 17, 0⟩
def F.FE_TCAM_OCCUPANCY_COUNT : Fld := ⟨R.FE_TCAM_OCCUPANCY, 13, 0⟩
def F.FE_HASH_SEED_SEED : Fld := ⟨R.FE_HASH_SEED, 31, 0⟩
def F.FE_RESYNC_START : Fld := ⟨R.FE_RESYNC, 31, 31⟩
def F.FE_RESYNC_SOURCE : Fld := ⟨R.FE_RESYNC, 1, 0⟩
def F.FE_ECC_STATUS_VALID : Fld := ⟨R.FE_ECC_STATUS, 31, 31⟩
def F.FE_ECC_STATUS_TABLE : Fld := ⟨R.FE_ECC_STATUS, 30, 28⟩
def F.FE_ECC_STATUS_INDEX : Fld := ⟨R.FE_ECC_STATUS, 16, 0⟩
def F.FE_EXC_RATE_FPS_BURST : Fld := ⟨R.FE_EXC_RATE_FPS, 27, 18⟩
def F.FE_EXC_RATE_FPS_FPS : Fld := ⟨R.FE_EXC_RATE_FPS, 17, 0⟩
def F.FE_EXC_RATE_BPS_BURST_KIB : Fld := ⟨R.FE_EXC_RATE_BPS, 25, 16⟩
def F.FE_EXC_RATE_BPS_MBPS : Fld := ⟨R.FE_EXC_RATE_BPS, 9, 0⟩
def F.FE_SLICE_REMAP_MAP : Fld := ⟨R.FE_SLICE_REMAP, 15, 0⟩
def F.FE_EXC_CTRL_SHARE_SHARE : Fld := ⟨R.FE_EXC_CTRL_SHARE, 6, 0⟩
def F.FE_PTP_CTRL_UDP6_EN : Fld := ⟨R.FE_PTP_CTRL, 2, 2⟩
def F.FE_PTP_CTRL_UDP4_EN : Fld := ⟨R.FE_PTP_CTRL, 1, 1⟩
def F.FE_PTP_CTRL_L2_EN : Fld := ⟨R.FE_PTP_CTRL, 0, 0⟩
def F.FE_PARSE_CTRL_ALT_TPID : Fld := ⟨R.FE_PARSE_CTRL, 31, 16⟩
def F.FE_PARSE_CTRL_ALT_TPID_EN : Fld := ⟨R.FE_PARSE_CTRL, 0, 0⟩
def F.SAT_ID_SLICE : Fld := ⟨R.SAT_ID, 2, 0⟩
def F.SAT_CTRL_CMD_EVT_EN : Fld := ⟨R.SAT_CTRL, 2, 2⟩
def F.SAT_CTRL_ECC_CORR_EVT_EN : Fld := ⟨R.SAT_CTRL, 1, 1⟩
def F.SAT_CTRL_SCRUB_EN : Fld := ⟨R.SAT_CTRL, 0, 0⟩
def F.SAT_STATUS_KEY_WORDS : Fld := ⟨R.SAT_STATUS, 31, 28⟩
def F.SAT_STATUS_ZEROIZE_PENDING : Fld := ⟨R.SAT_STATUS, 5, 5⟩
def F.SAT_STATUS_FIFO_OVF : Fld := ⟨R.SAT_STATUS, 4, 4⟩
def F.SAT_STATUS_DIAG_OPEN : Fld := ⟨R.SAT_STATUS, 3, 3⟩
def F.SAT_STATUS_FENCED : Fld := ⟨R.SAT_STATUS, 2, 2⟩
def F.SAT_STATUS_CMD_BUSY : Fld := ⟨R.SAT_STATUS, 1, 1⟩
def F.SAT_STATUS_READY : Fld := ⟨R.SAT_STATUS, 0, 0⟩
def F.SAT_EVT_STATUS_DIAG_CHANGE : Fld := ⟨R.SAT_EVT_STATUS, 8, 8⟩
def F.SAT_EVT_STATUS_FIFO_OVF : Fld := ⟨R.SAT_EVT_STATUS, 7, 7⟩
def F.SAT_EVT_STATUS_CMD_ABORTED : Fld := ⟨R.SAT_EVT_STATUS, 6, 6⟩
def F.SAT_EVT_STATUS_CMD_DONE : Fld := ⟨R.SAT_EVT_STATUS, 5, 5⟩
def F.SAT_EVT_STATUS_ECC_CORR : Fld := ⟨R.SAT_EVT_STATUS, 4, 4⟩
def F.SAT_EVT_STATUS_ECC_UNCORR : Fld := ⟨R.SAT_EVT_STATUS, 3, 3⟩
def F.SAT_EVT_STATUS_SWITCH_MISSED : Fld := ⟨R.SAT_EVT_STATUS, 2, 2⟩
def F.SAT_EVT_STATUS_EXHAUSTED : Fld := ⟨R.SAT_EVT_STATUS, 1, 1⟩
def F.SAT_EVT_STATUS_PRETRIGGER : Fld := ⟨R.SAT_EVT_STATUS, 0, 0⟩
def F.SAT_CMD_OP : Fld := ⟨R.SAT_CMD, 31, 28⟩
def F.SAT_CMD_DIR : Fld := ⟨R.SAT_CMD, 27, 27⟩
def F.SAT_CMD_ENTRY : Fld := ⟨R.SAT_CMD, 12, 0⟩
def F.SAT_CMD_STATUS_STATE : Fld := ⟨R.SAT_CMD_STATUS, 31, 30⟩
def F.SAT_CMD_STATUS_ABORT_RESULT : Fld := ⟨R.SAT_CMD_STATUS, 29, 28⟩
def F.SAT_CMD_STATUS_OP : Fld := ⟨R.SAT_CMD_STATUS, 27, 24⟩
def F.SAT_CMD_STATUS_REASON : Fld := ⟨R.SAT_CMD_STATUS, 23, 16⟩
def F.SAT_CMD_STATUS_TICKET : Fld := ⟨R.SAT_CMD_STATUS, 15, 0⟩
def F.SAT_CMD_ABORT_TICKET : Fld := ⟨R.SAT_CMD_ABORT, 15, 0⟩
def F.SAT_STAGE_ATTR_SUITE : Fld := ⟨R.SAT_STAGE_ATTR, 31, 31⟩
def F.SAT_STAGE_ATTR_SSCI_SRC : Fld := ⟨R.SAT_STAGE_ATTR, 30, 30⟩
def F.SAT_STAGE_ATTR_AN : Fld := ⟨R.SAT_STAGE_ATTR, 29, 28⟩
def F.SAT_STAGE_ATTR_OPEN_NOW : Fld := ⟨R.SAT_STAGE_ATTR, 27, 27⟩
def F.SAT_STAGE_ATTR_REPLAY_MODE : Fld := ⟨R.SAT_STAGE_ATTR, 26, 25⟩
def F.SAT_STAGE_ATTR_EMODE : Fld := ⟨R.SAT_STAGE_ATTR, 24, 24⟩
def F.SAT_STAGE_ATTR_GROUP : Fld := ⟨R.SAT_STAGE_ATTR, 9, 0⟩
def F.SAT_STAGE_LINK_LINK : Fld := ⟨R.SAT_STAGE_LINK, 31, 0⟩
def F.SAT_STAGE_SCI_HI_SCI : Fld := ⟨R.SAT_STAGE_SCI_HI, 31, 0⟩
def F.SAT_STAGE_SCI_LO_SCI : Fld := ⟨R.SAT_STAGE_SCI_LO, 31, 0⟩
def F.SAT_STAGE_SSCI_SSCI : Fld := ⟨R.SAT_STAGE_SSCI, 31, 0⟩
def F.SAT_STAGE_PN_HI_PN : Fld := ⟨R.SAT_STAGE_PN_HI, 31, 0⟩
def F.SAT_STAGE_PN_LO_PN : Fld := ⟨R.SAT_STAGE_PN_LO, 31, 0⟩
def F.SAT_USAGE_LIMIT_FRM_LIMIT : Fld := ⟨R.SAT_USAGE_LIMIT_FRM, 31, 0⟩
def F.SAT_USAGE_LIMIT_BLK_LIMIT : Fld := ⟨R.SAT_USAGE_LIMIT_BLK, 31, 0⟩
def F.SAT_KEY_STAGE_WORD : Fld := ⟨R.SAT_KEY_STAGE, 31, 0⟩
def F.SAT_OCCUPANCY_TX_ACTIVE : Fld := ⟨R.SAT_OCCUPANCY, 29, 16⟩
def F.SAT_OCCUPANCY_RX_OPEN : Fld := ⟨R.SAT_OCCUPANCY, 13, 0⟩
def F.SAT_TRIGGER_FIFO_VALID : Fld := ⟨R.SAT_TRIGGER_FIFO, 31, 31⟩
def F.SAT_TRIGGER_FIFO_KIND : Fld := ⟨R.SAT_TRIGGER_FIFO, 30, 28⟩
def F.SAT_TRIGGER_FIFO_DIR : Fld := ⟨R.SAT_TRIGGER_FIFO, 27, 27⟩
def F.SAT_TRIGGER_FIFO_POS : Fld := ⟨R.SAT_TRIGGER_FIFO, 13, 13⟩
def F.SAT_TRIGGER_FIFO_ENTRY : Fld := ⟨R.SAT_TRIGGER_FIFO, 12, 0⟩
def F.SAT_DIAG_CTRL_OPEN : Fld := ⟨R.SAT_DIAG_CTRL, 31, 31⟩
def F.SAT_DIAG_CTRL_GO : Fld := ⟨R.SAT_DIAG_CTRL, 30, 30⟩
def F.SAT_DIAG_CTRL_OP : Fld := ⟨R.SAT_DIAG_CTRL, 29, 29⟩
def F.SAT_DIAG_CTRL_PIPE : Fld := ⟨R.SAT_DIAG_CTRL, 28, 26⟩
def F.SAT_DIAG_CTRL_DONE : Fld := ⟨R.SAT_DIAG_CTRL, 25, 25⟩
def F.SAT_DIAG_CTRL_TAG_OK : Fld := ⟨R.SAT_DIAG_CTRL, 24, 24⟩
def F.SAT_DIAG_CTRL_ERR : Fld := ⟨R.SAT_DIAG_CTRL, 23, 23⟩
def F.SAT_ECC_STATUS_VALID : Fld := ⟨R.SAT_ECC_STATUS, 31, 31⟩
def F.SAT_ECC_STATUS_DIR : Fld := ⟨R.SAT_ECC_STATUS, 30, 30⟩
def F.SAT_ECC_STATUS_POS : Fld := ⟨R.SAT_ECC_STATUS, 13, 13⟩
def F.SAT_ECC_STATUS_ENTRY : Fld := ⟨R.SAT_ECC_STATUS, 12, 0⟩
def F.CIP_ID_SLICE : Fld := ⟨R.CIP_ID, 2, 0⟩
def F.CIP_CTRL_SHIM_EVT_EN : Fld := ⟨R.CIP_CTRL, 2, 2⟩
def F.CIP_CTRL_SEG_EVT_EN : Fld := ⟨R.CIP_CTRL, 1, 1⟩
def F.CIP_CTRL_TAG_FAIL_EVT_EN : Fld := ⟨R.CIP_CTRL, 0, 0⟩
def F.CIP_STATUS_HOLD_FULL : Fld := ⟨R.CIP_STATUS, 5, 5⟩
def F.CIP_STATUS_MASK_STARVED : Fld := ⟨R.CIP_STATUS, 4, 4⟩
def F.CIP_STATUS_MASK_LOW : Fld := ⟨R.CIP_STATUS, 3, 3⟩
def F.CIP_STATUS_KAT_BUSY : Fld := ⟨R.CIP_STATUS, 2, 2⟩
def F.CIP_STATUS_FENCED : Fld := ⟨R.CIP_STATUS, 1, 1⟩
def F.CIP_STATUS_READY : Fld := ⟨R.CIP_STATUS, 0, 0⟩
def F.CIP_EVT_STATUS_TX_ABORT : Fld := ⟨R.CIP_EVT_STATUS, 9, 9⟩
def F.CIP_EVT_STATUS_KAT_DONE : Fld := ⟨R.CIP_EVT_STATUS, 8, 8⟩
def F.CIP_EVT_STATUS_MASK_STARVE : Fld := ⟨R.CIP_EVT_STATUS, 7, 7⟩
def F.CIP_EVT_STATUS_PIPE_FAILED : Fld := ⟨R.CIP_EVT_STATUS, 6, 6⟩
def F.CIP_EVT_STATUS_PIPE_FAULT : Fld := ⟨R.CIP_EVT_STATUS, 5, 5⟩
def F.CIP_EVT_STATUS_HOLD_ECC : Fld := ⟨R.CIP_EVT_STATUS, 4, 4⟩
def F.CIP_EVT_STATUS_HOLD_FULL : Fld := ⟨R.CIP_EVT_STATUS, 3, 3⟩
def F.CIP_EVT_STATUS_SHIM_ERR : Fld := ⟨R.CIP_EVT_STATUS, 2, 2⟩
def F.CIP_EVT_STATUS_SEG_ERR : Fld := ⟨R.CIP_EVT_STATUS, 1, 1⟩
def F.CIP_EVT_STATUS_TAG_FAIL : Fld := ⟨R.CIP_EVT_STATUS, 0, 0⟩
def F.CIP_PIPE_STATUS_RX_FAILED : Fld := ⟨R.CIP_PIPE_STATUS, 31, 24⟩
def F.CIP_PIPE_STATUS_TX_FAILED : Fld := ⟨R.CIP_PIPE_STATUS, 23, 16⟩
def F.CIP_PIPE_STATUS_RX_SEEDED : Fld := ⟨R.CIP_PIPE_STATUS, 15, 8⟩
def F.CIP_PIPE_STATUS_TX_SEEDED : Fld := ⟨R.CIP_PIPE_STATUS, 7, 0⟩
def F.CIP_MASK_STATUS_RESEED_PENDING : Fld := ⟨R.CIP_MASK_STATUS, 31, 16⟩
def F.CIP_MASK_STATUS_STOPPED : Fld := ⟨R.CIP_MASK_STATUS, 15, 0⟩
def F.CIP_MASK_RESERVE_GEN : Fld := ⟨R.CIP_MASK_RESERVE, 19, 16⟩
def F.CIP_MASK_RESERVE_RESERVE : Fld := ⟨R.CIP_MASK_RESERVE, 9, 0⟩
def F.CIP_HOLD_STATUS_HWM : Fld := ⟨R.CIP_HOLD_STATUS, 27, 16⟩
def F.CIP_HOLD_STATUS_LEVEL : Fld := ⟨R.CIP_HOLD_STATUS, 11, 0⟩
def F.CIP_SEG_TIMEOUT_TIMEOUT_US : Fld := ⟨R.CIP_SEG_TIMEOUT, 15, 0⟩
def F.CIP_FAULT_STATUS_VALID : Fld := ⟨R.CIP_FAULT_STATUS, 31, 31⟩
def F.CIP_FAULT_STATUS_DIR : Fld := ⟨R.CIP_FAULT_STATUS, 30, 30⟩
def F.CIP_FAULT_STATUS_PIPE : Fld := ⟨R.CIP_FAULT_STATUS, 29, 27⟩
def F.CIP_FAULT_STATUS_KIND : Fld := ⟨R.CIP_FAULT_STATUS, 26, 24⟩
def F.CIP_FAULT_STATUS_TRANSIENTS : Fld := ⟨R.CIP_FAULT_STATUS, 2, 0⟩
def F.CIP_KAT_CTRL_GO : Fld := ⟨R.CIP_KAT_CTRL, 31, 31⟩
def F.CIP_KAT_CTRL_DIR : Fld := ⟨R.CIP_KAT_CTRL, 30, 30⟩
def F.CIP_KAT_CTRL_PIPE : Fld := ⟨R.CIP_KAT_CTRL, 29, 27⟩
def F.CIP_KAT_CTRL_ALL : Fld := ⟨R.CIP_KAT_CTRL, 26, 26⟩
def F.CIP_KAT_CTRL_DONE : Fld := ⟨R.CIP_KAT_CTRL, 25, 25⟩
def F.CIP_KAT_CTRL_PASS : Fld := ⟨R.CIP_KAT_CTRL, 24, 24⟩
def F.CIP_PARK_STATUS_MAX_PASS : Fld := ⟨R.CIP_PARK_STATUS, 15, 8⟩
def F.CIP_PARK_STATUS_PARKED : Fld := ⟨R.CIP_PARK_STATUS, 4, 0⟩
def F.CIP_CNT_SEALED_LO_COUNT : Fld := ⟨R.CIP_CNT_SEALED_LO, 31, 0⟩
def F.CIP_CNT_SEALED_HI_COUNT : Fld := ⟨R.CIP_CNT_SEALED_HI, 31, 0⟩
def F.CIP_CNT_OPENED_LO_COUNT : Fld := ⟨R.CIP_CNT_OPENED_LO, 31, 0⟩
def F.CIP_CNT_OPENED_HI_COUNT : Fld := ⟨R.CIP_CNT_OPENED_HI, 31, 0⟩
def F.LRN_ID_SLICE : Fld := ⟨R.LRN_ID, 2, 0⟩
def F.LRN_CTRL_MOVE_LIMIT : Fld := ⟨R.LRN_CTRL, 6, 4⟩
def F.LRN_CTRL_INSERT_FAIL_EVT_EN : Fld := ⟨R.LRN_CTRL, 3, 3⟩
def F.LRN_CTRL_MOVE_EVT_EN : Fld := ⟨R.LRN_CTRL, 2, 2⟩
def F.LRN_CTRL_SWEEP_EN : Fld := ⟨R.LRN_CTRL, 1, 1⟩
def F.LRN_CTRL_LEARN_EN : Fld := ⟨R.LRN_CTRL, 0, 0⟩
def F.LRN_STATUS_NO_BIND_VALID : Fld := ⟨R.LRN_STATUS, 31, 31⟩
def F.LRN_STATUS_NO_BIND_ENTRY : Fld := ⟨R.LRN_STATUS, 28, 16⟩
def F.LRN_STATUS_FAIL_MPI : Fld := ⟨R.LRN_STATUS, 15, 6⟩
def F.LRN_STATUS_FAIL_CAUSE : Fld := ⟨R.LRN_STATUS, 5, 4⟩
def F.LRN_STATUS_LEARN_Q_FULL : Fld := ⟨R.LRN_STATUS, 3, 3⟩
def F.LRN_STATUS_FENCED : Fld := ⟨R.LRN_STATUS, 1, 1⟩
def F.LRN_STATUS_READY : Fld := ⟨R.LRN_STATUS, 0, 0⟩
def F.LRN_EVT_STATUS_SWEEP_OVERRUN : Fld := ⟨R.LRN_EVT_STATUS, 6, 6⟩
def F.LRN_EVT_STATUS_FLUSH_DONE : Fld := ⟨R.LRN_EVT_STATUS, 5, 5⟩
def F.LRN_EVT_STATUS_NO_BIND : Fld := ⟨R.LRN_EVT_STATUS, 4, 4⟩
def F.LRN_EVT_STATUS_FROZEN : Fld := ⟨R.LRN_EVT_STATUS, 3, 3⟩
def F.LRN_EVT_STATUS_MOVE : Fld := ⟨R.LRN_EVT_STATUS, 2, 2⟩
def F.LRN_EVT_STATUS_INSERT_FAIL : Fld := ⟨R.LRN_EVT_STATUS, 1, 1⟩
def F.LRN_EVT_STATUS_ECC_UNCORR : Fld := ⟨R.LRN_EVT_STATUS, 0, 0⟩
def F.LRN_SWEEP_INTERVAL_INTERVAL_MS : Fld := ⟨R.LRN_SWEEP_INTERVAL, 19, 0⟩
def F.LRN_FLUSH_START : Fld := ⟨R.LRN_FLUSH, 31, 31⟩
def F.LRN_FLUSH_BUSY : Fld := ⟨R.LRN_FLUSH, 30, 30⟩
def F.LRN_FLUSH_SEL : Fld := ⟨R.LRN_FLUSH, 29, 28⟩
def F.LRN_FLUSH_INCL_STATIC : Fld := ⟨R.LRN_FLUSH, 27, 27⟩
def F.LRN_FLUSH_PEER : Fld := ⟨R.LRN_FLUSH, 21, 10⟩
def F.LRN_FLUSH_MPI : Fld := ⟨R.LRN_FLUSH, 9, 0⟩
def F.LRN_OCCUPANCY_STATIC : Fld := ⟨R.LRN_OCCUPANCY, 31, 16⟩
def F.LRN_OCCUPANCY_TOTAL : Fld := ⟨R.LRN_OCCUPANCY, 15, 0⟩
def F.POL_ID_METERS : Fld := ⟨R.POL_ID, 15, 0⟩
def F.POL_CTRL_ECC_CORR_EVT_EN : Fld := ⟨R.POL_CTRL, 1, 1⟩
def F.POL_CTRL_ENABLE : Fld := ⟨R.POL_CTRL, 0, 0⟩
def F.POL_STATUS_CMD_BUSY : Fld := ⟨R.POL_STATUS, 1, 1⟩
def F.POL_STATUS_READY : Fld := ⟨R.POL_STATUS, 0, 0⟩
def F.POL_EVT_STATUS_ECC_CORR : Fld := ⟨R.POL_EVT_STATUS, 1, 1⟩
def F.POL_EVT_STATUS_ECC_UNCORR : Fld := ⟨R.POL_EVT_STATUS, 0, 0⟩
def F.POL_ECC_STATUS_VALID : Fld := ⟨R.POL_ECC_STATUS, 31, 31⟩
def F.POL_ECC_STATUS_INDEX : Fld := ⟨R.POL_ECC_STATUS, 14, 0⟩
def F.POL_CMD_OP : Fld := ⟨R.POL_CMD, 31, 28⟩
def F.POL_CMD_INDEX : Fld := ⟨R.POL_CMD, 14, 0⟩
def F.POL_CMD_STATUS_STATE : Fld := ⟨R.POL_CMD_STATUS, 31, 30⟩
def F.POL_CMD_STATUS_INDEX : Fld := ⟨R.POL_CMD_STATUS, 14, 0⟩
def F.SCH_ID_QUEUES_PER_SLICE : Fld := ⟨R.SCH_ID, 31, 16⟩
def F.SCH_ID_SLICES : Fld := ⟨R.SCH_ID, 3, 0⟩
def F.SCH_CTRL_NO_QUEUE_EVT_EN : Fld := ⟨R.SCH_CTRL, 2, 2⟩
def F.SCH_CTRL_ECC_CORR_EVT_EN : Fld := ⟨R.SCH_CTRL, 1, 1⟩
def F.SCH_CTRL_AGE_ADMIT_EN : Fld := ⟨R.SCH_CTRL, 0, 0⟩
def F.SCH_STATUS_CMD_BUSY : Fld := ⟨R.SCH_STATUS, 3, 3⟩
def F.SCH_STATUS_EGR_BUF_LOW : Fld := ⟨R.SCH_STATUS, 2, 2⟩
def F.SCH_STATUS_CELLS_LOW : Fld := ⟨R.SCH_STATUS, 1, 1⟩
def F.SCH_STATUS_READY : Fld := ⟨R.SCH_STATUS, 0, 0⟩
def F.SCH_EVT_STATUS_CMD_DONE : Fld := ⟨R.SCH_EVT_STATUS, 5, 5⟩
def F.SCH_EVT_STATUS_DESC_EXHAUST : Fld := ⟨R.SCH_EVT_STATUS, 4, 4⟩
def F.SCH_EVT_STATUS_CELLS_EXHAUST : Fld := ⟨R.SCH_EVT_STATUS, 3, 3⟩
def F.SCH_EVT_STATUS_NO_QUEUE : Fld := ⟨R.SCH_EVT_STATUS, 2, 2⟩
def F.SCH_EVT_STATUS_ECC_CORR : Fld := ⟨R.SCH_EVT_STATUS, 1, 1⟩
def F.SCH_EVT_STATUS_ECC_UNCORR : Fld := ⟨R.SCH_EVT_STATUS, 0, 0⟩
def F.SCH_ECC_STATUS_VALID : Fld := ⟨R.SCH_ECC_STATUS, 31, 31⟩
def F.SCH_ECC_STATUS_TABLE : Fld := ⟨R.SCH_ECC_STATUS, 30, 28⟩
def F.SCH_ECC_STATUS_SLICE : Fld := ⟨R.SCH_ECC_STATUS, 26, 24⟩
def F.SCH_ECC_STATUS_INDEX : Fld := ⟨R.SCH_ECC_STATUS, 15, 0⟩
def F.SCH_CMD_OP : Fld := ⟨R.SCH_CMD, 31, 28⟩
def F.SCH_CMD_SLICE : Fld := ⟨R.SCH_CMD, 26, 24⟩
def F.SCH_CMD_QUEUE : Fld := ⟨R.SCH_CMD, 12, 0⟩
def F.SCH_CMD_STATUS_STATE : Fld := ⟨R.SCH_CMD_STATUS, 31, 30⟩
def F.SCH_CMD_STATUS_FRAMES : Fld := ⟨R.SCH_CMD_STATUS, 20, 0⟩
def F.SCH_SAMPLE_SEL_EN : Fld := ⟨R.SCH_SAMPLE_SEL, 31, 31⟩
def F.SCH_SAMPLE_SEL_SLICE : Fld := ⟨R.SCH_SAMPLE_SEL, 26, 24⟩
def F.SCH_SAMPLE_SEL_QUEUE : Fld := ⟨R.SCH_SAMPLE_SEL, 12, 0⟩
def F.SCH_SAMPLE_DEPTH_CELLS : Fld := ⟨R.SCH_SAMPLE_DEPTH, 23, 0⟩
def F.SCH_SAMPLE_HEAD_AGE_NS : Fld := ⟨R.SCH_SAMPLE_HEAD_AGE, 31, 0⟩
def F.SCH_SAMPLE_DELAY_MAX_NS : Fld := ⟨R.SCH_SAMPLE_DELAY_MAX, 31, 0⟩
def F.SCH_EGR_BUF_STATUS_FREE : Fld := ⟨R.SCH_EGR_BUF_STATUS, 16, 0⟩
def F.SCH_EGR_CLASS_LEVEL_CELLS : Fld := ⟨R.SCH_EGR_CLASS_LEVEL, 16, 0⟩
def F.SCH_DESC_FREE_FREE : Fld := ⟨R.SCH_DESC_FREE, 20, 0⟩
def F.SCH_CELLS_FREE_FREE : Fld := ⟨R.SCH_CELLS_FREE, 27, 0⟩
def F.SCH_CNT_DEQUEUED_LO_COUNT : Fld := ⟨R.SCH_CNT_DEQUEUED_LO, 31, 0⟩
def F.SCH_CNT_DEQUEUED_HI_COUNT : Fld := ⟨R.SCH_CNT_DEQUEUED_HI, 31, 0⟩
def F.LFE_ID_ROLE : Fld := ⟨R.LFE_ID, 4, 4⟩
def F.LFE_ID_FE_NUM : Fld := ⟨R.LFE_ID, 3, 0⟩
def F.LFE_CTRL_FORMAT_EVT_EN : Fld := ⟨R.LFE_CTRL, 3, 3⟩
def F.LFE_CTRL_UNKNOWN_EVT_EN : Fld := ⟨R.LFE_CTRL, 2, 2⟩
def F.LFE_CTRL_ECC_EVT_EN : Fld := ⟨R.LFE_CTRL, 1, 1⟩
def F.LFE_CTRL_ENABLE : Fld := ⟨R.LFE_CTRL, 0, 0⟩
def F.LFE_STATUS_RXC_COUNT : Fld := ⟨R.LFE_STATUS, 27, 16⟩
def F.LFE_STATUS_RX_ENGINE_FAILED : Fld := ⟨R.LFE_STATUS, 5, 5⟩
def F.LFE_STATUS_TX_ENGINE_FAILED : Fld := ⟨R.LFE_STATUS, 4, 4⟩
def F.LFE_STATUS_SPARE_IN_USE : Fld := ⟨R.LFE_STATUS, 3, 3⟩
def F.LFE_STATUS_ENGINE_READY : Fld := ⟨R.LFE_STATUS, 2, 2⟩
def F.LFE_STATUS_RUNNING : Fld := ⟨R.LFE_STATUS, 0, 0⟩
def F.LFE_EVT_STATUS_ENGINE_FAILED : Fld := ⟨R.LFE_EVT_STATUS, 7, 7⟩
def F.LFE_EVT_STATUS_ENGINE_FAULT : Fld := ⟨R.LFE_EVT_STATUS, 6, 6⟩
def F.LFE_EVT_STATUS_EXC_RATE_DROP : Fld := ⟨R.LFE_EVT_STATUS, 5, 5⟩
def F.LFE_EVT_STATUS_FORMAT_ERR : Fld := ⟨R.LFE_EVT_STATUS, 4, 4⟩
def F.LFE_EVT_STATUS_UNKNOWN_KSI : Fld := ⟨R.LFE_EVT_STATUS, 3, 3⟩
def F.LFE_EVT_STATUS_HALF_MISMATCH : Fld := ⟨R.LFE_EVT_STATUS, 2, 2⟩
def F.LFE_EVT_STATUS_ECC_CORR : Fld := ⟨R.LFE_EVT_STATUS, 1, 1⟩
def F.LFE_EVT_STATUS_ECC_UNCORR : Fld := ⟨R.LFE_EVT_STATUS, 0, 0⟩
def F.LFE_ECC_STATUS_VALID : Fld := ⟨R.LFE_ECC_STATUS, 31, 31⟩
def F.LFE_ECC_STATUS_INDEX : Fld := ⟨R.LFE_ECC_STATUS, 10, 0⟩
def F.ENV_CTRL_MODE : Fld := ⟨R.ENV_CTRL, 31, 30⟩
def F.ENV_CTRL_SEAL_DISCARD : Fld := ⟨R.ENV_CTRL, 29, 29⟩
def F.ENV_CTRL_TIM_EN : Fld := ⟨R.ENV_CTRL, 28, 28⟩
def F.ENV_CTRL_RDI_EN : Fld := ⟨R.ENV_CTRL, 27, 27⟩
def F.ENV_CTRL_BEI_EN : Fld := ⟨R.ENV_CTRL, 26, 26⟩
def F.ENV_CTRL_DEG_M : Fld := ⟨R.ENV_CTRL, 25, 22⟩
def F.ENV_CTRL_DEG_FRAMES : Fld := ⟨R.ENV_CTRL, 15, 0⟩
def F.ENV_STATUS_TX_STATE : Fld := ⟨R.ENV_STATUS, 31, 30⟩
def F.ENV_STATUS_TX_POS1 : Fld := ⟨R.ENV_STATUS, 29, 28⟩
def F.ENV_STATUS_TX_POS0 : Fld := ⟨R.ENV_STATUS, 27, 26⟩
def F.ENV_STATUS_TX_KP : Fld := ⟨R.ENV_STATUS, 25, 25⟩
def F.ENV_STATUS_RX_POS1 : Fld := ⟨R.ENV_STATUS, 24, 24⟩
def F.ENV_STATUS_RX_POS0 : Fld := ⟨R.ENV_STATUS, 23, 23⟩
def F.ENV_STATUS_RX_KP : Fld := ⟨R.ENV_STATUS, 22, 22⟩
def F.ENV_STATUS_ALIGN : Fld := ⟨R.ENV_STATUS, 21, 20⟩
def F.ENV_STATUS_D_TXI : Fld := ⟨R.ENV_STATUS, 8, 8⟩
def F.ENV_STATUS_DEFECTS : Fld := ⟨R.ENV_STATUS, 7, 0⟩
def F.ENV_EVT_STATUS_SEAL_CLEAN_FAIL : Fld := ⟨R.ENV_EVT_STATUS, 25, 25⟩
def F.ENV_EVT_STATUS_KEY_CMD_ABORTED : Fld := ⟨R.ENV_EVT_STATUS, 24, 24⟩
def F.ENV_EVT_STATUS_KEY_CMD_DONE : Fld := ⟨R.ENV_EVT_STATUS, 23, 23⟩
def F.ENV_EVT_STATUS_SWITCH_MISSED : Fld := ⟨R.ENV_EVT_STATUS, 22, 22⟩
def F.ENV_EVT_STATUS_SWITCH_DONE : Fld := ⟨R.ENV_EVT_STATUS, 21, 21⟩
def F.ENV_EVT_STATUS_EXHAUSTED : Fld := ⟨R.ENV_EVT_STATUS, 20, 20⟩
def F.ENV_EVT_STATUS_PRETRIGGER : Fld := ⟨R.ENV_EVT_STATUS, 19, 19⟩
def F.ENV_EVT_STATUS_TXI_SET : Fld := ⟨R.ENV_EVT_STATUS, 18, 18⟩
def F.ENV_EVT_STATUS_DEF_CLR : Fld := ⟨R.ENV_EVT_STATUS, 15, 8⟩
def F.ENV_EVT_STATUS_DEF_SET : Fld := ⟨R.ENV_EVT_STATUS, 7, 0⟩
def F.ENV_DEF_INTEG_SET_LOA : Fld := ⟨R.ENV_DEF_INTEG_SET, 31, 24⟩
def F.ENV_DEF_INTEG_SET_LOM : Fld := ⟨R.ENV_DEF_INTEG_SET, 23, 16⟩
def F.ENV_DEF_INTEG_SET_KEY : Fld := ⟨R.ENV_DEF_INTEG_SET, 15, 8⟩
def F.ENV_DEF_INTEG_SET_TIM : Fld := ⟨R.ENV_DEF_INTEG_SET, 7, 0⟩
def F.ENV_DEF_INTEG_CLR_LOA : Fld := ⟨R.ENV_DEF_INTEG_CLR, 31, 24⟩
def F.ENV_DEF_INTEG_CLR_LOM : Fld := ⟨R.ENV_DEF_INTEG_CLR, 23, 16⟩
def F.ENV_DEF_INTEG_CLR_KEY : Fld := ⟨R.ENV_DEF_INTEG_CLR, 15, 8⟩
def F.ENV_DEF_INTEG_CLR_TIM : Fld := ⟨R.ENV_DEF_INTEG_CLR, 7, 0⟩
def F.ENV_TRAIL_EXP_MEMBER : Fld := ⟨R.ENV_TRAIL, 27, 16⟩
def F.ENV_TRAIL_EXP_PORT : Fld := ⟨R.ENV_TRAIL, 4, 0⟩
def F.ENV_RX_TRAIL_VALID : Fld := ⟨R.ENV_RX_TRAIL, 31, 31⟩
def F.ENV_RX_TRAIL_DOMAIN_OK : Fld := ⟨R.ENV_RX_TRAIL, 30, 30⟩
def F.ENV_RX_TRAIL_MEMBER : Fld := ⟨R.ENV_RX_TRAIL, 27, 16⟩
def F.ENV_RX_TRAIL_PORT : Fld := ⟨R.ENV_RX_TRAIL, 4, 0⟩
def F.ENV_FAR_END_RDI_CODE : Fld := ⟨R.ENV_FAR_END, 27, 24⟩
def F.ENV_FAR_END_PBEI : Fld := ⟨R.ENV_FAR_END, 12, 8⟩
def F.ENV_FAR_END_SBEI : Fld := ⟨R.ENV_FAR_END, 3, 0⟩
def F.ENV_KEY_CMD_OP : Fld := ⟨R.ENV_KEY_CMD, 31, 28⟩
def F.ENV_KEY_CMD_DIR : Fld := ⟨R.ENV_KEY_CMD, 27, 27⟩
def F.ENV_KEY_CMD_POS : Fld := ⟨R.ENV_KEY_CMD, 26, 26⟩
def F.ENV_KEY_CMD_GROUP : Fld := ⟨R.ENV_KEY_CMD, 25, 16⟩
def F.ENV_KEY_CMD_TICKET : Fld := ⟨R.ENV_KEY_CMD, 15, 0⟩
def F.ENV_KEY_STATUS_STATE : Fld := ⟨R.ENV_KEY_STATUS, 31, 30⟩
def F.ENV_KEY_STATUS_ABORT_RESULT : Fld := ⟨R.ENV_KEY_STATUS, 29, 28⟩
def F.ENV_KEY_STATUS_OP : Fld := ⟨R.ENV_KEY_STATUS, 27, 24⟩
def F.ENV_KEY_STATUS_REASON : Fld := ⟨R.ENV_KEY_STATUS, 23, 16⟩
def F.ENV_KEY_STATUS_TICKET : Fld := ⟨R.ENV_KEY_STATUS, 15, 0⟩
def F.ENV_KEY_STAGE_WORD : Fld := ⟨R.ENV_KEY_STAGE, 31, 0⟩
def F.ENV_KEY_LIMIT_LIMIT : Fld := ⟨R.ENV_KEY_LIMIT, 31, 0⟩
def F.MRG_ID_STREAMS : Fld := ⟨R.MRG_ID, 31, 16⟩
def F.MRG_ID_WIN_BLOCKS : Fld := ⟨R.MRG_ID, 15, 0⟩
def F.MRG_CTRL_AUTO_RESTART : Fld := ⟨R.MRG_CTRL, 3, 3⟩
def F.MRG_CTRL_STALE_EVT_EN : Fld := ⟨R.MRG_CTRL, 2, 2⟩
def F.MRG_CTRL_RESYNC_EVT_EN : Fld := ⟨R.MRG_CTRL, 1, 1⟩
def F.MRG_CTRL_ECC_CORR_EVT_EN : Fld := ⟨R.MRG_CTRL, 0, 0⟩
def F.MRG_STATUS_SEQ_FENCED : Fld := ⟨R.MRG_STATUS, 6, 6⟩
def F.MRG_STATUS_MERGE_FENCED : Fld := ⟨R.MRG_STATUS, 5, 5⟩
def F.MRG_STATUS_SEQ_QUIET_MET : Fld := ⟨R.MRG_STATUS, 4, 4⟩
def F.MRG_STATUS_MERGE_QUIET_MET : Fld := ⟨R.MRG_STATUS, 3, 3⟩
def F.MRG_STATUS_CMD_BUSY : Fld := ⟨R.MRG_STATUS, 2, 2⟩
def F.MRG_STATUS_LOCKED : Fld := ⟨R.MRG_STATUS, 1, 1⟩
def F.MRG_STATUS_READY : Fld := ⟨R.MRG_STATUS, 0, 0⟩
def F.MRG_EVT_STATUS_NO_STREAM : Fld := ⟨R.MRG_EVT_STATUS, 12, 12⟩
def F.MRG_EVT_STATUS_RESTART_FAILED : Fld := ⟨R.MRG_EVT_STATUS, 11, 11⟩
def F.MRG_EVT_STATUS_RESTART_DONE : Fld := ⟨R.MRG_EVT_STATUS, 10, 10⟩
def F.MRG_EVT_STATUS_SEQ_FENCE : Fld := ⟨R.MRG_EVT_STATUS, 9, 9⟩
def F.MRG_EVT_STATUS_MERGE_FENCE : Fld := ⟨R.MRG_EVT_STATUS, 8, 8⟩
def F.MRG_EVT_STATUS_ALIGN_CAPPED : Fld := ⟨R.MRG_EVT_STATUS, 7, 7⟩
def F.MRG_EVT_STATUS_HOLD_NO_CELL : Fld := ⟨R.MRG_EVT_STATUS, 6, 6⟩
def F.MRG_EVT_STATUS_HOLD_LOST : Fld := ⟨R.MRG_EVT_STATUS, 5, 5⟩
def F.MRG_EVT_STATUS_STALE : Fld := ⟨R.MRG_EVT_STATUS, 4, 4⟩
def F.MRG_EVT_STATUS_RESYNC : Fld := ⟨R.MRG_EVT_STATUS, 3, 3⟩
def F.MRG_EVT_STATUS_PATH_ERR : Fld := ⟨R.MRG_EVT_STATUS, 2, 2⟩
def F.MRG_EVT_STATUS_ECC_CORR : Fld := ⟨R.MRG_EVT_STATUS, 1, 1⟩
def F.MRG_EVT_STATUS_ECC_UNCORR : Fld := ⟨R.MRG_EVT_STATUS, 0, 0⟩
def F.MRG_CMD_OP : Fld := ⟨R.MRG_CMD, 31, 28⟩
def F.MRG_CMD_STATUS_STATE : Fld := ⟨R.MRG_CMD_STATUS, 31, 30⟩
def F.MRG_CMD_STATUS_OP : Fld := ⟨R.MRG_CMD_STATUS, 27, 24⟩
def F.MRG_CMD_STATUS_REASON : Fld := ⟨R.MRG_CMD_STATUS, 23, 16⟩
def F.MRG_SEQ_FENCE_INFO_VALID : Fld := ⟨R.MRG_SEQ_FENCE_INFO, 31, 31⟩
def F.MRG_SEQ_FENCE_INFO_FIELD : Fld := ⟨R.MRG_SEQ_FENCE_INFO, 27, 24⟩
def F.MRG_SEQ_FENCE_INFO_SERVICE : Fld := ⟨R.MRG_SEQ_FENCE_INFO, 13, 0⟩
def F.MRG_MERGE_FENCE_INFO_VALID : Fld := ⟨R.MRG_MERGE_FENCE_INFO, 31, 31⟩
def F.MRG_MERGE_FENCE_INFO_FIELD : Fld := ⟨R.MRG_MERGE_FENCE_INFO, 27, 24⟩
def F.MRG_MERGE_FENCE_INFO_STREAM : Fld := ⟨R.MRG_MERGE_FENCE_INFO, 14, 0⟩
def F.MRG_QUIET_QUIET_MS : Fld := ⟨R.MRG_QUIET, 9, 0⟩
def F.MRG_WIN_FREE_BLOCKS : Fld := ⟨R.MRG_WIN_FREE, 14, 0⟩
def F.MRG_HOLD_RESERVE_CELLS : Fld := ⟨R.MRG_HOLD_RESERVE, 26, 0⟩
def F.MRG_HOLD_USED_CELLS : Fld := ⟨R.MRG_HOLD_USED, 26, 0⟩
def F.MRG_RX_REDIRECT_EN : Fld := ⟨R.MRG_RX_REDIRECT, 31, 24⟩
def F.MRG_RX_REDIRECT_MAP : Fld := ⟨R.MRG_RX_REDIRECT, 15, 0⟩
def F.MRG_ECC_STATUS_VALID : Fld := ⟨R.MRG_ECC_STATUS, 31, 31⟩
def F.MRG_ECC_STATUS_TABLE : Fld := ⟨R.MRG_ECC_STATUS, 30, 28⟩
def F.MRG_ECC_STATUS_SLICE : Fld := ⟨R.MRG_ECC_STATUS, 26, 24⟩
def F.MRG_ECC_STATUS_INDEX : Fld := ⟨R.MRG_ECC_STATUS, 15, 0⟩
def F.MRG_CNT_NUMBERED_LO_COUNT : Fld := ⟨R.MRG_CNT_NUMBERED_LO, 31, 0⟩
def F.MRG_CNT_NUMBERED_HI_COUNT : Fld := ⟨R.MRG_CNT_NUMBERED_HI, 31, 0⟩
def F.MRG_CNT_PASSED_LO_COUNT : Fld := ⟨R.MRG_CNT_PASSED_LO, 31, 0⟩
def F.MRG_CNT_PASSED_HI_COUNT : Fld := ⟨R.MRG_CNT_PASSED_HI, 31, 0⟩
def F.MRG_CNT_DUP_LO_COUNT : Fld := ⟨R.MRG_CNT_DUP_LO, 31, 0⟩
def F.MRG_CNT_DUP_HI_COUNT : Fld := ⟨R.MRG_CNT_DUP_HI, 31, 0⟩
def F.MRG_CNT_HELD_LO_COUNT : Fld := ⟨R.MRG_CNT_HELD_LO, 31, 0⟩
def F.MRG_CNT_HELD_HI_COUNT : Fld := ⟨R.MRG_CNT_HELD_HI, 31, 0⟩
def F.MRG_SAMPLE_SEL_EN : Fld := ⟨R.MRG_SAMPLE_SEL, 31, 31⟩
def F.MRG_SAMPLE_SEL_STREAM : Fld := ⟨R.MRG_SAMPLE_SEL, 14, 0⟩
def F.MRG_SAMPLE_HIGHEST_MSN : Fld := ⟨R.MRG_SAMPLE_HIGHEST, 31, 0⟩
def F.MRG_SAMPLE_DMIN_NS : Fld := ⟨R.MRG_SAMPLE_DMIN, 31, 0⟩
def F.MRG_SAMPLE_DMAX_NS : Fld := ⟨R.MRG_SAMPLE_DMAX, 31, 0⟩
def F.MRG_SAMPLE_HOLD0_NS : Fld := ⟨R.MRG_SAMPLE_HOLD0, 24, 0⟩
def F.MRG_SAMPLE_HOLD1_NS : Fld := ⟨R.MRG_SAMPLE_HOLD1, 24, 0⟩
def F.MRG_SAMPLE_IDLE_NS : Fld := ⟨R.MRG_SAMPLE_IDLE, 31, 0⟩
def F.MRG_SAMPLE_STATUS_SEEDED : Fld := ⟨R.MRG_SAMPLE_STATUS, 31, 31⟩
def F.MRG_SAMPLE_STATUS_CAPPED : Fld := ⟨R.MRG_SAMPLE_STATUS, 30, 30⟩
def F.MRG_SAMPLE_STATUS_MODE : Fld := ⟨R.MRG_SAMPLE_STATUS, 29, 29⟩
def F.MRG_SAMPLE_STATUS_SAMPLES : Fld := ⟨R.MRG_SAMPLE_STATUS, 15, 0⟩
def F.BAY_ID_CELL_GIB : Fld := ⟨R.BAY_ID, 15, 8⟩
def F.BAY_ID_BAY : Fld := ⟨R.BAY_ID, 1, 0⟩
def F.BAY_CTRL_EPOCH_PERIOD_H : Fld := ⟨R.BAY_CTRL, 31, 16⟩
def F.BAY_CTRL_CORR_EVT_EN : Fld := ⟨R.BAY_CTRL, 3, 3⟩
def F.BAY_CTRL_EPOCH_AUTO : Fld := ⟨R.BAY_CTRL, 2, 2⟩
def F.BAY_CTRL_RECLAIM_EN : Fld := ⟨R.BAY_CTRL, 1, 1⟩
def F.BAY_CTRL_PATROL_EN : Fld := ⟨R.BAY_CTRL, 0, 0⟩
def F.BAY_STATUS_EPOCH_PENDING : Fld := ⟨R.BAY_STATUS, 6, 6⟩
def F.BAY_STATUS_PREV_KEY_LIVE : Fld := ⟨R.BAY_STATUS, 5, 5⟩
def F.BAY_STATUS_QUARANTINE : Fld := ⟨R.BAY_STATUS, 4, 4⟩
def F.BAY_STATUS_TRAINING : Fld := ⟨R.BAY_STATUS, 3, 3⟩
def F.BAY_STATUS_FAILED : Fld := ⟨R.BAY_STATUS, 2, 2⟩
def F.BAY_STATUS_KEYED : Fld := ⟨R.BAY_STATUS, 1, 1⟩
def F.BAY_STATUS_READY : Fld := ⟨R.BAY_STATUS, 0, 0⟩
def F.BAY_EVT_STATUS_QUAR_RELEASED : Fld := ⟨R.BAY_EVT_STATUS, 11, 11⟩
def F.BAY_EVT_STATUS_TRAIN_FAIL : Fld := ⟨R.BAY_EVT_STATUS, 10, 10⟩
def F.BAY_EVT_STATUS_PATROL_OVERRUN : Fld := ⟨R.BAY_EVT_STATUS, 9, 9⟩
def F.BAY_EVT_STATUS_CORR : Fld := ⟨R.BAY_EVT_STATUS, 8, 8⟩
def F.BAY_EVT_STATUS_ORPHAN_RECLAIM : Fld := ⟨R.BAY_EVT_STATUS, 7, 7⟩
def F.BAY_EVT_STATUS_PREV_KEY_ERASED : Fld := ⟨R.BAY_EVT_STATUS, 6, 6⟩
def F.BAY_EVT_STATUS_EPOCH_START : Fld := ⟨R.BAY_EVT_STATUS, 5, 5⟩
def F.BAY_EVT_STATUS_COUNTER_SAT : Fld := ⟨R.BAY_EVT_STATUS, 4, 4⟩
def F.BAY_EVT_STATUS_DESC_ERR : Fld := ⟨R.BAY_EVT_STATUS, 3, 3⟩
def F.BAY_EVT_STATUS_TAG_FAIL : Fld := ⟨R.BAY_EVT_STATUS, 2, 2⟩
def F.BAY_EVT_STATUS_LINE_POISON : Fld := ⟨R.BAY_EVT_STATUS, 1, 1⟩
def F.BAY_EVT_STATUS_DATA_UNCORR : Fld := ⟨R.BAY_EVT_STATUS, 0, 0⟩
def F.BAY_CMD_OP : Fld := ⟨R.BAY_CMD, 31, 28⟩
def F.BAY_CMD_STATUS_STATE : Fld := ⟨R.BAY_CMD_STATUS, 31, 30⟩
def F.BAY_CMD_STATUS_REASON : Fld := ⟨R.BAY_CMD_STATUS, 23, 16⟩
def F.BAY_CMD_STATUS_EPOCH : Fld := ⟨R.BAY_CMD_STATUS, 15, 0⟩
def F.BAY_EPOCH_PREV_LIVE : Fld := ⟨R.BAY_EPOCH, 17, 17⟩
def F.BAY_EPOCH_CUR_SLOT : Fld := ⟨R.BAY_EPOCH, 16, 16⟩
def F.BAY_EPOCH_EPOCH : Fld := ⟨R.BAY_EPOCH, 15, 0⟩
def F.BAY_ERR_ADDR_VALID : Fld := ⟨R.BAY_ERR_ADDR, 31, 31⟩
def F.BAY_ERR_ADDR_KIND : Fld := ⟨R.BAY_ERR_ADDR, 30, 28⟩
def F.BAY_ERR_ADDR_INDEX : Fld := ⟨R.BAY_ERR_ADDR, 25, 0⟩
def F.BAY_QUARANTINE_GROUPS : Fld := ⟨R.BAY_QUARANTINE, 20, 0⟩
def F.BAY_CACHE_STATUS_DIRTY : Fld := ⟨R.BAY_CACHE_STATUS, 27, 16⟩
def F.BAY_CACHE_STATUS_VALID : Fld := ⟨R.BAY_CACHE_STATUS, 11, 0⟩
def F.BAY_TRAIN_STATUS_DONE : Fld := ⟨R.BAY_TRAIN_STATUS, 31, 31⟩
def F.BAY_TRAIN_STATUS_FAIL : Fld := ⟨R.BAY_TRAIN_STATUS, 30, 30⟩
def F.BAY_TRAIN_STATUS_TEMP_C : Fld := ⟨R.BAY_TRAIN_STATUS, 23, 16⟩
def F.BAY_TRAIN_STATUS_REPAIRED_ROWS : Fld := ⟨R.BAY_TRAIN_STATUS, 15, 0⟩
def F.LANE_CTRL_ADAPT_FREEZE : Fld := ⟨R.LANE_CTRL, 7, 7⟩
def F.LANE_CTRL_LOOPBACK : Fld := ⟨R.LANE_CTRL, 6, 5⟩
def F.LANE_CTRL_RX_INVERT : Fld := ⟨R.LANE_CTRL, 4, 4⟩
def F.LANE_CTRL_TX_INVERT : Fld := ⟨R.LANE_CTRL, 3, 3⟩
def F.LANE_CTRL_TX_FORCE_SQUELCH : Fld := ⟨R.LANE_CTRL, 2, 2⟩
def F.LANE_CTRL_LOS_EVT_EN : Fld := ⟨R.LANE_CTRL, 1, 1⟩
def F.LANE_STATUS_SNR_QDB : Fld := ⟨R.LANE_STATUS, 31, 24⟩
def F.LANE_STATUS_RATE : Fld := ⟨R.LANE_STATUS, 17, 16⟩
def F.LANE_STATUS_PRBS_LOCK : Fld := ⟨R.LANE_STATUS, 5, 5⟩
def F.LANE_STATUS_ADAPT_DONE : Fld := ⟨R.LANE_STATUS, 4, 4⟩
def F.LANE_STATUS_CDR_LOCK : Fld := ⟨R.LANE_STATUS, 3, 3⟩
def F.LANE_STATUS_SIGNAL_DETECT : Fld := ⟨R.LANE_STATUS, 2, 2⟩
def F.LANE_STATUS_TX_ACTIVE : Fld := ⟨R.LANE_STATUS, 1, 1⟩
def F.LANE_STATUS_PLL_LOCK : Fld := ⟨R.LANE_STATUS, 0, 0⟩
def F.LANE_EVT_STATUS_PLL_UNLOCK : Fld := ⟨R.LANE_EVT_STATUS, 4, 4⟩
def F.LANE_EVT_STATUS_ADAPT_RESTART : Fld := ⟨R.LANE_EVT_STATUS, 3, 3⟩
def F.LANE_EVT_STATUS_CDR_UNLOCK : Fld := ⟨R.LANE_EVT_STATUS, 2, 2⟩
def F.LANE_EVT_STATUS_LOS : Fld := ⟨R.LANE_EVT_STATUS, 1, 1⟩
def F.LANE_EVT_STATUS_PRBS_ERR : Fld := ⟨R.LANE_EVT_STATUS, 0, 0⟩
def F.LANE_TX_EQ_POST1 : Fld := ⟨R.LANE_TX_EQ, 31, 24⟩
def F.LANE_TX_EQ_MAIN : Fld := ⟨R.LANE_TX_EQ, 23, 16⟩
def F.LANE_TX_EQ_PRE1 : Fld := ⟨R.LANE_TX_EQ, 15, 8⟩
def F.LANE_TX_EQ_PRE2 : Fld := ⟨R.LANE_TX_EQ, 7, 0⟩
def F.LANE_PRBS_CTRL_GEN_EN : Fld := ⟨R.LANE_PRBS_CTRL, 31, 31⟩
def F.LANE_PRBS_CTRL_CHK_EN : Fld := ⟨R.LANE_PRBS_CTRL, 30, 30⟩
def F.LANE_PRBS_CTRL_PATTERN : Fld := ⟨R.LANE_PRBS_CTRL, 29, 28⟩
def F.LANE_PRBS_CTRL_CLEAR : Fld := ⟨R.LANE_PRBS_CTRL, 0, 0⟩
def F.LANE_PRBS_ERR_ERRORS : Fld := ⟨R.LANE_PRBS_ERR, 31, 0⟩
def F.TIM_ID_PPS_OUTS : Fld := ⟨R.TIM_ID, 7, 4⟩
def F.TIM_CTRL_SOURCE : Fld := ⟨R.TIM_CTRL, 31, 30⟩
def F.TIM_CTRL_FREQ_REF : Fld := ⟨R.TIM_CTRL, 29, 29⟩
def F.TIM_CTRL_SEC_EVT_EN : Fld := ⟨R.TIM_CTRL, 3, 3⟩
def F.TIM_CTRL_PPS_IN_EVT_EN : Fld := ⟨R.TIM_CTRL, 2, 2⟩
def F.TIM_CTRL_TOD_EVT_EN : Fld := ⟨R.TIM_CTRL, 1, 1⟩
def F.TIM_CTRL_ADJ_EVT_EN : Fld := ⟨R.TIM_CTRL, 0, 0⟩
def F.TIM_STATUS_TXS_PENDING : Fld := ⟨R.TIM_STATUS, 6, 6⟩
def F.TIM_STATUS_CLK_MEAS_VALID : Fld := ⟨R.TIM_STATUS, 5, 5⟩
def F.TIM_STATUS_TIMECLK_PRESENT : Fld := ⟨R.TIM_STATUS, 4, 4⟩
def F.TIM_STATUS_PPS_IN_PRESENT : Fld := ⟨R.TIM_STATUS, 3, 3⟩
def F.TIM_STATUS_SEC_ALIGNED : Fld := ⟨R.TIM_STATUS, 2, 2⟩
def F.TIM_STATUS_ADJ_BUSY : Fld := ⟨R.TIM_STATUS, 1, 1⟩
def F.TIM_STATUS_READY : Fld := ⟨R.TIM_STATUS, 0, 0⟩
def F.TIM_EVT_STATUS_TXS_OVF : Fld := ⟨R.TIM_EVT_STATUS, 11, 11⟩
def F.TIM_EVT_STATUS_ADJ_ABORTED : Fld := ⟨R.TIM_EVT_STATUS, 10, 10⟩
def F.TIM_EVT_STATUS_ADJ_DONE : Fld := ⟨R.TIM_EVT_STATUS, 9, 9⟩
def F.TIM_EVT_STATUS_CLK_LOSS : Fld := ⟨R.TIM_EVT_STATUS, 8, 8⟩
def F.TIM_EVT_STATUS_TOD_ORPHAN : Fld := ⟨R.TIM_EVT_STATUS, 7, 7⟩
def F.TIM_EVT_STATUS_TOD_BAD : Fld := ⟨R.TIM_EVT_STATUS, 6, 6⟩
def F.TIM_EVT_STATUS_TOD_RX : Fld := ⟨R.TIM_EVT_STATUS, 5, 5⟩
def F.TIM_EVT_STATUS_PPS_IN_GLITCH : Fld := ⟨R.TIM_EVT_STATUS, 4, 4⟩
def F.TIM_EVT_STATUS_PPS_IN_LOSS : Fld := ⟨R.TIM_EVT_STATUS, 3, 3⟩
def F.TIM_EVT_STATUS_PPS_IN : Fld := ⟨R.TIM_EVT_STATUS, 2, 2⟩
def F.TIM_EVT_STATUS_STEP_SEC : Fld := ⟨R.TIM_EVT_STATUS, 1, 1⟩
def F.TIM_EVT_STATUS_SECOND : Fld := ⟨R.TIM_EVT_STATUS, 0, 0⟩
def F.TIM_SNAP_RAW_NS_NS : Fld := ⟨R.TIM_SNAP_RAW_NS, 31, 0⟩
def F.TIM_SNAP_RAW_WRAP_WRAP : Fld := ⟨R.TIM_SNAP_RAW_WRAP, 15, 0⟩
def F.TIM_SNAP_NET_NS_NS : Fld := ⟨R.TIM_SNAP_NET_NS, 31, 0⟩
def F.TIM_SNAP_NET_WRAP_WRAP : Fld := ⟨R.TIM_SNAP_NET_WRAP, 15, 0⟩
def F.TIM_SNAP_SEC_LO_SEC : Fld := ⟨R.TIM_SNAP_SEC_LO, 31, 0⟩
def F.TIM_SNAP_SEC_HI_SEC : Fld := ⟨R.TIM_SNAP_SEC_HI, 15, 0⟩
def F.TIM_RATE_RATE : Fld := ⟨R.TIM_RATE, 31, 0⟩
def F.TIM_SEC_NEXT_NS_NS : Fld := ⟨R.TIM_SEC_NEXT_NS, 31, 0⟩
def F.TIM_SEC_NEXT_WRAP_WRAP : Fld := ⟨R.TIM_SEC_NEXT_WRAP, 15, 0⟩
def F.TIM_STAGE_NS_STEP_LO : Fld := ⟨R.TIM_STAGE_NS, 31, 0⟩
def F.TIM_STAGE_WRAP_STEP_HI : Fld := ⟨R.TIM_STAGE_WRAP, 15, 0⟩
def F.TIM_STAGE_SECNEXT_NS_NS : Fld := ⟨R.TIM_STAGE_SECNEXT_NS, 31, 0⟩
def F.TIM_STAGE_SECNEXT_WRAP_WRAP : Fld := ⟨R.TIM_STAGE_SECNEXT_WRAP, 15, 0⟩
def F.TIM_STAGE_SEC_LO_SEC : Fld := ⟨R.TIM_STAGE_SEC_LO, 31, 0⟩
def F.TIM_STAGE_SEC_HI_SEC : Fld := ⟨R.TIM_STAGE_SEC_HI, 15, 0⟩
def F.TIM_STAGE_RATE_RATE : Fld := ⟨R.TIM_STAGE_RATE, 31, 0⟩
def F.TIM_ADJ_CMD_OP : Fld := ⟨R.TIM_ADJ_CMD, 31, 28⟩
def F.TIM_ADJ_CMD_LOAD_SEC : Fld := ⟨R.TIM_ADJ_CMD, 27, 27⟩
def F.TIM_ADJ_STATUS_STATE : Fld := ⟨R.TIM_ADJ_STATUS, 31, 30⟩
def F.TIM_ADJ_STATUS_OP : Fld := ⟨R.TIM_ADJ_STATUS, 27, 24⟩
def F.TIM_ADJ_STATUS_REASON : Fld := ⟨R.TIM_ADJ_STATUS, 23, 16⟩
def F.TIM_ADJ_STATUS_SEC_MOVED : Fld := ⟨R.TIM_ADJ_STATUS, 15, 0⟩
def F.TIM_SYNC_SYNC_STATE : Fld := ⟨R.TIM_SYNC, 31, 30⟩
def F.TIM_SYNC_ERR_EST_NS : Fld := ⟨R.TIM_SYNC, 23, 0⟩
def F.TIM_PPS_IN_CTRL_EN : Fld := ⟨R.TIM_PPS_IN_CTRL, 31, 31⟩
def F.TIM_PPS_IN_CTRL_POLARITY : Fld := ⟨R.TIM_PPS_IN_CTRL, 30, 30⟩
def F.TIM_PPS_IN_CTRL_DELAY_NS : Fld := ⟨R.TIM_PPS_IN_CTRL, 15, 0⟩
def F.TIM_PPS_IN_NS_NS : Fld := ⟨R.TIM_PPS_IN_NS, 31, 0⟩
def F.TIM_PPS_IN_WRAP_WRAP : Fld := ⟨R.TIM_PPS_IN_WRAP, 15, 0⟩
def F.TIM_PPS_IN_STATUS_VALID : Fld := ⟨R.TIM_PPS_IN_STATUS, 31, 31⟩
def F.TIM_PPS_IN_STATUS_OVERRUN : Fld := ⟨R.TIM_PPS_IN_STATUS, 30, 30⟩
def F.TIM_PPS_IN_STATUS_EDGES : Fld := ⟨R.TIM_PPS_IN_STATUS, 15, 0⟩
def F.TIM_TOD_CTRL_EN : Fld := ⟨R.TIM_TOD_CTRL, 31, 31⟩
def F.TIM_TOD_CTRL_BAUD : Fld := ⟨R.TIM_TOD_CTRL, 30, 30⟩
def F.TIM_TOD_STATUS_VALID : Fld := ⟨R.TIM_TOD_STATUS, 31, 31⟩
def F.TIM_TOD_STATUS_PAIRED : Fld := ⟨R.TIM_TOD_STATUS, 30, 30⟩
def F.TIM_TOD_STATUS_OVERRUN : Fld := ⟨R.TIM_TOD_STATUS, 29, 29⟩
def F.TIM_TOD_STATUS_SEQ : Fld := ⟨R.TIM_TOD_STATUS, 15, 0⟩
def F.TIM_TOD_SEC_LO_SECONDS : Fld := ⟨R.TIM_TOD_SEC_LO, 31, 0⟩
def F.TIM_TOD_SEC_HI_UTC_OFFSET : Fld := ⟨R.TIM_TOD_SEC_HI, 31, 16⟩
def F.TIM_TOD_SEC_HI_SECONDS : Fld := ⟨R.TIM_TOD_SEC_HI, 15, 0⟩
def F.TIM_TOD_INFO_FLAGS : Fld := ⟨R.TIM_TOD_INFO, 31, 24⟩
def F.TIM_TOD_INFO_CLOCK_CLASS : Fld := ⟨R.TIM_TOD_INFO, 23, 16⟩
def F.TIM_TOD_INFO_CLOCK_ACCURACY : Fld := ⟨R.TIM_TOD_INFO, 15, 8⟩
def F.TIM_TOD_INFO_TIME_SOURCE : Fld := ⟨R.TIM_TOD_INFO, 7, 0⟩
def F.TIM_TOD_RX_NS_NS : Fld := ⟨R.TIM_TOD_RX_NS, 31, 0⟩
def F.TIM_CLK_CTRL_EN : Fld := ⟨R.TIM_CLK_CTRL, 31, 31⟩
def F.TIM_CLK_MEAS_DIFF_NS : Fld := ⟨R.TIM_CLK_MEAS, 31, 0⟩
def F.TIM_TXS_INFO_VALID : Fld := ⟨R.TIM_TXS_INFO, 31, 31⟩
def F.TIM_TXS_INFO_OVF : Fld := ⟨R.TIM_TXS_INFO, 30, 30⟩
def F.TIM_TXS_INFO_CPORT : Fld := ⟨R.TIM_TXS_INFO, 28, 24⟩
def F.TIM_TXS_INFO_TAG : Fld := ⟨R.TIM_TXS_INFO, 23, 16⟩
def F.TIM_TXS_INFO_WRAP : Fld := ⟨R.TIM_TXS_INFO, 15, 0⟩
def F.TIM_TXS_NS_NS : Fld := ⟨R.TIM_TXS_NS, 31, 0⟩
def F.TIM_PPS_OUT_CTRL_MODE : Fld := ⟨R.TIM_PPS_OUT_CTRL, 31, 30⟩
def F.TIM_PPS_OUT_CTRL_POLARITY : Fld := ⟨R.TIM_PPS_OUT_CTRL, 29, 29⟩
def F.TIM_PPS_OUT_CTRL_RUNNING : Fld := ⟨R.TIM_PPS_OUT_CTRL, 28, 28⟩
def F.TIM_PPS_OUT_CTRL_WIDTH_US : Fld := ⟨R.TIM_PPS_OUT_CTRL, 19, 0⟩
def F.TIM_PPS_OUT_PERIOD_PERIOD_NS : Fld := ⟨R.TIM_PPS_OUT_PERIOD, 31, 0⟩
def F.THY_ID_ENTRIES : Fld := ⟨R.THY_ID, 12, 0⟩
def F.THY_CTRL_HOLD_MS : Fld := ⟨R.THY_CTRL, 31, 16⟩
def F.THY_CTRL_ABORT_EVT_EN : Fld := ⟨R.THY_CTRL, 1, 1⟩
def F.THY_CTRL_DONE_EVT_EN : Fld := ⟨R.THY_CTRL, 0, 0⟩
def F.THY_STATUS_FIFO_OVF : Fld := ⟨R.THY_STATUS, 3, 3⟩
def F.THY_STATUS_FULL : Fld := ⟨R.THY_STATUS, 2, 2⟩
def F.THY_STATUS_CMD_BUSY : Fld := ⟨R.THY_STATUS, 1, 1⟩
def F.THY_STATUS_READY : Fld := ⟨R.THY_STATUS, 0, 0⟩
def F.THY_EVT_STATUS_STEPPED : Fld := ⟨R.THY_EVT_STATUS, 5, 5⟩
def F.THY_EVT_STATUS_FIFO_OVF : Fld := ⟨R.THY_EVT_STATUS, 4, 4⟩
def F.THY_EVT_STATUS_USER : Fld := ⟨R.THY_EVT_STATUS, 3, 3⟩
def F.THY_EVT_STATUS_REFUSED : Fld := ⟨R.THY_EVT_STATUS, 2, 2⟩
def F.THY_EVT_STATUS_ABORTED : Fld := ⟨R.THY_EVT_STATUS, 1, 1⟩
def F.THY_EVT_STATUS_DONE : Fld := ⟨R.THY_EVT_STATUS, 0, 0⟩
def F.THY_STAGE_ACTION_LATE_ABORT : Fld := ⟨R.THY_STAGE_ACTION, 31, 31⟩
def F.THY_STAGE_ACTION_ACTION : Fld := ⟨R.THY_STAGE_ACTION, 7, 0⟩
def F.THY_STAGE_AT_WRAP_WRAP : Fld := ⟨R.THY_STAGE_AT_WRAP, 15, 0⟩
def F.THY_STAGE_AT_NS_NS : Fld := ⟨R.THY_STAGE_AT_NS, 31, 0⟩
def F.THY_STAGE_ARG_ARG : Fld := ⟨R.THY_STAGE_ARG, 31, 0⟩
def F.THY_CMD_OP : Fld := ⟨R.THY_CMD, 31, 28⟩
def F.THY_CMD_ENTRY : Fld := ⟨R.THY_CMD, 27, 16⟩
def F.THY_CMD_TICKET : Fld := ⟨R.THY_CMD, 15, 0⟩
def F.THY_CMD_STATUS_STATE : Fld := ⟨R.THY_CMD_STATUS, 31, 30⟩
def F.THY_CMD_STATUS_ABORT_RESULT : Fld := ⟨R.THY_CMD_STATUS, 29, 28⟩
def F.THY_CMD_STATUS_OP : Fld := ⟨R.THY_CMD_STATUS, 27, 24⟩
def F.THY_CMD_STATUS_REASON : Fld := ⟨R.THY_CMD_STATUS, 23, 16⟩
def F.THY_CMD_STATUS_ENTRY : Fld := ⟨R.THY_CMD_STATUS, 11, 0⟩
def F.THY_CMD_TICKET_TICKET : Fld := ⟨R.THY_CMD_TICKET, 15, 0⟩
def F.THY_PENDING_USED : Fld := ⟨R.THY_PENDING, 28, 16⟩
def F.THY_PENDING_PENDING : Fld := ⟨R.THY_PENDING, 12, 0⟩
def F.THY_NEXT_INFO_VALID : Fld := ⟨R.THY_NEXT_INFO, 31, 31⟩
def F.THY_NEXT_INFO_ACTION : Fld := ⟨R.THY_NEXT_INFO, 27, 20⟩
def F.THY_NEXT_INFO_ENTRY : Fld := ⟨R.THY_NEXT_INFO, 11, 0⟩
def F.THY_NEXT_WRAP_WRAP : Fld := ⟨R.THY_NEXT_WRAP, 15, 0⟩
def F.THY_NEXT_NS_NS : Fld := ⟨R.THY_NEXT_NS, 31, 0⟩
def F.THY_DONE_FIFO_VALID : Fld := ⟨R.THY_DONE_FIFO, 31, 31⟩
def F.THY_DONE_FIFO_ABORTED : Fld := ⟨R.THY_DONE_FIFO, 30, 30⟩
def F.THY_DONE_FIFO_STEPPED : Fld := ⟨R.THY_DONE_FIFO, 29, 29⟩
def F.THY_DONE_FIFO_ACTION : Fld := ⟨R.THY_DONE_FIFO, 27, 20⟩
def F.THY_DONE_FIFO_ENTRY : Fld := ⟨R.THY_DONE_FIFO, 11, 0⟩
def F.THY_DONE_TICKET_REASON : Fld := ⟨R.THY_DONE_TICKET, 31, 24⟩
def F.THY_DONE_TICKET_TICKET : Fld := ⟨R.THY_DONE_TICKET, 15, 0⟩
def F.THY_DONE_COUNT_COUNT : Fld := ⟨R.THY_DONE_COUNT, 16, 0⟩
def F.THY_USER_ARG_ARG : Fld := ⟨R.THY_USER_ARG, 31, 0⟩
def F.SAGE_ID_CORES : Fld := ⟨R.SAGE_ID, 7, 0⟩
def F.SAGE_CTRL_IMAGE_COMMIT : Fld := ⟨R.SAGE_CTRL, 3, 3⟩
def F.SAGE_CTRL_REVERT_EN : Fld := ⟨R.SAGE_CTRL, 2, 2⟩
def F.SAGE_CTRL_TAKEOVER_EVT_EN : Fld := ⟨R.SAGE_CTRL, 1, 1⟩
def F.SAGE_CTRL_CS_EVT_EN : Fld := ⟨R.SAGE_CTRL, 0, 0⟩
def F.SAGE_STATUS_IMAGE_COMMITTED : Fld := ⟨R.SAGE_STATUS, 7, 7⟩
def F.SAGE_STATUS_DEFERRING : Fld := ⟨R.SAGE_STATUS, 6, 6⟩
def F.SAGE_STATUS_REVERT_PENDING : Fld := ⟨R.SAGE_STATUS, 5, 5⟩
def F.SAGE_STATUS_B_ELIGIBLE : Fld := ⟨R.SAGE_STATUS, 4, 4⟩
def F.SAGE_STATUS_A_ELIGIBLE : Fld := ⟨R.SAGE_STATUS, 3, 3⟩
def F.SAGE_STATUS_HOLDER : Fld := ⟨R.SAGE_STATUS, 1, 0⟩
def F.SAGE_EVT_STATUS_REPLAY_STOPPED : Fld := ⟨R.SAGE_EVT_STATUS, 11, 11⟩
def F.SAGE_EVT_STATUS_IMAGE_COMMIT : Fld := ⟨R.SAGE_EVT_STATUS, 10, 10⟩
def F.SAGE_EVT_STATUS_CS_REFUSED : Fld := ⟨R.SAGE_EVT_STATUS, 9, 9⟩
def F.SAGE_EVT_STATUS_CS_ABORTED : Fld := ⟨R.SAGE_EVT_STATUS, 8, 8⟩
def F.SAGE_EVT_STATUS_CS_DONE : Fld := ⟨R.SAGE_EVT_STATUS, 7, 7⟩
def F.SAGE_EVT_STATUS_DEFER_DROP : Fld := ⟨R.SAGE_EVT_STATUS, 6, 6⟩
def F.SAGE_EVT_STATUS_WDT_B : Fld := ⟨R.SAGE_EVT_STATUS, 5, 5⟩
def F.SAGE_EVT_STATUS_WDT_A : Fld := ⟨R.SAGE_EVT_STATUS, 4, 4⟩
def F.SAGE_EVT_STATUS_NO_HOLDER : Fld := ⟨R.SAGE_EVT_STATUS, 3, 3⟩
def F.SAGE_EVT_STATUS_REVERT : Fld := ⟨R.SAGE_EVT_STATUS, 2, 2⟩
def F.SAGE_EVT_STATUS_HANDOVER : Fld := ⟨R.SAGE_EVT_STATUS, 1, 1⟩
def F.SAGE_EVT_STATUS_TAKEOVER : Fld := ⟨R.SAGE_EVT_STATUS, 0, 0⟩
def F.SAGE_LEASE_HOLDER : Fld := ⟨R.SAGE_LEASE, 31, 30⟩
def F.SAGE_LEASE_REMAIN_US : Fld := ⟨R.SAGE_LEASE, 23, 0⟩
def F.SAGE_RENEW_RENEW : Fld := ⟨R.SAGE_RENEW, 0, 0⟩
def F.SAGE_ALIVE_HEALTHY : Fld := ⟨R.SAGE_ALIVE, 1, 1⟩
def F.SAGE_ALIVE_ALIVE : Fld := ⟨R.SAGE_ALIVE, 0, 0⟩
def F.SAGE_HANDOVER_GO : Fld := ⟨R.SAGE_HANDOVER, 0, 0⟩
def F.SAGE_LEASE_CFG_HOLDOFF_S : Fld := ⟨R.SAGE_LEASE_CFG, 31, 16⟩
def F.SAGE_LEASE_CFG_GLOBAL_S : Fld := ⟨R.SAGE_LEASE_CFG, 15, 8⟩
def F.SAGE_LEASE_CFG_LEASE_MS : Fld := ⟨R.SAGE_LEASE_CFG, 7, 0⟩
def F.SAGE_WDT_CFG_WDT_MS : Fld := ⟨R.SAGE_WDT_CFG, 15, 0⟩
def F.SAGE_WDT_KICK_KICK : Fld := ⟨R.SAGE_WDT_KICK, 0, 0⟩
def F.SAGE_A_STATE_STATE : Fld := ⟨R.SAGE_A_STATE, 31, 29⟩
def F.SAGE_A_STATE_HEALTHY : Fld := ⟨R.SAGE_A_STATE, 28, 28⟩
def F.SAGE_A_STATE_RESETS : Fld := ⟨R.SAGE_A_STATE, 15, 0⟩
def F.SAGE_B_STATE_STATE : Fld := ⟨R.SAGE_B_STATE, 31, 29⟩
def F.SAGE_B_STATE_HEALTHY : Fld := ⟨R.SAGE_B_STATE, 28, 28⟩
def F.SAGE_B_STATE_RESETS : Fld := ⟨R.SAGE_B_STATE, 15, 0⟩
def F.SAGE_FW_VERSION_VERSION : Fld := ⟨R.SAGE_FW_VERSION, 31, 0⟩
def F.SAGE_CFG_VERSION_VERSION : Fld := ⟨R.SAGE_CFG_VERSION, 31, 0⟩
def F.SAGE_DIGEST_HI_DIGEST : Fld := ⟨R.SAGE_DIGEST_HI, 31, 0⟩
def F.SAGE_DIGEST_LO_DIGEST : Fld := ⟨R.SAGE_DIGEST_LO, 31, 0⟩
def F.SAGE_CS_CMD_OP : Fld := ⟨R.SAGE_CS_CMD, 31, 28⟩
def F.SAGE_CS_CMD_TICKET : Fld := ⟨R.SAGE_CS_CMD, 15, 0⟩
def F.SAGE_CS_STATUS_STATE : Fld := ⟨R.SAGE_CS_STATUS, 31, 29⟩
def F.SAGE_CS_STATUS_ABORT_RESULT : Fld := ⟨R.SAGE_CS_STATUS, 28, 27⟩
def F.SAGE_CS_STATUS_REASON : Fld := ⟨R.SAGE_CS_STATUS, 23, 16⟩
def F.SAGE_CS_STATUS_TICKET : Fld := ⟨R.SAGE_CS_STATUS, 15, 0⟩
def F.SAGE_CS_AT_WRAP_WRAP : Fld := ⟨R.SAGE_CS_AT_WRAP, 15, 0⟩
def F.SAGE_CS_AT_NS_NS : Fld := ⟨R.SAGE_CS_AT_NS, 31, 0⟩
def F.SAGE_MBOX_CTRL_CLEAR : Fld := ⟨R.SAGE_MBOX_CTRL, 31, 31⟩
def F.SAGE_MBOX_STATUS_FULL : Fld := ⟨R.SAGE_MBOX_STATUS, 31, 31⟩
def F.SAGE_MBOX_STATUS_WORDS : Fld := ⟨R.SAGE_MBOX_STATUS, 18, 0⟩
def F.SAGE_MBOX_DATA_WORD : Fld := ⟨R.SAGE_MBOX_DATA, 31, 0⟩
def F.SAGE_DEFER_STATUS_LEVEL : Fld := ⟨R.SAGE_DEFER_STATUS, 6, 0⟩
def F.SAGE_EXC_LEVEL_UNITS : Fld := ⟨R.SAGE_EXC_LEVEL, 12, 0⟩
def F.SAGE_BOOT_TIME_VERIFY_MS : Fld := ⟨R.SAGE_BOOT_TIME, 31, 16⟩
def F.SAGE_BOOT_TIME_BOOT_MS : Fld := ⟨R.SAGE_BOOT_TIME, 15, 0⟩
def F.NVL_ID_WIDTH : Fld := ⟨R.NVL_ID, 23, 16⟩
def F.NVL_ID_CS1_SIZE : Fld := ⟨R.NVL_ID, 15, 8⟩
def F.NVL_ID_CS0_SIZE : Fld := ⟨R.NVL_ID, 7, 0⟩
def F.NVL_CTRL_WEAR_EVT_EN : Fld := ⟨R.NVL_CTRL, 2, 2⟩
def F.NVL_CTRL_UPD_EVT_EN : Fld := ⟨R.NVL_CTRL, 1, 1⟩
def F.NVL_STATUS_SVN_BUSY : Fld := ⟨R.NVL_STATUS, 5, 5⟩
def F.NVL_STATUS_RSM_BUSY : Fld := ⟨R.NVL_STATUS, 4, 4⟩
def F.NVL_STATUS_UPD_BUSY : Fld := ⟨R.NVL_STATUS, 3, 3⟩
def F.NVL_STATUS_CS1_OK : Fld := ⟨R.NVL_STATUS, 2, 2⟩
def F.NVL_STATUS_CS0_OK : Fld := ⟨R.NVL_STATUS, 1, 1⟩
def F.NVL_STATUS_READY : Fld := ⟨R.NVL_STATUS, 0, 0⟩
def F.NVL_EVT_STATUS_FALLBACK : Fld := ⟨R.NVL_EVT_STATUS, 9, 9⟩
def F.NVL_EVT_STATUS_SVN_DONE : Fld := ⟨R.NVL_EVT_STATUS, 8, 8⟩
def F.NVL_EVT_STATUS_JOURNAL_HIGH : Fld := ⟨R.NVL_EVT_STATUS, 7, 7⟩
def F.NVL_EVT_STATUS_WEAR_HIGH : Fld := ⟨R.NVL_EVT_STATUS, 6, 6⟩
def F.NVL_EVT_STATUS_ERASE_FAIL : Fld := ⟨R.NVL_EVT_STATUS, 5, 5⟩
def F.NVL_EVT_STATUS_PROG_FAIL : Fld := ⟨R.NVL_EVT_STATUS, 4, 4⟩
def F.NVL_EVT_STATUS_VERIFY_FAIL : Fld := ⟨R.NVL_EVT_STATUS, 3, 3⟩
def F.NVL_EVT_STATUS_UPD_ABORTED : Fld := ⟨R.NVL_EVT_STATUS, 1, 1⟩
def F.NVL_EVT_STATUS_UPD_DONE : Fld := ⟨R.NVL_EVT_STATUS, 0, 0⟩
def F.NVL_BOOT_INFO_VALID : Fld := ⟨R.NVL_BOOT_INFO, 31, 31⟩
def F.NVL_BOOT_INFO_SLOT : Fld := ⟨R.NVL_BOOT_INFO, 30, 30⟩
def F.NVL_BOOT_INFO_SOURCE : Fld := ⟨R.NVL_BOOT_INFO, 29, 28⟩
def F.NVL_BOOT_INFO_REJECT : Fld := ⟨R.NVL_BOOT_INFO, 27, 24⟩
def F.NVL_BOOT_INFO_REPLAY_STOP : Fld := ⟨R.NVL_BOOT_INFO, 23, 20⟩
def F.NVL_BOOT_INFO_REPLAYED : Fld := ⟨R.NVL_BOOT_INFO, 19, 0⟩
def F.NVL_SLOT_A_VER_CFG_VERSION : Fld := ⟨R.NVL_SLOT_A_VER, 31, 0⟩
def F.NVL_SLOT_B_VER_CFG_VERSION : Fld := ⟨R.NVL_SLOT_B_VER, 31, 0⟩
def F.NVL_COMMIT_SEQ_SEQ : Fld := ⟨R.NVL_COMMIT_SEQ, 31, 0⟩
def F.NVL_UPD_CMD_OP : Fld := ⟨R.NVL_UPD_CMD, 31, 28⟩
def F.NVL_UPD_CMD_TICKET : Fld := ⟨R.NVL_UPD_CMD, 15, 0⟩
def F.NVL_UPD_STATUS_STATE : Fld := ⟨R.NVL_UPD_STATUS, 31, 29⟩
def F.NVL_UPD_STATUS_ABORT_RESULT : Fld := ⟨R.NVL_UPD_STATUS, 28, 27⟩
def F.NVL_UPD_STATUS_SLOT : Fld := ⟨R.NVL_UPD_STATUS, 26, 26⟩
def F.NVL_UPD_STATUS_REASON : Fld := ⟨R.NVL_UPD_STATUS, 23, 16⟩
def F.NVL_UPD_STATUS_TICKET : Fld := ⟨R.NVL_UPD_STATUS, 15, 0⟩
def F.NVL_UPD_LEN_BYTES : Fld := ⟨R.NVL_UPD_LEN, 24, 0⟩
def F.NVL_UPD_OFFSET_BYTES : Fld := ⟨R.NVL_UPD_OFFSET, 24, 0⟩
def F.NVL_UPD_DATA_WORD : Fld := ⟨R.NVL_UPD_DATA, 31, 0⟩
def F.NVL_JRNL_STATUS_RECORDS : Fld := ⟨R.NVL_JRNL_STATUS, 31, 16⟩
def F.NVL_JRNL_STATUS_USED_KIB : Fld := ⟨R.NVL_JRNL_STATUS, 15, 0⟩
def F.NVL_RSM_STATUS_CS : Fld := ⟨R.NVL_RSM_STATUS, 31, 31⟩
def F.NVL_RSM_STATUS_SECTOR : Fld := ⟨R.NVL_RSM_STATUS, 27, 16⟩
def F.NVL_RSM_STATUS_FILL_PCT : Fld := ⟨R.NVL_RSM_STATUS, 6, 0⟩
def F.NVL_WEAR_MAX_ERASES : Fld := ⟨R.NVL_WEAR_MAX, 31, 0⟩
def F.NVL_WEAR_MEAN_ERASES : Fld := ⟨R.NVL_WEAR_MEAN, 31, 0⟩
def F.NVL_ERASE_CNT_COUNT : Fld := ⟨R.NVL_ERASE_CNT, 31, 0⟩
def F.NVL_SVN_SVN : Fld := ⟨R.NVL_SVN, 5, 0⟩
def F.NVL_SVN_CMD_OP : Fld := ⟨R.NVL_SVN_CMD, 31, 28⟩
def F.NVL_SVN_CMD_VALUE : Fld := ⟨R.NVL_SVN_CMD, 5, 0⟩
def F.NVL_ERR_ADDR_VALID : Fld := ⟨R.NVL_ERR_ADDR, 31, 31⟩
def F.NVL_ERR_ADDR_CS : Fld := ⟨R.NVL_ERR_ADDR, 30, 30⟩
def F.NVL_ERR_ADDR_ADDR : Fld := ⟨R.NVL_ERR_ADDR, 27, 0⟩
def F.MNT_ID_GENERATORS : Fld := ⟨R.MNT_ID, 24, 16⟩
def F.MNT_ID_SOURCES : Fld := ⟨R.MNT_ID, 3, 0⟩
def F.MNT_CTRL_RESEED_EVT_EN : Fld := ⟨R.MNT_CTRL, 3, 3⟩
def F.MNT_CTRL_HT_EVT_EN : Fld := ⟨R.MNT_CTRL, 2, 2⟩
def F.MNT_CTRL_STARVED_EVT_EN : Fld := ⟨R.MNT_CTRL, 1, 1⟩
def F.MNT_CTRL_READY_EVT_EN : Fld := ⟨R.MNT_CTRL, 0, 0⟩
def F.MNT_STATUS_STATE : Fld := ⟨R.MNT_STATUS, 31, 29⟩
def F.MNT_STATUS_POOL : Fld := ⟨R.MNT_STATUS, 11, 8⟩
def F.MNT_STATUS_HEALTHY : Fld := ⟨R.MNT_STATUS, 2, 0⟩
def F.MNT_EVT_STATUS_TEST_CHANGE : Fld := ⟨R.MNT_EVT_STATUS, 6, 6⟩
def F.MNT_EVT_STATUS_RESEED : Fld := ⟨R.MNT_EVT_STATUS, 5, 5⟩
def F.MNT_EVT_STATUS_STARVED : Fld := ⟨R.MNT_EVT_STATUS, 4, 4⟩
def F.MNT_EVT_STATUS_ERASED : Fld := ⟨R.MNT_EVT_STATUS, 3, 3⟩
def F.MNT_EVT_STATUS_MINT_FATAL : Fld := ⟨R.MNT_EVT_STATUS, 2, 2⟩
def F.MNT_EVT_STATUS_HT_FAIL : Fld := ⟨R.MNT_EVT_STATUS, 1, 1⟩
def F.MNT_EVT_STATUS_READY : Fld := ⟨R.MNT_EVT_STATUS, 0, 0⟩
def F.MNT_SRC_STATUS_STATE0 : Fld := ⟨R.MNT_SRC_STATUS, 7, 6⟩
def F.MNT_SRC_STATUS_STATE1 : Fld := ⟨R.MNT_SRC_STATUS, 15, 14⟩
def F.MNT_SRC_STATUS_STATE2 : Fld := ⟨R.MNT_SRC_STATUS, 23, 22⟩
def F.MNT_SRC_STATUS_STATE3 : Fld := ⟨R.MNT_SRC_STATUS, 31, 30⟩
def F.MNT_SRC_STATUS_CONSEC0 : Fld := ⟨R.MNT_SRC_STATUS, 5, 3⟩
def F.MNT_SRC_STATUS_CONSEC1 : Fld := ⟨R.MNT_SRC_STATUS, 13, 11⟩
def F.MNT_SRC_STATUS_CONSEC2 : Fld := ⟨R.MNT_SRC_STATUS, 21, 19⟩
def F.MNT_SRC_STATUS_CONSEC3 : Fld := ⟨R.MNT_SRC_STATUS, 29, 27⟩
def F.MNT_SRC_STATUS_CAPTURE0 : Fld := ⟨R.MNT_SRC_STATUS, 2, 2⟩
def F.MNT_SRC_STATUS_CAPTURE1 : Fld := ⟨R.MNT_SRC_STATUS, 10, 10⟩
def F.MNT_SRC_STATUS_CAPTURE2 : Fld := ⟨R.MNT_SRC_STATUS, 18, 18⟩
def F.MNT_SRC_STATUS_CAPTURE3 : Fld := ⟨R.MNT_SRC_STATUS, 26, 26⟩
def F.MNT_SRC_STATUS_INJECT0 : Fld := ⟨R.MNT_SRC_STATUS, 1, 1⟩
def F.MNT_SRC_STATUS_INJECT1 : Fld := ⟨R.MNT_SRC_STATUS, 9, 9⟩
def F.MNT_SRC_STATUS_INJECT2 : Fld := ⟨R.MNT_SRC_STATUS, 17, 17⟩
def F.MNT_SRC_STATUS_INJECT3 : Fld := ⟨R.MNT_SRC_STATUS, 25, 25⟩
def F.MNT_SRC_CTRL_RESTART : Fld := ⟨R.MNT_SRC_CTRL, 7, 4⟩
def F.MNT_SRC_CTRL_EN : Fld := ⟨R.MNT_SRC_CTRL, 3, 0⟩
def F.MNT_RESEED_CFG_SOFT_LOG2 : Fld := ⟨R.MNT_RESEED_CFG, 25, 21⟩
def F.MNT_RESEED_CFG_RESEED_MS : Fld := ⟨R.MNT_RESEED_CFG, 9, 0⟩
def F.MNT_CMD_OP : Fld := ⟨R.MNT_CMD, 31, 28⟩
def F.MNT_CMD_WORDS : Fld := ⟨R.MNT_CMD, 4, 0⟩
def F.MNT_CMD_STATUS_STATE : Fld := ⟨R.MNT_CMD_STATUS, 31, 30⟩
def F.MNT_CMD_STATUS_OP : Fld := ⟨R.MNT_CMD_STATUS, 27, 24⟩
def F.MNT_CMD_STATUS_REASON : Fld := ⟨R.MNT_CMD_STATUS, 23, 16⟩
def F.MNT_POOL_STATUS_SRC_LAST : Fld := ⟨R.MNT_POOL_STATUS, 15, 12⟩
def F.MNT_POOL_STATUS_LEVEL : Fld := ⟨R.MNT_POOL_STATUS, 3, 0⟩
def F.MNT_DRBG_STATUS_MS_SINCE : Fld := ⟨R.MNT_DRBG_STATUS, 31, 21⟩
def F.MNT_DRBG_STATUS_REQS_SINCE : Fld := ⟨R.MNT_DRBG_STATUS, 20, 0⟩
def F.MNT_KEY_OUT_WORD : Fld := ⟨R.MNT_KEY_OUT, 31, 0⟩
def F.MNT_RAND_OUT_WORD : Fld := ⟨R.MNT_RAND_OUT, 31, 0⟩
def F.MNT_OUT_STATUS_KEY_WORDS : Fld := ⟨R.MNT_OUT_STATUS, 20, 16⟩
def F.MNT_OUT_STATUS_RAND_WORDS : Fld := ⟨R.MNT_OUT_STATUS, 4, 0⟩
def F.MNT_TEST_CTRL_INJECT : Fld := ⟨R.MNT_TEST_CTRL, 31, 28⟩
def F.MNT_TEST_CTRL_INJECT_LIVE : Fld := ⟨R.MNT_TEST_CTRL, 27, 27⟩
def F.MNT_TEST_CTRL_CAPTURE_EN : Fld := ⟨R.MNT_TEST_CTRL, 26, 26⟩
def F.MNT_TEST_CTRL_CAPTURE_SRC : Fld := ⟨R.MNT_TEST_CTRL, 25, 24⟩
def F.MNT_TEST_CTRL_KAT_LOAD : Fld := ⟨R.MNT_TEST_CTRL, 23, 23⟩
def F.MNT_TEST_CTRL_FIFO_LEVEL : Fld := ⟨R.MNT_TEST_CTRL, 8, 0⟩
def F.MNT_TEST_DATA_SRC : Fld := ⟨R.MNT_TEST_DATA, 31, 30⟩
def F.MNT_TEST_OUT_WORD : Fld := ⟨R.MNT_TEST_OUT, 31, 0⟩
def F.MNT_RAW_CAPTURE_SAMPLES : Fld := ⟨R.MNT_RAW_CAPTURE, 31, 16⟩
def F.MNT_RAW_CAPTURE_VALID : Fld := ⟨R.MNT_RAW_CAPTURE, 15, 15⟩
def F.MNT_RAW_CAPTURE_OVF : Fld := ⟨R.MNT_RAW_CAPTURE, 14, 14⟩
def F.MNT_HT_CFG_APT_CUTOFF : Fld := ⟨R.MNT_HT_CFG, 31, 16⟩
def F.MNT_HT_CFG_RCT_CUTOFF : Fld := ⟨R.MNT_HT_CFG, 15, 8⟩
def F.MNT_HT_CFG_RESTART_APT : Fld := ⟨R.MNT_HT_CFG, 7, 0⟩
def F.MNT_MASK_PENDING_STOPPED : Fld := ⟨R.MNT_MASK_PENDING, 24, 16⟩
def F.MNT_MASK_PENDING_WAITING : Fld := ⟨R.MNT_MASK_PENDING, 8, 0⟩
def F.MNT_MASK_WAIT_MAX_NS : Fld := ⟨R.MNT_MASK_WAIT_MAX, 31, 0⟩
def F.EVT_ID_SOURCES : Fld := ⟨R.EVT_ID, 31, 16⟩
def F.EVT_ID_GROUPS : Fld := ⟨R.EVT_ID, 15, 8⟩
def F.EVT_CTRL_FIFO_EN : Fld := ⟨R.EVT_CTRL, 0, 0⟩
def F.EVT_STATUS_IRQ : Fld := ⟨R.EVT_STATUS, 2, 2⟩
def F.EVT_STATUS_ALARM : Fld := ⟨R.EVT_STATUS, 1, 1⟩
def F.EVT_STATUS_READY : Fld := ⟨R.EVT_STATUS, 0, 0⟩
def F.EVT_EVT_STATUS_RSM_LATE : Fld := ⟨R.EVT_EVT_STATUS, 3, 3⟩
def F.EVT_EVT_STATUS_RETAINED_FULL : Fld := ⟨R.EVT_EVT_STATUS, 2, 2⟩
def F.EVT_EVT_STATUS_RING_OVF : Fld := ⟨R.EVT_EVT_STATUS, 1, 1⟩
def F.EVT_EVT_STATUS_FIFO_OVF : Fld := ⟨R.EVT_EVT_STATUS, 0, 0⟩
def F.EVT_SEQ_SEQ : Fld := ⟨R.EVT_SEQ, 31, 0⟩
def F.EVT_IRQ_SUM_LO_GROUPS : Fld := ⟨R.EVT_IRQ_SUM_LO, 31, 0⟩
def F.EVT_IRQ_SUM_HI_GROUPS : Fld := ⟨R.EVT_IRQ_SUM_HI, 15, 0⟩
def F.EVT_ALARM_SUM_LO_GROUPS : Fld := ⟨R.EVT_ALARM_SUM_LO, 31, 0⟩
def F.EVT_ALARM_SUM_HI_GROUPS : Fld := ⟨R.EVT_ALARM_SUM_HI, 15, 0⟩
def F.EVT_FIFO_INFO_VALID : Fld := ⟨R.EVT_FIFO_INFO, 31, 31⟩
def F.EVT_FIFO_INFO_OVF : Fld := ⟨R.EVT_FIFO_INFO, 30, 30⟩
def F.EVT_FIFO_INFO_FORCED : Fld := ⟨R.EVT_FIFO_INFO, 29, 29⟩
def F.EVT_FIFO_INFO_SOURCE : Fld := ⟨R.EVT_FIFO_INFO, 26, 16⟩
def F.EVT_FIFO_INFO_BIT : Fld := ⟨R.EVT_FIFO_INFO, 15, 11⟩
def F.EVT_FIFO_SEQ_SEQ : Fld := ⟨R.EVT_FIFO_SEQ, 31, 0⟩
def F.EVT_FIFO_WRAP_WRAP : Fld := ⟨R.EVT_FIFO_WRAP, 15, 0⟩
def F.EVT_FIFO_NS_NS : Fld := ⟨R.EVT_FIFO_NS, 31, 0⟩
def F.EVT_FIFO_LEVEL_LEVEL : Fld := ⟨R.EVT_FIFO_LEVEL, 10, 0⟩
def F.EVT_SW_RAISE_BIT : Fld := ⟨R.EVT_SW_RAISE, 4, 0⟩
def F.EVT_FORCE_SOURCE : Fld := ⟨R.EVT_FORCE, 26, 16⟩
def F.EVT_FORCE_BIT : Fld := ⟨R.EVT_FORCE, 15, 11⟩
def F.EVT_RSM_CTRL_EVENT_FLUSH_MS : Fld := ⟨R.EVT_RSM_CTRL, 15, 0⟩
def F.EVT_RSM_STATUS_FLASH_OK : Fld := ⟨R.EVT_RSM_STATUS, 31, 31⟩
def F.EVT_RSM_STATUS_RETAINED_FULL : Fld := ⟨R.EVT_RSM_STATUS, 30, 30⟩
def F.EVT_RSM_STATUS_SUPPRESSING : Fld := ⟨R.EVT_RSM_STATUS, 29, 29⟩
def F.EVT_RSM_STATUS_RING_LEVEL : Fld := ⟨R.EVT_RSM_STATUS, 12, 0⟩
def F.EVT_RSM_LSEQ_LO_LSEQ : Fld := ⟨R.EVT_RSM_LSEQ_LO, 31, 0⟩
def F.EVT_RSM_LSEQ_HI_LSEQ : Fld := ⟨R.EVT_RSM_LSEQ_HI, 31, 0⟩
def F.EVT_RSM_DURABLE_LO_LSEQ : Fld := ⟨R.EVT_RSM_DURABLE_LO, 31, 0⟩
def F.EVT_RSM_DURABLE_HI_LSEQ : Fld := ⟨R.EVT_RSM_DURABLE_HI, 31, 0⟩
def F.EVT_RSM_BUCKET_LEVEL_KIB : Fld := ⟨R.EVT_RSM_BUCKET, 23, 0⟩
def F.EVT_BOOT_COUNT_BOOTS : Fld := ⟨R.EVT_BOOT_COUNT, 31, 0⟩
def F.EVT_GRP_LATCH_LATCH : Fld := ⟨R.EVT_GRP_LATCH, 31, 0⟩
def F.EVT_GRP_IRQ_EN_EN : Fld := ⟨R.EVT_GRP_IRQ_EN, 31, 0⟩
def F.EVT_GRP_ALARM_EN_EN : Fld := ⟨R.EVT_GRP_ALARM_EN, 31, 0⟩
def F.EVT_GRP_LOG_EN_EN : Fld := ⟨R.EVT_GRP_LOG_EN, 31, 0⟩
def F.TAMP_ID_REGIONS : Fld := ⟨R.TAMP_ID, 15, 8⟩
def F.TAMP_ID_DETECTORS : Fld := ⟨R.TAMP_ID, 7, 0⟩
def F.TAMP_CTRL_AUTO_UNMUTE : Fld := ⟨R.TAMP_CTRL, 31, 31⟩
def F.TAMP_CTRL_MUTE_HOLD_MS : Fld := ⟨R.TAMP_CTRL, 15, 0⟩
def F.TAMP_STATUS_COPY_PENDING : Fld := ⟨R.TAMP_STATUS, 31, 31⟩
def F.TAMP_STATUS_HALTED : Fld := ⟨R.TAMP_STATUS, 30, 30⟩
def F.TAMP_STATUS_MUTE_B : Fld := ⟨R.TAMP_STATUS, 29, 29⟩
def F.TAMP_STATUS_MUTE_A : Fld := ⟨R.TAMP_STATUS, 28, 28⟩
def F.TAMP_STATUS_MUTE_SHELL : Fld := ⟨R.TAMP_STATUS, 27, 27⟩
def F.TAMP_STATUS_CLASSES_LOCKED : Fld := ⟨R.TAMP_STATUS, 26, 26⟩
def F.TAMP_STATUS_TRIPPED : Fld := ⟨R.TAMP_STATUS, 11, 0⟩
def F.TAMP_EVT_STATUS_UNMUTED : Fld := ⟨R.TAMP_EVT_STATUS, 4, 4⟩
def F.TAMP_EVT_STATUS_UNMUTE_REFUSED : Fld := ⟨R.TAMP_EVT_STATUS, 3, 3⟩
def F.TAMP_EVT_STATUS_FUSE_DONE : Fld := ⟨R.TAMP_EVT_STATUS, 2, 2⟩
def F.TAMP_EVT_STATUS_FUSE_REFUSED : Fld := ⟨R.TAMP_EVT_STATUS, 1, 1⟩
def F.TAMP_EVT_STATUS_STICKY_PRESENT : Fld := ⟨R.TAMP_EVT_STATUS, 0, 0⟩
def F.TAMP_RESPONSE_MAX_CLASS : Fld := ⟨R.TAMP_RESPONSE, 31, 30⟩
def F.TAMP_RESPONSE_SOURCE : Fld := ⟨R.TAMP_RESPONSE, 10, 0⟩
def F.TAMP_UNMUTE_SHELL : Fld := ⟨R.TAMP_UNMUTE, 2, 2⟩
def F.TAMP_UNMUTE_HALF_B : Fld := ⟨R.TAMP_UNMUTE, 1, 1⟩
def F.TAMP_UNMUTE_HALF_A : Fld := ⟨R.TAMP_UNMUTE, 0, 0⟩
def F.TAMP_FUSE_CONFIRM_CONFIRM : Fld := ⟨R.TAMP_FUSE_CONFIRM, 31, 0⟩
def F.TAMP_FUSE_CMD_REGIONS : Fld := ⟨R.TAMP_FUSE_CMD, 11, 0⟩
def F.TAMP_FUSE_STATUS_BUSY : Fld := ⟨R.TAMP_FUSE_STATUS, 31, 31⟩
def F.TAMP_FUSE_STATUS_LAST_OK : Fld := ⟨R.TAMP_FUSE_STATUS, 30, 30⟩
def F.TAMP_FUSE_STATUS_BLOWN : Fld := ⟨R.TAMP_FUSE_STATUS, 11, 0⟩
def F.TAMP_STICKY_ENV_FLAGS : Fld := ⟨R.TAMP_STICKY_ENV, 21, 0⟩
def F.TAMP_STICKY_MISC_RESP2 : Fld := ⟨R.TAMP_STICKY_MISC, 11, 11⟩
def F.TAMP_STICKY_MISC_RESP1_B : Fld := ⟨R.TAMP_STICKY_MISC, 10, 10⟩
def F.TAMP_STICKY_MISC_RESP1_A : Fld := ⟨R.TAMP_STICKY_MISC, 9, 9⟩
def F.TAMP_STICKY_MISC_TAG_FAIL : Fld := ⟨R.TAMP_STICKY_MISC, 8, 5⟩
def F.TAMP_STICKY_MISC_MINT_FATAL : Fld := ⟨R.TAMP_STICKY_MISC, 4, 4⟩
def F.TAMP_STICKY_MISC_FENCE : Fld := ⟨R.TAMP_STICKY_MISC, 3, 3⟩
def F.TAMP_CLASS_ENV_LO_CLASS : Fld := ⟨R.TAMP_CLASS_ENV_LO, 31, 0⟩
def F.TAMP_CLASS_ENV_HI_CLASS : Fld := ⟨R.TAMP_CLASS_ENV_HI, 11, 0⟩
def F.TAMP_CLASS_MISC_FENCE : Fld := ⟨R.TAMP_CLASS_MISC, 7, 6⟩
def F.TAMP_CLASS_MISC_DET_FAULT : Fld := ⟨R.TAMP_CLASS_MISC, 5, 4⟩
def F.TAMP_CLASS_MISC_TAG_FAIL : Fld := ⟨R.TAMP_CLASS_MISC, 3, 2⟩
def F.TAMP_CLASS_MISC_MINT_FATAL : Fld := ⟨R.TAMP_CLASS_MISC, 1, 0⟩
def F.TAMP_VMON_CFG_VIN_UV : Fld := ⟨R.TAMP_VMON_CFG, 31, 24⟩
def F.TAMP_VMON_CFG_VIN_OV : Fld := ⟨R.TAMP_VMON_CFG, 23, 16⟩
def F.TAMP_VMON_CFG_VAUX_UV : Fld := ⟨R.TAMP_VMON_CFG, 15, 8⟩
def F.TAMP_VMON_CFG_VAUX_OV : Fld := ⟨R.TAMP_VMON_CFG, 7, 0⟩
def F.TAMP_TEMP_CFG_TEMP_HI : Fld := ⟨R.TAMP_TEMP_CFG, 15, 8⟩
def F.TAMP_TEMP_CFG_TEMP_LO : Fld := ⟨R.TAMP_TEMP_CFG, 7, 0⟩
def F.TAMP_REG_CTRL_CLASS : Fld := ⟨R.TAMP_REG_CTRL, 31, 30⟩
def F.TAMP_REG_CTRL_DISAGREE_MS : Fld := ⟨R.TAMP_REG_CTRL, 15, 0⟩
def F.TAMP_REG_STATUS_FUSED : Fld := ⟨R.TAMP_REG_STATUS, 31, 31⟩
def F.TAMP_REG_STATUS_DISAGREE : Fld := ⟨R.TAMP_REG_STATUS, 30, 30⟩
def F.TAMP_REG_STATUS_TRIP : Fld := ⟨R.TAMP_REG_STATUS, 7, 0⟩
def F.TAMP_REG_STICKY_DET_FAULT : Fld := ⟨R.TAMP_REG_STICKY, 8, 8⟩
def F.TAMP_REG_STICKY_TRIPPED : Fld := ⟨R.TAMP_REG_STICKY, 7, 0⟩
def F.TAMP_REG_CNT_TRIPS : Fld := ⟨R.TAMP_REG_CNT, 31, 0⟩
def F.RST_ID_SOURCES : Fld := ⟨R.RST_ID, 15, 8⟩
def F.RST_ID_DOMAINS : Fld := ⟨R.RST_ID, 7, 0⟩
def F.RST_CTRL_EVT_EN : Fld := ⟨R.RST_CTRL, 3, 3⟩
def F.RST_CTRL_FABRIC_LOCKUP_EN : Fld := ⟨R.RST_CTRL, 2, 2⟩
def F.RST_CTRL_CORE_LOCKUP_EN : Fld := ⟨R.RST_CTRL, 1, 1⟩
def F.RST_CTRL_GLOBAL_WDT_EN : Fld := ⟨R.RST_CTRL, 0, 0⟩
def F.RST_STATUS_DEBUG_OPEN : Fld := ⟨R.RST_STATUS, 4, 4⟩
def F.RST_STATUS_SQ1_OPTIONS : Fld := ⟨R.RST_STATUS, 3, 3⟩
def F.RST_STATUS_TRIM_DEFAULTS : Fld := ⟨R.RST_STATUS, 2, 2⟩
def F.RST_STATUS_STRAP_DONE : Fld := ⟨R.RST_STATUS, 1, 1⟩
def F.RST_STATUS_READY : Fld := ⟨R.RST_STATUS, 0, 0⟩
def F.RST_EVT_STATUS_ZERO_RESTARTED : Fld := ⟨R.RST_EVT_STATUS, 9, 9⟩
def F.RST_EVT_STATUS_SW_REFUSED : Fld := ⟨R.RST_EVT_STATUS, 8, 8⟩
def F.RST_EVT_STATUS_TRIM_COPY_BAD : Fld := ⟨R.RST_EVT_STATUS, 7, 7⟩
def F.RST_EVT_STATUS_TRIM_BAD : Fld := ⟨R.RST_EVT_STATUS, 6, 6⟩
def F.RST_EVT_STATUS_STRAP_INVALID : Fld := ⟨R.RST_EVT_STATUS, 5, 5⟩
def F.RST_EVT_STATUS_OPT_COPY_BAD : Fld := ⟨R.RST_EVT_STATUS, 4, 4⟩
def F.RST_EVT_STATUS_OPT_BAD : Fld := ⟨R.RST_EVT_STATUS, 3, 3⟩
def F.RST_EVT_STATUS_CORE_RESET : Fld := ⟨R.RST_EVT_STATUS, 2, 2⟩
def F.RST_EVT_STATUS_DOMAIN_RELEASED : Fld := ⟨R.RST_EVT_STATUS, 1, 1⟩
def F.RST_EVT_STATUS_DOMAIN_RESET : Fld := ⟨R.RST_EVT_STATUS, 0, 0⟩
def F.RST_CAUSE_SEEN : Fld := ⟨R.RST_CAUSE, 31, 16⟩
def F.RST_CAUSE_PRIMARY : Fld := ⟨R.RST_CAUSE, 3, 0⟩
def F.RST_CAUSE_HIST_PREV : Fld := ⟨R.RST_CAUSE_HIST, 31, 0⟩
def F.RST_SW_CMD_KEY : Fld := ⟨R.RST_SW_CMD, 31, 16⟩
def F.RST_SW_CMD_SCOPE : Fld := ⟨R.RST_SW_CMD, 2, 0⟩
def F.RST_DOMAIN_STATUS_CORE_B : Fld := ⟨R.RST_DOMAIN_STATUS, 19, 16⟩
def F.RST_DOMAIN_STATUS_CORE_A : Fld := ⟨R.RST_DOMAIN_STATUS, 15, 12⟩
def F.RST_DOMAIN_STATUS_SHELL : Fld := ⟨R.RST_DOMAIN_STATUS, 11, 8⟩
def F.RST_DOMAIN_STATUS_HALF_B : Fld := ⟨R.RST_DOMAIN_STATUS, 7, 4⟩
def F.RST_DOMAIN_STATUS_HALF_A : Fld := ⟨R.RST_DOMAIN_STATUS, 3, 0⟩
def F.RST_MGMT_KEY_KEY : Fld := ⟨R.RST_MGMT_KEY, 31, 0⟩
def F.RST_STRAP_VALID : Fld := ⟨R.RST_STRAP, 31, 31⟩
def F.RST_STRAP_OUT_OF_BAND : Fld := ⟨R.RST_STRAP, 30, 30⟩
def F.RST_STRAP_CODE : Fld := ⟨R.RST_STRAP, 23, 20⟩
def F.RST_STRAP_OHMS : Fld := ⟨R.RST_STRAP, 19, 0⟩
def F.RST_SETTINGS_SOURCE : Fld := ⟨R.RST_SETTINGS, 31, 28⟩
def F.RST_SETTINGS_DEBUG_OPEN : Fld := ⟨R.RST_SETTINGS, 3, 3⟩
def F.RST_SETTINGS_MGMT_I2C : Fld := ⟨R.RST_SETTINGS, 2, 2⟩
def F.RST_SETTINGS_WIDTH16 : Fld := ⟨R.RST_SETTINGS, 1, 1⟩
def F.RST_SETTINGS_SLOT_B : Fld := ⟨R.RST_SETTINGS, 0, 0⟩
def F.RST_OPT_LO_OB : Fld := ⟨R.RST_OPT_LO, 31, 0⟩
def F.RST_OPT_HI_OB : Fld := ⟨R.RST_OPT_HI, 31, 0⟩
def F.RST_TRIM_STATUS_DONE : Fld := ⟨R.RST_TRIM_STATUS, 31, 31⟩
def F.RST_TRIM_STATUS_COPY0_OK : Fld := ⟨R.RST_TRIM_STATUS, 30, 30⟩
def F.RST_TRIM_STATUS_COPY1_OK : Fld := ⟨R.RST_TRIM_STATUS, 29, 29⟩
def F.RST_TRIM_STATUS_TRIM_REV : Fld := ⟨R.RST_TRIM_STATUS, 15, 0⟩
def F.RST_ZERO_STATUS_DONE : Fld := ⟨R.RST_ZERO_STATUS, 31, 31⟩
def F.RST_ZERO_STATUS_RESTARTED : Fld := ⟨R.RST_ZERO_STATUS, 30, 30⟩
def F.RST_ZERO_STATUS_FAIL : Fld := ⟨R.RST_ZERO_STATUS, 29, 29⟩
def F.RST_ZERO_STATUS_US : Fld := ⟨R.RST_ZERO_STATUS, 15, 0⟩
def F.RST_LOCKUP_STATUS_VALID : Fld := ⟨R.RST_LOCKUP_STATUS, 31, 31⟩
def F.RST_LOCKUP_STATUS_KIND : Fld := ⟨R.RST_LOCKUP_STATUS, 30, 30⟩
def F.RST_LOCKUP_STATUS_MASTER : Fld := ⟨R.RST_LOCKUP_STATUS, 19, 16⟩
def F.RST_LOCKUP_STATUS_TARGET : Fld := ⟨R.RST_LOCKUP_STATUS, 15, 0⟩
def F.RST_CLK_STATUS_SYSCLK_OK : Fld := ⟨R.RST_CLK_STATUS, 8, 8⟩
def F.RST_CLK_STATUS_FAILED : Fld := ⟨R.RST_CLK_STATUS, 7, 4⟩
def F.RST_CLK_STATUS_GOOD : Fld := ⟨R.RST_CLK_STATUS, 3, 0⟩
def F.RST_BOOT_STAGE_STAGE : Fld := ⟨R.RST_BOOT_STAGE, 31, 28⟩
def F.RST_BOOT_STAGE_MS : Fld := ⟨R.RST_BOOT_STAGE, 15, 0⟩
def F.RST_REL_TIME_US : Fld := ⟨R.RST_REL_TIME, 23, 0⟩
def F.RST_DOM_REL_WRAP_WRAP : Fld := ⟨R.RST_DOM_REL_WRAP, 15, 0⟩
def F.RST_DOM_REL_NS_NS : Fld := ⟨R.RST_DOM_REL_NS, 31, 0⟩
def F.RST_CNT_COUNT : Fld := ⟨R.RST_CNT, 31, 0⟩
def F.PWR_ID_RAILS : Fld := ⟨R.PWR_ID, 15, 8⟩
def F.PWR_ID_PHASES : Fld := ⟨R.PWR_ID, 7, 0⟩
def F.PWR_CTRL_CAL_EN : Fld := ⟨R.PWR_CTRL, 3, 3⟩
def F.PWR_CTRL_PIN_WARN_EVT_EN : Fld := ⟨R.PWR_CTRL, 2, 2⟩
def F.PWR_CTRL_PHASE_EVT_EN : Fld := ⟨R.PWR_CTRL, 1, 1⟩
def F.PWR_CTRL_RAIL_EVT_EN : Fld := ⟨R.PWR_CTRL, 0, 0⟩
def F.PWR_STATUS_SEQ_DONE : Fld := ⟨R.PWR_STATUS, 7, 7⟩
def F.PWR_STATUS_ALL_PGOOD : Fld := ⟨R.PWR_STATUS, 6, 6⟩
def F.PWR_STATUS_PIN_WARN : Fld := ⟨R.PWR_STATUS, 5, 5⟩
def F.PWR_STATUS_PHASE_SHED : Fld := ⟨R.PWR_STATUS, 4, 4⟩
def F.PWR_STATUS_CAL_BUSY : Fld := ⟨R.PWR_STATUS, 3, 3⟩
def F.PWR_STATUS_VAUX_OK : Fld := ⟨R.PWR_STATUS, 2, 2⟩
def F.PWR_STATUS_VIN_OK : Fld := ⟨R.PWR_STATUS, 1, 1⟩
def F.PWR_STATUS_READY : Fld := ⟨R.PWR_STATUS, 0, 0⟩
def F.PWR_EVT_STATUS_SEQ_DONE : Fld := ⟨R.PWR_EVT_STATUS, 6, 6⟩
def F.PWR_EVT_STATUS_OCP : Fld := ⟨R.PWR_EVT_STATUS, 5, 5⟩
def F.PWR_EVT_STATUS_CAL_FAIL : Fld := ⟨R.PWR_EVT_STATUS, 4, 4⟩
def F.PWR_EVT_STATUS_PIN_WARN : Fld := ⟨R.PWR_EVT_STATUS, 3, 3⟩
def F.PWR_EVT_STATUS_RAIL_RECOVERED : Fld := ⟨R.PWR_EVT_STATUS, 2, 2⟩
def F.PWR_EVT_STATUS_RAIL_FAULT : Fld := ⟨R.PWR_EVT_STATUS, 1, 1⟩
def F.PWR_EVT_STATUS_PHASE_FAULT : Fld := ⟨R.PWR_EVT_STATUS, 0, 0⟩
def F.PWR_VIN_MEAS_MV : Fld := ⟨R.PWR_VIN_MEAS, 15, 0⟩
def F.PWR_VAUX_MEAS_MV : Fld := ⟨R.PWR_VAUX_MEAS, 15, 0⟩
def F.PWR_IIN_MEAS_CA : Fld := ⟨R.PWR_IIN_MEAS, 15, 0⟩
def F.PWR_PIN_MEAS_DW : Fld := ⟨R.PWR_PIN_MEAS, 15, 0⟩
def F.PWR_PIN_MAX_DW : Fld := ⟨R.PWR_PIN_MAX, 15, 0⟩
def F.PWR_ENERGY_LO_MJ : Fld := ⟨R.PWR_ENERGY_LO, 31, 0⟩
def F.PWR_ENERGY_HI_MJ : Fld := ⟨R.PWR_ENERGY_HI, 31, 0⟩
def F.PWR_PIN_WARN_DW : Fld := ⟨R.PWR_PIN_WARN, 15, 0⟩
def F.PWR_VIN_MIN_MV : Fld := ⟨R.PWR_VIN_MIN, 15, 0⟩
def F.PWR_SEQ_STATUS_STEP : Fld := ⟨R.PWR_SEQ_STATUS, 31, 28⟩
def F.PWR_SEQ_STATUS_US : Fld := ⟨R.PWR_SEQ_STATUS, 15, 0⟩
def F.PWR_CAL_STATUS_LAST_OK : Fld := ⟨R.PWR_CAL_STATUS, 31, 31⟩
def F.PWR_CAL_STATUS_AGE_MS : Fld := ⟨R.PWR_CAL_STATUS, 15, 0⟩
def F.PWR_PHASE_SHED_SHED : Fld := ⟨R.PWR_PHASE_SHED, 31, 0⟩
def F.PWR_TRIM_VCORE_MV : Fld := ⟨R.PWR_TRIM_VCORE, 15, 0⟩
def F.PWR_RAIL_CTRL_FAULT_EVT_EN : Fld := ⟨R.PWR_RAIL_CTRL, 8, 8⟩
def F.PWR_RAIL_CTRL_MARGIN_MV : Fld := ⟨R.PWR_RAIL_CTRL, 7, 0⟩
def F.PWR_RAIL_STATUS_PGOOD : Fld := ⟨R.PWR_RAIL_STATUS, 31, 31⟩
def F.PWR_RAIL_STATUS_FAULT : Fld := ⟨R.PWR_RAIL_STATUS, 30, 30⟩
def F.PWR_RAIL_STATUS_HELD : Fld := ⟨R.PWR_RAIL_STATUS, 29, 29⟩
def F.PWR_RAIL_STATUS_PHASES_ACTIVE : Fld := ⟨R.PWR_RAIL_STATUS, 23, 16⟩
def F.PWR_RAIL_STATUS_PHASES_TOTAL : Fld := ⟨R.PWR_RAIL_STATUS, 15, 8⟩
def F.PWR_RAIL_VOLT_TARGET_MV : Fld := ⟨R.PWR_RAIL_VOLT, 31, 16⟩
def F.PWR_RAIL_VOLT_MEAS_MV : Fld := ⟨R.PWR_RAIL_VOLT, 15, 0⟩
def F.PWR_RAIL_CURR_RATED_DA : Fld := ⟨R.PWR_RAIL_CURR, 31, 16⟩
def F.PWR_RAIL_CURR_MEAS_DA : Fld := ⟨R.PWR_RAIL_CURR, 15, 0⟩
def F.PWR_RAIL_PEAK_VMIN_MV : Fld := ⟨R.PWR_RAIL_PEAK, 31, 16⟩
def F.PWR_RAIL_PEAK_IMAX_DA : Fld := ⟨R.PWR_RAIL_PEAK, 15, 0⟩
def F.PWR_RAIL_TRIM_FROM_FUSE : Fld := ⟨R.PWR_RAIL_TRIM, 31, 31⟩
def F.PWR_RAIL_TRIM_SPREAD_PCT : Fld := ⟨R.PWR_RAIL_TRIM, 15, 8⟩
def F.GLB_ID_MEMBER : Fld := ⟨R.GLB_ID, 31, 16⟩
def F.GLB_ID_FAMILY : Fld := ⟨R.GLB_ID, 15, 12⟩
def F.GLB_ID_VARIANT_N : Fld := ⟨R.GLB_ID, 0, 0⟩
def F.GLB_STEPPING_STEP : Fld := ⟨R.GLB_STEPPING, 7, 0⟩
def F.GLB_SERIAL_HI_SERIAL : Fld := ⟨R.GLB_SERIAL_HI, 31, 0⟩
def F.GLB_SERIAL_LO_SERIAL : Fld := ⟨R.GLB_SERIAL_LO, 31, 0⟩
def F.GLB_CAP_UNITS_SLICES : Fld := ⟨R.GLB_CAP_UNITS, 31, 28⟩
def F.GLB_CAP_UNITS_HALVES : Fld := ⟨R.GLB_CAP_UNITS, 27, 24⟩
def F.GLB_CAP_UNITS_BAYS : Fld := ⟨R.GLB_CAP_UNITS, 23, 20⟩
def F.GLB_CAP_UNITS_FRONT_ENDS : Fld := ⟨R.GLB_CAP_UNITS, 19, 16⟩
def F.GLB_CAP_UNITS_LANES : Fld := ⟨R.GLB_CAP_UNITS, 15, 8⟩
def F.GLB_CAP_UNITS_PIPES : Fld := ⟨R.GLB_CAP_UNITS, 7, 4⟩
def F.GLB_CAP_SA_TX_ENTRIES : Fld := ⟨R.GLB_CAP_SA, 31, 16⟩
def F.GLB_CAP_SA_RX_ENTRIES : Fld := ⟨R.GLB_CAP_SA, 15, 0⟩
def F.GLB_CAP_SERVICES_SERVICES : Fld := ⟨R.GLB_CAP_SERVICES, 31, 16⟩
def F.GLB_CAP_SERVICES_SUBSCRIBERS : Fld := ⟨R.GLB_CAP_SERVICES, 15, 0⟩
def F.GLB_CAP_CLASSIFY_EXACT : Fld := ⟨R.GLB_CAP_CLASSIFY, 31, 14⟩
def F.GLB_CAP_CLASSIFY_TERNARY : Fld := ⟨R.GLB_CAP_CLASSIFY, 13, 0⟩
def F.GLB_CAP_LEARN_LEARN : Fld := ⟨R.GLB_CAP_LEARN, 31, 16⟩
def F.GLB_CAP_LEARN_MP_SERVICES : Fld := ⟨R.GLB_CAP_LEARN, 15, 0⟩
def F.GLB_CAP_DESC_DESCRIPTORS : Fld := ⟨R.GLB_CAP_DESC, 31, 8⟩
def F.GLB_CAP_DESC_DESKEW_MS : Fld := ⟨R.GLB_CAP_DESC, 7, 0⟩
def F.GLB_CTRL_MGMT_ERR_EVT_EN : Fld := ⟨R.GLB_CTRL, 1, 1⟩
def F.GLB_CTRL_SESSION_EVT_EN : Fld := ⟨R.GLB_CTRL, 0, 0⟩
def F.GLB_STATUS_RESTRICTED : Fld := ⟨R.GLB_STATUS, 3, 3⟩
def F.GLB_STATUS_NO_IMAGE : Fld := ⟨R.GLB_STATUS, 2, 2⟩
def F.GLB_STATUS_ETH_LINK : Fld := ⟨R.GLB_STATUS, 1, 1⟩
def F.GLB_STATUS_READY : Fld := ⟨R.GLB_STATUS, 0, 0⟩
def F.GLB_EVT_STATUS_LCS_DONE : Fld := ⟨R.GLB_EVT_STATUS, 5, 5⟩
def F.GLB_EVT_STATUS_LCS_REFUSED : Fld := ⟨R.GLB_EVT_STATUS, 4, 4⟩
def F.GLB_EVT_STATUS_KEYSLOT_DONE : Fld := ⟨R.GLB_EVT_STATUS, 3, 3⟩
def F.GLB_EVT_STATUS_SESSION_AUTH_FAIL : Fld := ⟨R.GLB_EVT_STATUS, 2, 2⟩
def F.GLB_EVT_STATUS_MGMT_CRC : Fld := ⟨R.GLB_EVT_STATUS, 1, 1⟩
def F.GLB_EVT_STATUS_RESET_KEY_BAD : Fld := ⟨R.GLB_EVT_STATUS, 0, 0⟩
def F.GLB_LCS_STATUS_STATE : Fld := ⟨R.GLB_LCS_STATUS, 31, 29⟩
def F.GLB_LCS_STATUS_TARGET : Fld := ⟨R.GLB_LCS_STATUS, 28, 26⟩
def F.GLB_LCS_STATUS_BUSY : Fld := ⟨R.GLB_LCS_STATUS, 25, 25⟩
def F.GLB_LCS_STATUS_EXPORT_READY : Fld := ⟨R.GLB_LCS_STATUS, 24, 24⟩
def F.GLB_LCS_STATUS_REASON : Fld := ⟨R.GLB_LCS_STATUS, 23, 16⟩
def F.GLB_LCS_CONFIRM_CONFIRM : Fld := ⟨R.GLB_LCS_CONFIRM, 31, 0⟩
def F.GLB_LCS_CMD_OP : Fld := ⟨R.GLB_LCS_CMD, 31, 28⟩
def F.GLB_KEYSLOT_STATUS_OP_FUSED : Fld := ⟨R.GLB_KEYSLOT_STATUS, 31, 28⟩
def F.GLB_KEYSLOT_STATUS_OP_REVOKED : Fld := ⟨R.GLB_KEYSLOT_STATUS, 27, 24⟩
def F.GLB_KEYSLOT_STATUS_VEN_FUSED : Fld := ⟨R.GLB_KEYSLOT_STATUS, 23, 22⟩
def F.GLB_KEYSLOT_STATUS_VEN_REVOKED : Fld := ⟨R.GLB_KEYSLOT_STATUS, 21, 20⟩
def F.GLB_KEYSLOT_STATUS_BUSY : Fld := ⟨R.GLB_KEYSLOT_STATUS, 19, 19⟩
def F.GLB_KEYSLOT_STATUS_LAST_OK : Fld := ⟨R.GLB_KEYSLOT_STATUS, 18, 18⟩
def F.GLB_KEYSLOT_CMD_OP : Fld := ⟨R.GLB_KEYSLOT_CMD, 31, 28⟩
def F.GLB_KEYSLOT_CMD_SLOT : Fld := ⟨R.GLB_KEYSLOT_CMD, 1, 0⟩
def F.GLB_MGMT_CFG_SPI_EN : Fld := ⟨R.GLB_MGMT_CFG, 31, 31⟩
def F.GLB_MGMT_CFG_I2C_EN : Fld := ⟨R.GLB_MGMT_CFG, 30, 30⟩
def F.GLB_MGMT_CFG_I2C_ADDR : Fld := ⟨R.GLB_MGMT_CFG, 22, 16⟩
def F.GLB_MGMT_STATUS_STRAP_I2C : Fld := ⟨R.GLB_MGMT_STATUS, 3, 3⟩
def F.GLB_MGMT_STATUS_DEFERRING : Fld := ⟨R.GLB_MGMT_STATUS, 2, 2⟩
def F.GLB_MGMT_STATUS_I2C_BUSY : Fld := ⟨R.GLB_MGMT_STATUS, 1, 1⟩
def F.GLB_MGMT_STATUS_SPI_BUSY : Fld := ⟨R.GLB_MGMT_STATUS, 0, 0⟩
def F.GLB_ETH_CFG_EN : Fld := ⟨R.GLB_ETH_CFG, 31, 31⟩
def F.GLB_ETH_CFG_AN_EN : Fld := ⟨R.GLB_ETH_CFG, 30, 30⟩
def F.GLB_ETH_CFG_SESSION_PORT : Fld := ⟨R.GLB_ETH_CFG, 15, 0⟩
def F.GLB_ETH_STATUS_LINK : Fld := ⟨R.GLB_ETH_STATUS, 31, 31⟩
def F.GLB_ETH_STATUS_AN_DONE : Fld := ⟨R.GLB_ETH_STATUS, 30, 30⟩
def F.GLB_ETH_STATUS_ADDR_VALID : Fld := ⟨R.GLB_ETH_STATUS, 29, 29⟩
def F.GLB_SESSION_STATUS_OPEN : Fld := ⟨R.GLB_SESSION_STATUS, 31, 28⟩
def F.GLB_SESSION_STATUS_OPERATOR : Fld := ⟨R.GLB_SESSION_STATUS, 27, 24⟩
def F.GLB_SESSION_STATUS_BLOCKED : Fld := ⟨R.GLB_SESSION_STATUS, 7, 0⟩
def F.GLB_SCRATCH_VALUE : Fld := ⟨R.GLB_SCRATCH, 31, 0⟩
def F.PAGE_ID_SESSIONS : Fld := ⟨R.PAGE_ID, 15, 8⟩
def F.PAGE_ID_PRINCIPALS : Fld := ⟨R.PAGE_ID, 7, 0⟩
def F.PAGE_CTRL_VIOL_EVT_EN : Fld := ⟨R.PAGE_CTRL, 0, 0⟩
def F.PAGE_STATUS_VIOL_PENDING : Fld := ⟨R.PAGE_STATUS, 15, 0⟩
def F.PAGE_EVT_STATUS_VIOLATION : Fld := ⟨R.PAGE_EVT_STATUS, 0, 0⟩
def F.PAGE_VIOL_ADDR_ADDR : Fld := ⟨R.PAGE_VIOL_ADDR, 31, 0⟩
def F.PAGE_VIOL_INFO_VALID : Fld := ⟨R.PAGE_VIOL_INFO, 31, 31⟩
def F.PAGE_VIOL_INFO_WRITE : Fld := ⟨R.PAGE_VIOL_INFO, 30, 30⟩
def F.PAGE_VIOL_INFO_SAGE : Fld := ⟨R.PAGE_VIOL_INFO, 29, 29⟩
def F.PAGE_VIOL_INFO_PRINCIPAL : Fld := ⟨R.PAGE_VIOL_INFO, 28, 25⟩
def F.PAGE_VIOL_INFO_MASTER : Fld := ⟨R.PAGE_VIOL_INFO, 24, 21⟩
def F.PAGE_SNAP_SEC_SEC : Fld := ⟨R.PAGE_SNAP_SEC, 31, 0⟩
def F.PAGE_SESS_INFO_OPEN : Fld := ⟨R.PAGE_SESS_INFO, 31, 31⟩
def F.PAGE_SESS_INFO_PRINCIPAL : Fld := ⟨R.PAGE_SESS_INFO, 30, 27⟩
def F.PAGE_SESS_INFO_IDLE_S : Fld := ⟨R.PAGE_SESS_INFO, 15, 0⟩
def F.PAGE_VIOL_CNT_COUNT : Fld := ⟨R.PAGE_VIOL_CNT, 31, 0⟩
def F.MON_ID_COUNTERS : Fld := ⟨R.MON_ID, 31, 16⟩
def F.MON_ID_CHANNELS : Fld := ⟨R.MON_ID, 15, 8⟩
def F.MON_ID_UNITS : Fld := ⟨R.MON_ID, 7, 0⟩
def F.MON_CTRL_EXPORT_EVT_EN : Fld := ⟨R.MON_CTRL, 3, 3⟩
def F.MON_CTRL_ALERT_EVT_EN : Fld := ⟨R.MON_CTRL, 2, 2⟩
def F.MON_CTRL_WRAP_EVT_EN : Fld := ⟨R.MON_CTRL, 1, 1⟩
def F.MON_CTRL_SNAP_EVT_EN : Fld := ⟨R.MON_CTRL, 0, 0⟩
def F.MON_STATUS_BANK : Fld := ⟨R.MON_STATUS, 2, 2⟩
def F.MON_STATUS_READING : Fld := ⟨R.MON_STATUS, 1, 1⟩
def F.MON_STATUS_VALID : Fld := ⟨R.MON_STATUS, 0, 0⟩
def F.MON_EVT_STATUS_CFG_REFUSED : Fld := ⟨R.MON_EVT_STATUS, 4, 4⟩
def F.MON_EVT_STATUS_EXPORT_DROP : Fld := ⟨R.MON_EVT_STATUS, 3, 3⟩
def F.MON_EVT_STATUS_ALERT : Fld := ⟨R.MON_EVT_STATUS, 2, 2⟩
def F.MON_EVT_STATUS_WRAP : Fld := ⟨R.MON_EVT_STATUS, 1, 1⟩
def F.MON_EVT_STATUS_SNAPSHOT : Fld := ⟨R.MON_EVT_STATUS, 0, 0⟩
def F.MON_SNAP_SEC_LO_SEC : Fld := ⟨R.MON_SNAP_SEC_LO, 31, 0⟩
def F.MON_SNAP_SEC_HI_SEC : Fld := ⟨R.MON_SNAP_SEC_HI, 15, 0⟩
def F.MON_SNAP_WRAP_WRAP : Fld := ⟨R.MON_SNAP_WRAP, 15, 0⟩
def F.MON_SNAP_NS_NS : Fld := ⟨R.MON_SNAP_NS, 31, 0⟩
def F.MON_READ_US_US : Fld := ⟨R.MON_READ_US, 7, 0⟩
def F.MON_EXPORT_STATUS_SUBS : Fld := ⟨R.MON_EXPORT_STATUS, 31, 28⟩
def F.MON_WRAP_SUM_UNITS : Fld := ⟨R.MON_WRAP_SUM, 29, 0⟩
def F.MON_ALERT_SUM_GROUPS : Fld := ⟨R.MON_ALERT_SUM, 7, 0⟩
def F.MON_TEMP_MAX_SENSOR : Fld := ⟨R.MON_TEMP_MAX, 31, 28⟩
def F.MON_TEMP_MAX_QC : Fld := ⟨R.MON_TEMP_MAX, 15, 0⟩
def F.MON_LAST_ALERT_CHANNEL : Fld := ⟨R.MON_LAST_ALERT, 7, 0⟩
def F.MON_UNIT_WRAP_WRAPPED : Fld := ⟨R.MON_UNIT_WRAP, 15, 0⟩
def F.MON_UNIT_CTRL_COUNTERS : Fld := ⟨R.MON_UNIT_CTRL, 20, 16⟩
def F.MON_UNIT_CTRL_FREEZE : Fld := ⟨R.MON_UNIT_CTRL, 0, 0⟩
def F.MON_CH_ALERT_ALERT : Fld := ⟨R.MON_CH_ALERT, 31, 0⟩
def F.MON_CH_ACTIVE_ACTIVE : Fld := ⟨R.MON_CH_ACTIVE, 31, 0⟩
def F.MON_TEMP_QC : Fld := ⟨R.MON_TEMP, 15, 0⟩
def F.MON_QV_SEL_EN : Fld := ⟨R.MON_QV_SEL, 31, 31⟩
def F.MON_QV_SEL_UNIT : Fld := ⟨R.MON_QV_SEL, 28, 24⟩
def F.MON_QV_SEL_COUNTER : Fld := ⟨R.MON_QV_SEL, 3, 0⟩
def F.MON_QV_HI_VALUE_HI : Fld := ⟨R.MON_QV_HI, 15, 0⟩
def F.MON_QV_LO_VALUE_LO : Fld := ⟨R.MON_QV_LO, 31, 0⟩
def F.CPORT_CTRL_ENABLE : Fld := ⟨R.CPORT_CTRL, 31, 31⟩
def F.CPORT_CTRL_LANE_RATE : Fld := ⟨R.CPORT_CTRL, 27, 26⟩
def F.CPORT_CTRL_WIDTH : Fld := ⟨R.CPORT_CTRL, 23, 20⟩
def F.CPORT_CTRL_LINK_EVT_EN : Fld := ⟨R.CPORT_CTRL, 2, 2⟩
def F.CPORT_STATUS_LINK_UP : Fld := ⟨R.CPORT_STATUS, 31, 31⟩
def F.CPORT_STATUS_PCS_ALIGNED : Fld := ⟨R.CPORT_STATUS, 30, 30⟩
def F.CPORT_STATUS_HI_SER : Fld := ⟨R.CPORT_STATUS, 29, 29⟩
def F.CPORT_STATUS_FEC_LOCK : Fld := ⟨R.CPORT_STATUS, 28, 28⟩
def F.CPORT_STATUS_AM_LOCK : Fld := ⟨R.CPORT_STATUS, 27, 27⟩
def F.CPORT_STATUS_FORMED : Fld := ⟨R.CPORT_STATUS, 26, 26⟩
def F.CPORT_STATUS_TX_ACTIVE : Fld := ⟨R.CPORT_STATUS, 25, 25⟩
def F.CPORT_STATUS_PREEMPT_ACTIVE : Fld := ⟨R.CPORT_STATUS, 24, 24⟩
def F.CPORT_STATUS_RX_SKEW : Fld := ⟨R.CPORT_STATUS, 15, 8⟩
def F.CPORT_STATUS_RATE : Fld := ⟨R.CPORT_STATUS, 2, 0⟩
def F.CPORT_EVT_STATUS_FEC_DEGRADE : Fld := ⟨R.CPORT_EVT_STATUS, 6, 6⟩
def F.CPORT_EVT_STATUS_CFG_REJECT : Fld := ⟨R.CPORT_EVT_STATUS, 5, 5⟩
def F.CPORT_EVT_STATUS_VERIFY_FAIL : Fld := ⟨R.CPORT_EVT_STATUS, 4, 4⟩
def F.CPORT_EVT_STATUS_HI_SER_SET : Fld := ⟨R.CPORT_EVT_STATUS, 3, 3⟩
def F.CPORT_EVT_STATUS_LINK_DOWN : Fld := ⟨R.CPORT_EVT_STATUS, 2, 2⟩
def F.CPORT_EVT_STATUS_LINK_UP : Fld := ⟨R.CPORT_EVT_STATUS, 1, 1⟩
def F.CPORT_EVT_STATUS_REFCLK_LOSS : Fld := ⟨R.CPORT_EVT_STATUS, 0, 0⟩
def F.CPORT_PREEMPT_EN : Fld := ⟨R.CPORT_PREEMPT, 31, 31⟩
def F.CPORT_PREEMPT_VERIFY_DIS : Fld := ⟨R.CPORT_PREEMPT, 30, 30⟩
def F.CPORT_PREEMPT_ADD_FRAG_SIZE : Fld := ⟨R.CPORT_PREEMPT, 29, 28⟩
def F.CPORT_PREEMPT_VERIFY_MS : Fld := ⟨R.CPORT_PREEMPT, 23, 16⟩
def F.CPORT_PREEMPT_STATUS_VERIFY_STATE : Fld := ⟨R.CPORT_PREEMPT_STATUS, 31, 29⟩
def F.CPORT_FEC_THRESH_HI_SER_SYMBOLS : Fld := ⟨R.CPORT_FEC_THRESH, 31, 16⟩
def F.CPORT_FEC_THRESH_DEGRADE_SYMBOLS : Fld := ⟨R.CPORT_FEC_THRESH, 15, 0⟩
def F.LPORT_CTRL_ENABLE : Fld := ⟨R.LPORT_CTRL, 31, 31⟩
def F.LPORT_CTRL_LANE_RATE : Fld := ⟨R.LPORT_CTRL, 27, 26⟩
def F.LPORT_CTRL_WIDTH : Fld := ⟨R.LPORT_CTRL, 23, 20⟩
def F.LPORT_CTRL_LINK_EVT_EN : Fld := ⟨R.LPORT_CTRL, 2, 2⟩
def F.LPORT_STATUS_LINK_UP : Fld := ⟨R.LPORT_STATUS, 31, 31⟩
def F.LPORT_STATUS_PCS_ALIGNED : Fld := ⟨R.LPORT_STATUS, 30, 30⟩
def F.LPORT_STATUS_HI_SER : Fld := ⟨R.LPORT_STATUS, 29, 29⟩
def F.LPORT_STATUS_FEC_LOCK : Fld := ⟨R.LPORT_STATUS, 28, 28⟩
def F.LPORT_STATUS_AM_LOCK : Fld := ⟨R.LPORT_STATUS, 27, 27⟩
def F.LPORT_STATUS_FORMED : Fld := ⟨R.LPORT_STATUS, 26, 26⟩
def F.LPORT_STATUS_TX_ACTIVE : Fld := ⟨R.LPORT_STATUS, 25, 25⟩
def F.LPORT_STATUS_PREEMPT_ACTIVE : Fld := ⟨R.LPORT_STATUS, 24, 24⟩
def F.LPORT_STATUS_RX_SKEW : Fld := ⟨R.LPORT_STATUS, 15, 8⟩
def F.LPORT_STATUS_RATE : Fld := ⟨R.LPORT_STATUS, 2, 0⟩
def F.LPORT_EVT_STATUS_FEC_DEGRADE : Fld := ⟨R.LPORT_EVT_STATUS, 6, 6⟩
def F.LPORT_EVT_STATUS_CFG_REJECT : Fld := ⟨R.LPORT_EVT_STATUS, 5, 5⟩
def F.LPORT_EVT_STATUS_VERIFY_FAIL : Fld := ⟨R.LPORT_EVT_STATUS, 4, 4⟩
def F.LPORT_EVT_STATUS_HI_SER_SET : Fld := ⟨R.LPORT_EVT_STATUS, 3, 3⟩
def F.LPORT_EVT_STATUS_LINK_DOWN : Fld := ⟨R.LPORT_EVT_STATUS, 2, 2⟩
def F.LPORT_EVT_STATUS_LINK_UP : Fld := ⟨R.LPORT_EVT_STATUS, 1, 1⟩
def F.LPORT_EVT_STATUS_REFCLK_LOSS : Fld := ⟨R.LPORT_EVT_STATUS, 0, 0⟩
def F.LPORT_RX_FREQ_OFFSET : Fld := ⟨R.LPORT_RX_FREQ, 31, 0⟩
def F.LPORT_RX_LATENCY_NS : Fld := ⟨R.LPORT_RX_LATENCY, 15, 0⟩
def F.LPORT_FEC_THRESH_HI_SER_SYMBOLS : Fld := ⟨R.LPORT_FEC_THRESH, 31, 16⟩
def F.LPORT_FEC_THRESH_DEGRADE_SYMBOLS : Fld := ⟨R.LPORT_FEC_THRESH, 15, 0⟩

/-- The registers of the FE blocks. -/
def blockFe : List Reg := [R.FE_ID,
  R.FE_CTRL,
  R.FE_STATUS,
  R.FE_EVT_STATUS,
  R.FE_VER_CMD,
  R.FE_VER_CMD_STATUS,
  R.FE_VER_CURRENT,
  R.FE_VER_DRAINING,
  R.FE_VER_STAGED,
  R.FE_LIVE_TAGS,
  R.FE_INFLIGHT,
  R.FE_DIGEST_LO,
  R.FE_DIGEST_HI,
  R.FE_EM_OCCUPANCY,
  R.FE_TCAM_OCCUPANCY,
  R.FE_HASH_SEED,
  R.FE_RESYNC,
  R.FE_ECC_STATUS,
  R.FE_EXC_RATE_FPS,
  R.FE_EXC_RATE_BPS,
  R.FE_SLICE_REMAP,
  R.FE_EXC_CTRL_SHARE,
  R.FE_PTP_CTRL,
  R.FE_PARSE_CTRL,
  R.FE_CNT_PARSE_ERR,
  R.FE_CNT_PARSE_TRUNC,
  R.FE_CNT_CTRL_REJECT,
  R.FE_CNT_NO_MATCH,
  R.FE_CNT_RULE_DISCARD,
  R.FE_CNT_CLASS_DENIED,
  R.FE_CNT_SERVICE_INVALID,
  R.FE_CNT_VERSION_STALE,
  R.FE_CNT_ECC_DISCARD,
  R.FE_CNT_ECC_CORRECTED,
  R.FE_CNT_EXC_SENT,
  R.FE_CNT_EXC_RATE_DROP,
  R.FE_CNT_EXC_OVERFLOW,
  R.FE_CNT_NOT_READY,
  R.FE_CNT_PTP_EVENT,
  R.FE_CNT_SLICE_FENCED]
/-- The registers of the SAT blocks. -/
def blockSat : List Reg := [R.SAT_ID,
  R.SAT_CTRL,
  R.SAT_STATUS,
  R.SAT_EVT_STATUS,
  R.SAT_CMD,
  R.SAT_CMD_STATUS,
  R.SAT_CMD_ABORT,
  R.SAT_STAGE_ATTR,
  R.SAT_STAGE_LINK,
  R.SAT_STAGE_SCI_HI,
  R.SAT_STAGE_SCI_LO,
  R.SAT_STAGE_SSCI,
  R.SAT_STAGE_PN_HI,
  R.SAT_STAGE_PN_LO,
  R.SAT_USAGE_LIMIT_FRM,
  R.SAT_USAGE_LIMIT_BLK,
  R.SAT_KEY_STAGE,
  R.SAT_OCCUPANCY,
  R.SAT_TRIGGER_FIFO,
  R.SAT_DIAG_CTRL,
  R.SAT_ECC_STATUS,
  R.SAT_CNT_STARVE,
  R.SAT_CNT_TX_NO_SA,
  R.SAT_CNT_RX_REJECT]
/-- The registers of the CIP blocks. -/
def blockCip : List Reg := [R.CIP_ID,
  R.CIP_CTRL,
  R.CIP_STATUS,
  R.CIP_EVT_STATUS,
  R.CIP_PIPE_STATUS,
  R.CIP_MASK_STATUS,
  R.CIP_MASK_RESERVE,
  R.CIP_HOLD_STATUS,
  R.CIP_SEG_TIMEOUT,
  R.CIP_FAULT_STATUS,
  R.CIP_KAT_CTRL,
  R.CIP_PARK_STATUS,
  R.CIP_CNT_SEALED_LO,
  R.CIP_CNT_SEALED_HI,
  R.CIP_CNT_OPENED_LO,
  R.CIP_CNT_OPENED_HI,
  R.CIP_CNT_TAG_FAIL,
  R.CIP_CNT_SEG_ERR,
  R.CIP_CNT_SHIM_ERR,
  R.CIP_CNT_OVERSIZE,
  R.CIP_CNT_HOLD_FULL,
  R.CIP_CNT_HOLD_ECC,
  R.CIP_CNT_TX_ABORT,
  R.CIP_CNT_RX_FAULT,
  R.CIP_CNT_SUSPEND,
  R.CIP_CNT_PREEMPT_CAP,
  R.CIP_CNT_MASK_WAIT,
  R.CIP_CNT_FENCE_DISCARD,
  R.CIP_CNT_PIPE_TRANSIENT,
  R.CIP_CNT_RESEED,
  R.CIP_CNT_CTRL_REC,
  R.CIP_CNT_UNSUPPORTED]
/-- The registers of the LRN blocks. -/
def blockLrn : List Reg := [R.LRN_ID,
  R.LRN_CTRL,
  R.LRN_STATUS,
  R.LRN_EVT_STATUS,
  R.LRN_SWEEP_INTERVAL,
  R.LRN_FLUSH,
  R.LRN_OCCUPANCY,
  R.LRN_CNT_LEARNED,
  R.LRN_CNT_AGED,
  R.LRN_CNT_MOVES,
  R.LRN_CNT_MOVE_REFUSED,
  R.LRN_CNT_INSERT_FAIL,
  R.LRN_CNT_FLOODED,
  R.LRN_CNT_FLOOD_DROP,
  R.LRN_CNT_LEARN_DROP,
  R.LRN_CNT_NO_BIND]
/-- The registers of the POL block. -/
def blockPol : List Reg := [R.POL_ID,
  R.POL_CTRL,
  R.POL_STATUS,
  R.POL_EVT_STATUS,
  R.POL_ECC_STATUS,
  R.POL_CMD,
  R.POL_CMD_STATUS,
  R.POL_CNT_ECC_CORRECTED,
  R.POL_CNT_GREEN,
  R.POL_CNT_YELLOW,
  R.POL_CNT_YELLOW_DROP,
  R.POL_CNT_RED,
  R.POL_CNT_UNPOLICED,
  R.POL_CNT_ECC_DISCARD]
/-- The registers of the SCH block. -/
def blockSch : List Reg := [R.SCH_ID,
  R.SCH_CTRL,
  R.SCH_STATUS,
  R.SCH_EVT_STATUS,
  R.SCH_ECC_STATUS,
  R.SCH_CMD,
  R.SCH_CMD_STATUS,
  R.SCH_SAMPLE_SEL,
  R.SCH_SAMPLE_DEPTH,
  R.SCH_SAMPLE_HEAD_AGE,
  R.SCH_SAMPLE_DELAY_MAX,
  R.SCH_EGR_BUF_STATUS,
  R.SCH_EGR_CLASS_LEVEL,
  R.SCH_DESC_FREE,
  R.SCH_CELLS_FREE,
  R.SCH_CNT_DEQUEUED_LO,
  R.SCH_CNT_DEQUEUED_HI,
  R.SCH_CNT_NO_QUEUE,
  R.SCH_CNT_FLUSHED,
  R.SCH_CNT_QUEUE_FULL,
  R.SCH_CNT_YELLOW_DROP,
  R.SCH_CNT_LATE_ADMIT,
  R.SCH_CNT_NO_BUFFER,
  R.SCH_CNT_GUARD_LINE,
  R.SCH_CNT_GUARD_CLIENT,
  R.SCH_CNT_EGR_FULL,
  R.SCH_CNT_CAP_DEMOTE_EXP,
  R.SCH_CNT_CAP_DEMOTE_ASR,
  R.SCH_CNT_SUSPEND_CHARGE,
  R.SCH_CNT_PREEMPT,
  R.SCH_CNT_ECC_CORRECTED,
  R.SCH_CNT_ECC_DISCARD]
/-- The registers of the LFE blocks. -/
def blockLfe : List Reg := [R.LFE_ID,
  R.LFE_CTRL,
  R.LFE_STATUS,
  R.LFE_EVT_STATUS,
  R.LFE_ECC_STATUS,
  R.LFE_CNT_EXC_SENT,
  R.LFE_CNT_EXC_RATE_DROP,
  R.LFE_CNT_EXC_OVERFLOW,
  R.LFE_CNT_HALF_MISMATCH,
  R.LFE_CNT_UNKNOWN_KSI,
  R.LFE_CNT_FORMAT_ERR,
  R.LFE_CNT_DEFECT_DISCARD]
/-- The registers of the ENV blocks. -/
def blockEnv : List Reg := [R.ENV_CTRL,
  R.ENV_STATUS,
  R.ENV_EVT_STATUS,
  R.ENV_DEF_INTEG_SET,
  R.ENV_DEF_INTEG_CLR,
  R.ENV_TRAIL,
  R.ENV_RX_TRAIL,
  R.ENV_FAR_END,
  R.ENV_KEY_CMD,
  R.ENV_KEY_STATUS,
  R.ENV_KEY_STAGE,
  R.ENV_KEY_LIMIT]
/-- The registers of the MRG block. -/
def blockMrg : List Reg := [R.MRG_ID,
  R.MRG_CTRL,
  R.MRG_STATUS,
  R.MRG_EVT_STATUS,
  R.MRG_CMD,
  R.MRG_CMD_STATUS,
  R.MRG_SEQ_FENCE_INFO,
  R.MRG_MERGE_FENCE_INFO,
  R.MRG_QUIET,
  R.MRG_WIN_FREE,
  R.MRG_HOLD_RESERVE,
  R.MRG_HOLD_USED,
  R.MRG_RX_REDIRECT,
  R.MRG_ECC_STATUS,
  R.MRG_CNT_NUMBERED_LO,
  R.MRG_CNT_NUMBERED_HI,
  R.MRG_CNT_PASSED_LO,
  R.MRG_CNT_PASSED_HI,
  R.MRG_CNT_DUP_LO,
  R.MRG_CNT_DUP_HI,
  R.MRG_CNT_HELD_LO,
  R.MRG_CNT_HELD_HI,
  R.MRG_SAMPLE_SEL,
  R.MRG_SAMPLE_HIGHEST,
  R.MRG_SAMPLE_DMIN,
  R.MRG_SAMPLE_DMAX,
  R.MRG_SAMPLE_HOLD0,
  R.MRG_SAMPLE_HOLD1,
  R.MRG_SAMPLE_IDLE,
  R.MRG_SAMPLE_STATUS,
  R.MRG_CNT_COPIES,
  R.MRG_CNT_FIRST,
  R.MRG_CNT_SEQ_FENCED,
  R.MRG_CNT_MERGE_FENCED,
  R.MRG_CNT_NO_STREAM,
  R.MRG_CNT_PATH_ERR,
  R.MRG_CNT_STALE,
  R.MRG_CNT_RESYNC,
  R.MRG_CNT_HOLD_NO_CELL,
  R.MRG_CNT_HOLD_LOST,
  R.MRG_CNT_HOLD_REPLACED,
  R.MRG_CNT_HOLD_FENCE_DISCARD,
  R.MRG_CNT_ALIGN_CAPPED,
  R.MRG_CNT_FENCES,
  R.MRG_CNT_ECC_CORRECTED,
  R.MRG_CNT_ECC_DISCARD,
  R.MRG_CNT_SAME_CYCLE,
  R.MRG_CNT_REDIRECTED]
/-- The registers of the BAY blocks. -/
def blockBay : List Reg := [R.BAY_ID,
  R.BAY_CTRL,
  R.BAY_STATUS,
  R.BAY_EVT_STATUS,
  R.BAY_CMD,
  R.BAY_CMD_STATUS,
  R.BAY_EPOCH,
  R.BAY_ERR_ADDR,
  R.BAY_QUARANTINE,
  R.BAY_CACHE_STATUS,
  R.BAY_TRAIN_STATUS,
  R.BAY_CNT_CORRECTED,
  R.BAY_CNT_DATA_UNCORR,
  R.BAY_CNT_TAG_FAIL,
  R.BAY_CNT_POISON_DISCARD,
  R.BAY_CNT_DESC_ERR]
/-- The registers of the LANE blocks. -/
def blockLane : List Reg := [R.LANE_CTRL,
  R.LANE_STATUS,
  R.LANE_EVT_STATUS,
  R.LANE_TX_EQ,
  R.LANE_PRBS_CTRL,
  R.LANE_PRBS_ERR]
/-- The registers of the TIM block. -/
def blockTim : List Reg := [R.TIM_ID,
  R.TIM_CTRL,
  R.TIM_STATUS,
  R.TIM_EVT_STATUS,
  R.TIM_SNAP_RAW_NS,
  R.TIM_SNAP_RAW_WRAP,
  R.TIM_SNAP_NET_NS,
  R.TIM_SNAP_NET_WRAP,
  R.TIM_SNAP_SEC_LO,
  R.TIM_SNAP_SEC_HI,
  R.TIM_RATE,
  R.TIM_SEC_NEXT_NS,
  R.TIM_SEC_NEXT_WRAP,
  R.TIM_STAGE_NS,
  R.TIM_STAGE_WRAP,
  R.TIM_STAGE_SECNEXT_NS,
  R.TIM_STAGE_SECNEXT_WRAP,
  R.TIM_STAGE_SEC_LO,
  R.TIM_STAGE_SEC_HI,
  R.TIM_STAGE_RATE,
  R.TIM_ADJ_CMD,
  R.TIM_ADJ_STATUS,
  R.TIM_SYNC,
  R.TIM_PPS_IN_CTRL,
  R.TIM_PPS_IN_NS,
  R.TIM_PPS_IN_WRAP,
  R.TIM_PPS_IN_STATUS,
  R.TIM_TOD_CTRL,
  R.TIM_TOD_STATUS,
  R.TIM_TOD_SEC_LO,
  R.TIM_TOD_SEC_HI,
  R.TIM_TOD_INFO,
  R.TIM_TOD_RX_NS,
  R.TIM_CLK_CTRL,
  R.TIM_CLK_MEAS,
  R.TIM_TXS_INFO,
  R.TIM_TXS_NS,
  R.TIM_CNT_TOD_ORPHAN,
  R.TIM_PPS_OUT_CTRL,
  R.TIM_PPS_OUT_PERIOD,
  R.TIM_CNT_PPS_GLITCH,
  R.TIM_CNT_TOD_BAD]
/-- The registers of the THY block. -/
def blockThy : List Reg := [R.THY_ID,
  R.THY_CTRL,
  R.THY_STATUS,
  R.THY_EVT_STATUS,
  R.THY_STAGE_ACTION,
  R.THY_STAGE_AT_WRAP,
  R.THY_STAGE_AT_NS,
  R.THY_STAGE_ARG,
  R.THY_CMD,
  R.THY_CMD_STATUS,
  R.THY_CMD_TICKET,
  R.THY_PENDING,
  R.THY_NEXT_INFO,
  R.THY_NEXT_WRAP,
  R.THY_NEXT_NS,
  R.THY_DONE_FIFO,
  R.THY_DONE_TICKET,
  R.THY_DONE_COUNT,
  R.THY_USER_ARG,
  R.THY_CNT_DONE,
  R.THY_CNT_ABORTED,
  R.THY_CNT_REFUSED,
  R.THY_CNT_STEPPED,
  R.THY_CNT_SECONDS]
/-- The registers of the SAGE block. -/
def blockSage : List Reg := [R.SAGE_ID,
  R.SAGE_CTRL,
  R.SAGE_STATUS,
  R.SAGE_EVT_STATUS,
  R.SAGE_LEASE,
  R.SAGE_RENEW,
  R.SAGE_ALIVE,
  R.SAGE_HANDOVER,
  R.SAGE_LEASE_CFG,
  R.SAGE_WDT_CFG,
  R.SAGE_WDT_KICK,
  R.SAGE_A_STATE,
  R.SAGE_B_STATE,
  R.SAGE_FW_VERSION,
  R.SAGE_CFG_VERSION,
  R.SAGE_DIGEST_HI,
  R.SAGE_DIGEST_LO,
  R.SAGE_CS_CMD,
  R.SAGE_CS_STATUS,
  R.SAGE_CS_AT_WRAP,
  R.SAGE_CS_AT_NS,
  R.SAGE_MBOX_CTRL,
  R.SAGE_MBOX_STATUS,
  R.SAGE_MBOX_DATA,
  R.SAGE_DEFER_STATUS,
  R.SAGE_EXC_LEVEL,
  R.SAGE_BOOT_TIME,
  R.SAGE_CNT_TAKEOVER,
  R.SAGE_CNT_DEFER_DROP,
  R.SAGE_CNT_WDT,
  R.SAGE_CNT_CS_DONE,
  R.SAGE_CNT_CS_ABORTED]
/-- The registers of the NVL block. -/
def blockNvl : List Reg := [R.NVL_ID,
  R.NVL_CTRL,
  R.NVL_STATUS,
  R.NVL_EVT_STATUS,
  R.NVL_BOOT_INFO,
  R.NVL_SLOT_A_VER,
  R.NVL_SLOT_B_VER,
  R.NVL_COMMIT_SEQ,
  R.NVL_UPD_CMD,
  R.NVL_UPD_STATUS,
  R.NVL_UPD_LEN,
  R.NVL_UPD_OFFSET,
  R.NVL_UPD_DATA,
  R.NVL_JRNL_STATUS,
  R.NVL_RSM_STATUS,
  R.NVL_WEAR_MAX,
  R.NVL_WEAR_MEAN,
  R.NVL_ERASE_CNT,
  R.NVL_SVN,
  R.NVL_SVN_CMD,
  R.NVL_ERR_ADDR,
  R.NVL_CNT_PROG_FAIL,
  R.NVL_CNT_ERASE_FAIL,
  R.NVL_CNT_VERIFY_FAIL]
/-- The registers of the MNT block. -/
def blockMnt : List Reg := [R.MNT_ID,
  R.MNT_CTRL,
  R.MNT_STATUS,
  R.MNT_EVT_STATUS,
  R.MNT_SRC_STATUS,
  R.MNT_SRC_CTRL,
  R.MNT_RESEED_CFG,
  R.MNT_CMD,
  R.MNT_CMD_STATUS,
  R.MNT_POOL_STATUS,
  R.MNT_DRBG_STATUS,
  R.MNT_KEY_OUT,
  R.MNT_RAND_OUT,
  R.MNT_OUT_STATUS,
  R.MNT_TEST_CTRL,
  R.MNT_TEST_DATA,
  R.MNT_TEST_OUT,
  R.MNT_RAW_CAPTURE,
  R.MNT_HT_CFG,
  R.MNT_MASK_PENDING,
  R.MNT_MASK_WAIT_MAX,
  R.MNT_CNT_HT_FAIL,
  R.MNT_CNT_BLOCKS,
  R.MNT_CNT_POOL_DROP,
  R.MNT_CNT_RESEED,
  R.MNT_CNT_MASK_SEED,
  R.MNT_CNT_KEY_REQ,
  R.MNT_CNT_SAGE_REQ,
  R.MNT_CNT_STARVED]
/-- The registers of the EVT block. -/
def blockEvt : List Reg := [R.EVT_ID,
  R.EVT_CTRL,
  R.EVT_STATUS,
  R.EVT_EVT_STATUS,
  R.EVT_SEQ,
  R.EVT_IRQ_SUM_LO,
  R.EVT_IRQ_SUM_HI,
  R.EVT_ALARM_SUM_LO,
  R.EVT_ALARM_SUM_HI,
  R.EVT_FIFO_INFO,
  R.EVT_FIFO_SEQ,
  R.EVT_FIFO_WRAP,
  R.EVT_FIFO_NS,
  R.EVT_FIFO_LEVEL,
  R.EVT_SW_RAISE,
  R.EVT_FORCE,
  R.EVT_RSM_CTRL,
  R.EVT_RSM_STATUS,
  R.EVT_RSM_LSEQ_LO,
  R.EVT_RSM_LSEQ_HI,
  R.EVT_RSM_DURABLE_LO,
  R.EVT_RSM_DURABLE_HI,
  R.EVT_RSM_BUCKET,
  R.EVT_BOOT_COUNT,
  R.EVT_GRP_LATCH,
  R.EVT_GRP_IRQ_EN,
  R.EVT_GRP_ALARM_EN,
  R.EVT_GRP_LOG_EN,
  R.EVT_CNT_FIFO_DROP,
  R.EVT_CNT_SW_RAISE,
  R.EVT_CNT_FORCED,
  R.EVT_CNT_RSM_SUPPRESSED,
  R.EVT_CNT_RSM_WAIT,
  R.EVT_CNT_RSM_LATE,
  R.EVT_CNT_RSM_PAGES,
  R.EVT_CNT_RSM_DISCARDED]
/-- The registers of the TAMP block. -/
def blockTamp : List Reg := [R.TAMP_ID,
  R.TAMP_CTRL,
  R.TAMP_STATUS,
  R.TAMP_EVT_STATUS,
  R.TAMP_RESPONSE,
  R.TAMP_UNMUTE,
  R.TAMP_FUSE_CONFIRM,
  R.TAMP_FUSE_CMD,
  R.TAMP_FUSE_STATUS,
  R.TAMP_STICKY_ENV,
  R.TAMP_STICKY_MISC,
  R.TAMP_CLASS_ENV_LO,
  R.TAMP_CLASS_ENV_HI,
  R.TAMP_CLASS_MISC,
  R.TAMP_VMON_CFG,
  R.TAMP_TEMP_CFG,
  R.TAMP_REG_CTRL,
  R.TAMP_REG_STATUS,
  R.TAMP_REG_STICKY,
  R.TAMP_REG_CNT]
/-- The registers of the RST block. -/
def blockRst : List Reg := [R.RST_ID,
  R.RST_CTRL,
  R.RST_STATUS,
  R.RST_EVT_STATUS,
  R.RST_CAUSE,
  R.RST_CAUSE_HIST,
  R.RST_SW_CMD,
  R.RST_DOMAIN_STATUS,
  R.RST_MGMT_KEY,
  R.RST_STRAP,
  R.RST_SETTINGS,
  R.RST_OPT_LO,
  R.RST_OPT_HI,
  R.RST_TRIM_STATUS,
  R.RST_ZERO_STATUS,
  R.RST_LOCKUP_STATUS,
  R.RST_CLK_STATUS,
  R.RST_BOOT_STAGE,
  R.RST_REL_TIME,
  R.RST_DOM_REL_WRAP,
  R.RST_DOM_REL_NS,
  R.RST_CNT_DOMAIN,
  R.RST_CNT]
/-- The registers of the PWR block. -/
def blockPwr : List Reg := [R.PWR_ID,
  R.PWR_CTRL,
  R.PWR_STATUS,
  R.PWR_EVT_STATUS,
  R.PWR_VIN_MEAS,
  R.PWR_VAUX_MEAS,
  R.PWR_IIN_MEAS,
  R.PWR_PIN_MEAS,
  R.PWR_PIN_MAX,
  R.PWR_ENERGY_LO,
  R.PWR_ENERGY_HI,
  R.PWR_PIN_WARN,
  R.PWR_VIN_MIN,
  R.PWR_SEQ_STATUS,
  R.PWR_CAL_STATUS,
  R.PWR_PHASE_SHED,
  R.PWR_TRIM_VCORE,
  R.PWR_RAIL_CTRL,
  R.PWR_RAIL_STATUS,
  R.PWR_RAIL_VOLT,
  R.PWR_RAIL_CURR,
  R.PWR_RAIL_PEAK,
  R.PWR_RAIL_TRIM,
  R.PWR_CNT_PHASE_FAULT,
  R.PWR_CNT_RAIL_FAULT,
  R.PWR_CNT_OCP,
  R.PWR_CNT_CAL,
  R.PWR_CNT_PIN_WARN]
/-- The registers of the GLB block. -/
def blockGlb : List Reg := [R.GLB_ID,
  R.GLB_STEPPING,
  R.GLB_SERIAL_HI,
  R.GLB_SERIAL_LO,
  R.GLB_CAP_UNITS,
  R.GLB_CAP_SA,
  R.GLB_CAP_SERVICES,
  R.GLB_CAP_CLASSIFY,
  R.GLB_CAP_LEARN,
  R.GLB_CAP_DESC,
  R.GLB_CTRL,
  R.GLB_STATUS,
  R.GLB_EVT_STATUS,
  R.GLB_LCS_STATUS,
  R.GLB_LCS_CONFIRM,
  R.GLB_LCS_CMD,
  R.GLB_KEYSLOT_STATUS,
  R.GLB_KEYSLOT_CMD,
  R.GLB_MGMT_CFG,
  R.GLB_MGMT_STATUS,
  R.GLB_ETH_CFG,
  R.GLB_ETH_STATUS,
  R.GLB_SESSION_STATUS,
  R.GLB_SCRATCH,
  R.GLB_CNT_SPI_FRAMES,
  R.GLB_CNT_SPI_CRC,
  R.GLB_CNT_I2C_FRAMES,
  R.GLB_CNT_I2C_CRC,
  R.GLB_CNT_MGMT_REFUSED,
  R.GLB_CNT_RESET_KEY_BAD,
  R.GLB_CNT_SESSION_AUTH_FAIL,
  R.GLB_CNT_SESSION_DROP]
/-- The registers of the PAGE block. -/
def blockPage : List Reg := [R.PAGE_ID,
  R.PAGE_CTRL,
  R.PAGE_STATUS,
  R.PAGE_EVT_STATUS,
  R.PAGE_VIOL_ADDR,
  R.PAGE_VIOL_INFO,
  R.PAGE_CNT_VIOL_SAGE,
  R.PAGE_SNAP_SEC,
  R.PAGE_SESS_INFO,
  R.PAGE_VIOL_CNT]
/-- The registers of the MON block. -/
def blockMon : List Reg := [R.MON_ID,
  R.MON_CTRL,
  R.MON_STATUS,
  R.MON_EVT_STATUS,
  R.MON_SNAP_SEC_LO,
  R.MON_SNAP_SEC_HI,
  R.MON_SNAP_WRAP,
  R.MON_SNAP_NS,
  R.MON_READ_US,
  R.MON_EXPORT_STATUS,
  R.MON_WRAP_SUM,
  R.MON_ALERT_SUM,
  R.MON_TEMP_MAX,
  R.MON_LAST_ALERT,
  R.MON_UNIT_WRAP,
  R.MON_UNIT_CTRL,
  R.MON_CH_ALERT,
  R.MON_CH_ACTIVE,
  R.MON_TEMP,
  R.MON_QV_SEL,
  R.MON_QV_HI,
  R.MON_QV_LO,
  R.MON_CNT_SNAPSHOTS,
  R.MON_CNT_CFG_REFUSED,
  R.MON_CNT_EXPORT_SENT,
  R.MON_CNT_EXPORT_DROP,
  R.MON_CNT_ALERTS,
  R.MON_CNT_WRAPS]
/-- The registers of the CPORT blocks. -/
def blockCport : List Reg := [R.CPORT_CTRL,
  R.CPORT_STATUS,
  R.CPORT_EVT_STATUS,
  R.CPORT_PREEMPT,
  R.CPORT_PREEMPT_STATUS,
  R.CPORT_FEC_THRESH]
/-- The registers of the LPORT blocks. -/
def blockLport : List Reg := [R.LPORT_CTRL,
  R.LPORT_STATUS,
  R.LPORT_EVT_STATUS,
  R.LPORT_RX_FREQ,
  R.LPORT_RX_LATENCY,
  R.LPORT_FEC_THRESH]

/-- The blocks of the address map (R540): first address, first address past it, registers. -/
def blockMap : List (Nat × Nat × List Reg) :=
  [(0x180000, 0x188000, blockFe),
   (0x1A0000, 0x1B0000, blockPol),
   (0x1B0000, 0x1C0000, blockSch),
   (0x188000, 0x190000, blockLfe),
   (0x140000, 0x150000, blockEnv),
   (0x160000, 0x170000, blockMrg),
   (0x1C0000, 0x1C0400, blockBay),
   (0x100000, 0x110000, blockLane),
   (0x20000, 0x28000, blockTim),
   (0x28000, 0x30000, blockThy),
   (0x50000, 0x58000, blockSage),
   (0x58000, 0x60000, blockNvl),
   (0x30000, 0x40000, blockMnt),
   (0x10000, 0x20000, blockEvt),
   (0x40000, 0x50000, blockTamp),
   (0x1000, 0x2000, blockRst),
   (0x2000, 0x3000, blockPwr),
   (0x0, 0x1000, blockGlb),
   (0x70000, 0x80000, blockPage),
   (0x60000, 0x70000, blockMon),
   (0x120000, 0x128000, blockCport),
   (0x130000, 0x138000, blockLport),
   (0x200000, 0x300000, blockSat), (0x200000, 0x300000, blockCip), (0x200000, 0x300000, blockLrn)]

/-- The registers of the always-on island, kept by every reset but a power-on reset (R507, R531,
R532, R502, R496). -/
def alwaysOnRegs : List Reg := [R.RST_CAUSE, R.RST_CAUSE_HIST, R.RST_LOCKUP_STATUS, R.RST_CNT, R.RST_CNT_DOMAIN, R.TAMP_STICKY_ENV, R.TAMP_STICKY_MISC, R.TAMP_REG_STICKY, R.EVT_RSM_BUCKET]

/-- The registers marked Global in R85: one register seen at the same offset of FE0-FE3. -/
def feGlobalOffsets : List Nat :=
  [0x10, 0x14, 0x18, 0x1C, 0x20, 0x24, 0x28, 0x3C, 0x48, 0x4C, 0x50, 0x54, 0x58, 0x5C]

/-- An event bit of a block's event status register (R478, R479): the register, the bit, the source of
its first instance (source numbers rise with the instance), whether it is a command completion in the
order of R480 (0) or another occurrence (1), and the field that enables it where the register table
says "when enabled". -/
structure Ev where
  reg : Reg
  bit : Nat
  src : Nat
  kind : Nat
  en : Option Fld

def E.FE_EXC_RATE_DROP : Ev := ⟨R.FE_EVT_STATUS, 7, 32, 1, none⟩
def E.FE_RETIRED : Ev := ⟨R.FE_EVT_STATUS, 6, 32, 1, none⟩
def E.FE_COMMIT_ABORTED : Ev := ⟨R.FE_EVT_STATUS, 5, 32, 1, none⟩
def E.FE_DIGEST_MISMATCH : Ev := ⟨R.FE_EVT_STATUS, 4, 32, 1, none⟩
def E.FE_VERSION_STALE : Ev := ⟨R.FE_EVT_STATUS, 3, 32, 1, none⟩
def E.FE_CTRL_REJECT : Ev := ⟨R.FE_EVT_STATUS, 2, 32, 1, some F.FE_CTRL_CTRL_REJECT_EVT_EN⟩
def E.FE_ECC_CORR : Ev := ⟨R.FE_EVT_STATUS, 1, 32, 1, some F.FE_CTRL_ECC_EVT_EN⟩
def E.FE_ECC_UNCORR : Ev := ⟨R.FE_EVT_STATUS, 0, 32, 1, none⟩
def E.SAT_DIAG_CHANGE : Ev := ⟨R.SAT_EVT_STATUS, 8, 40, 1, none⟩
def E.SAT_FIFO_OVF : Ev := ⟨R.SAT_EVT_STATUS, 7, 40, 1, none⟩
def E.SAT_CMD_ABORTED : Ev := ⟨R.SAT_EVT_STATUS, 6, 40, 1, some F.SAT_CTRL_CMD_EVT_EN⟩
def E.SAT_CMD_DONE : Ev := ⟨R.SAT_EVT_STATUS, 5, 40, 0, some F.SAT_CTRL_CMD_EVT_EN⟩
def E.SAT_ECC_CORR : Ev := ⟨R.SAT_EVT_STATUS, 4, 40, 1, some F.SAT_CTRL_ECC_CORR_EVT_EN⟩
def E.SAT_ECC_UNCORR : Ev := ⟨R.SAT_EVT_STATUS, 3, 40, 1, none⟩
def E.SAT_SWITCH_MISSED : Ev := ⟨R.SAT_EVT_STATUS, 2, 40, 1, none⟩
def E.SAT_EXHAUSTED : Ev := ⟨R.SAT_EVT_STATUS, 1, 40, 1, none⟩
def E.SAT_PRETRIGGER : Ev := ⟨R.SAT_EVT_STATUS, 0, 40, 1, none⟩
def E.CIP_TX_ABORT : Ev := ⟨R.CIP_EVT_STATUS, 9, 48, 1, none⟩
def E.CIP_KAT_DONE : Ev := ⟨R.CIP_EVT_STATUS, 8, 48, 0, none⟩
def E.CIP_MASK_STARVE : Ev := ⟨R.CIP_EVT_STATUS, 7, 48, 1, none⟩
def E.CIP_PIPE_FAILED : Ev := ⟨R.CIP_EVT_STATUS, 6, 48, 1, none⟩
def E.CIP_PIPE_FAULT : Ev := ⟨R.CIP_EVT_STATUS, 5, 48, 1, none⟩
def E.CIP_HOLD_ECC : Ev := ⟨R.CIP_EVT_STATUS, 4, 48, 1, none⟩
def E.CIP_HOLD_FULL : Ev := ⟨R.CIP_EVT_STATUS, 3, 48, 1, none⟩
def E.CIP_SHIM_ERR : Ev := ⟨R.CIP_EVT_STATUS, 2, 48, 1, some F.CIP_CTRL_SHIM_EVT_EN⟩
def E.CIP_SEG_ERR : Ev := ⟨R.CIP_EVT_STATUS, 1, 48, 1, some F.CIP_CTRL_SEG_EVT_EN⟩
def E.CIP_TAG_FAIL : Ev := ⟨R.CIP_EVT_STATUS, 0, 48, 1, some F.CIP_CTRL_TAG_FAIL_EVT_EN⟩
def E.LRN_SWEEP_OVERRUN : Ev := ⟨R.LRN_EVT_STATUS, 6, 56, 1, none⟩
def E.LRN_FLUSH_DONE : Ev := ⟨R.LRN_EVT_STATUS, 5, 56, 0, none⟩
def E.LRN_NO_BIND : Ev := ⟨R.LRN_EVT_STATUS, 4, 56, 1, none⟩
def E.LRN_FROZEN : Ev := ⟨R.LRN_EVT_STATUS, 3, 56, 1, none⟩
def E.LRN_MOVE : Ev := ⟨R.LRN_EVT_STATUS, 2, 56, 1, some F.LRN_CTRL_MOVE_EVT_EN⟩
def E.LRN_INSERT_FAIL : Ev := ⟨R.LRN_EVT_STATUS, 1, 56, 1, some F.LRN_CTRL_INSERT_FAIL_EVT_EN⟩
def E.LRN_ECC_UNCORR : Ev := ⟨R.LRN_EVT_STATUS, 0, 56, 1, none⟩
def E.POL_ECC_CORR : Ev := ⟨R.POL_EVT_STATUS, 1, 12, 1, some F.POL_CTRL_ECC_CORR_EVT_EN⟩
def E.POL_ECC_UNCORR : Ev := ⟨R.POL_EVT_STATUS, 0, 12, 1, none⟩
def E.SCH_CMD_DONE : Ev := ⟨R.SCH_EVT_STATUS, 5, 13, 0, none⟩
def E.SCH_DESC_EXHAUST : Ev := ⟨R.SCH_EVT_STATUS, 4, 13, 1, none⟩
def E.SCH_CELLS_EXHAUST : Ev := ⟨R.SCH_EVT_STATUS, 3, 13, 1, none⟩
def E.SCH_NO_QUEUE : Ev := ⟨R.SCH_EVT_STATUS, 2, 13, 1, some F.SCH_CTRL_NO_QUEUE_EVT_EN⟩
def E.SCH_ECC_CORR : Ev := ⟨R.SCH_EVT_STATUS, 1, 13, 1, some F.SCH_CTRL_ECC_CORR_EVT_EN⟩
def E.SCH_ECC_UNCORR : Ev := ⟨R.SCH_EVT_STATUS, 0, 13, 1, none⟩
def E.LFE_ENGINE_FAILED : Ev := ⟨R.LFE_EVT_STATUS, 7, 36, 1, none⟩
def E.LFE_ENGINE_FAULT : Ev := ⟨R.LFE_EVT_STATUS, 6, 36, 1, none⟩
def E.LFE_EXC_RATE_DROP : Ev := ⟨R.LFE_EVT_STATUS, 5, 36, 1, none⟩
def E.LFE_FORMAT_ERR : Ev := ⟨R.LFE_EVT_STATUS, 4, 36, 1, some F.LFE_CTRL_FORMAT_EVT_EN⟩
def E.LFE_UNKNOWN_KSI : Ev := ⟨R.LFE_EVT_STATUS, 3, 36, 1, some F.LFE_CTRL_UNKNOWN_EVT_EN⟩
def E.LFE_HALF_MISMATCH : Ev := ⟨R.LFE_EVT_STATUS, 2, 36, 1, none⟩
def E.LFE_ECC_CORR : Ev := ⟨R.LFE_EVT_STATUS, 1, 36, 1, some F.LFE_CTRL_ECC_EVT_EN⟩
def E.LFE_ECC_UNCORR : Ev := ⟨R.LFE_EVT_STATUS, 0, 36, 1, none⟩
def E.ENV_SEAL_CLEAN_FAIL : Ev := ⟨R.ENV_EVT_STATUS, 25, 192, 1, none⟩
def E.ENV_KEY_CMD_ABORTED : Ev := ⟨R.ENV_EVT_STATUS, 24, 224, 1, none⟩
def E.ENV_KEY_CMD_DONE : Ev := ⟨R.ENV_EVT_STATUS, 23, 224, 0, none⟩
def E.ENV_SWITCH_MISSED : Ev := ⟨R.ENV_EVT_STATUS, 22, 224, 1, none⟩
def E.ENV_SWITCH_DONE : Ev := ⟨R.ENV_EVT_STATUS, 21, 224, 1, none⟩
def E.ENV_EXHAUSTED : Ev := ⟨R.ENV_EVT_STATUS, 20, 224, 1, none⟩
def E.ENV_PRETRIGGER : Ev := ⟨R.ENV_EVT_STATUS, 19, 224, 1, none⟩
def E.ENV_TXI_SET : Ev := ⟨R.ENV_EVT_STATUS, 18, 192, 1, none⟩
def E.ENV_DEF_CLR0 : Ev := ⟨R.ENV_EVT_STATUS, 8, 192, 1, none⟩
def E.ENV_DEF_CLR1 : Ev := ⟨R.ENV_EVT_STATUS, 9, 192, 1, none⟩
def E.ENV_DEF_CLR2 : Ev := ⟨R.ENV_EVT_STATUS, 10, 192, 1, none⟩
def E.ENV_DEF_CLR3 : Ev := ⟨R.ENV_EVT_STATUS, 11, 192, 1, none⟩
def E.ENV_DEF_CLR4 : Ev := ⟨R.ENV_EVT_STATUS, 12, 192, 1, none⟩
def E.ENV_DEF_CLR5 : Ev := ⟨R.ENV_EVT_STATUS, 13, 192, 1, none⟩
def E.ENV_DEF_CLR6 : Ev := ⟨R.ENV_EVT_STATUS, 14, 192, 1, none⟩
def E.ENV_DEF_CLR7 : Ev := ⟨R.ENV_EVT_STATUS, 15, 192, 1, none⟩
def E.ENV_DEF_SET0 : Ev := ⟨R.ENV_EVT_STATUS, 0, 192, 1, none⟩
def E.ENV_DEF_SET1 : Ev := ⟨R.ENV_EVT_STATUS, 1, 192, 1, none⟩
def E.ENV_DEF_SET2 : Ev := ⟨R.ENV_EVT_STATUS, 2, 192, 1, none⟩
def E.ENV_DEF_SET3 : Ev := ⟨R.ENV_EVT_STATUS, 3, 192, 1, none⟩
def E.ENV_DEF_SET4 : Ev := ⟨R.ENV_EVT_STATUS, 4, 192, 1, none⟩
def E.ENV_DEF_SET5 : Ev := ⟨R.ENV_EVT_STATUS, 5, 192, 1, none⟩
def E.ENV_DEF_SET6 : Ev := ⟨R.ENV_EVT_STATUS, 6, 192, 1, none⟩
def E.ENV_DEF_SET7 : Ev := ⟨R.ENV_EVT_STATUS, 7, 192, 1, none⟩
def E.MRG_NO_STREAM : Ev := ⟨R.MRG_EVT_STATUS, 12, 14, 1, none⟩
def E.MRG_RESTART_FAILED : Ev := ⟨R.MRG_EVT_STATUS, 11, 14, 0, none⟩
def E.MRG_RESTART_DONE : Ev := ⟨R.MRG_EVT_STATUS, 10, 14, 0, none⟩
def E.MRG_SEQ_FENCE : Ev := ⟨R.MRG_EVT_STATUS, 9, 15, 1, none⟩
def E.MRG_MERGE_FENCE : Ev := ⟨R.MRG_EVT_STATUS, 8, 15, 1, none⟩
def E.MRG_ALIGN_CAPPED : Ev := ⟨R.MRG_EVT_STATUS, 7, 14, 1, none⟩
def E.MRG_HOLD_NO_CELL : Ev := ⟨R.MRG_EVT_STATUS, 6, 14, 1, none⟩
def E.MRG_HOLD_LOST : Ev := ⟨R.MRG_EVT_STATUS, 5, 14, 1, none⟩
def E.MRG_STALE : Ev := ⟨R.MRG_EVT_STATUS, 4, 14, 1, some F.MRG_CTRL_STALE_EVT_EN⟩
def E.MRG_RESYNC : Ev := ⟨R.MRG_EVT_STATUS, 3, 14, 1, some F.MRG_CTRL_RESYNC_EVT_EN⟩
def E.MRG_PATH_ERR : Ev := ⟨R.MRG_EVT_STATUS, 2, 14, 1, none⟩
def E.MRG_ECC_CORR : Ev := ⟨R.MRG_EVT_STATUS, 1, 14, 1, some F.MRG_CTRL_ECC_CORR_EVT_EN⟩
def E.MRG_ECC_UNCORR : Ev := ⟨R.MRG_EVT_STATUS, 0, 14, 1, none⟩
def E.BAY_QUAR_RELEASED : Ev := ⟨R.BAY_EVT_STATUS, 11, 16, 1, none⟩
def E.BAY_TRAIN_FAIL : Ev := ⟨R.BAY_EVT_STATUS, 10, 16, 1, none⟩
def E.BAY_PATROL_OVERRUN : Ev := ⟨R.BAY_EVT_STATUS, 9, 16, 1, none⟩
def E.BAY_CORR : Ev := ⟨R.BAY_EVT_STATUS, 8, 16, 1, some F.BAY_CTRL_CORR_EVT_EN⟩
def E.BAY_ORPHAN_RECLAIM : Ev := ⟨R.BAY_EVT_STATUS, 7, 16, 1, none⟩
def E.BAY_PREV_KEY_ERASED : Ev := ⟨R.BAY_EVT_STATUS, 6, 16, 1, none⟩
def E.BAY_EPOCH_START : Ev := ⟨R.BAY_EVT_STATUS, 5, 16, 1, none⟩
def E.BAY_COUNTER_SAT : Ev := ⟨R.BAY_EVT_STATUS, 4, 16, 1, none⟩
def E.BAY_DESC_ERR : Ev := ⟨R.BAY_EVT_STATUS, 3, 16, 1, none⟩
def E.BAY_TAG_FAIL : Ev := ⟨R.BAY_EVT_STATUS, 2, 20, 1, none⟩
def E.BAY_LINE_POISON : Ev := ⟨R.BAY_EVT_STATUS, 1, 16, 1, none⟩
def E.BAY_DATA_UNCORR : Ev := ⟨R.BAY_EVT_STATUS, 0, 16, 1, none⟩
def E.LANE_PLL_UNLOCK : Ev := ⟨R.LANE_EVT_STATUS, 4, 64, 1, none⟩
def E.LANE_ADAPT_RESTART : Ev := ⟨R.LANE_EVT_STATUS, 3, 64, 1, none⟩
def E.LANE_CDR_UNLOCK : Ev := ⟨R.LANE_EVT_STATUS, 2, 64, 1, none⟩
def E.LANE_LOS : Ev := ⟨R.LANE_EVT_STATUS, 1, 64, 1, some F.LANE_CTRL_LOS_EVT_EN⟩
def E.LANE_PRBS_ERR : Ev := ⟨R.LANE_EVT_STATUS, 0, 64, 1, none⟩
def E.TIM_TXS_OVF : Ev := ⟨R.TIM_EVT_STATUS, 11, 4, 1, none⟩
def E.TIM_ADJ_ABORTED : Ev := ⟨R.TIM_EVT_STATUS, 10, 4, 1, some F.TIM_CTRL_ADJ_EVT_EN⟩
def E.TIM_ADJ_DONE : Ev := ⟨R.TIM_EVT_STATUS, 9, 4, 0, some F.TIM_CTRL_ADJ_EVT_EN⟩
def E.TIM_CLK_LOSS : Ev := ⟨R.TIM_EVT_STATUS, 8, 4, 1, none⟩
def E.TIM_TOD_ORPHAN : Ev := ⟨R.TIM_EVT_STATUS, 7, 4, 1, none⟩
def E.TIM_TOD_BAD : Ev := ⟨R.TIM_EVT_STATUS, 6, 4, 1, none⟩
def E.TIM_TOD_RX : Ev := ⟨R.TIM_EVT_STATUS, 5, 4, 1, some F.TIM_CTRL_TOD_EVT_EN⟩
def E.TIM_PPS_IN_GLITCH : Ev := ⟨R.TIM_EVT_STATUS, 4, 4, 1, none⟩
def E.TIM_PPS_IN_LOSS : Ev := ⟨R.TIM_EVT_STATUS, 3, 4, 1, none⟩
def E.TIM_PPS_IN : Ev := ⟨R.TIM_EVT_STATUS, 2, 4, 1, some F.TIM_CTRL_PPS_IN_EVT_EN⟩
def E.TIM_STEP_SEC : Ev := ⟨R.TIM_EVT_STATUS, 1, 4, 1, none⟩
def E.TIM_SECOND : Ev := ⟨R.TIM_EVT_STATUS, 0, 4, 1, some F.TIM_CTRL_SEC_EVT_EN⟩
def E.THY_STEPPED : Ev := ⟨R.THY_EVT_STATUS, 5, 5, 1, none⟩
def E.THY_FIFO_OVF : Ev := ⟨R.THY_EVT_STATUS, 4, 5, 1, none⟩
def E.THY_USER : Ev := ⟨R.THY_EVT_STATUS, 3, 5, 1, none⟩
def E.THY_REFUSED : Ev := ⟨R.THY_EVT_STATUS, 2, 5, 1, none⟩
def E.THY_ABORTED : Ev := ⟨R.THY_EVT_STATUS, 1, 5, 1, some F.THY_CTRL_ABORT_EVT_EN⟩
def E.THY_DONE : Ev := ⟨R.THY_EVT_STATUS, 0, 5, 0, some F.THY_CTRL_DONE_EVT_EN⟩
def E.SAGE_REPLAY_STOPPED : Ev := ⟨R.SAGE_EVT_STATUS, 11, 8, 1, none⟩
def E.SAGE_IMAGE_COMMIT : Ev := ⟨R.SAGE_EVT_STATUS, 10, 8, 1, none⟩
def E.SAGE_CS_REFUSED : Ev := ⟨R.SAGE_EVT_STATUS, 9, 8, 1, some F.SAGE_CTRL_CS_EVT_EN⟩
def E.SAGE_CS_ABORTED : Ev := ⟨R.SAGE_EVT_STATUS, 8, 8, 1, some F.SAGE_CTRL_CS_EVT_EN⟩
def E.SAGE_CS_DONE : Ev := ⟨R.SAGE_EVT_STATUS, 7, 8, 0, some F.SAGE_CTRL_CS_EVT_EN⟩
def E.SAGE_DEFER_DROP : Ev := ⟨R.SAGE_EVT_STATUS, 6, 8, 1, none⟩
def E.SAGE_WDT_B : Ev := ⟨R.SAGE_EVT_STATUS, 5, 8, 1, none⟩
def E.SAGE_WDT_A : Ev := ⟨R.SAGE_EVT_STATUS, 4, 8, 1, none⟩
def E.SAGE_NO_HOLDER : Ev := ⟨R.SAGE_EVT_STATUS, 3, 8, 1, none⟩
def E.SAGE_REVERT : Ev := ⟨R.SAGE_EVT_STATUS, 2, 8, 1, some F.SAGE_CTRL_TAKEOVER_EVT_EN⟩
def E.SAGE_HANDOVER : Ev := ⟨R.SAGE_EVT_STATUS, 1, 8, 1, some F.SAGE_CTRL_TAKEOVER_EVT_EN⟩
def E.SAGE_TAKEOVER : Ev := ⟨R.SAGE_EVT_STATUS, 0, 8, 1, some F.SAGE_CTRL_TAKEOVER_EVT_EN⟩
def E.NVL_FALLBACK : Ev := ⟨R.NVL_EVT_STATUS, 9, 9, 1, none⟩
def E.NVL_SVN_DONE : Ev := ⟨R.NVL_EVT_STATUS, 8, 9, 0, none⟩
def E.NVL_JOURNAL_HIGH : Ev := ⟨R.NVL_EVT_STATUS, 7, 9, 1, some F.NVL_CTRL_WEAR_EVT_EN⟩
def E.NVL_WEAR_HIGH : Ev := ⟨R.NVL_EVT_STATUS, 6, 9, 1, some F.NVL_CTRL_WEAR_EVT_EN⟩
def E.NVL_ERASE_FAIL : Ev := ⟨R.NVL_EVT_STATUS, 5, 9, 1, none⟩
def E.NVL_PROG_FAIL : Ev := ⟨R.NVL_EVT_STATUS, 4, 9, 1, none⟩
def E.NVL_VERIFY_FAIL : Ev := ⟨R.NVL_EVT_STATUS, 3, 9, 1, none⟩
def E.NVL_UPD_ABORTED : Ev := ⟨R.NVL_EVT_STATUS, 1, 9, 1, some F.NVL_CTRL_UPD_EVT_EN⟩
def E.NVL_UPD_DONE : Ev := ⟨R.NVL_EVT_STATUS, 0, 9, 0, some F.NVL_CTRL_UPD_EVT_EN⟩
def E.MNT_TEST_CHANGE : Ev := ⟨R.MNT_EVT_STATUS, 6, 6, 1, none⟩
def E.MNT_RESEED : Ev := ⟨R.MNT_EVT_STATUS, 5, 6, 1, some F.MNT_CTRL_RESEED_EVT_EN⟩
def E.MNT_STARVED : Ev := ⟨R.MNT_EVT_STATUS, 4, 6, 1, some F.MNT_CTRL_STARVED_EVT_EN⟩
def E.MNT_ERASED : Ev := ⟨R.MNT_EVT_STATUS, 3, 6, 1, none⟩
def E.MNT_MINT_FATAL : Ev := ⟨R.MNT_EVT_STATUS, 2, 7, 1, none⟩
def E.MNT_HT_FAIL : Ev := ⟨R.MNT_EVT_STATUS, 1, 6, 1, some F.MNT_CTRL_HT_EVT_EN⟩
def E.MNT_READY : Ev := ⟨R.MNT_EVT_STATUS, 0, 6, 1, some F.MNT_CTRL_READY_EVT_EN⟩
def E.EVT_RSM_LATE : Ev := ⟨R.EVT_EVT_STATUS, 3, 3, 1, none⟩
def E.EVT_RETAINED_FULL : Ev := ⟨R.EVT_EVT_STATUS, 2, 3, 1, none⟩
def E.EVT_RING_OVF : Ev := ⟨R.EVT_EVT_STATUS, 1, 3, 1, none⟩
def E.EVT_FIFO_OVF : Ev := ⟨R.EVT_EVT_STATUS, 0, 3, 1, none⟩
def E.TAMP_UNMUTED : Ev := ⟨R.TAMP_EVT_STATUS, 4, 24, 1, none⟩
def E.TAMP_UNMUTE_REFUSED : Ev := ⟨R.TAMP_EVT_STATUS, 3, 24, 1, none⟩
def E.TAMP_FUSE_DONE : Ev := ⟨R.TAMP_EVT_STATUS, 2, 24, 0, none⟩
def E.TAMP_FUSE_REFUSED : Ev := ⟨R.TAMP_EVT_STATUS, 1, 24, 1, none⟩
def E.TAMP_STICKY_PRESENT : Ev := ⟨R.TAMP_EVT_STATUS, 0, 24, 1, none⟩
def E.RST_ZERO_RESTARTED : Ev := ⟨R.RST_EVT_STATUS, 9, 1, 1, none⟩
def E.RST_SW_REFUSED : Ev := ⟨R.RST_EVT_STATUS, 8, 1, 1, none⟩
def E.RST_TRIM_COPY_BAD : Ev := ⟨R.RST_EVT_STATUS, 7, 1, 1, none⟩
def E.RST_TRIM_BAD : Ev := ⟨R.RST_EVT_STATUS, 6, 1, 1, none⟩
def E.RST_STRAP_INVALID : Ev := ⟨R.RST_EVT_STATUS, 5, 1, 1, none⟩
def E.RST_OPT_COPY_BAD : Ev := ⟨R.RST_EVT_STATUS, 4, 1, 1, none⟩
def E.RST_OPT_BAD : Ev := ⟨R.RST_EVT_STATUS, 3, 1, 1, none⟩
def E.RST_CORE_RESET : Ev := ⟨R.RST_EVT_STATUS, 2, 1, 1, some F.RST_CTRL_EVT_EN⟩
def E.RST_DOMAIN_RELEASED : Ev := ⟨R.RST_EVT_STATUS, 1, 1, 1, some F.RST_CTRL_EVT_EN⟩
def E.RST_DOMAIN_RESET : Ev := ⟨R.RST_EVT_STATUS, 0, 1, 1, some F.RST_CTRL_EVT_EN⟩
def E.PWR_SEQ_DONE : Ev := ⟨R.PWR_EVT_STATUS, 6, 2, 1, none⟩
def E.PWR_OCP : Ev := ⟨R.PWR_EVT_STATUS, 5, 2, 1, some F.PWR_CTRL_PHASE_EVT_EN⟩
def E.PWR_CAL_FAIL : Ev := ⟨R.PWR_EVT_STATUS, 4, 2, 1, some F.PWR_CTRL_PHASE_EVT_EN⟩
def E.PWR_PIN_WARN : Ev := ⟨R.PWR_EVT_STATUS, 3, 2, 1, some F.PWR_CTRL_PIN_WARN_EVT_EN⟩
def E.PWR_RAIL_RECOVERED : Ev := ⟨R.PWR_EVT_STATUS, 2, 2, 1, some F.PWR_CTRL_RAIL_EVT_EN⟩
def E.PWR_RAIL_FAULT : Ev := ⟨R.PWR_EVT_STATUS, 1, 2, 1, some F.PWR_CTRL_RAIL_EVT_EN⟩
def E.PWR_PHASE_FAULT : Ev := ⟨R.PWR_EVT_STATUS, 0, 2, 1, some F.PWR_CTRL_PHASE_EVT_EN⟩
def E.GLB_LCS_DONE : Ev := ⟨R.GLB_EVT_STATUS, 5, 0, 0, none⟩
def E.GLB_LCS_REFUSED : Ev := ⟨R.GLB_EVT_STATUS, 4, 0, 1, none⟩
def E.GLB_KEYSLOT_DONE : Ev := ⟨R.GLB_EVT_STATUS, 3, 0, 0, none⟩
def E.GLB_SESSION_AUTH_FAIL : Ev := ⟨R.GLB_EVT_STATUS, 2, 0, 1, some F.GLB_CTRL_SESSION_EVT_EN⟩
def E.GLB_MGMT_CRC : Ev := ⟨R.GLB_EVT_STATUS, 1, 0, 1, some F.GLB_CTRL_MGMT_ERR_EVT_EN⟩
def E.GLB_RESET_KEY_BAD : Ev := ⟨R.GLB_EVT_STATUS, 0, 0, 1, none⟩
def E.PAGE_VIOLATION : Ev := ⟨R.PAGE_EVT_STATUS, 0, 11, 1, some F.PAGE_CTRL_VIOL_EVT_EN⟩
def E.MON_CFG_REFUSED : Ev := ⟨R.MON_EVT_STATUS, 4, 10, 1, none⟩
def E.MON_EXPORT_DROP : Ev := ⟨R.MON_EVT_STATUS, 3, 10, 1, some F.MON_CTRL_EXPORT_EVT_EN⟩
def E.MON_ALERT : Ev := ⟨R.MON_EVT_STATUS, 2, 10, 1, some F.MON_CTRL_ALERT_EVT_EN⟩
def E.MON_WRAP : Ev := ⟨R.MON_EVT_STATUS, 1, 10, 1, some F.MON_CTRL_WRAP_EVT_EN⟩
def E.MON_SNAPSHOT : Ev := ⟨R.MON_EVT_STATUS, 0, 10, 1, some F.MON_CTRL_SNAP_EVT_EN⟩
def E.CPORT_FEC_DEGRADE : Ev := ⟨R.CPORT_EVT_STATUS, 6, 128, 1, none⟩
def E.CPORT_CFG_REJECT : Ev := ⟨R.CPORT_EVT_STATUS, 5, 128, 1, none⟩
def E.CPORT_VERIFY_FAIL : Ev := ⟨R.CPORT_EVT_STATUS, 4, 128, 1, none⟩
def E.CPORT_HI_SER_SET : Ev := ⟨R.CPORT_EVT_STATUS, 3, 128, 1, none⟩
def E.CPORT_LINK_DOWN : Ev := ⟨R.CPORT_EVT_STATUS, 2, 128, 1, some F.CPORT_CTRL_LINK_EVT_EN⟩
def E.CPORT_LINK_UP : Ev := ⟨R.CPORT_EVT_STATUS, 1, 128, 1, some F.CPORT_CTRL_LINK_EVT_EN⟩
def E.CPORT_REFCLK_LOSS : Ev := ⟨R.CPORT_EVT_STATUS, 0, 128, 1, none⟩
def E.LPORT_FEC_DEGRADE : Ev := ⟨R.LPORT_EVT_STATUS, 6, 160, 1, none⟩
def E.LPORT_CFG_REJECT : Ev := ⟨R.LPORT_EVT_STATUS, 5, 160, 1, none⟩
def E.LPORT_VERIFY_FAIL : Ev := ⟨R.LPORT_EVT_STATUS, 4, 160, 1, none⟩
def E.LPORT_HI_SER_SET : Ev := ⟨R.LPORT_EVT_STATUS, 3, 160, 1, none⟩
def E.LPORT_LINK_DOWN : Ev := ⟨R.LPORT_EVT_STATUS, 2, 160, 1, some F.LPORT_CTRL_LINK_EVT_EN⟩
def E.LPORT_LINK_UP : Ev := ⟨R.LPORT_EVT_STATUS, 1, 160, 1, some F.LPORT_CTRL_LINK_EVT_EN⟩
def E.LPORT_REFCLK_LOSS : Ev := ⟨R.LPORT_EVT_STATUS, 0, 160, 1, none⟩

end Sys2Proof.Machine
end

