-- ==== Sys2Proof/Machine/Dev.lean ====
section
/-! DEFINITION. The block itself: everything the spec gives the module, as plain data. -/

namespace Sys2Proof.Machine

/-- The module.  Every register the spec lists (R540) has its home in `regs`, kept as the difference from
its reset word, so that an empty table is the state after reset; a few read-only fields that only show
other state (the pending counts of Thyme, the occupancy of tables, the fuse-backed fields) are computed
when they are read.  Every table of R543 that is plain words has its home in `tbl`. -/
structure Dev where
  /-- Register words by address, each exclusive-or its reset word. -/
  regs : SMap Word := []
  /-- Window-table words by TBL_SEL × 2^32 + index (R542); client front end n's replica of a versioned
  table has TBL_SEL + n × 2^16 (R71); trailing zero words are not kept. -/
  tbl : SMap (List Nat) := []
  tim : TimSt := {}
  thy : ThySt := {}
  evt : EvtSt := {}
  tamp : TampSt := {}
  rsm : RsmSt := {}
  rst : RstSt := {}
  pwr : PwrSt := {}
  fuse : FuseSt := {}
  mgmt : MgmtSt := {}
  mon : MonSt := {}
  fe : FeSt := {}
  sat : SatSt := {}
  cip : CipSt := {}
  lrn : LrnSt := {}
  sch : SchSt := {}
  bay : BaySt := {}
  env : EnvSt := {}
  mrg : MrgSt := {}
  port : PortSt := {}
  mint : MintSt := {}
  fleet : FleetSt := {}
  sage : SageSt := {}
  flash : FlashSt := {}
  /-- What the module has sent, oldest first (log entry 4). -/
  out : List Output := []
  /-- The number of free values used so far: the model's own field (log entry 2). -/
  free : Nat := 0
  deriving DecidableEq, Repr

end Sys2Proof.Machine
end

