-- ==== Sys2Proof/Machine/Ops.lean ====
section
/-! DEFINITION. The named operations over registers, fields, tables, time and events. -/

namespace Sys2Proof.Machine

/-! Registers and fields (R11-R14). -/

/-- The word of instance `i`, `j` of a register; an instance that does not exist reads zero (R539). -/
def Dev.word (d : Dev) (r : Reg) (i : Nat := 0) (j : Nat := 0) : Word :=
  if i < r.n1 ∧ j < r.n2 then SMap.get 0 d.regs (r.addr i j) ^^^ r.reset i j else 0

/-- Replace the word of an instance; nothing where the instance does not exist (R539). -/
def Dev.put (d : Dev) (r : Reg) (w : Word) (i : Nat := 0) (j : Nat := 0) : Dev :=
  if i < r.n1 ∧ j < r.n2 then { d with regs := SMap.set 0 d.regs (r.addr i j) (w ^^^ r.reset i j) } else d

/-- The value of a field. -/
def Dev.get (d : Dev) (f : Fld) (i : Nat := 0) (j : Nat := 0) : Nat := getBits (d.word f.reg i j) f.hi f.lo

/-- Replace the value of a field. -/
def Dev.set (d : Dev) (f : Fld) (v : Nat) (i : Nat := 0) (j : Nat := 0) : Dev :=
  d.put f.reg (setBits (d.word f.reg i j) f.hi f.lo v) i j

/-- Is a one-bit field 1? -/
def Dev.on (d : Dev) (f : Fld) (i : Nat := 0) (j : Nat := 0) : Bool := d.get f i j == 1

/-- Replace a one-bit field. -/
def Dev.flag (d : Dev) (f : Fld) (b : Bool) (i : Nat := 0) (j : Nat := 0) : Dev := d.set f (b2n b) i j

/-- The whole word of a register as a number. -/
def Dev.num (d : Dev) (r : Reg) (i : Nat := 0) (j : Nat := 0) : Nat := (d.word r i j).toNat

/-- Replace the whole word of a register by a number. -/
def Dev.putNum (d : Dev) (r : Reg) (v : Nat) (i : Nat := 0) (j : Nat := 0) : Dev := d.put r (BitVec.ofNat 32 v) i j

/-- Set one bit of a register. -/
def Dev.setBit (d : Dev) (r : Reg) (b : Nat) (i : Nat := 0) (j : Nat := 0) : Dev :=
  d.put r (d.word r i j ||| BitVec.ofNat 32 (2 ^ b)) i j

/-- Clear one bit of a register. -/
def Dev.clrBit (d : Dev) (r : Reg) (b : Nat) (i : Nat := 0) (j : Nat := 0) : Dev :=
  d.put r (d.word r i j &&& ~~~ (BitVec.ofNat 32 (2 ^ b))) i j

/-- Add to a 32-bit counter that stops at 0xFFFF_FFFF. -/
def Dev.bump (d : Dev) (r : Reg) (i : Nat := 0) (j : Nat := 0) (n : Nat := 1) : Dev :=
  d.putNum r (min 0xFFFFFFFF (d.num r i j + n)) i j

/-- The value of a 64-bit counter held in a low and a high word. -/
def Dev.num64 (d : Dev) (lo hi : Reg) (i : Nat := 0) (j : Nat := 0) : Nat := d.num hi i j * 2 ^ 32 + d.num lo i j

/-- Replace a 64-bit counter. -/
def Dev.put64 (d : Dev) (lo hi : Reg) (v : Nat) (i : Nat := 0) (j : Nat := 0) : Dev :=
  (d.putNum lo (v % 2 ^ 32) i j).putNum hi (v / 2 ^ 32 % 2 ^ 32) i j

/-- Add to a 64-bit counter that stops at its highest value. -/
def Dev.bump64 (d : Dev) (lo hi : Reg) (i : Nat := 0) (j : Nat := 0) (n : Nat := 1) : Dev :=
  d.put64 lo hi (min (2 ^ 64 - 1) (d.num64 lo hi i j + n)) i j

/-- Append to the module's outputs. -/
def Dev.emit (d : Dev) (o : Output) : Dev := { d with out := d.out ++ [o] }

/-- The next free value (log entry 2). -/
def Dev.freeVal (d : Dev) : Nat := Config.freeValue d.free

/-- Advance the count of free values. -/
def Dev.freeNext (d : Dev) : Dev := { d with free := d.free + 1 }

/-! Tables reached through the indirect window (R542). -/

/-- The home index of an entry in `Dev.tbl`. -/
def tblKey (sel idx : Nat) : Nat := sel * 2 ^ 32 + idx

/-- The words of an entry. -/
def Dev.entry (d : Dev) (sel idx : Nat) : List Nat := SMap.get [] d.tbl (tblKey sel idx)

/-- Words without their trailing zeros, each of 32 bits. -/
def trimWords (ws : List Nat) : List Nat := ((ws.map (· % 2 ^ 32)).reverse.dropWhile (· == 0)).reverse

/-- Replace an entry's words. -/
def Dev.setEntry (d : Dev) (sel idx : Nat) (ws : List Nat) : Dev :=
  { d with tbl := SMap.set [] d.tbl (tblKey sel idx) (trimWords ws) }

/-- Word `w` of an entry; words past the last kept read zero. -/
def Dev.tw (d : Dev) (sel idx w : Nat) : Nat := (d.entry sel idx).getD w 0

/-- Bits `hi` to `lo` of word `w` of an entry. -/
def Dev.tf (d : Dev) (sel idx w hi lo : Nat) : Nat := nbits (d.tw sel idx w) hi lo

/-- A list with its element `k` replaced, extended by zeros as needed. -/
def setWord : List Nat → Nat → Nat → List Nat
  | [], 0, v => [v]
  | _ :: l, 0, v => v :: l
  | [], k + 1, v => 0 :: setWord [] k v
  | a :: l, k + 1, v => a :: setWord l k v

/-- A number with bits `hi` to `lo` replaced. -/
def putNbits (x hi lo v : Nat) : Nat :=
  x - nbits x hi lo * 2 ^ lo + v % 2 ^ (hi + 1 - lo) * 2 ^ lo

/-- Replace bits of a word of an entry. -/
def Dev.setTf (d : Dev) (sel idx w hi lo v : Nat) : Dev :=
  d.setEntry sel idx (setWord (d.entry sel idx) w (putNbits (d.tw sel idx w) hi lo v))

/-- Bytes as 32-bit words, most significant byte first. -/
def bytesToWords : Bytes → List Nat
  | a :: b :: c :: e :: rest => beNat [a, b, c, e] :: bytesToWords rest
  | [] => []
  | bs => [beNat (bs ++ zeros (4 - bs.length))]

/-- 32-bit words as bytes, most significant byte first. -/
def wordsToBytes (ws : List Nat) : Bytes := ws.flatMap (beBytes 4)

/-- The listed indices of a table, with their words, in rising order. -/
def Dev.entries (d : Dev) (sel : Nat) : List (Nat × List Nat) :=
  (d.tbl.filter (fun e => e.1 / 2 ^ 32 = sel)).map (fun e => (e.1 % 2 ^ 32, e.2))

/-- Drop every entry of the tables that `p` names by TBL_SEL and index. -/
def Dev.dropEntries (d : Dev) (p : Nat → Nat → Bool) : Dev :=
  { d with tbl := d.tbl.filter (fun e => !(p (e.1 / 2 ^ 32) (e.1 % 2 ^ 32))) }

/-! Time (R366-R369). -/

/-- The 48-bit modulus of raw and network time. -/
def twrap : Nat := 2 ^ 48

/-- The raw count (R366). -/
def Dev.raw (d : Dev) : Nat := (d.tim.clk - d.tim.rawOrigin) % twrap

/-- RATE as a signed number of 2^-32 ns per ns (R368). -/
def Dev.rate (d : Dev) : Int := signed 32 (d.get F.TIM_RATE_RATE)

/-- Elapsed network nanoseconds and fraction since the last rebase, at a clock instant (R368). -/
def Dev.netPair (d : Dev) (clk : Nat) : Int × Nat :=
  let e := clk - d.tim.baseClk
  let a : Int := (e : Int) * d.rate + (d.tim.baseFrac : Int)
  ((d.tim.baseNet : Int) + (e : Int) + a / (2 ^ 32 : Int), (a % (2 ^ 32 : Int)).toNat)

/-- Network time at a clock instant (R368). -/
def Dev.netAt (d : Dev) (clk : Nat) : Nat := ((d.netPair clk).1 % (twrap : Int)).toNat

/-- Network time now. -/
def Dev.net (d : Dev) : Nat := d.netAt d.tim.clk

/-- Rebase the time unit at the present cycle; network time is unchanged (R368). -/
def Dev.rebase (d : Dev) : Dev :=
  let p := d.netPair d.tim.clk
  { d with tim := { d.tim with baseClk := d.tim.clk, baseNet := (p.1 % (twrap : Int)).toNat, baseFrac := p.2 } }

/-- Let time pass until the clock instant `t`; nothing where it lies in the past (log entry 5). -/
def Dev.advance (d : Dev) (t : Nat) : Dev :=
  if d.tim.clk < t then { d with tim := { d.tim with clk := t } } else d

/-- How far network instant `t` lies ahead of network time, and whether it lies ahead: an instant less than
2^47 ns after network time is in the future (R380 keeps every pending instant within 2^48 - 2^33). -/
def Dev.netAhead (d : Dev) (t : Nat) : Nat := (t + twrap - d.net) % twrap

/-- Has network time reached `t`?  Instants up to 2^33 ns behind count as reached (R380, log entry 6). -/
def Dev.netReached (d : Dev) (t : Nat) : Bool :=
  d.netAhead t = 0 || twrap - 2 ^ 33 < d.netAhead t

/-- The clock instant at which network time first reaches `t` (R381): the present where it has. -/
def Dev.netReach (d : Dev) (t : Nat) : Nat :=
  if d.netReached t then d.tim.clk
  else
    let p := d.netPair d.tim.clk
    let need := d.netAhead t * 2 ^ 32 - p.2
    let per := ((2 ^ 32 : Int) + d.rate).toNat
    d.tim.clk + (need + per - 1) / per

/-- Microseconds and milliseconds in clock cycles. -/
def us (n : Nat) : Nat := n * 1000
def ms (n : Nat) : Nat := n * 1000000
def sec (n : Nat) : Nat := n * 1000000000

/-! Events (R478-R483). -/

/-- Is an event raised when its occurrence happens (the "when enabled" of the register tables)? -/
def Dev.enabled (d : Dev) (e : Ev) (i : Nat := 0) : Bool :=
  match e.en with
  | none => true
  | some f => d.on f i

/-- Queue an occurrence for the arbiter with the time of its cycle (R480). -/
def Dev.occur (d : Dev) (kind src b status : Nat) (forced : Bool := false) : Dev :=
  { d with evt := { d.evt with occ := d.evt.occ ++ [{ clk := d.tim.clk, net := d.net, kind := kind, src := src, bit := b, forced := forced, status := status }] } }

/-- Raise an event of a block: where it is enabled, its bit is set and the occurrence goes to the arbiter; a command
completion and a Thyme firing are occurrences whether or not their bit is enabled (R478). -/
def Dev.raise (d : Dev) (e : Ev) (i : Nat := 0) : Dev :=
  if d.enabled e i then
    let d := d.setBit e.reg e.bit i
    d.occur e.kind (e.src + i) e.bit (d.num e.reg i)
  else if e.kind = 0 then d.occur 0 (e.src + i) e.bit (d.num e.reg i)
  else d

/-- An abort request as an occurrence in its cycle (R480, R481). -/
def Dev.abortReq (d : Dev) (e : Ev) (i : Nat := 0) : Dev := d.occur 2 (e.src + i) e.bit (d.num e.reg i)

/-! The Sage lease and the lifecycle, as other units read them. -/

/-- The active Sage core (R393): none during a takeover gap, nor in the halted service of a class 2 response (R492). -/
def Dev.active (d : Dev) : Option Master :=
  if d.on F.TAMP_STATUS_HALTED then none
  else match d.get F.SAGE_STATUS_HOLDER with
    | 1 => some .sageA
    | 2 => some .sageB
    | _ => none

/-- Nobody holds the lease (R394). -/
def Dev.noHolder (d : Dev) : Bool := d.get F.SAGE_STATUS_HOLDER = 0

/-- A renewal is overdue: the firmware renews every 2 ms (R393). -/
def Dev.overdue (d : Dev) : Bool := decide (8 ≤ d.rst.step) && !d.noHolder && decide (d.sage.renewClk + ms 2 < d.tim.clk)

/-- Does a takeover gap run (R395)?  It runs from the last accepted renewal to the next grant; that a renewal is the last
shows once the next is overdue (log entry 26). -/
def Dev.gap (d : Dev) : Bool := d.noHolder || d.overdue

/-- Is this master the active Sage core? -/
def Dev.isActive (d : Dev) (m : Master) : Bool := d.active == some m

/-- Has IMAGE_COMMIT locked the RWL fields (R412)? -/
def Dev.locked (d : Dev) : Bool := d.on F.SAGE_STATUS_IMAGE_COMMITTED

/-- The halves, shell and control island by reset domain index: 0 half A, 1 half B, 2 client shell. -/
def Dev.domHeld (d : Dev) (k : Nat) : Bool :=
  (SMap.get {} d.rst.dom k).causes ≠ 0 || d.rst.step < 6

end Sys2Proof.Machine
end

