-- ==== Sys2Proof/Machine/Parse.lean ====
section
/-! DEFINITION. The fixed-logic parser of the client front ends and the ternary key it forms
(R47-R53), and the exact-match keys (R54). -/

namespace Sys2Proof.Machine

/-- What the parser reads besides the frame: FE_PARSE_CTRL and FE_PTP_CTRL (R48). -/
structure ParseCfg where
  altTpid : Nat := 0
  altEn : Bool := false
  ptpL2 : Bool := true
  ptpUdp4 : Bool := true
  ptpUdp6 : Bool := true
  deriving DecidableEq, Repr

/-- The facts the parser takes from a frame; fields not reached are zero. -/
structure Parsed where
  otag : Bool := false
  otagS : Bool := false
  itag : Bool := false
  /-- Label stack entries parsed, top first. -/
  lse : List Nat := []
  pwcw : Bool := false
  ipv4 : Bool := false
  ipv6 : Bool := false
  ipFrag : Bool := false
  udp : Bool := false
  tcp : Bool := false
  ptp : Bool := false
  ptpEvent : Bool := false
  trunc : Bool := false
  err : Bool := false
  /-- EtherType 0x88B5 after 0-2 tags (R51). -/
  ctrl : Bool := false
  extN : Nat := 0
  otci : Nat := 0
  itci : Nat := 0
  etype : Nat := 0
  tos : Nat := 0
  proto : Nat := 0
  dport : Nat := 0
  sport : Nat := 0
  dst : Nat := 0
  src : Nat := 0
  /-- Offset of the PTP common header, and of the UDP checksum, 0 for the EtherType encapsulation. -/
  ptpOff : Nat := 0
  csumOff : Nat := 0
  deriving DecidableEq, Repr

/-- How a header that ends before byte `e` (exclusive) fits a frame of `len` bytes: whole, truncated
(R49) or beyond the end of the frame (R50). -/
inductive Fit
  | whole
  | cut
  | beyond
  deriving DecidableEq, Repr

/-- R47, R49, R50: compare a header's end with whichever limit comes first. -/
def fit (len e : Nat) : Fit :=
  if e ≤ min 256 len then .whole else if 256 < len then .cut else .beyond

/-- Record a header that does not fit. -/
def Parsed.unfit (p : Parsed) (f : Fit) : Parsed :=
  match f with
  | .whole => p
  | .cut => { p with trunc := true }
  | .beyond => { p with err := true }

/-- Step 9: the PTP common header at offset `o` (R48), when its encapsulation is enabled. -/
def parsePtp (bs : Bytes) (o csum : Nat) (en : Bool) (p : Parsed) : Parsed :=
  if en then
    match fit bs.length (o + 34) with
    | .whole => { p with ptp := true, ptpEvent := numAt bs o 1 % 16 < 4, ptpOff := o, csumOff := csum }
    | f => p.unfit f
  else p

/-- Step 8: UDP or TCP at offset `o`. -/
def parseL4 (c : ParseCfg) (bs : Bytes) (o : Nat) (v6 : Bool) (p : Parsed) : Parsed :=
  if p.proto = 17 then
    match fit bs.length (o + 8) with
    | .whole =>
      let p := { p with udp := true, sport := numAt bs o 2, dport := numAt bs (o + 2) 2 }
      if p.dport = 319 ∨ p.dport = 320 then
        parsePtp bs (o + 8) (o + 6) (if v6 then c.ptpUdp6 else c.ptpUdp4) p
      else p
    | f => p.unfit f
  else if p.proto = 6 then
    match fit bs.length (o + 20) with
    | .whole => { p with tcp := true, sport := numAt bs o 2, dport := numAt bs (o + 2) 2 }
    | f => p.unfit f
  else p

/-- Step 6: IPv4 at offset `o` (R48, R50, R52). -/
def parseIp4 (c : ParseCfg) (bs : Bytes) (o : Nat) (p : Parsed) : Parsed :=
  match fit bs.length (o + 20) with
  | .whole =>
    let ihl := numAt bs o 1 % 16
    if numAt bs o 1 / 16 ≠ 4 ∨ ihl < 5 then { p with err := true }
    else
      match fit bs.length (o + 4 * ihl) with
      | .whole =>
        let fr := numAt bs (o + 6) 2
        let p := { p with ipv4 := true, tos := numAt bs (o + 1) 1, proto := numAt bs (o + 9) 1,
                          src := numAt bs (o + 12) 4, dst := numAt bs (o + 16) 4 }
        if fr % 2 ^ 13 ≠ 0 then { p with ipFrag := true }
        else parseL4 c bs (o + 4 * ihl) false { p with ipFrag := bit fr 13 }
      | f => p.unfit f
  | f => p.unfit f

/-- Is a next header one of the extension headers of step 7? -/
def isExt (h : Nat) : Bool := h = 0 || h = 43 || h = 44 || h = 60

/-- The extension headers of step 7, `n` more allowed, the next being of kind `h` at offset `o`. -/
def parseExt (c : ParseCfg) (bs : Bytes) : Nat → Nat → Nat → Parsed → Parsed
  | n, h, o, p =>
    if isExt h then
      match n with
      | 0 => { p with trunc := true }
      | n + 1 =>
        let e := if h = 44 then o + 8 else o + 8 * (numAt bs (o + 1) 1 + 1)
        match fit bs.length (o + 8), fit bs.length e with
        | .whole, .whole =>
          let p := { p with extN := p.extN + 1 }
          let nh := numAt bs o 1
          if h = 44 then
            let fr := numAt bs (o + 2) 2
            if fr / 8 ≠ 0 then { p with ipFrag := true, proto := nh }
            else parseExt c bs n nh e { p with ipFrag := p.ipFrag || bit fr 0 }
          else parseExt c bs n nh e p
        | .whole, f => p.unfit f
        | f, _ => p.unfit f
    else parseL4 c bs o true { p with proto := h }

/-- Step 7: IPv6 at offset `o`. -/
def parseIp6 (c : ParseCfg) (bs : Bytes) (o : Nat) (p : Parsed) : Parsed :=
  match fit bs.length (o + 40) with
  | .whole =>
    if numAt bs o 1 / 16 ≠ 6 then { p with err := true }
    else
      parseExt c bs 2 (numAt bs (o + 6) 1) (o + 40)
        { p with ipv6 := true, tos := nbits (numAt bs o 2) 11 4, src := numAt bs (o + 16) 8,
                 dst := numAt bs (o + 24) 16 }
  | f => p.unfit f

/-- Steps 4 and 5: `n` more label stack entries allowed, the next at offset `o`. -/
def parseMpls (c : ParseCfg) (bs : Bytes) : Nat → Nat → Parsed → Parsed
  | 0, _, p => { p with trunc := true }
  | n + 1, o, p =>
    match fit bs.length (o + 4) with
    | .whole =>
      let l := numAt bs o 4
      let p := { p with lse := p.lse ++ [l] }
      if bit l 8 then
        match numAt bs (o + 4) 1 / 16 with
        | 0 => { p with pwcw := true }
        | 4 => parseIp4 c bs (o + 4) p
        | 6 => parseIp6 c bs (o + 4) p
        | _ => p
      else parseMpls c bs n (o + 4) p
    | f => p.unfit f

/-- Steps 4 to 9 by the EtherType at offset `o`. -/
def parseType (c : ParseCfg) (bs : Bytes) (o : Nat) (p : Parsed) : Parsed :=
  let e := numAt bs o 2
  let p := { p with etype := e }
  if e = 0x88B5 then { p with ctrl := true }
  else if e = 0x8847 ∨ e = 0x8848 then parseMpls c bs 4 (o + 2) p
  else if e = 0x0800 then parseIp4 c bs (o + 2) p
  else if e = 0x86DD then parseIp6 c bs (o + 2) p
  else if e = 0x88F7 then parsePtp bs (o + 2) 0 c.ptpL2 p
  else p

/-- Is an EtherType a tag's (step 2)? -/
def isTpid (c : ParseCfg) (e : Nat) : Bool := e = 0x88A8 || e = 0x8100 || (c.altEn && e = c.altTpid)

/-- The parser (R47-R52). -/
def parseFrame (c : ParseCfg) (bs : Bytes) : Parsed :=
  let e0 := numAt bs 12 2
  if isTpid c e0 then
    let p : Parsed := { otag := true, otagS := e0 ≠ 0x8100, otci := numAt bs 14 2 }
    if numAt bs 16 2 = 0x8100 then
      let p := { p with itag := true, itci := numAt bs 18 2 }
      if isTpid c (numAt bs 20 2) then { p with trunc := true, etype := numAt bs 20 2 }
      else parseType c bs 20 p
    else parseType c bs 16 p
  else parseType c bs 12 {}

/-- FLAGS of the ternary key (R53). -/
def Parsed.flags (p : Parsed) : Nat :=
  b2n p.otag * 2 ^ 15 + b2n p.otagS * 2 ^ 14 + b2n p.itag * 2 ^ 13 + b2n (p.lse ≠ []) * 2 ^ 12
    + (p.lse.length - 1) % 4 * 2 ^ 10 + b2n p.pwcw * 2 ^ 9 + b2n p.ipv4 * 2 ^ 8 + b2n p.ipv6 * 2 ^ 7
    + b2n p.ipFrag * 2 ^ 6 + b2n p.udp * 2 ^ 5 + b2n p.tcp * 2 ^ 4 + b2n p.ptp * 2 ^ 3
    + b2n p.ptpEvent * 2 ^ 2 + b2n p.trunc * 2 + b2n p.err

/-- The 64-byte ternary key (R53). -/
def ternaryKey (port : Nat) (bs : Bytes) (p : Parsed) : Bytes :=
  beBytes 1 (port % 32) ++ beBytes 2 p.flags ++ beBytes 1 p.extN ++ slice bs 0 12 ++ beBytes 2 p.otci
    ++ beBytes 2 p.itci ++ beBytes 2 p.etype ++ zeros 2 ++ beBytes 4 (p.lse.getD 0 0)
    ++ beBytes 4 (p.lse.getD 1 0) ++ beBytes 1 p.tos ++ beBytes 1 p.proto ++ beBytes 2 p.dport
    ++ beBytes 2 p.sport ++ zeros 2 ++ beBytes 16 p.dst ++ beBytes 8 p.src

/-- The exact-match key field F of a key type, none where the type is skipped (R54). -/
def exactKey (bs : Bytes) (p : Parsed) (kt : Nat) : Option Nat :=
  let dmac := numAt bs 0 6
  let ovid := p.otci % 2 ^ 12
  match kt with
  | 0 => some 0
  | 1 => if p.otag then some ovid else none
  | 2 => if p.itag then some (ovid * 2 ^ 16 + p.itci % 2 ^ 12) else none
  | 3 => some dmac
  | 4 => if p.otag then some (ovid * 2 ^ 48 + dmac) else none
  | 5 => match p.lse with | l :: _ => some (l >>> 12) | _ => none
  | 6 => match p.lse with | l :: m :: _ => some ((l >>> 12) * 2 ^ 32 + (m >>> 12)) | _ => none
  | 7 => if p.ipv4 then some p.dst else none
  | 8 => if p.ipv6 then some p.dst else none
  | _ => none

/-! PTP corrections (R253). -/

/-- A run of bytes with the bytes from offset `o` replaced. -/
def patch (bs : Bytes) (o : Nat) (new : Bytes) : Bytes := bs.take o ++ new ++ bs.drop (o + new.length)

/-- Ones-complement sum of two 16-bit numbers. -/
def oc16 (a b : Nat) : Nat := (a + b) % 65536 + (a + b) / 65536

/-- The UDP checksum after 16-bit words `old` became `new`, by RFC 1624 (R253). -/
def csumUpdate (c : Nat) (old new : List Nat) : Nat :=
  65535 - ((List.zip old new).foldl (fun a w => oc16 (oc16 a (65535 - w.1)) w.2) (65535 - c))

/-- Eight bytes at an offset as four 16-bit words. -/
def words16 (bs : Bytes) (o : Nat) : List Nat := (List.range 4).map (fun i => numAt bs (o + 2 * i) 2)

/-- Add `ns` to the correctionField of a recognised PTP message (R253). -/
def ptpCorrect (bs : Bytes) (p : Parsed) (ns : Nat) : Bytes :=
  let o := p.ptpOff + 8
  let v := signed 64 (numAt bs o 8)
  let m : Int := 2 ^ 63 - 1
  let v' := if v = m then m else if m < v + (ns : Int) * 65536 then m else v + (ns : Int) * 65536
  let bs' := patch bs o (beBytes 8 (v' % 2 ^ 64).toNat)
  if p.csumOff = 0 then bs'
  else if p.ipv4 then patch bs' p.csumOff (zeros 2)
  else if numAt bs p.csumOff 2 = 0 then bs'
  else patch bs' p.csumOff (beBytes 2 (csumUpdate (numAt bs p.csumOff 2) (words16 bs o) (words16 bs' o)))

end Sys2Proof.Machine
end

