-- ==== Sys2Proof/Machine/Measure.lean ====
section
/-! DEFINITION. Programmable counters and monitor channels (R567-R578), as the units that report to them
see them, and the page counts of R556. -/

namespace Sys2Proof.Machine

/-- The fields an event carries (R568), and its length in bytes. -/
structure Seen where
  svc : Option Nat := none
  cls : Option Nat := none
  txe : Option Nat := none
  rxe : Option Nat := none
  queue : Option Nat := none
  cport : Option Nat := none
  lport : Option Nat := none
  addr : Option Nat := none
  stream : Option Nat := none
  master : Option Nat := none
  principal : Option Nat := none
  bytes : Nat := 0
  deriving DecidableEq, Repr

/-- Service numbers are 14 bits, principals 2-15 hold up to 16 grants each (R555, R563): does principal
`p` have a grant that includes the service? -/
def Dev.granted (d : Dev) (p svc : Nat) : Bool :=
  (List.range 16).any fun g =>
    d.tf 0x108 (p * 16 + g) 0 31 31 = 1 && d.tf 0x108 (p * 16 + g) 0 13 0 ≤ svc &&
      svc ≤ d.tf 0x108 (p * 16 + g) 0 13 0 + d.tf 0x108 (p * 16 + g) 0 29 16

/-- A word of a counter's or a channel's configuration. -/
def cfgWord (c : List Nat) (w hi lo : Nat) : Nat := nbits (c.getD w 0) hi lo

/-- The field of an event that RANGE_KIND names (R570). -/
def rangeField (e : Seen) : Nat → Option Nat
  | 1 => e.svc
  | 2 => e.txe
  | 3 => e.rxe
  | 4 => e.queue
  | 5 => e.addr
  | 6 => e.stream
  | _ => none

/-- Does a number lie within bounds? -/
def within (v : Option Nat) (lo hi : Nat) : Bool :=
  match v with
  | some x => lo ≤ x && x ≤ hi
  | none => false

/-- Does an event of class `code` match a counter's entry (R569)? -/
def Dev.cntMatch (d : Dev) (c : List Nat) (code : Nat) (e : Seen) : Bool :=
  let cmask := cfgWord c 0 27 24
  let pmask := cfgWord c 0 15 0
  let kind := cfgWord c 1 31 28
  let rk := cfgWord c 2 31 28
  cfgWord c 0 31 31 = 1 && cfgWord c 0 23 16 = code &&
  (cmask = 0 || (match e.cls with | some k => bit cmask k | none => false)) &&
  (pmask = 0 ||
    (match e.svc with
     | some s => bit pmask 1 || (List.range 16).any (fun p => 2 ≤ p && bit pmask p && d.granted p s)
     | none => (match e.principal with | some p => bit pmask p | none => false))) &&
  (match kind with
   | 1 => within e.cport (cfgWord c 1 12 8) (cfgWord c 1 20 16)
   | 2 => within e.lport (cfgWord c 1 12 8) (cfgWord c 1 20 16)
   | 3 => (match e.master with | some m => bit (cfgWord c 1 6 0) m | none => false)
   | _ => true) &&
  (rk = 0 || within (rangeField e rk) (c.getD 3 0) (c.getD 4 0))

/-- One counter counts one event: by one, or by its bytes (R569, R570); it wraps at 2^48 (R571). -/
def Dev.countOne (d : Dev) (u i code : Nat) (e : Seen) : Dev :=
  let c := SMap.get {} d.mon.cnt (u * 16 + i)
  if d.cntMatch c.cfg code e && !d.on F.MON_UNIT_CTRL_FREEZE u then
    let v := c.value + (if cfgWord c.cfg 0 30 30 = 1 then e.bytes else 1)
    let c' := { c with value := v % 2 ^ 48, wrappedIn := c.wrappedIn || 2 ^ 48 ≤ v }
    let d := { d with mon := { d.mon with cnt := SMap.set {} d.mon.cnt (u * 16 + i) c' } }
    if 2 ^ 48 ≤ v then ((d.setBit R.MON_UNIT_WRAP i u).bump R.MON_CNT_WRAPS).raise E.MON_WRAP else d
  else d

/-- Every counter of a unit counts an event of its class (R567-R571). -/
def Dev.count (d : Dev) (u code : Nat) (e : Seen) : Dev :=
  (List.range (unitCounters u)).foldl (fun d i => d.countOne u i code e) d

/-- The unit of the per-service count array (R556): add one to word `w` of the service's block. -/
def Dev.svcBump (d : Dev) (svc w : Nat) : Dev :=
  { d with mgmt := { d.mgmt with svcCount := SMap.upd 0 d.mgmt.svcCount (svc * 16 + w) (fun n => (n + 1) % 2 ^ 32) } }

/-- The bin of a sample (R577). -/
def monBin (v : Nat) (base : Int) (shift : Nat) : Nat :=
  let w := ((v : Int) - base).toNat >>> shift
  if w = 0 then 0 else if 2 ^ 30 ≤ w then 31 else w.log2 + 1

/-- The state of a channel after a sample `v` (R577). -/
def monTake (m : Mon) (v : Nat) : Mon :=
  let base := signed 32 (m.cfg.getD 2 0)
  { m with
    min := min m.min (min v 0xFFFFFFFF), max := max m.max (min v 0xFFFFFFFF),
    count := min 0xFFFFFFFF (m.count + 1), sum := (m.sum + v) % 2 ^ 64,
    under := if (v : Int) < base then min 0xFFFFFFFF (m.under + 1) else m.under,
    bins := SMap.upd 0 m.bins (monBin v base (cfgWord m.cfg 0 28 24)) (fun n => min 0xFFFFFFFF (n + 1)) }

/-- Channel `c` takes a sample, with its alert (R577, R578). -/
def Dev.sampleCh (d : Dev) (c v : Nat) : Dev :=
  let m := monTake (SMap.get {} d.mon.chan c) v
  let th := m.cfg.getD 3 0
  if th ≠ 0 ∧ th ≤ v then
    let d := { d with mon := { d.mon with chan := SMap.set {} d.mon.chan c { m with alert := true } } }
    let d := ((d.setBit R.MON_CH_ALERT (c % 32) (c / 32)).set F.MON_LAST_ALERT_CHANNEL c).bump R.MON_CNT_ALERTS
    if d.mon.alerted then d else { d.raise E.MON_ALERT with mon := { d.mon with alerted := true } }
  else { d with mon := { d.mon with chan := SMap.set {} d.mon.chan c m } }

/-- Every configured channel of a source and argument takes a sample (R575, R576). -/
def Dev.sample (d : Dev) (src arg v : Nat) : Dev :=
  d.mon.chan.foldl (fun d e =>
    if 8 ≤ e.1 ∧ cfgWord e.2.cfg 0 31 31 = 1 ∧ cfgWord e.2.cfg 0 23 16 = src ∧ e.2.cfg.getD 1 0 = arg
    then d.sampleCh e.1 v else d) d

/-! Masters and violations (R535-R538). -/

/-- The code of a master (R535). -/
def Master.code : Master → Nat
  | .sageA => 0
  | .sageB => 1
  | .spi => 2
  | .i2c => 3
  | .eth _ => 4
  | .loader => 5
  | .reader => 6

/-- The principal an access carries (R535): SPI and I2C are principal 0 in FACTORY, 1 in every other state. -/
def Dev.principal (d : Dev) : Master → Option Nat
  | .spi => some (if d.fuse.lcs = 0 then 0 else 1)
  | .i2c => some (if d.fuse.lcs = 0 then 0 else 1)
  | .eth p => some p
  | _ => none

/-- A violation (R538): counted, recorded and raised; the access has no other effect. -/
def Dev.violate (d : Dev) (m : Master) (addr : Nat) (write : Bool) : Dev :=
  let p := d.principal m
  let sage := m == .sageA || m == .sageB
  let d := match p with
    | some p => d.bump R.PAGE_VIOL_CNT p
    | none => if sage then d.bump R.PAGE_CNT_VIOL_SAGE else d
  let d := d.putNum R.PAGE_VIOL_ADDR addr
  let d := ((((d.set F.PAGE_VIOL_INFO_VALID 1).flag F.PAGE_VIOL_INFO_WRITE write).flag F.PAGE_VIOL_INFO_SAGE sage).set
    F.PAGE_VIOL_INFO_PRINCIPAL (p.getD 0)).set F.PAGE_VIOL_INFO_MASTER m.code
  (d.raise E.PAGE_VIOLATION).count 27 0x52 { addr := some addr, master := some m.code, principal := p }

/-- May a master write registers that no rule reserves (R536, R537): principals 0 and 1 and the active Sage core, and
the flash loader. -/
def Dev.mayWrite (d : Dev) (m : Master) : Bool :=
  match d.principal m with
  | some p => decide (p ≤ 1)
  | none => m == .loader || ((m == .sageA || m == .sageB) && d.isActive m)

/-- A firmware source is raised by the active Sage core, through EVT_SW_RAISE (R479, R501). -/
def Dev.fwRaise (d : Dev) (k : Nat) : Dev := (d.bump R.EVT_CNT_SW_RAISE).occur 1 (416 + k) 0 0

/-- A session ends (R554): its keys and its subscription go with it, and one ended other than by CLOSE is counted. -/
def Dev.sessEnd (d : Dev) (k : Nat) (drop : Bool) : Dev :=
  let open_ := (SMap.get {} d.mgmt.sess k).st = 2
  let d := { d with mgmt := { d.mgmt with sess := SMap.set {} d.mgmt.sess k {} } }
  if drop && open_ then d.bump R.GLB_CNT_SESSION_DROP else d

/-- Every session of the sessions that `p` names ends (R554). -/
def Dev.sessDrop (d : Dev) (p : Sess → Bool) : Dev :=
  (List.range 8).foldl (fun d k => if p (SMap.get {} d.mgmt.sess k) then d.sessEnd k true else d) d

/-! What the management targets let through (R395, R518, R548). -/

/-- Does a management interface answer: before IMAGE_COMMIT the one that the strap setting names, afterwards each whose
enable bit is 1 (R518, R548)? -/
def Dev.answers (d : Dev) (m : Master) : Bool :=
  match m with
  | .spi => if d.locked then d.on F.GLB_MGMT_CFG_SPI_EN else !d.on F.RST_SETTINGS_MGMT_I2C
  | .i2c => if d.locked then d.on F.GLB_MGMT_CFG_I2C_EN else d.on F.RST_SETTINGS_MGMT_I2C
  | _ => true

/-- Is a register one that the restricted state of R45 leaves writable: NVL_UPD_CMD, NVL_UPD_LEN, NVL_UPD_DATA (R548)? -/
def updReg (addr : Nat) : Bool :=
  addr = R.NVL_UPD_CMD.addr 0 0 || addr = R.NVL_UPD_LEN.addr 0 0 || addr = R.NVL_UPD_DATA.addr 0 0

/-- Is a write to an address refused in the restricted state (R548)? -/
def Dev.refused (d : Dev) (addr : Nat) : Bool := !d.locked && !(d.rst.noImage && updReg addr)

/-- Is a write of this master deferred now (R395)? -/
def Dev.defers (d : Dev) (m : Master) : Bool := (m == Master.spi || m == Master.i2c) && d.gap && !d.rst.noImage

/-- An SPI or I2C write waits in the queue of 64 while nobody holds the lease (R395). -/
def Dev.deferWrite (d : Dev) (m : Master) (addr w : Nat) : Dev :=
  if 64 ≤ d.sage.defer.length then (d.bump R.SAGE_CNT_DEFER_DROP).raise E.SAGE_DEFER_DROP
  else { d with sage := { d.sage with defer := d.sage.defer ++ [(m == Master.spi, addr, w)] } }

/-- An access to the address map by a master, as the counters of unit 27 see it (R567, R568). -/
def Dev.access (d : Dev) (m : Master) (addr : Nat) (write : Bool) : Dev :=
  d.count 27 (if write then 0x51 else 0x50) { addr := some addr, master := some m.code, principal := d.principal m }

/-- An access that a command without a master operand stands for: the active core makes it. -/
def Dev.coreAccess (d : Dev) (addr : Nat) (write : Bool) (f : Dev → Dev) : Dev :=
  match d.active with
  | some m => f (d.access m addr write)
  | none => f d

/-- A register read at `addr` that a command stands for. -/
def Dev.readBy (d : Dev) (m : Master) (addr : Nat) (f : Dev → Dev) : Dev := f (d.access m addr false)

/-- A register write `w` at `addr` that a command stands for, as its master's target lets it through: one of SPI or I2C that
does not answer has no effect, the restricted state refuses it, and a takeover gap defers it (R395, R548). -/
def Dev.gated (d : Dev) (m : Master) (addr w : Nat) (f : Dev → Dev) : Dev :=
  if m == Master.spi || m == Master.i2c then
    if !d.answers m then d
    else if d.refused addr then d.bump R.GLB_CNT_MGMT_REFUSED
    else if d.defers m then d.deferWrite m addr w
    else f (d.access m addr true)
  else f (d.access m addr true)

end Sys2Proof.Machine
end

