-- ==== Sys2Proof/Machine/PortView.lean ====
section
/-! DEFINITION. Ports as other units see them: rates, windows, receive path latency, port counters
(R242, R243, R343, R359, R363) and the fence and hold state of slices (R20, R43). -/

namespace Sys2Proof.Machine

/-- Gbit/s of a LANE_RATE code (R365). -/
def laneGbps : Nat → Nat
  | 1 => 50
  | 2 => 100
  | 3 => 200
  | _ => 0

/-- Rate of a client port in Gbit/s, 0 where it is not formed. -/
def Dev.cRate (d : Dev) (p : Nat) : Nat := d.get F.CPORT_CTRL_WIDTH p * laneGbps (d.get F.CPORT_CTRL_LANE_RATE p)

/-- Rate of a line port in Gbit/s. -/
def Dev.lRate (d : Dev) (p : Nat) : Nat := d.get F.LPORT_CTRL_WIDTH p * laneGbps (d.get F.LPORT_CTRL_LANE_RATE p)

/-- Receive path latency in ns of a port of `w` lanes at `r` Gbit/s each (R243, R359). -/
def rxLatency (w r : Nat) : Nat :=
  match r, w with
  | 200, 1 => 236
  | 200, 2 => 188
  | 200, 4 => 164
  | 200, 8 => 152
  | 100, 2 => 292
  | 100, 4 => 236
  | 100, 8 => 204
  | 50, 4 => 348
  | 50, 8 => 292
  | _, _ => 0

/-- Receive path latency of a client port. -/
def Dev.cLatency (d : Dev) (p : Nat) : Nat :=
  rxLatency (d.get F.CPORT_CTRL_WIDTH p) (laneGbps (d.get F.CPORT_CTRL_LANE_RATE p))

/-- Receive path latency of a line port. -/
def Dev.lLatency (d : Dev) (p : Nat) : Nat :=
  rxLatency (d.get F.LPORT_CTRL_WIDTH p) (laneGbps (d.get F.LPORT_CTRL_LANE_RATE p))

/-- Add to a 48-bit raw counter kept as in R292: WRAPPED and the high bits in DATA0, the low in DATA1. -/
def Dev.rawCount (d : Dev) (sel idx n : Nat) : Dev :=
  let v := d.tf sel idx 0 15 0 * 2 ^ 32 + d.tw sel idx 1 + n
  let w := b2n (d.tf sel idx 0 31 31 = 1 || 2 ^ 48 ≤ v)
  d.setEntry sel idx [w * 2 ^ 31 + v / 2 ^ 32 % 2 ^ 16, v % 2 ^ 32]

/-- A client port's counter `k` (R363). -/
def Dev.cCount (d : Dev) (p k : Nat) (n : Nat := 1) : Dev := d.rawCount 0xD0 (p * 16 + k) n

/-- A line port's counter `k` (R363). -/
def Dev.lCount (d : Dev) (p k : Nat) (n : Nat := 1) : Dev := d.rawCount 0xD1 (p * 16 + k) n

/-- Is a slice fenced, or its half held (R20, R43, R63)? -/
def Dev.sliceOff (d : Dev) (s : Nat) : Bool := d.on F.SAT_STATUS_FENCED s || d.domHeld (s / 4)

/-- The FCS of a frame, as the four bytes that follow its last byte (R354; the order is the standard's,
log entry 1). -/
def fcsBytes (bs : Bytes) : Bytes := (beBytes 4 (crc32 bs)).reverse

end Sys2Proof.Machine
end

