-- ==== Sys2Proof/Machine/Fe.lean ====
section
/-! DEFINITION. The client front ends: classification, metering, slice choice, the exception path and
rule versions (R47-R87, R200-R207). -/

namespace Sys2Proof.Machine

/-! Versions and tags (R69). -/

/-- The tables of a rule version in the client front ends (R68): front end `n`'s replica. -/
def feSel (sel n : Nat) : Nat := sel + n * 2 ^ 16

/-- Is there a staged version, and is it closed? -/
def Dev.staged (d : Dev) : Bool := d.on F.FE_VER_STAGED_VALID
def Dev.stagedClosed (d : Dev) : Bool := d.staged && d.on F.FE_VER_STAGED_CLOSED

/-- FE_LIVE_TAGS: the tags of the current, draining and staged versions; version 0 holds none (R69). -/
def Dev.liveTags (d : Dev) : Nat :=
  (if d.get F.FE_VER_CURRENT_VERSION = 0 then 0 else 2 ^ d.get F.FE_VER_CURRENT_TAG)
    ||| (if d.on F.FE_VER_DRAINING_VALID then 2 ^ d.get F.FE_VER_DRAINING_TAG else 0)
    ||| (if d.staged then 2 ^ d.get F.FE_VER_STAGED_TAG else 0)

/-- Keep FE_LIVE_TAGS in step with the version registers. -/
def Dev.showTags (d : Dev) : Dev := d.set F.FE_LIVE_TAGS_LIVE d.liveTags

/-- Is client front end `n` running and in sync (R73, R80)? -/
def Dev.feUp (d : Dev) (n : Nat) : Bool := d.on F.FE_STATUS_RUNNING n && d.on F.FE_STATUS_IN_SYNC n

/-- The client front ends that take part in table writes (R71, R80). -/
def Dev.feRunning (d : Dev) : List Nat := (List.range 4).filter d.feUp

/-- A pass or a copy runs (R72, R73, R80, R82). -/
def Dev.feBusy (d : Dev) : Bool :=
  d.fe.pass ≠ 0 || (List.range 4).any (fun n => d.on F.FE_STATUS_RESYNC_BUSY n)

/-- Frames with a tag before the steer stage, module-wide (R77). -/
def Dev.tagCount (d : Dev) (t : Nat) : Nat :=
  ((d.fe.hold ++ d.fe.steer).map (fun e => (e.2.filter (fun f => f.tag = t)).length)).foldl (· + ·) 0

/-- FE_INFLIGHT.DRAIN_COUNT (R77). -/
def Dev.drainCount (d : Dev) : Nat :=
  if d.on F.FE_VER_DRAINING_VALID then d.tagCount (d.get F.FE_VER_DRAINING_TAG) else 0

/-- FE_VER_CMD_STATUS (R85). -/
def Dev.verStatus (d : Dev) (st op reason version : Nat) : Dev :=
  (((d.set F.FE_VER_CMD_STATUS_STATE st).set F.FE_VER_CMD_STATUS_OP op).set
    F.FE_VER_CMD_STATUS_REASON reason).set F.FE_VER_CMD_STATUS_VERSION version

/-- STAGE_BUSY of every client front end that runs. -/
def Dev.stageBusy (d : Dev) (b : Bool) : Dev :=
  (List.range 4).foldl (fun d n => if b && !d.on F.FE_STATUS_RUNNING n then d else d.flag F.FE_STATUS_STAGE_BUSY b n) d

/-- The tables with four slots per entry, one per tag (R70, R84), and those of the slices (R126). -/
def slottedSel (sel : Nat) : Bool := sel = 0x12 || sel = 0x13 || sel = 0x14

/-- Which word of an exact-match entry or a rule's part 2 holds the tag mask (R84). -/
def maskWord (sel : Nat) : Nat := if sel = 0x10 then 6 else 2

/-- The entries whose words hold a tag mask: exact-match entries, and part 2 of ternary rules. -/
def hasMask (sel idx : Nat) : Bool := sel = 0x10 || (sel = 0x11 && idx % 4 = 2)

/-- Replace the tag mask of an entry; an exact-match entry or rule with no tag left is free (R70). -/
def Dev.setMask (d : Dev) (sel n idx m : Nat) : Dev := d.setTf (feSel sel n) idx (maskWord (sel % 2 ^ 16)) 3 0 m

/-- The tag mask of an entry. -/
def Dev.mask (d : Dev) (sel n idx : Nat) : Nat := d.tf (feSel sel n) idx (maskWord sel) 3 0

/-- A number with bit `t` made equal to `b`. -/
def withBit (m t : Nat) (b : Bool) : Nat := m - b2n (bit m t) * 2 ^ t + b2n b * 2 ^ t

/-- The OPEN pass in one front end (R72): bit `t` of every mask becomes bit `c`, or clears where no tag is
current, and slot `c` of every slotted entry is copied to slot `t`. -/
def Dev.openPassFe (d : Dev) (n t : Nat) (c : Option Nat) : Dev :=
  let d := [0x10, 0x11].foldl (fun d sel =>
    (d.entries (feSel sel n)).foldl (fun d e =>
      if hasMask sel e.1 then
        let m := d.mask sel n e.1
        d.setMask sel n e.1 (withBit m t (match c with | some c => bit m c | none => false))
      else d) d) d
  let d := d.dropEntries (fun sel idx => sel / 2 ^ 16 = n && slottedSel (sel % 2 ^ 16) && idx / 2 ^ 24 % 4 = t)
  match c with
  | none => d
  | some c =>
    [0x12, 0x13, 0x14].foldl (fun d sel =>
      (d.entries (feSel sel n)).foldl (fun d e =>
        if e.1 / 2 ^ 24 % 4 = c then d.setEntry (feSel sel n) (e.1 % 2 ^ 24 + t * 2 ^ 24) e.2 else d) d) d

/-- The OPEN pass in the steer-stage service table of slice `s` (R68, R72, R126). -/
def Dev.openPassSlice (d : Dev) (s t : Nat) (c : Option Nat) : Dev :=
  let d := d.dropEntries (fun sel idx => sel = 0x20 + s && idx / 2 ^ 24 % 4 = t)
  match c with
  | none => d
  | some c => (d.entries (0x20 + s)).foldl (fun d e =>
      if e.1 / 2 ^ 24 % 4 = c then d.setEntry (0x20 + s) (e.1 % 2 ^ 24 + t * 2 ^ 24) e.2 else d) d

/-- The current tag, none while version 0 is current (R69). -/
def Dev.curTag (d : Dev) : Option Nat :=
  if d.get F.FE_VER_CURRENT_VERSION = 0 then none else some (d.get F.FE_VER_CURRENT_TAG)

/-- OPEN (R72): stage a new rule version. -/
def doOpenVersion (version : Nat) (d : Dev) : Dev :=
  let cur := d.get F.FE_VER_CURRENT_VERSION
  let v := version % 2 ^ 16
  if d.feBusy then d.verStatus 3 1 8 v
  else if d.staged then d.verStatus 3 1 2 v
  else if d.on F.FE_VER_DRAINING_VALID then d.verStatus 3 1 10 v
  else if v = 0 ∨ (cur ≠ 0 ∧ v ≠ (if cur = 0xFFFF then 1 else cur + 1)) then d.verStatus 3 1 1 v
  else
    let d := (d.verStatus 1 1 0 v).stageBusy true
    let d := (((d.set F.FE_VER_STAGED_VALID 1).set F.FE_VER_STAGED_CLOSED 0).set F.FE_VER_STAGED_TAG (v % 4)).set
      F.FE_VER_STAGED_VERSION v
    { d.showTags with fe := { d.showTags.fe with pass := 1 } }

/-- The OPEN pass completes (R72). -/
def doOpenPassDone (d : Dev) : Dev :=
  if d.fe.pass = 1 then
    let t := d.get F.FE_VER_STAGED_TAG
    let d := (List.range 4).foldl (fun d n => if d.feUp n then d.openPassFe n t d.curTag else d) d
    let d := (List.range 8).foldl (fun d s => d.openPassSlice s t d.curTag) d
    let d := (d.stageBusy false).verStatus 2 1 0 (d.get F.FE_VER_STAGED_VERSION)
    { d with fe := { d.fe with pass := 0 } }
  else d

/-- CLOSE (R73): freeze the staged version and start validation and digest. -/
def doCloseVersion (d : Dev) : Dev :=
  let v := d.get F.FE_VER_STAGED_VERSION
  if d.feBusy then d.verStatus 3 2 8 v
  else if !d.staged then d.verStatus 3 2 3 v
  else if d.stagedClosed then d.verStatus 3 2 11 v
  else
    let d := (d.verStatus 1 2 0 v).stageBusy true
    { d with fe := { d.fe with pass := 2 } }

/-- Is an action word of the staged version valid (R73)? -/
def Dev.actionOk (d : Dev) (n t w : Nat) : Bool :=
  match nbits w 31 30 with
  | 3 => false
  | 1 => d.tf (feSel 0x12 n) (nbits w 13 0 + t * 2 ^ 24) 0 31 31 = 1
  | _ => true

/-- Validation of the staged version in front end `n` (R73). -/
def Dev.stagedOk (d : Dev) (n t : Nat) : Bool :=
  (d.entries (feSel 0x10 n)).all (fun e => !bit (e.2.getD 6 0) t || d.actionOk n t (e.2.getD 5 0)) &&
  (d.entries (feSel 0x11 n)).all (fun e =>
    e.1 % 4 ≠ 2 || !bit (e.2.getD 2 0) t || d.actionOk n t (e.2.getD 0 0)) &&
  (d.entries (feSel 0x13 n)).all (fun e => e.1 / 2 ^ 24 % 4 ≠ t || d.actionOk n t (e.2.getD 1 0)) &&
  (d.entries (feSel 0x12 n)).all (fun e =>
    e.1 / 2 ^ 24 % 4 ≠ t || !(bit (e.2.getD 0 0) 30 && bit (e.2.getD 0 0) 28))

/-- Words of each table through the window (R84). -/
def feWords (sel idx : Nat) : Nat :=
  match sel with
  | 0x10 => 7
  | 0x11 => if idx % 4 = 2 then 3 else 16
  | 0x12 => 2
  | 0x13 => 2
  | _ => 5

/-- One entry's contribution to the digest string (R73). -/
def digestEntry (sel idx : Nat) (ws : List Nat) : Bytes :=
  beBytes 2 sel ++ beBytes 4 (if slottedSel sel then idx % 2 ^ 24 else idx) ++
    (List.range (feWords sel idx)).flatMap (fun w =>
      beBytes 4 (if hasMask sel idx && w = maskWord sel then 0 else ws.getD w 0))

/-- The digest of the staged version in front end `n` (R73). -/
def Dev.stagedDigest (d : Dev) (n t : Nat) : Nat :=
  let em := (d.entries (feSel 0x10 n)).flatMap (fun e =>
    if bit (e.2.getD 6 0) t then digestEntry 0x10 e.1 e.2 else [])
  let rules := (d.entries (feSel 0x11 n)).flatMap (fun e =>
    if e.1 % 4 = 2 && bit (e.2.getD 2 0) t then
      digestEntry 0x11 (e.1 - 2) (d.entry (feSel 0x11 n) (e.1 - 2)) ++
      digestEntry 0x11 (e.1 - 1) (d.entry (feSel 0x11 n) (e.1 - 1)) ++ digestEntry 0x11 e.1 e.2
    else [])
  let direct := [0x12, 0x13, 0x14].flatMap (fun sel => (d.entries (feSel sel n)).flatMap (fun e =>
    if e.1 / 2 ^ 24 % 4 = t then digestEntry sel e.1 e.2 else []))
  crc64 (em ++ rules ++ direct)

/-- The CLOSE pass completes (R73). -/
def doClosePassDone (d : Dev) : Dev :=
  if d.fe.pass = 2 then
    let t := d.get F.FE_VER_STAGED_TAG
    let v := d.get F.FE_VER_STAGED_VERSION
    let ns := d.feRunning
    let d := d.stageBusy false
    let d := { d with fe := { d.fe with pass := 0 } }
    if ns = [] then d.verStatus 3 2 12 v
    else if !ns.all (fun n => d.stagedOk n t) then d.verStatus 3 2 5 v
    else
      let ds := ns.map (fun n => (n, d.stagedDigest n t))
      let same := ds.all (fun x => x.2 = (ds.headD (0, 0)).2)
      let d := ds.foldl (fun d x => ((d.putNum R.FE_DIGEST_LO (x.2 % 2 ^ 32) x.1).putNum R.FE_DIGEST_HI (x.2 / 2 ^ 32) x.1).flag
        F.FE_STATUS_DIGEST_MISMATCH (!same) x.1) d
      if same then (d.set F.FE_VER_STAGED_CLOSED 1).verStatus 2 2 0 v
      else (ds.foldl (fun d x => d.raise E.FE_DIGEST_MISMATCH x.1) d).verStatus 3 2 6 v
  else d

/-- Forget the staged version and free its tag. -/
def Dev.dropStaged (d : Dev) : Dev := (d.putNum R.FE_VER_STAGED 0).showTags

/-- Is a RULE_COMMIT entry pending (R74)? -/
def Dev.thyPending (d : Dev) (action : Nat) : Bool := d.thy.ent.any (fun e => e.2.st = 1 && e.2.action = action)

/-- DISCARD (R78): drop the staged version. -/
def doDiscardVersion (d : Dev) : Dev :=
  let v := d.get F.FE_VER_STAGED_VERSION
  if d.feBusy then d.verStatus 3 3 8 v
  else if !d.staged then d.verStatus 3 3 3 v
  else if d.thyPending 1 then d.verStatus 3 3 9 v
  else d.dropStaged.verStatus 2 3 0 v

/-- The staged version becomes current; the old one becomes draining where `drain` and it is not version
0 (R75, R79). -/
def Dev.makeCurrent (d : Dev) (drain : Bool) : Dev :=
  let old := d.get F.FE_VER_CURRENT_VERSION
  let v := d.get F.FE_VER_STAGED_VERSION
  let d := if drain && old ≠ 0 then
      (((d.set F.FE_VER_DRAINING_VALID 1).set F.FE_VER_DRAINING_TAG (old % 4)).set F.FE_VER_DRAINING_VERSION old).set
        F.FE_INFLIGHT_RETIRE_PENDING 1
    else d
  let d := ((d.set F.FE_VER_CURRENT_TAG (v % 4)).set F.FE_VER_CURRENT_VERSION v).dropStaged
  { d with fe := { d.fe with commitNet := d.net, commitClk := d.tim.clk } }

/-- The effect of a RULE_COMMIT entry at its instant (R75): true where it committed. -/
def Dev.ruleCommit (d : Dev) : Dev × Bool :=
  let v := d.get F.FE_VER_STAGED_VERSION
  if d.stagedClosed && d.fe.pass = 0 then ((d.makeCurrent true).verStatus 2 5 0 v, true)
  else ((d.verStatus 3 5 4 v).raise E.FE_COMMIT_ABORTED, false)

/-- COMMIT_NOW (R79): make a closed staged version current at once. -/
def doCommitNow (d : Dev) : Dev :=
  let v := d.get F.FE_VER_STAGED_VERSION
  if d.feBusy then d.verStatus 3 4 8 v
  else if !d.staged then d.verStatus 3 4 3 v
  else if !d.stagedClosed then d.verStatus 3 4 4 v
  else if (List.range 32).any (fun p => d.on F.CPORT_CTRL_ENABLE p) then d.verStatus 3 4 7 v
  else (d.makeCurrent false).verStatus 2 4 0 v

/-- Discard every frame of a tag that is still before the steer stage, counted where each was
classified (R77). -/
def Dev.dropTag (d : Dev) (t : Nat) : Dev :=
  let gone := (d.fe.hold ++ d.fe.steer).flatMap (fun e => e.2.filter (fun f => f.tag = t))
  let keep (m : SMap (List Frame)) : SMap (List Frame) :=
    (m.map (fun e => (e.1, e.2.filter (fun f => !(f.tag = t))))).filter (fun e => !e.2.isEmpty)
  let d := { d with fe := { d.fe with hold := keep d.fe.hold, steer := keep d.fe.steer } }
  gone.foldl (fun d f => (d.bump R.FE_CNT_VERSION_STALE (f.port / 8)).raise E.FE_VERSION_STALE (f.port / 8)) d

/-- VERSION_RETIRE (R77): at once when no frame carries the tag, else at T + 40 µs. -/
def doVersionRetire (d : Dev) : Dev :=
  if d.on F.FE_VER_DRAINING_VALID then
    let t := d.get F.FE_VER_DRAINING_TAG
    let d := if d.drainCount = 0 then d else (d.advance (d.fe.commitClk + us 40)).dropTag t
    ((d.putNum R.FE_VER_DRAINING 0).set F.FE_INFLIGHT_RETIRE_PENDING 0).showTags.raise E.FE_RETIRED
  else d

/-- FE_RESYNC START (R80, R85): copy from a running client front end; itself or one that is not running is
ignored. -/
def doFeResync (fe source : Nat) (d : Dev) : Dev :=
  let n := fe % 4
  let s := source % 4
  let d := d.set F.FE_RESYNC_SOURCE s n
  if s = n ∨ !d.on F.FE_STATUS_RUNNING s ∨ !d.on F.FE_STATUS_RUNNING n ∨ d.on F.FE_STATUS_RESYNC_BUSY n then d
  else (d.set F.FE_STATUS_RESYNC_BUSY 1 n).set F.FE_STATUS_IN_SYNC 0 n

/-- The FE_RESYNC copy completes (R80). -/
def doResyncDone (fe : Nat) (d : Dev) : Dev :=
  let n := fe % 4
  if d.on F.FE_STATUS_RESYNC_BUSY n then
    let s := d.get F.FE_RESYNC_SOURCE n
    let d := d.dropEntries (fun sel _ => sel / 2 ^ 16 = n && 0x10 ≤ sel % 2 ^ 16 && sel % 2 ^ 16 ≤ 0x14)
    let d := [0x10, 0x11, 0x12, 0x13, 0x14].foldl (fun d sel =>
      (d.entries (feSel sel s)).foldl (fun d e => d.setEntry (feSel sel n) e.1 e.2) d) d
    let d := { d with fe := { d.fe with bad := d.fe.bad.filter (fun b => b.1 ≠ n) } }
    ((d.set F.FE_STATUS_RESYNC_BUSY 0 n).set F.FE_STATUS_IN_SYNC 1 n).set F.FE_STATUS_ECC_BAD_ENTRY 0 n
  else d

/-! Writes to the versioned tables (R71, R81, R84). -/

/-- The reason a write to the versioned tables ends ABORTED: 5 BUSY, 4 REFUSED, none where it goes on. -/
def Dev.feWriteStop (d : Dev) : Option Nat :=
  if d.feBusy then some 5 else if !d.staged || d.stagedClosed then some 4 else none

/-- The exact-match entries of front end `n` with a key. -/
def Dev.emFind (d : Dev) (n : Nat) (key : List Nat) : List (Nat × List Nat) :=
  (d.entries (feSel 0x10 n)).filter (fun e =>
    nbits (e.2.getD 0 0) 31 28 = nbits (key.getD 0 0) 31 28 && nbits (e.2.getD 0 0) 20 16 = nbits (key.getD 0 0) 20 16 &&
      (List.range 4).all (fun i => e.2.getD (i + 1) 0 = key.getD (i + 1) 0 % 2 ^ 32) && e.2.getD 6 0 &&& d.liveTags ≠ 0)

/-- A free place for an exact-match entry: the first from `start` on whose mask has no live bit; where the
placement starts is left open by the spec (log entry 2). -/
def Dev.emPlace (d : Dev) (n start : Nat) : Option Nat :=
  let used := ((d.entries (feSel 0x10 n)).filter (fun e => e.2.getD 6 0 &&& d.liveTags ≠ 0)).map (·.1)
  ((List.range (used.length + 1)).map (fun i => (start + i) % 131072)).find? (fun i => !used.contains i)

/-- Key words of an exact-match entry with reserved bits zero (R84). -/
def emKey (ws : List Nat) : List Nat :=
  (nbits (ws.getD 0 0) 31 28 * 2 ^ 28 + nbits (ws.getD 0 0) 20 16 * 2 ^ 16) :: (List.range 4).map (fun i => ws.getD (i + 1) 0)

/-- Insert into one replica at a chosen start (R71). -/
def Dev.emInsertAt (d : Dev) (n t start : Nat) (ws : List Nat) : Dev :=
  let place (d : Dev) : Dev :=
    match d.emPlace n start with
    | some i => d.setEntry (feSel 0x10 n) i (emKey ws ++ [ws.getD 5 0, 2 ^ t])
    | none => d
  match (d.emFind n ws).find? (fun e => bit (e.2.getD 6 0) t) with
  | some e =>
    if e.2.getD 6 0 &&& d.liveTags = 2 ^ t then d.setEntry (feSel 0x10 n) e.1 (emKey ws ++ [ws.getD 5 0, 2 ^ t])
    else place (d.setMask 0x10 n e.1 (withBit (d.mask 0x10 n e.1) t false))
  | none => place d

/-- EXACT_MATCH_INSERT (R71, R84): ends with the window's reason, none where done. -/
def Dev.emInsert (d : Dev) (ws : List Nat) : Dev × Option Nat :=
  match d.feWriteStop with
  | some r => (d, some r)
  | none =>
    let t := d.get F.FE_VER_STAGED_TAG
    if d.feRunning.any (fun n => d.emPlace n 0 = none && (d.emFind n ws).all (fun e => e.2.getD 6 0 &&& d.liveTags ≠ 2 ^ t))
    then (d, some 4)
    else
      let start := d.freeVal % 131072
      ((d.feRunning.foldl (fun d n => d.emInsertAt n t start ws) d).freeNext, none)

/-- EXACT_MATCH_DELETE (R71, R84). -/
def Dev.emDelete (d : Dev) (ws : List Nat) : Dev × Option Nat :=
  match d.feWriteStop with
  | some r => (d, some r)
  | none =>
    let t := d.get F.FE_VER_STAGED_TAG
    (d.feRunning.foldl (fun d n => (d.emFind n ws).foldl (fun d e =>
      d.setMask 0x10 n e.1 (withBit (d.mask 0x10 n e.1) t false)) d) d, none)

/-- TERNARY_WRITE (R71, R84): a part of a rule. -/
def Dev.ternWrite (d : Dev) (idx : Nat) (ws : List Nat) : Dev × Option Nat :=
  match d.feWriteStop with
  | some r => (d, some r)
  | none =>
    let t := d.get F.FE_VER_STAGED_TAG
    let p2 := idx / 4 * 4 + 2
    let live n := d.mask 0x11 n p2 &&& d.liveTags ≠ 0
    if idx % 4 = 2 then
      let w0 := ws.getD 0 0 % 2 ^ 32
      let w1 := nbits (ws.getD 1 0) 31 31 * 2 ^ 31 + nbits (ws.getD 1 0) 12 0
      if d.feRunning.any (fun n => live n && !(d.tw (feSel 0x11 n) p2 0 = w0 && d.tw (feSel 0x11 n) p2 1 = w1))
      then (d, some 4)
      else (d.feRunning.foldl (fun d n =>
        let m := d.mask 0x11 n p2 &&& d.liveTags
        d.setEntry (feSel 0x11 n) p2 [w0, w1, withBit m t true]) d, none)
    else if d.feRunning.any live then (d, some 4)
    else (d.feRunning.foldl (fun d n => d.setEntry (feSel 0x11 n) idx ws) d, none)

/-- TERNARY_DELETE (R71, R84): clear the staged bit of a rule; always accepted. -/
def Dev.ternDelete (d : Dev) (idx : Nat) : Dev × Option Nat :=
  match d.feWriteStop with
  | some r => (d, some r)
  | none =>
    let t := d.get F.FE_VER_STAGED_TAG
    let p2 := idx / 4 * 4 + 2
    (d.feRunning.foldl (fun d n => d.setMask 0x11 n p2 (withBit (d.mask 0x11 n p2) t false)) d, none)

/-- The bits of a direct-indexed entry's words that exist (R84). -/
def feKeep (sel : Nat) (ws : List Nat) : List Nat :=
  match sel with
  | 0x12 => [ws.getD 0 0 &&& 0xFFF3FFFF, ws.getD 1 0 % 2 ^ 16]
  | 0x13 => [ws.getD 0 0 &&& 0x8000FFFF, ws.getD 1 0]
  | _ => ws.take 5

/-- A write to the staged slot of a direct-indexed table (R71, R84). -/
def Dev.feDirectWrite (d : Dev) (sel idx : Nat) (ws : List Nat) : Dev × Option Nat :=
  match d.feWriteStop with
  | some r => (d, some r)
  | none =>
    let t := d.get F.FE_VER_STAGED_TAG
    (d.feRunning.foldl (fun d n => d.setEntry (feSel sel n) (idx % 2 ^ 24 + t * 2 ^ 24) (feKeep sel ws)) d, none)

/-- A repair (R81): a write that gives a bad entry its own content mends it in every front end where it is
bad; true where it was one. -/
def Dev.feRepair (d : Dev) (sel idx : Nat) (ws : List Nat) : Dev × Bool :=
  let hits := d.fe.bad.filter (fun b => b.2.1 = sel &&
    (let own := d.entry (feSel sel b.1) b.2.2
     if sel = 0x10 then (emKey own = emKey ws && own.getD 5 0 = ws.getD 5 0)
     else if sel = 0x11 then (b.2.2 = idx && trimWords (ws.take (if idx % 4 = 2 then 2 else 16)) = trimWords (own.take (if idx % 4 = 2 then 2 else 16)))
     else (b.2.2 % 2 ^ 24 = idx % 2 ^ 24 && trimWords (feKeep sel ws) = trimWords own)))
  if hits.isEmpty || d.feBusy then (d, false)
  else
    let d := { d with fe := { d.fe with bad := d.fe.bad.filter (fun b => !hits.contains b) } }
    (hits.foldl (fun d b =>
      let d := if (d.fe.bad.any (fun x => x.1 = b.1)) then d else d.set F.FE_STATUS_ECC_BAD_ENTRY 0 b.1
      if d.get F.FE_ECC_STATUS_TABLE b.1 = b.2.1 % 8 then d.set F.FE_ECC_STATUS_VALID 0 b.1 else d) d, true)

/-- A window WRITE to a versioned table of the client front ends (R71, R84). -/
def Dev.feWrite (d : Dev) (sel idx : Nat) (ws : List Nat) : Dev × Option Nat :=
  let r := d.feRepair sel (idx % 2 ^ 31) ws
  if r.2 then (r.1, none)
  else match sel with
  | 0x10 => if bit idx 31 then d.emDelete ws else d.emInsert ws
  | 0x11 => if bit idx 31 && idx % 4 = 2 then d.ternDelete (idx % 2 ^ 31) else d.ternWrite (idx % 2 ^ 31) ws
  | _ => d.feDirectWrite sel idx ws

/-! Classification (R54-R58). -/

/-- Does a ternary rule match a key: every key bit whose mask bit is 1 equals the value bit (R55)? -/
def ternHit (key value mask : List Nat) : Bool :=
  (List.range 16).all (fun i => (key.getD i 0 ^^^ value.getD i 0) &&& mask.getD i 0 = 0)

/-- The best ternary rule with PRE = `pre` under a tag: lowest PRIORITY, then lowest index (R55). -/
def Dev.ternLookup (d : Dev) (n t : Nat) (pre : Bool) (key : List Nat) : Option (Nat × Nat) :=
  let hits := (d.entries (feSel 0x11 n)).filter (fun e =>
    e.1 % 4 = 2 && bit (e.2.getD 2 0) t && bit (e.2.getD 1 0) 31 == pre &&
      ternHit key (d.entry (feSel 0x11 n) (e.1 - 2)) (d.entry (feSel 0x11 n) (e.1 - 1)))
  (hits.foldl (fun (best : Option (Nat × Nat × Nat)) e =>
    let pr := nbits (e.2.getD 1 0) 12 0
    match best with
    | some b => if pr < b.1 then some (pr, e.1, e.2.getD 0 0) else best
    | none => some (pr, e.1, e.2.getD 0 0)) none).map (fun b => b.2)

/-- An exact-match hit under a tag: index and action. -/
def Dev.emLookup (d : Dev) (n t kt port f : Nat) : Option (Nat × Nat) :=
  ((d.entries (feSel 0x10 n)).find? (fun e =>
    bit (e.2.getD 6 0) t && nbits (e.2.getD 0 0) 31 28 = kt && nbits (e.2.getD 0 0) 20 16 = port &&
      e.2.getD 1 0 * 2 ^ 96 + e.2.getD 2 0 * 2 ^ 64 + e.2.getD 3 0 * 2 ^ 32 + e.2.getD 4 0 = f)).map
    (fun e => (e.1, e.2.getD 5 0))

/-- The lookup of R55: the action word, whether it is the default action, and the entry read (TBL_SEL,
index). -/
def Dev.lookup (d : Dev) (n t port : Nat) (bs : Bytes) (p : Parsed) : Nat × Bool × (Nat × Nat) :=
  let prof := port + t * 2 ^ 24
  let w0 := d.tw (feSel 0x13 n) prof 0
  let key := bytesToWords (ternaryKey port bs p)
  let tern (pre : Bool) := if bit w0 31 then d.ternLookup n t pre key else none
  match tern true with
  | some r => (r.2, false, (0x11, r.1))
  | none =>
    match (List.range 4).findSome? (fun i =>
      let kt := nbits w0 (4 * i + 3) (4 * i)
      match exactKey bs p kt with
      | some f => d.emLookup n t kt port f
      | none => none) with
    | some r => (r.2, false, (0x10, r.1))
    | none =>
      match tern false with
      | some r => (r.2, false, (0x11, r.1))
      | none => (d.tw (feSel 0x13 n) prof 1, true, (0x13, prof))

/-- The class of a SERVICE action (R56, R57). -/
def Dev.classOf (d : Dev) (n t act svcW0 : Nat) (p : Parsed) : Nat :=
  let cm := nbits svcW0 17 12 + t * 2 ^ 24
  let base := nbits act 27 26
  match nbits act 29 28 with
  | 1 => if p.otag then let c := p.otci >>> 13; d.tf (feSel 0x14 n) cm 0 (2 * c + 1) (2 * c) else base
  | 2 => if p.ipv4 || p.ipv6 then let c := p.tos >>> 2; d.tf (feSel 0x14 n) cm (1 + c / 16) (2 * (c % 16) + 1) (2 * (c % 16)) else base
  | 3 => match p.lse with
    | l :: _ => let c := nbits l 11 9; d.tf (feSel 0x14 n) cm 0 (16 + 2 * c + 1) (16 + 2 * c)
    | _ => base
  | _ => base

/-! Slices (R59-R63). -/

/-- The symmetric hash of the frame's MAC addresses (R60). -/
def Dev.macHash (d : Dev) (bs : Bytes) : Nat :=
  let a := numAt bs 0 6
  let b := numAt bs 6 6
  crc32 (beBytes 4 (d.num R.FE_HASH_SEED) ++ beBytes 6 (min a b) ++ beBytes 6 (max a b))

/-- FE_SLICE_REMAP of a slice: the offset within its half (R62). -/
def Dev.remap (d : Dev) (s : Nat) : Nat := nbits (d.get F.FE_SLICE_REMAP_MAP) (2 * s + 1) (2 * s)

/-- The slices of a frame of a service entry (R59). -/
def Dev.chooseSlices (d : Dev) (w0 : Nat) (bs : Bytes) : List Nat :=
  let home := nbits w0 26 24
  let prot := bit w0 30
  let h := d.macHash bs
  let work := if !bit w0 29 then home
    else if bit w0 28 && !prot then h % 8
    else home / 4 * 4 + h % 4
  if prot then [work, work ^^^ 4] else [work / 4 * 4 + d.remap work]

/-! Metering (R200-R207). -/

/-- Tokens in units of 2^-16 byte after `dt` ns at `kbps` (R202). -/
def tokenFill (kbps dt : Nat) : Nat := min kbps 1600000000 * dt * 65536 / 8000000

/-- Meter a frame of `len` bytes on meter `m` at raw time `now` (R202): 0 green, 1 yellow, 2 red. -/
def Dev.meterFrame (d : Dev) (m len now : Nat) (inYellow : Bool) : Dev × Nat :=
  let st := SMap.get {} d.fe.meter m
  let cir := d.tw 0x60 m 0
  let pir := d.tw 0x60 m 1
  let dt := (now + twrap - st.last) % twrap
  let tc := min (d.tf 0x60 m 2 23 0 * 65536) (st.tc + tokenFill cir dt)
  let tp := min (d.tf 0x60 m 3 23 0 * 65536) (st.tp + tokenFill (max pir cir) dt)
  let l := len * 65536
  let r : MeterSt × Nat :=
    if tp < l then (⟨tc, tp, now⟩, 2)
    else if tc < l || inYellow then (⟨tc, tp - l, now⟩, 1)
    else (⟨tc - l, tp - l, now⟩, 0)
  ({ d with fe := { d.fe with meter := SMap.set {} d.fe.meter m r.1 } }, r.2)

/-- The event fields of a frame at the client side. -/
def Frame.seen (f : Frame) : Seen :=
  { svc := some f.svc, cls := some f.cls, cport := some f.port, bytes := f.data.length + 4 }

/-- METER (R200-R207): the frame's fate, none where it is discarded, and its drop-eligible mark. -/
def Dev.police (d : Dev) (n : Nat) (svcW1 : Nat) (dei : Bool) (f : Frame) : Dev × Option Frame :=
  if !bit svcW1 15 || !d.on F.POL_CTRL_ENABLE then (d.bump R.POL_CNT_UNPOLICED n, some f)
  else
    let m := n * 8192 + nbits svcW1 14 0 % 8192
    if d.fe.meterBad.contains m then (d.bump R.POL_CNT_ECC_DISCARD n, none)
    else
      let len := f.data.length + 4 + (if d.tf 0x60 m 2 29 29 = 1 then 20 else 0)
      let r := d.meterFrame m len ((f.arr - d.tim.rawOrigin) % twrap) (dei && d.tf 0x60 m 2 31 31 = 1)
      let d := r.1
      match r.2 with
      | 0 => ((d.bump R.POL_CNT_GREEN n).count 16 0x20 f.seen, some f)
      | 1 =>
        if d.tf 0x60 m 2 30 30 = 1 then
          (((d.bump R.POL_CNT_YELLOW_DROP n).count 16 0x23 f.seen).svcBump f.svc 3, none)
        else ((d.bump R.POL_CNT_YELLOW n).count 16 0x21 f.seen, some { f with yellow := true })
      | _ => (((d.bump R.POL_CNT_RED n).count 16 0x22 f.seen).svcBump f.svc 3, none)

/-! The exception path (R64-R67). -/

/-- Refill the exception buckets up to the present (R65, R66). -/
def Dev.excFill (d : Dev) : Dev :=
  let dt := d.tim.clk - d.fe.bktClk
  let sh := d.get F.FE_EXC_CTRL_SHARE_SHARE
  let fps := d.get F.FE_EXC_RATE_FPS_FPS
  let bps := d.get F.FE_EXC_RATE_BPS_MBPS * 125000
  let fd := d.get F.FE_EXC_RATE_FPS_BURST
  let bd := d.get F.FE_EXC_RATE_BPS_BURST_KIB * 1024
  let unit := 100000000000
  { d with fe := { d.fe with
      bktClk := d.tim.clk,
      frRes := min (fd * sh / 100 * unit) (d.fe.frRes + fps * sh * dt),
      frGen := min ((fd - fd * sh / 100) * unit) (d.fe.frGen + fps * (100 - sh) * dt),
      byRes := min (bd * sh / 100 * unit) (d.fe.byRes + bps * sh * dt),
      byGen := min ((bd - bd * sh / 100) * unit) (d.fe.byGen + bps * (100 - sh) * dt) } }

/-- Bytes in the exception buffer. -/
def Dev.excBytes (d : Dev) : Nat := (d.fe.buf.map (fun r => r.data.length)).foldl (· + ·) 0

/-- The counters of the exception path of front end `n`, client or line (R86, R293). -/
def Dev.excCount (d : Dev) (client line : Reg) (n : Nat) : Dev :=
  if n < 4 then d.bump client n else d.bump line (n - 4)

/-- RECORD_REJECT of a line front end: every discard counted in R293 (R568). -/
def Dev.lineReject (d : Dev) (r : ExcRec) (len : Nat) : Dev :=
  if r.fe < 4 then d else d.count r.fe 0x09 { lport := some r.port, bytes := len }

/-- Does a frame of the exception buffer wait for the row that takes it: fleet messages and MKA frames, and PTP messages
while the PTP source is selected (R290, R377, R432)? -/
def Dev.excWaits (d : Dev) (r : ExcRec) : Bool :=
  r.reason = 0x80 || r.reason = 0x81 ||
    (d.get F.TIM_CTRL_SOURCE = 2 && (parseFrame { ptpL2 := true, ptpUdp4 := true, ptpUdp6 := true } r.data).ptp)

/-- The active Sage core reads the exception buffer (R67, log entry 25): frames no row waits for are handed to it at once, in
arrival order; in a takeover gap none is. -/
def Dev.excDrain (d : Dev) : Dev :=
  if d.active.isNone || d.gap then d
  else
    let out := (d.fe.buf.filter (fun r => !d.excWaits r)).map (fun r => Output.exception r.reason r.fe r.port r.svc r.tag r.arrNet r.data)
    { d with fe := { d.fe with buf := d.fe.buf.filter d.excWaits }, out := d.out ++ out }

/-- EXCEPTION_FRAME (R64-R67, R294): a frame of `len` bytes received by front end `r.fe` asks for the exception
buffer; control records and EAPOL frames (reasons 0x80 and above) may draw on the reserved part. -/
def Dev.exception (d : Dev) (r : ExcRec) (len : Nat) : Dev :=
  let d := d.excFill
  let unit := 100000000000
  let own := 0x80 ≤ r.reason
  let need (l : Nat) (res gen : Nat) : Option (Nat × Nat) :=
    if own then
      let x := min res (l * unit)
      if l * unit ≤ res + gen then some (res - x, gen - (l * unit - x)) else none
    else if l * unit ≤ gen then some (res, gen - l * unit) else none
  match need 1 d.fe.frRes d.fe.frGen, need len d.fe.byRes d.fe.byGen with
  | some a, some b =>
    let d := { d with fe := { d.fe with frRes := a.1, frGen := a.2, byRes := b.1, byGen := b.2 } }
    if d.excBytes + len ≤ 262144 then
      let d := { d with fe := { d.fe with buf := d.fe.buf ++ [r] } }
      let d := if r.reason = 0x80 then d else d.excCount R.FE_CNT_EXC_SENT R.LFE_CNT_EXC_SENT r.fe
      (if r.fe < 4 then d.count r.fe 0x03 { cport := some r.port, bytes := len } else d).excDrain
    else (d.excCount R.FE_CNT_EXC_OVERFLOW R.LFE_CNT_EXC_OVERFLOW r.fe).lineReject r len
  | _, _ =>
    let d := d.excCount R.FE_CNT_EXC_RATE_DROP R.LFE_CNT_EXC_RATE_DROP r.fe
    if r.fe < 4 then d.raise E.FE_EXC_RATE_DROP r.fe else (d.raise E.LFE_EXC_RATE_DROP (r.fe - 4)).lineReject r len

/-! Bounds (R234-R239). -/

/-- The reset words of the defaults table (R255). -/
def boundReset (i w : Nat) : Nat :=
  if i < 32 ∧ w = 0 then 10000
  else match i with
  | 33 => 500
  | 34 => 50000
  | 35 => 250000
  | _ => 0

/-- A word of the defaults table: kept as its difference from the reset word. -/
def Dev.boundDef (d : Dev) (b i w : Nat) : Nat :=
  if d.sch.bad.contains (0xA1, b * 64 + i) then boundReset i w
  else (d.tw 0xA1 (b * 64 + i) w ^^^ boundReset i w) % 2 ^ 18

/-- The bank that a frame stamped at clock `t` takes (R239, R254). -/
def Dev.bankAt (d : Dev) (t : Nat) : Nat :=
  if t < d.fe.switchClk then 1 - d.fe.bank else d.fe.bank

/-- The highest bound of a class in µs (R235). -/
def boundMax : Nat → Nat
  | 1 => 500
  | 2 => 50000
  | _ => 250000

/-- Bring a bound into its class's range (R236). -/
def clampBound (c v : Nat) : Nat := max 10 (min (boundMax c) v)

/-- The bound in µs of a class 1-3: `rx` 0 transmit, 1 receive (R236). -/
def Dev.boundUs (d : Dev) (b svc c rx : Nat) : Nat :=
  let v := if d.sch.bad.contains (0xA0, b * 16384 + svc) then 0 else d.tf 0xA0 (b * 16384 + svc) (2 * (c - 1) + rx) 17 0
  clampBound c (if v = 0 then d.boundDef b (32 + c) rx else v)

/-- PTP_TX_NS of a service under a bank (R250). -/
def Dev.ptpTxNs (d : Dev) (b svc : Nat) : Nat :=
  if d.sch.bad.contains (0xA0, b * 16384 + svc) then 0 else d.tf 0xA0 (b * 16384 + svc) 6 15 0

/-- An uncorrectable error in an entry of the bound tables (R255): a frame takes the class default from then on. -/
def Dev.boundEcc (d : Dev) (sel idx : Nat) : Dev :=
  let d := { d with sch := { d.sch with bad := (sel, idx) :: d.sch.bad.filter (· ≠ (sel, idx)) } }
  ((((d.set F.SCH_ECC_STATUS_VALID 1).set F.SCH_ECC_STATUS_TABLE 7).set F.SCH_ECC_STATUS_SLICE 0).set
    F.SCH_ECC_STATUS_INDEX idx).raise E.SCH_ECC_UNCORR

/-! Arrival. -/

/-- Frames of one direction's hold in bytes: Express, and the rest (R245). -/
def heldBytes (fs : List Frame) (express : Bool) : Nat :=
  ((fs.filter (fun f => decide (f.cls = 0) == express)).map (fun f => f.data.length + 4)).foldl (· + ·) 0

/-- A discard of the front end: its counter, and the event class CLASSIFY_DISCARD (R86, R568). -/
def Dev.feDiscard (d : Dev) (r : Reg) (n port len : Nat) : Dev :=
  (d.bump r n).count n 0x02 { cport := some port, bytes := len }

/-- SLICE_CHOICE (R59-R63, R250): copies to fenced slices are lost; a frame with a copy left waits in the
front-end hold (R245). -/
def Dev.sliceChoice (d : Dev) (n w0 : Nat) (p : Parsed) (f : Frame) : Dev :=
  let all := d.chooseSlices w0 f.data
  let live := all.filter (fun s => !d.sliceOff s)
  let d := (List.range (all.length - live.length)).foldl (fun d _ =>
    ((d.feDiscard R.FE_CNT_SLICE_FENCED n f.port (f.data.length + 4)).count n 0x06 f.seen)) d
  if live = [] then d
  else
    let len := f.data.length + 4
    let bank := d.bankAt f.arr
    let timed := p.ptpEvent && f.cls = 0 && bit w0 27 && decide (len ≤ 1518) && decide (d.ptpTxNs bank f.svc ≠ 0)
    let f : Frame := { f with slices := live, work := all.headD 0, prot := bit w0 30 }
    let f : Frame := if timed then
        { f with data := ptpCorrect f.data p (d.cLatency f.port + d.ptpTxNs bank f.svc),
                 ptp := some (f.arr + d.ptpTxNs bank f.svc) }
      else f
    let d := if timed then (d.bump R.FE_CNT_PTP_EVENT n).count n 0x05 f.seen else d
    let f : Frame := { f with bound := if f.cls = 0 then 1200 else us (d.boundUs bank f.svc f.cls 1) }
    let f : Frame := if 1 ≤ f.cls then { f with deadline := some ((f.arr + us (d.boundUs bank f.svc f.cls 0)) * 65536) } else f
    let h := SMap.get [] d.fe.hold n
    if heldBytes h (decide (f.cls = 0)) + len ≤ (if f.cls = 0 then 32768 else 524288) then
      { d with fe := { d.fe with hold := SMap.set [] d.fe.hold n (h ++ [f]) } }
    else d.count n 0x04 f.seen

/-- The fate of a parsed frame under tag `t` at front end `n` (R55-R63). -/
def Dev.classify (d : Dev) (n t : Nat) (p : Parsed) (f : Frame) : Dev :=
  let len := f.data.length + 4
  let r := d.lookup n t f.port f.data p
  let act := r.1
  let bad (sel idx : Nat) : Bool := d.fe.bad.contains (n, sel, idx)
  let svcIdx := nbits act 13 0 + t * 2 ^ 24
  if bad r.2.2.1 r.2.2.2 || bad 0x13 (f.port + t * 2 ^ 24) || (nbits act 31 30 = 1 && bad 0x12 svcIdx) then
    d.feDiscard R.FE_CNT_ECC_DISCARD n f.port len
  else match nbits act 31 30 with
  | 1 =>
    let svc := nbits act 13 0
    let w0 := d.tw (feSel 0x12 n) svcIdx 0
    if !bit w0 31 then d.feDiscard R.FE_CNT_SERVICE_INVALID n f.port len
    else
      let c := d.classOf n t act w0 p
      if !bit (nbits w0 23 20) c then d.feDiscard R.FE_CNT_CLASS_DENIED n f.port len
      else
        let f := { f with svc := svc, cls := c }
        let d := (d.count n 0x01 f.seen).svcBump svc 2
        let m := d.police n (d.tw (feSel 0x12 n) svcIdx 1) (bit p.otci 12) f
        match m.2 with
        | some f => m.1.sliceChoice n w0 p f
        | none => m.1
  | 2 => d.exception ⟨nbits act 22 16, n, f.port, f.arrNet, nbits act 13 0, t, f.data, 0⟩ len
  | _ => if r.2.1 then d.feDiscard R.FE_CNT_NO_MATCH n f.port len else d.feDiscard R.FE_CNT_RULE_DISCARD n f.port len

/-- The version tag a frame takes by its arrival (R23, R43, R75): the current version's, or the draining
version's for a frame that arrived before the commit. -/
def Dev.tagAt (d : Dev) (arr : Nat) : Option Nat :=
  if d.fe.commitClk ≤ arr then d.curTag
  else if d.on F.FE_VER_DRAINING_VALID then some (d.get F.FE_VER_DRAINING_TAG)
  else none

/-- The front end's work on a frame the MAC passed (R46-R67). -/
def Dev.feFrame (d : Dev) (port : Nat) (data : Bytes) (arr : Nat) : Dev :=
  let n := port / 8
  let len := data.length + 4
  if !d.on F.FE_CTRL_ENABLE n || !d.feUp n || d.get F.FE_VER_CURRENT_VERSION = 0 then
    d.feDiscard R.FE_CNT_NOT_READY n port len
  else
    let p := parseFrame { altTpid := d.get F.FE_PARSE_CTRL_ALT_TPID, altEn := d.on F.FE_PARSE_CTRL_ALT_TPID_EN,
                          ptpL2 := d.on F.FE_PTP_CTRL_L2_EN, ptpUdp4 := d.on F.FE_PTP_CTRL_UDP4_EN,
                          ptpUdp6 := d.on F.FE_PTP_CTRL_UDP6_EN } data
    let d := if p.err then d.bump R.FE_CNT_PARSE_ERR n else d
    let d := if p.trunc then d.bump R.FE_CNT_PARSE_TRUNC n else d
    if p.ctrl then (d.feDiscard R.FE_CNT_CTRL_REJECT n port len).raise E.FE_CTRL_REJECT n
    else match d.tagAt arr with
    | none => (d.feDiscard R.FE_CNT_VERSION_STALE n port len).raise E.FE_VERSION_STALE n
    | some t =>
      d.classify n t p { data := data, port := port, arr := arr, arrNet := d.netAt arr, tag := t }

/-- An ECC error found while a frame is looked up (R81, R207): the entry, and whether it is
uncorrectable. -/
def Dev.feEcc (d : Dev) (n : Nat) (sel idx : Nat) (uncorr : Bool) : Dev :=
  if sel = 0xA0 ∨ sel = 0xA1 then (if uncorr then d.boundEcc sel idx else d.raise E.SCH_ECC_CORR)
  else if sel = 0x60 then
    if uncorr then
      let d := { d with fe := { d.fe with meterBad := (idx % 32768) :: d.fe.meterBad.filter (· ≠ idx % 32768) } }
      ((d.set F.POL_ECC_STATUS_VALID 1).set F.POL_ECC_STATUS_INDEX idx).raise E.POL_ECC_UNCORR
    else (d.bump R.POL_CNT_ECC_CORRECTED).raise E.POL_ECC_CORR
  else if uncorr then
    let d := { d with fe := { d.fe with bad := (n, sel, idx) :: d.fe.bad.filter (· ≠ (n, sel, idx)) } }
    let d := ((d.set F.FE_ECC_STATUS_VALID 1 n).set F.FE_ECC_STATUS_TABLE (sel % 8) n).set F.FE_ECC_STATUS_INDEX
      (if sel = 0x11 then idx / 4 else idx % 2 ^ 24) n
    (d.set F.FE_STATUS_ECC_BAD_ENTRY 1 n).raise E.FE_ECC_UNCORR n
  else (d.bump R.FE_CNT_ECC_CORRECTED n).raise E.FE_ECC_CORR n

/-- CLIENT_FRAME_ARRIVAL (R22, R28, R46-R67, R354, R363): a whole frame, its FCS included, from the client
MAC of a port, its start-of-frame delimiter passed at clock `at_`; `ecc` names an entry read for the frame
that shows an ECC error, if one does. -/
def doClientFrameArrival (port : Nat) (frame : Bytes) (at_ : Nat) (ecc : Option (Nat × Nat × Bool)) (d : Dev) : Dev :=
  let p := port % 32
  let d := d.advance at_
  let len := frame.length
  if !d.on F.CPORT_CTRL_ENABLE p || !d.on F.CPORT_STATUS_LINK_UP p || d.domHeld 2 || d.domHeld (p / 16) then d
  else if len < 64 then d.cCount p 3
  else if 16000 < len then d.cCount p 4
  else
    let data := frame.take (len - 4)
    if frame.drop (len - 4) ≠ fcsBytes data then d.cCount p 2
    else if numAt data 12 2 = 0x8808 then d.cCount p 5
    else
      let d := ((d.cCount p 0).cCount p 1 len).count 25 0x4A { cport := some p, bytes := len }
      let d := match ecc with
        | some (sel, idx, u) => d.feEcc (p / 8) sel idx u
        | none => d
      d.feFrame p data at_

end Sys2Proof.Machine
end

