-- ==== Sys2Proof/Machine/Tim.lean ====
section
/-! DEFINITION. The time unit, its inputs and output pulses, and the Thyme schedule up to the effects of
its entries (R366-R391). -/

namespace Sys2Proof.Machine

/-! The time unit. -/

/-- Capture the snapshot registers (R370, R390). -/
def Dev.snapshot (d : Dev) : Dev :=
  let d := (d.putNum R.TIM_SNAP_RAW_NS (d.raw % 2 ^ 32)).set F.TIM_SNAP_RAW_WRAP_WRAP (d.raw / 2 ^ 32)
  let d := (d.putNum R.TIM_SNAP_NET_NS (d.net % 2 ^ 32)).set F.TIM_SNAP_NET_WRAP_WRAP (d.net / 2 ^ 32)
  (d.putNum R.TIM_SNAP_SEC_LO (d.tim.sec % 2 ^ 32)).set F.TIM_SNAP_SEC_HI_SEC (d.tim.sec / 2 ^ 32)

/-- TIM_SEC_NEXT as one number. -/
def Dev.secNext (d : Dev) : Nat := d.get F.TIM_SEC_NEXT_WRAP_WRAP * 2 ^ 32 + d.get F.TIM_SEC_NEXT_NS_NS

/-- Replace TIM_SEC_NEXT. -/
def Dev.setSecNext (d : Dev) (v : Nat) : Dev :=
  (d.putNum R.TIM_SEC_NEXT_NS (v % 2 ^ 32)).set F.TIM_SEC_NEXT_WRAP_WRAP (v / 2 ^ 32 % 2 ^ 16)

/-- The signed distance from network time to an instant: behind by up to 2^33 ns, else ahead (log entry 6). -/
def Dev.netDist (d : Dev) (t : Nat) : Int :=
  if d.netReached t then (d.netAhead t : Int) - (if d.netAhead t = 0 then 0 else (twrap : Int)) else (d.netAhead t : Int)

/-- RATE with the clamp of R368, as a 32-bit word. -/
def clampRate (w : Nat) : Nat :=
  let r := signed 32 w
  let r := if 4294967 < r then 4294967 else if r < -4294967 then -4294967 else r
  (r % 2 ^ 32).toNat

/-- TIM_ADJ_STATUS at the end of an adjustment, with its events (R370, R372, R390). -/
def Dev.adjEnd (d : Dev) (op reason : Nat) (moved : Int) : Dev :=
  let m := if 32767 < moved then 32767 else if moved < -32767 then -32767 else moved
  let d := (((d.set F.TIM_ADJ_STATUS_STATE (if reason = 0 then 2 else 3)).set F.TIM_ADJ_STATUS_OP op).set
    F.TIM_ADJ_STATUS_REASON reason).set F.TIM_ADJ_STATUS_SEC_MOVED (m % 2 ^ 16).toNat
  let d := if reason = 0 && moved ≠ 0 then d.raise E.TIM_STEP_SEC else d
  if reason = 0 then d.raise E.TIM_ADJ_DONE else d.raise E.TIM_ADJ_ABORTED

/-- An adjustment from a master other than the active Sage core: a violation, ended NOT_SAGE (R370). -/
def Dev.adjNotSage (d : Dev) (op : Nat) (m : Master) : Dev :=
  let d := d.violate m (R.TIM_ADJ_CMD.addr 0 0) true
  (((d.set F.TIM_ADJ_STATUS_STATE 3).set F.TIM_ADJ_STATUS_OP op).set F.TIM_ADJ_STATUS_REASON 1).set F.TIM_ADJ_STATUS_SEC_MOVED 0

/-- The staged step, signed 48 bits (R370). -/
def Dev.stageStep (d : Dev) : Int :=
  signed 48 (d.get F.TIM_STAGE_WRAP_STEP_HI * 2 ^ 32 + d.get F.TIM_STAGE_NS_STEP_LO)

/-- Why a step is refused: 3 HORIZON, 4 BAD_SEC, 0 where it is not (R370). -/
def Dev.stepStop (d : Dev) (load : Bool) : Nat :=
  let s := d.stageStep
  let n1 := (((d.net : Int) + s) % (twrap : Int)).toNat
  let bnd := d.get F.TIM_STAGE_SECNEXT_WRAP_WRAP * 2 ^ 32 + d.get F.TIM_STAGE_SECNEXT_NS_NS
  let gap := (bnd + twrap - n1) % twrap
  if d.thy.ent.any (fun e => e.2.st = 1 && decide (((2 ^ 48 - 2 ^ 33 : Nat) : Int) < d.netDist e.2.at_ - s)) then 3
  else if load && (gap = 0 || decide (10 ^ 9 < gap)) then 4
  else 0

/-- A running train's next edge moves by whole periods to the first edge after network time (R385). -/
def Dev.alignTrains (d : Dev) : Dev :=
  (List.range 4).foldl (fun d i =>
    let p := SMap.get {} d.tim.pins i
    if p.train then
      let per := max 1 (d.num R.TIM_PPS_OUT_PERIOD i)
      let x := signed 48 ((p.nextNet + twrap - d.net) % twrap)
      let k := -((x - 1) / (per : Int))
      let nx := (((d.net : Int) + x + k * (per : Int)) % (twrap : Int)).toNat
      { d with tim := { d.tim with pins := SMap.set {} d.tim.pins i { p with nextNet := nx } } }
    else d) d

/-- Apply a step of network time, with its second count (R370-R372): answers how far TIM_SEC moved, and
whether the step cycle is a Thyme second. -/
def Dev.applyStep (d : Dev) (load : Bool) : Dev × Int × Bool :=
  let s := d.stageStep
  let r := d.netDist d.secNext - s
  let d := { d with tim := { d.tim with baseNet := (((d.tim.baseNet : Int) + s) % (twrap : Int)).toNat } }
  let d := d.alignTrains
  if load then
    let sec' : Nat := d.get F.TIM_STAGE_SEC_HI_SEC * 2 ^ 32 + d.get F.TIM_STAGE_SEC_LO_SEC
    let moved := (sec' : Int) - (d.tim.sec : Int)
    let d := d.setSecNext (d.get F.TIM_STAGE_SECNEXT_WRAP_WRAP * 2 ^ 32 + d.get F.TIM_STAGE_SECNEXT_NS_NS)
    let d := { d with tim := { d.tim with sec := sec' } }
    (d.set F.TIM_STATUS_SEC_ALIGNED 1, moved, false)
  else
    let j : Int := -((r - 1) / (10 ^ 9 : Int))
    let d := d.setSecNext (((d.secNext : Int) + j * 10 ^ 9) % (twrap : Int)).toNat
    let d := { d with tim := { d.tim with sec := (((d.tim.sec : Int) + j) % (twrap : Int)).toNat } }
    (d, j, decide (0 < j))

/-- The rebase and load of RATE (R370). -/
def Dev.loadRate (d : Dev) : Dev := d.rebase.putNum R.TIM_RATE (clampRate (d.num R.TIM_STAGE_RATE))

/-- RATE (R370): rebase, then load the staged rate. -/
def doRate (m : Master) (d : Dev) : Dev :=
  if d.isActive m then (d.loadRate.snapshot).adjEnd 2 0 0 else d.adjNotSage 2 m

/-- RAW_NS_WRAP (R366, R368): the nanosecond counter wraps; the unit rebases and network time is unchanged. -/
def doRawNsWrap (d : Dev) : Dev :=
  (d.advance (d.tim.clk + (2 ^ 32 - d.raw % 2 ^ 32))).rebase

/-! Time inputs (R373-R378). -/

/-- The servo's state changes (R373): the active core reports it, and raises SYNC_STATE. -/
def Dev.syncState (d : Dev) (st : Nat) : Dev :=
  if d.get F.TIM_SYNC_SYNC_STATE = st then d else (d.set F.TIM_SYNC_SYNC_STATE st).fwRaise 7

/-- The source is lost: HOLDOVER, once time has been taken (R373). -/
def Dev.holdover (d : Dev) (source : Nat) : Dev :=
  if d.get F.TIM_CTRL_SOURCE = source ∧ (d.get F.TIM_SYNC_SYNC_STATE = 1 ∨ d.get F.TIM_SYNC_SYNC_STATE = 2) then
    { d.syncState 3 with tim := { (d.syncState 3).tim with goodUpdates := 0, servoClk := d.tim.clk } }
  else d

/-- Distance of a stamp to the nearest Thyme-second boundary (R576, source 0x11). -/
def Dev.secOffset (d : Dev) (t : Nat) : Nat :=
  let x := (signed 48 ((t + twrap - d.secNext) % twrap)) % (10 ^ 9 : Int)
  min x.toNat ((10 ^ 9 : Int) - x).toNat

/-- PPS_IN_EDGE (R374): an active edge at clock `at_`. -/
def doPpsInEdge (at_ : Nat) (d : Dev) : Dev :=
  let d := d.advance at_
  if !d.on F.TIM_PPS_IN_CTRL_EN then d
  else
    let early := match d.tim.ppsClk with
      | some c => decide (at_ < c + ms 500)
      | none => false
    if early then (d.bump R.TIM_CNT_PPS_GLITCH).raise E.TIM_PPS_IN_GLITCH
    else
      let delay := signed 16 (d.get F.TIM_PPS_IN_CTRL_DELAY_NS)
      let stamp := (((d.netAt at_ : Int) - delay) % (twrap : Int)).toNat
      let d := if d.on F.TIM_PPS_IN_STATUS_VALID then d.set F.TIM_PPS_IN_STATUS_OVERRUN 1 else d
      let d := (d.set F.TIM_PPS_IN_STATUS_VALID 1).set F.TIM_PPS_IN_STATUS_EDGES (d.get F.TIM_PPS_IN_STATUS_EDGES + 1)
      let d := { d with tim := { d.tim with ppsClk := some at_, ppsStamp := stamp, ppsPaired := false } }
      ((d.set F.TIM_STATUS_PPS_IN_PRESENT 1).raise E.TIM_PPS_IN).sample 0x11 0 (d.secOffset stamp)

/-- PPS_IN_LOSS (R373, R374): no edge accepted for 1.5 s. -/
def doPpsInLoss (d : Dev) : Dev :=
  match d.tim.ppsClk with
  | some c =>
    if d.on F.TIM_STATUS_PPS_IN_PRESENT then
      (((d.advance (c + ms 1500)).set F.TIM_STATUS_PPS_IN_PRESENT 0).raise E.TIM_PPS_IN_LOSS).holdover 1
    else d
  | none => d

/-- TOD_IN_MESSAGE (R375): 20 bytes whose first start bit came at clock `start` and whose last stop bit at
`at_`. -/
def doTodInMessage (msg : Bytes) (start at_ : Nat) (d : Dev) : Dev :=
  let d := d.advance at_
  if !d.on F.TIM_TOD_CTRL_EN || msg.length ≠ 20 || numAt msg 0 2 ≠ 0xC33C then d
  else if numAt msg 2 1 ≠ 1 ∨ numAt msg 3 1 ≠ 20 ∨ crc16 (msg.take 18) ≠ numAt msg 18 2 then
    (d.bump R.TIM_CNT_TOD_BAD).raise E.TIM_TOD_BAD
  else
    let paired := match d.tim.ppsClk with
      | some c => decide (c + ms 10 ≤ start ∧ start ≤ c + ms 900) && !d.tim.ppsPaired
      | none => false
    let d := if paired then { d with tim := { d.tim with ppsPaired := true } }
      else (d.bump R.TIM_CNT_TOD_ORPHAN).raise E.TIM_TOD_ORPHAN
    let d := if d.on F.TIM_TOD_STATUS_VALID then d.set F.TIM_TOD_STATUS_OVERRUN 1 else d
    let d := ((d.set F.TIM_TOD_STATUS_VALID 1).flag F.TIM_TOD_STATUS_PAIRED paired).set F.TIM_TOD_STATUS_SEQ (numAt msg 16 2)
    let regs := [numAt msg 6 4, numAt msg 10 2 * 2 ^ 16 + numAt msg 4 2, numAt msg 12 4, d.netAt at_ % 2 ^ 32]
    ({ d with tim := { d.tim with tod := regs, todClk := some at_ } }).raise E.TIM_TOD_RX

/-- TOD_IN_LOSS (R373): no valid message for 3 s. -/
def doTodInLoss (d : Dev) : Dev :=
  match d.tim.todClk with
  | some c => (d.advance (c + sec 3)).holdover 1
  | none => d

/-- ANNOUNCE_RECEIPT_TIMEOUT (R373, R377). -/
def doAnnounceReceiptTimeout (d : Dev) : Dev := d.holdover 2

/-- TIMECLK_GATE (R376): an 8,388,608th rising edge at clock `at_`. -/
def doTimeclkGate (at_ : Nat) (d : Dev) : Dev :=
  let d := d.advance at_
  if !d.on F.TIM_CLK_CTRL_EN then d
  else
    let d := d.set F.TIM_STATUS_TIMECLK_PRESENT 1
    let d' := { d with tim := { d.tim with gateClk := some at_ } }
    match d.tim.gateClk with
    | some c => (d'.putNum R.TIM_CLK_MEAS (((at_ : Int) - (c : Int) - 838860800) % 2 ^ 32).toNat).set F.TIM_STATUS_CLK_MEAS_VALID 1
    | none => d'

/-- CLK_LOSS (R376): no TIMECLK_IN edge for 1 µs. -/
def doClkLoss (d : Dev) : Dev :=
  if d.on F.TIM_STATUS_TIMECLK_PRESENT then
    let d := { d with tim := { d.tim with gateClk := none } }
    (d.set F.TIM_STATUS_TIMECLK_PRESENT 0).raise E.TIM_CLK_LOSS
  else d

/-- PTP_SLAVE_MESSAGE (R373, R377): the active core takes record `index` of the exception buffer and its
servo arrives at an error estimate of `err` ns; the lock threshold is the image's, 100 ns by default. -/
def doPtpSlaveMessage (index err : Nat) (d : Dev) : Dev :=
  match d.active, d.fe.buf[index]? with
  | some _, some _ =>
    let d := { d with fe := { d.fe with buf := d.fe.buf.eraseIdx index } }
    if d.get F.TIM_CTRL_SOURCE ≠ 2 then d
    else
      let good := if err < 100 then d.tim.goodUpdates + 1 else 0
      let d := { d with tim := { d.tim with goodUpdates := good, servoClk := d.tim.clk } }
      let d := d.set F.TIM_SYNC_ERR_EST_NS (min err 0xFFFFFF)
      if 3 ≤ good ∧ (d.get F.TIM_SYNC_SYNC_STATE = 1 ∨ d.get F.TIM_SYNC_SYNC_STATE = 3) then d.syncState 2 else d
  | _, _ => d

/-- A transmit stamp enters its FIFO of 16 records (R378). -/
def Dev.txStamp (d : Dev) (port tag net : Nat) : Dev :=
  if d.tim.txs.length < 16 then
    let r : TxStamp := ⟨port, tag % 256, net, d.tim.txsLost⟩
    ({ d with tim := { d.tim with txs := d.tim.txs ++ [r], txsLost := false } }).set F.TIM_STATUS_TXS_PENDING 1
  else ({ d with tim := { d.tim with txsLost := true } }).raise E.TIM_TXS_OVF

/-- The word a register read answers goes out with the read (log entry 4). -/
def Dev.answer (d : Dev) (v : Nat) : Dev := d.emit (.read (BitVec.ofNat 32 v))

/-- SNAPSHOT_CAPTURE (R390): a read of TIM_SNAP_RAW_NS. -/
def Dev.snapRead (d : Dev) : Dev × Nat := (d.snapshot, d.raw % 2 ^ 32)

/-- A read of TIM_TXS_INFO (R390): the oldest record, its nanoseconds latched. -/
def Dev.txsRead (d : Dev) : Dev × Nat :=
  match d.tim.txs with
  | r :: rest =>
    let d := { d with tim := { d.tim with txs := rest } }
    ((d.putNum R.TIM_TXS_NS (r.net % 2 ^ 32)).flag F.TIM_STATUS_TXS_PENDING (!rest.isEmpty),
      2 ^ 31 + b2n r.ovf * 2 ^ 30 + r.port * 2 ^ 24 + r.tag * 2 ^ 16 + r.net / 2 ^ 32)
  | [] => (d, 0)

/-- A read of TIM_PPS_IN_STATUS (R390): VALID and OVERRUN clear, the stamp registers freeze. -/
def Dev.ppsRead (d : Dev) : Dev × Nat :=
  let w := d.num R.TIM_PPS_IN_STATUS
  let d := (d.putNum R.TIM_PPS_IN_NS (d.tim.ppsStamp % 2 ^ 32)).set F.TIM_PPS_IN_WRAP_WRAP (d.tim.ppsStamp / 2 ^ 32)
  ((d.set F.TIM_PPS_IN_STATUS_VALID 0).set F.TIM_PPS_IN_STATUS_OVERRUN 0, w)

/-- A read of TIM_TOD_STATUS (R390). -/
def Dev.todRead (d : Dev) : Dev × Nat :=
  let w := d.num R.TIM_TOD_STATUS
  let g i := d.tim.tod.getD i 0
  let d := (((d.putNum R.TIM_TOD_SEC_LO (g 0)).putNum R.TIM_TOD_SEC_HI (g 1)).putNum R.TIM_TOD_INFO (g 2)).putNum R.TIM_TOD_RX_NS (g 3)
  ((d.set F.TIM_TOD_STATUS_VALID 0).set F.TIM_TOD_STATUS_OVERRUN 0, w)

/-- SNAPSHOT_CAPTURE. -/
def doSnapshotCapture (d : Dev) : Dev := d.snapRead.1.answer d.snapRead.2
/-- TXS_FIFO_READ. -/
def doTxsFifoRead (d : Dev) : Dev := d.txsRead.1.answer d.txsRead.2
/-- PPS_IN_STATUS_READ. -/
def doPpsInStatusRead (d : Dev) : Dev := d.ppsRead.1.answer d.ppsRead.2
/-- TOD_STATUS_READ. -/
def doTodStatusRead (d : Dev) : Dev := d.todRead.1.answer d.todRead.2

/-! Output pulses (R385). -/

/-- Change a pin. -/
def Dev.pinUpd (d : Dev) (i : Nat) (f : PinSt → PinSt) : Dev :=
  { d with tim := { d.tim with pins := SMap.upd {} d.tim.pins i f } }

/-- RUNNING of a pin: a train or a pulse is active. -/
def Dev.pinShow (d : Dev) (i : Nat) : Dev :=
  let p := SMap.get {} d.tim.pins i
  d.flag F.TIM_PPS_OUT_CTRL_RUNNING (p.train || p.pulse) i

/-- A leading edge on a pin at the present cycle: a pulse of WIDTH_US begins, in PERIODIC mode no longer than
half a period. -/
def Dev.pulseBegin (d : Dev) (i : Nat) : Dev :=
  let w := us (max 1 (d.get F.TIM_PPS_OUT_CTRL_WIDTH_US i))
  let w := if d.get F.TIM_PPS_OUT_CTRL_MODE i = 1 then min w (d.num R.TIM_PPS_OUT_PERIOD i / 2) else w
  let d := (d.pinUpd i (fun p => { p with pulse := true, endClk := d.tim.clk + w })).pinShow i
  if d.rst.pinsOn then d.emit (.pps i true) else d

/-- A pulse on a pin ends. -/
def Dev.pulseStop (d : Dev) (i : Nat) : Dev :=
  if (SMap.get {} d.tim.pins i).pulse then
    let d := (d.pinUpd i (fun p => { p with pulse := false })).pinShow i
    if d.rst.pinsOn then d.emit (.pps i false) else d
  else d

/-- PULSE_EDGE (R385): a running train reaches its next leading edge. -/
def doPulseEdge (pin : Nat) (d : Dev) : Dev :=
  let i := pin % 4
  let p := SMap.get {} d.tim.pins i
  if p.train then
    let d := (d.advance (d.netReach p.nextNet)).pulseBegin i
    d.pinUpd i (fun q => { q with nextNet := (p.nextNet + d.num R.TIM_PPS_OUT_PERIOD i) % twrap })
  else d

/-- PULSE_END (R385). -/
def doPulseEnd (pin : Nat) (d : Dev) : Dev :=
  let i := pin % 4
  let p := SMap.get {} d.tim.pins i
  if p.pulse then (d.advance p.endClk).pulseStop i else d

/-- PPS_OUT_CTRL_WRITE (R385, R390): MODE 3 is ignored; a change of MODE stops the train and ends the pulse. -/
def doPpsOutCtrlWrite (pin value : Nat) (d : Dev) : Dev :=
  let i := pin % 4
  let old := d.get F.TIM_PPS_OUT_CTRL_MODE i
  let new := nbits value 31 30
  let d := (d.set F.TIM_PPS_OUT_CTRL_POLARITY (nbits value 29 29) i).set F.TIM_PPS_OUT_CTRL_WIDTH_US (nbits value 19 0) i
  if new = 3 ∨ new = old then d
  else
    let d := (d.pulseStop i).set F.TIM_PPS_OUT_CTRL_MODE new i
    (d.pinUpd i (fun p => { p with train := false, modeGen := p.modeGen + 1 })).pinShow i

/-! The Thyme schedule (R379-R384). -/

/-- Change an entry. -/
def Dev.thyUpd (d : Dev) (k : Nat) (f : ThyEnt → ThyEnt) : Dev :=
  { d with thy := { d.thy with ent := SMap.upd {} d.thy.ent k f } }

/-- A result enters THY_DONE_FIFO of 256 records (R384). -/
def Dev.thyPush (d : Dev) (r : ThyRec) : Dev :=
  if d.thy.fifo.length < 256 then { d with thy := { d.thy with fifo := d.thy.fifo ++ [r] } }
  else (d.set F.THY_STATUS_FIFO_OVF 1).raise E.THY_FIFO_OVF

/-- An entry ends (R381-R383): reason 0 is DONE, another ABORTED.  The result of a firing is counted in THY_CNT_DONE, and the
firing is an occurrence, whichever way it ends the entry (R381, R478). -/
def Dev.thyEnd (d : Dev) (k reason count missed : Nat) (stepped fired : Bool) : Dev :=
  let e := SMap.get {} d.thy.ent k
  let d := d.thyUpd k (fun e => { e with st := if reason = 0 then 2 else 3, stepped := stepped, reason := reason,
                                         count := count, missed := missed, endNet := d.net, endClk := d.tim.clk })
  let d := d.thyPush ⟨reason ≠ 0, stepped, e.action, k, e.ticket, reason, count⟩
  let d := d.bump (if fired then R.THY_CNT_DONE else R.THY_CNT_ABORTED)
  if reason = 0 then d.raise E.THY_DONE
  else (if fired then d.occur 0 E.THY_DONE.src E.THY_DONE.bit (d.num R.THY_EVT_STATUS) else d).raise E.THY_ABORTED

/-- THY_CMD_STATUS (R391). -/
def Dev.thyStatus (d : Dev) (st ab op reason entry : Nat) : Dev :=
  ((((d.set F.THY_CMD_STATUS_STATE st).set F.THY_CMD_STATUS_ABORT_RESULT ab).set F.THY_CMD_STATUS_OP op).set
    F.THY_CMD_STATUS_REASON reason).set F.THY_CMD_STATUS_ENTRY entry

/-- The lowest FREE entry (R379). -/
def Dev.thyFree (d : Dev) : Option Nat :=
  (List.range 4096).find? (fun k => (SMap.get ({} : ThyEnt) d.thy.ent k).st = 0)

/-- The inactive bound bank takes no writes, and no second BOUND_SWITCH is taken, until the copy has ended
(R239). -/
def Dev.boundLocked (d : Dev) : Bool := d.thyPending 5 || d.fe.copyWait || d.fe.copyBusy

/-- Why a WRITE is refused, by the reason codes of R391, 0 where it is not (R379, R380). -/
def Dev.thyStop (d : Dev) : Nat :=
  let a := d.get F.THY_STAGE_ACTION_ACTION
  let arg := d.num R.THY_STAGE_ARG
  let inst := d.get F.THY_STAGE_AT_WRAP_WRAP * 2 ^ 32 + d.num R.THY_STAGE_AT_NS
  let ahead := d.netAhead inst
  let lead := if a = 1 ∨ a = 5 then us 100 else us 10
  let badArg := match a with
    | 1 => decide (2 ^ 16 ≤ arg)
    | 2 => decide (1023 < arg)
    | 3 => decide (1023 < arg)
    | 4 => decide (1023 < arg)
    | 5 => decide (arg ≠ 0)
    | 6 => decide (3 < arg)
    | 7 => decide (3 < arg)
    | 8 => decide (3 < arg)
    | _ => false
  if a = 0 ∨ 9 < a then 3
  else if badArg then 4
  else if a = 1 ∧ (!d.staged ∨ d.get F.FE_VER_STAGED_VERSION ≠ arg) then 8
  else if a = 1 ∧ d.thyPending 1 then 9
  else if a = 1 ∧ d.get F.FE_VER_CURRENT_VERSION ≠ 0 ∧ ahead + (d.net + twrap - d.fe.commitNet) % twrap < ms 1 then 10
  else if a = 5 ∧ d.thyPending 5 then 9
  else if a = 6 ∧ d.get F.TIM_PPS_OUT_CTRL_MODE arg ≠ 2 then 15
  else if a = 7 ∧ d.get F.TIM_PPS_OUT_CTRL_MODE arg ≠ 1 then 15
  else if ahead < lead then 5
  else if 2 ^ 48 - 2 ^ 33 < ahead then 6
  else if d.thyFree = none then 7
  else 0

/-- A Thyme command from a master other than the active core (R379): a violation, ended NOT_SAGE. -/
def Dev.thyNotSage (d : Dev) (op : Nat) (m : Master) : Dev :=
  (d.violate m (R.THY_CMD.addr 0 0) true).thyStatus 3 0 op 1 0

/-- THY_WRITE (R379, R380): place a pending entry or refuse it. -/
def doThyWrite (m : Master) (d : Dev) : Dev :=
  if !d.isActive m then d.thyNotSage 1 m
  else
    match d.thyStop, d.thyFree with
    | 0, some k =>
      let t := (d.thy.ticket + 1) % 2 ^ 16
      let a := d.get F.THY_STAGE_ACTION_ACTION
      let arg := d.num R.THY_STAGE_ARG
      let e : ThyEnt := { st := 1, late := d.on F.THY_STAGE_ACTION_LATE_ABORT, action := a, ticket := t,
                          at_ := d.get F.THY_STAGE_AT_WRAP_WRAP * 2 ^ 32 + d.num R.THY_STAGE_AT_NS, arg := arg,
                          gen := (SMap.get ({} : PinSt) d.tim.pins (arg % 4)).modeGen }
      let d := { d with thy := { d.thy with ticket := t, ent := SMap.set {} d.thy.ent k e } }
      (d.putNum R.THY_CMD_TICKET t).thyStatus 2 0 1 0 k
    | r, _ => ((d.bump R.THY_CNT_REFUSED).raise E.THY_REFUSED).thyStatus 3 0 1 r 0

/-- THY_ABORT (R383, R388): an abort in the firing cycle or later is too late. -/
def doThyAbort (ticket : Nat) (m : Master) (d : Dev) : Dev :=
  if !d.isActive m then d.thyNotSage 2 m
  else
    let d := d.abortReq E.THY_ABORTED
    let t := ticket % 2 ^ 16
    match d.thy.ent.find? (fun e => e.2.st = 1 && e.2.ticket = t) with
    | some e =>
      if d.netReached e.2.at_ then d.thyStatus 2 2 2 0 e.1
      else (d.thyEnd e.1 11 0 0 false false).thyStatus 2 1 2 0 e.1
    | none =>
      match d.thy.ent.find? (fun e => e.2.st ≠ 0 && e.2.ticket = t) with
      | some e => d.thyStatus 2 2 2 0 e.1
      | none => d.thyStatus 2 3 2 0 0

/-- THY_RELEASE (R383): free an ended entry at once. -/
def doThyRelease (entry : Nat) (m : Master) (d : Dev) : Dev :=
  if !d.isActive m then d.thyNotSage 3 m
  else
    let k := entry % 4096
    if 2 ≤ (SMap.get ({} : ThyEnt) d.thy.ent k).st then (d.thyUpd k (fun _ => {})).thyStatus 2 0 3 0 k
    else d.thyStatus 3 0 3 14 k

/-- ENTRY_HOLD_EXPIRY (R383): an ended entry becomes FREE HOLD_MS after it ended. -/
def doEntryHoldExpiry (entry : Nat) (d : Dev) : Dev :=
  let k := entry % 4096
  let e := SMap.get ({} : ThyEnt) d.thy.ent k
  if 2 ≤ e.st then (d.advance (e.endClk + ms (d.get F.THY_CTRL_HOLD_MS))).thyUpd k (fun _ => {}) else d

/-- A read of THY_DONE_FIFO (R384): the oldest result. -/
def Dev.thyRead (d : Dev) : Dev × Nat :=
  match d.thy.fifo with
  | r :: rest =>
    let d := { d with thy := { d.thy with fifo := rest } }
    let d := (d.putNum R.THY_DONE_TICKET (r.reason * 2 ^ 24 + r.ticket)).set F.THY_DONE_COUNT_COUNT r.count
    (if rest.isEmpty then d.set F.THY_STATUS_FIFO_OVF 0 else d,
      2 ^ 31 + b2n r.aborted * 2 ^ 30 + b2n r.stepped * 2 ^ 29 + r.action * 2 ^ 20 + r.entry)
  | [] => (d, 0)

/-- THY_DONE_FIFO_READ (R384). -/
def doThyDoneFifoRead (d : Dev) : Dev := d.thyRead.1.answer d.thyRead.2

/-- The earliest pending entry, the lowest among equal instants (R391). -/
def Dev.thyNext (d : Dev) : Option (Nat × ThyEnt) :=
  (d.thy.ent.filter (fun e => e.2.st = 1)).foldl (fun best e =>
    match best with
    | some b => if d.netDist e.2.at_ < d.netDist b.2.at_ then some e else best
    | none => some e) none

/-- The words of a Thyme entry through the window (R389). -/
def Dev.thyWords (d : Dev) (k : Nat) : List Nat :=
  let e := SMap.get ({} : ThyEnt) d.thy.ent k
  [e.st * 2 ^ 30 + b2n e.late * 2 ^ 29 + b2n e.stepped * 2 ^ 28 + e.action * 2 ^ 20 + e.ticket, e.at_ / 2 ^ 32,
   e.at_ % 2 ^ 32, e.arg, e.reason * 2 ^ 24 + e.count, e.missed, e.endNet / 2 ^ 32, e.endNet % 2 ^ 32]

end Sys2Proof.Machine
end

