-- ==== Sys2Proof/Machine/Mint.lean ====
section
/-! DEFINITION. Mint: noise sources, health tests, the pool, the DRBG and its consumers (R459-R477). -/

namespace Sys2Proof.Machine

/-! Views of the state. -/

def Dev.src (d : Dev) (n : Nat) : NoiseSrc := SMap.get {} d.mint.src n
def Dev.mgen (d : Dev) (g : Nat) : MaskGen := SMap.get {} d.cip.gen g
def Dev.setMgen (d : Dev) (g : Nat) (m : MaskGen) : Dev := { d with cip := { d.cip with gen := SMap.set {} d.cip.gen g m } }

/-- The fields of a source in MNT_SRC_STATUS: STATE, CONSEC. -/
def srcStateF (n : Nat) : Fld := ⟨R.MNT_SRC_STATUS, 8 * n + 7, 8 * n + 6⟩
def srcConsecF (n : Nat) : Fld := ⟨R.MNT_SRC_STATUS, 8 * n + 5, 8 * n + 3⟩

/-- Replace a source and show it (R476). -/
def Dev.setSrc (d : Dev) (n : Nat) (s : NoiseSrc) : Dev :=
  let d := { d with mint := { d.mint with src := SMap.set {} d.mint.src n s } }
  let d := (d.set (srcStateF n) s.st).set (srcConsecF n) (min 4 s.fails.length)
  d.set F.MNT_STATUS_HEALTHY (((List.range 4).filter (fun k => (d.src k).st = 1)).length)

/-- Show the level of the pool. -/
def Dev.poolShow (d : Dev) : Dev :=
  (d.set F.MNT_STATUS_POOL d.mint.pool.length).set F.MNT_POOL_STATUS_LEVEL d.mint.pool.length

/-- Show the generators that wait for a reseed or have stopped (R476). -/
def Dev.maskShow (d : Dev) : Dev :=
  let w := (d.cip.gen.filter (fun e => e.2.pending)).length
  let s := (d.cip.gen.filter (fun e => e.2.stopped)).length
  let d := (d.set F.MNT_MASK_PENDING_WAITING w).set F.MNT_MASK_PENDING_STOPPED s
  (List.range 8).foldl (fun d k =>
    let bits (p : MaskGen → Bool) : Nat := ((List.range 16).map (fun g => b2n (p (d.mgen (k * 16 + g))) * 2 ^ g)).foldl (· + ·) 0
    let d := (d.set F.CIP_MASK_STATUS_RESEED_PENDING (bits (·.pending)) k).set F.CIP_MASK_STATUS_STOPPED (bits (·.stopped)) k
    let d := (d.flag F.CIP_STATUS_MASK_LOW (bits (·.pending) ≠ 0) k).flag F.CIP_STATUS_MASK_STARVED (bits (·.stopped) ≠ 0) k
    let seeded := bits (·.seeded)
    let d := (d.set F.CIP_PIPE_STATUS_TX_SEEDED (seeded % 256) k).set F.CIP_PIPE_STATUS_RX_SEEDED (seeded / 256) k
    d.flag F.CIP_STATUS_READY (seeded = 0xFFFF && d.on F.SAT_STATUS_READY k) k) d

/-- The generators of the line front ends' envelope engines are all seeded: ENGINE_READY (R293). -/
def Dev.engineShow (d : Dev) : Dev :=
  (List.range 4).foldl (fun d n =>
    d.flag F.LFE_STATUS_ENGINE_READY ((List.range 28).all (fun p => (d.mgen (128 + n * 28 + p)).seeded)) n) d

/-- A request enters Mint's queue (R469). -/
def Dev.mintAsk (d : Dev) (prio kind idx words : Nat) : Dev :=
  { d with mint := { d.mint with reqs := d.mint.reqs ++ [⟨prio, kind, idx, words, d.tim.clk⟩] } }

/-- A mask generator asks for a seed, once at a time (R165). -/
def Dev.maskAsk (d : Dev) (g : Nat) : Dev :=
  let m := d.mgen g
  if m.pending then d
  else ((d.setMgen g { m with pending := true, askClk := d.tim.clk }).mintAsk 1 0 g 8).maskShow

/-- The personalisation string PERS (R465). -/
def Dev.pers (d : Dev) : Bytes := kdf (Config.deviceSecret 0) (ascii "SQ2MINTP" ++ beBytes 8 d.fuse.serial) 48

/-! Noise sources. -/

/-- Bytes as samples, first sample first (R459). -/
def samplesOf (bs : Bytes) : List Bool := bs.flatMap (fun b => (List.range 8).map (fun i => b.getLsbD (7 - i)))

/-- The repetition count over samples, from the last sample and its run: last, run, longest run (R461). -/
def repCount (last : Bool) (run : Nat) (xs : List Bool) : Bool × Nat × Nat :=
  xs.foldl (fun a x => if x == a.1 then (x, a.2.1 + 1, max a.2.2 (a.2.1 + 1)) else (x, 1, max a.2.2 1)) (last, run, run)

/-- Occurrences of the first sample's value (R461). -/
def propCount (xs : List Bool) : Nat :=
  match xs with
  | x :: _ => (xs.filter (· == x)).length
  | [] => 0

/-- Do samples pass both tests, with a proportion cutoff? -/
def healthOk (s : NoiseSrc) (cut : Nat) (xs : List Bool) : Bool :=
  decide ((repCount s.last s.run xs).2.2 < 81) && decide (propCount xs < cut)

/-- A source's run state after samples. -/
def NoiseSrc.ran (s : NoiseSrc) (xs : List Bool) : NoiseSrc :=
  { s with last := (repCount s.last s.run xs).1, run := (repCount s.last s.run xs).2.1 }

/-- The restart of source `n` ends: its RESTART bit returns to 0 (R13, R476). -/
def Dev.restarted (d : Dev) (n : Nat) : Dev :=
  d.set F.MNT_SRC_CTRL_RESTART (d.get F.MNT_SRC_CTRL_RESTART - d.get F.MNT_SRC_CTRL_RESTART / 2 ^ n % 2 * 2 ^ n)

/-- A health-test failure (R463, R464): counted, and the source restarts, or dies at the fourth consecutive
failure within one second. -/
def Dev.htFail (d : Dev) (n : Nat) : Dev :=
  let s := d.src n
  let fails := (d.tim.clk :: s.fails).take 4
  let dead := fails.length = 4 && decide (d.tim.clk < fails.getLastD 0 + sec 1)
  let d := d.setSrc n { s with st := if dead then 3 else 2, fails := fails, run := 0, sec := s.sec + 1 }
  let d := (d.bump R.MNT_CNT_HT_FAIL n).raise E.MNT_HT_FAIL
  let d := if dead then d.restarted n else d
  if dead then d.raise E.MNT_MINT_FATAL else d

/-- Samples of a source under injection come from its FIFO (R474); none where it stalls. -/
def Dev.takeSamples (d : Dev) (n : Nat) (given : Bytes) (words : Nat) : Option (Dev × Bytes) :=
  if bit (d.get F.MNT_TEST_CTRL_INJECT) n then
    let s := d.src n
    if words ≤ s.fifo.length then
      let d := d.setSrc n { s with fifo := s.fifo.drop words }
      some (d.set F.MNT_TEST_CTRL_FIFO_LEVEL (d.get F.MNT_TEST_CTRL_FIFO_LEVEL - words), wordsToBytes (s.fifo.take words))
    else none
  else if given.length = words * 4 then some (d, given)
  else none

/-- Samples of a captured source go to MNT_RAW_CAPTURE, 16 at a time (R474). -/
def Dev.capture (d : Dev) : Bytes → Dev
  | a :: b :: rest =>
    let d := { d with mint := { d.mint with cap := some (beNat [a, b]), capOvf := d.mint.capOvf || d.mint.cap.isSome } }
    d.capture rest
  | _ => d

/-- NOISE_BLOCK_COMPLETE (R459-R463, R474): a block of 1,024 samples of a source in RUN; a captured source's
samples may come in smaller runs. -/
def doNoiseBlockComplete (source : Nat) (samples : Bytes) (d : Dev) : Dev :=
  let n := source % 4
  let s := d.src n
  if s.st ≠ 1 ∨ !bit (d.get F.MNT_SRC_CTRL_EN) n ∨ d.mint.erased then d
  else if d.on F.MNT_TEST_CTRL_CAPTURE_EN ∧ d.get F.MNT_TEST_CTRL_CAPTURE_SRC = n then d.capture samples
  else match d.takeSamples n samples 32 with
  | none => d
  | some (d, bs) =>
    let xs := samplesOf bs
    let s := d.src n
    if !healthOk s 832 xs then d.htFail n
    else
      let d := d.setSrc n { s.ran xs with fails := [] }
      let cond := sha384 (beBytes 1 n ++ bs)
      let full := 8 ≤ d.mint.pool.length
      let d := { d with mint := { d.mint with pool := (if full then d.mint.pool.drop 1 else d.mint.pool) ++ [(n, cond)] } }
      let d := if full then d.bump R.MNT_CNT_POOL_DROP else d
      let d := if bit (d.get F.MNT_TEST_CTRL_INJECT) n then { d with mint := { d.mint with testOut := bytesToWords cond } } else d
      ((d.bump R.MNT_CNT_BLOCKS).set F.MNT_POOL_STATUS_SRC_LAST n).poolShow

/-- NOISE_SAMPLE_TEST_FAILURE (R463): a test fails on a sample within a block of a source in RUN. -/
def doNoiseSampleTestFailure (source : Nat) (d : Dev) : Dev :=
  let n := source % 4
  if (d.src n).st = 1 then d.htFail n else d

/-- STARTUP_TEST_DONE (R462): 1,024 samples of a source in its start-up test. -/
def doStartupTestDone (source : Nat) (samples : Bytes) (d : Dev) : Dev :=
  let n := source % 4
  if (d.src n).st ≠ 0 ∨ !bit (d.get F.MNT_SRC_CTRL_EN) n then d
  else match d.takeSamples n samples 32 with
  | none => d
  | some (d, bs) =>
    let xs := samplesOf bs
    if healthOk { d.src n with run := 0 } 832 xs then d.setSrc n { (d.src n).ran xs with st := 1 }
    else d.htFail n

/-- SOURCE_RESTART_DONE (R463): the restart test of 256 samples ends. -/
def doSourceRestartDone (source : Nat) (samples : Bytes) (d : Dev) : Dev :=
  let n := source % 4
  if (d.src n).st ≠ 2 then d
  else match d.takeSamples n samples 8 with
  | none => d
  | some (d, bs) =>
    let xs := samplesOf bs
    if healthOk { d.src n with run := 0 } 233 xs then (d.setSrc n { (d.src n).ran xs with st := 1 }).restarted n
    else d.htFail n

/-! The DRBG. -/

/-- The generators whose unit is not held in reset (R469). -/
def Dev.genUp (d : Dev) (g : Nat) : Bool :=
  if g < 128 then !d.domHeld (g / 64)
  else if g < 240 then !d.domHeld ((g - 128) / 56)
  else !d.domHeld ((g - 240) / 72)

/-- DRBG_INSTANTIATE (R465, R474): from the first conditioned block in the pool. -/
def doDrbgInstantiate (d : Dev) : Dev :=
  match d.mint.drbg, d.mint.pool with
  | none, b :: rest =>
    if d.mint.erased then d
    else
      let pers := if d.mint.zeroPers then zeros 48 else d.pers
      let d := { d with mint := { d.mint with drbg := some (drbgStart b.2 pers), pool := rest, served := 0, reseedClk := d.tim.clk } }
      let d := (d.poolShow).set F.MNT_DRBG_STATUS_REQS_SINCE 0
      let d := if d.mint.settling || d.mint.zeroPers then
          ((List.range 384).filter d.genUp).foldl Dev.maskAsk d
        else d
      if d.mint.zeroPers then d.set F.MNT_STATUS_STATE 5
      else if d.mint.settling then d
      else (d.set F.MNT_STATUS_STATE 1).raise E.MNT_READY
  | _, _ => d

/-- Is a reseed due (R466)? -/
def Dev.reseedDue (d : Dev) : Bool :=
  d.mint.reseedCmd || decide (2 ^ (max 10 (min 19 (d.get F.MNT_RESEED_CFG_SOFT_LOG2))) ≤ d.mint.served)
    || decide (d.mint.reseedClk + ms (max 1 (d.get F.MNT_RESEED_CFG_RESEED_MS)) ≤ d.tim.clk)

/-- STARVED ends, with the cycles in which a request waited (R467). -/
def Dev.unstarve (d : Dev) : Dev :=
  match d.mint.starved with
  | some c =>
    let d := if d.mint.reqs.isEmpty then d else d.bump R.MNT_CNT_STARVED 0 0 (d.tim.clk - c)
    { d with mint := { d.mint with starved := none } }.set F.MNT_STATUS_STATE (if d.mint.zeroPers then 5 else 1)
  | none => d

/-- MNT_CMD_STATUS (R476). -/
def Dev.mntStatus (d : Dev) (st op reason : Nat) : Dev :=
  ((d.set F.MNT_CMD_STATUS_STATE st).set F.MNT_CMD_STATUS_OP op).set F.MNT_CMD_STATUS_REASON reason

/-- A reseed from the oldest pool block (R466). -/
def Dev.reseed (d : Dev) : Dev :=
  match d.mint.drbg, d.mint.pool with
  | some g, b :: rest =>
    let cmd := d.mint.reseedCmd
    let d := { d with mint := { d.mint with drbg := some (drbgReseed g b.2), pool := rest, served := 0, reseedClk := d.tim.clk, reseedCmd := false } }
    let d := ((d.poolShow).set F.MNT_DRBG_STATUS_REQS_SINCE 0).bump R.MNT_CNT_RESEED
    let d := (d.unstarve).raise E.MNT_RESEED
    if cmd && d.get F.MNT_CMD_STATUS_OP = 3 then d.mntStatus 2 3 0 else d
  | _, _ => d

/-- MINT_RESEED (R466): at a request boundary with a pool block, a due reseed is made. -/
def doMintReseed (d : Dev) : Dev := if d.reseedDue then d.reseed else d

/-- RESEED_TIMER (R466): RESEED_MS pass since the last reseed, and a reseed becomes due. -/
def doReseedTimer (d : Dev) : Dev :=
  if d.mint.drbg.isSome then d.advance (d.mint.reseedClk + ms (max 1 (d.get F.MNT_RESEED_CFG_RESEED_MS))) else d

/-- The next request by priority, the oldest within one (R469). -/
def nextReq (rs : List MintReq) : Option MintReq :=
  match rs.find? (·.prio = 1) with
  | some r => some r
  | none => match rs.find? (·.prio = 2) with
    | some r => some r
    | none => rs.head?

/-- A mask seed arrives at a generator (R165). -/
def Dev.maskSeed (d : Dev) (g : Nat) (seed : Bytes) (asked : Nat) : Dev :=
  let wait := d.tim.clk - asked
  let d := d.setMgen g { seed := seed, seeded := true }
  let d := if g < 128 then d.bump R.CIP_CNT_RESEED (g / 16) else d
  let d := d.putNum R.MNT_MASK_WAIT_MAX (max (d.num R.MNT_MASK_WAIT_MAX) (min 0xFFFFFFFF wait))
  ((d.maskShow).engineShow).sample 0x12 0 wait

/-- The output of a request reaches its consumer (R469, R471). -/
def Dev.mintDeliver (d : Dev) (r : MintReq) (out : Bytes) : Dev :=
  match r.kind with
  | 0 => (d.maskSeed r.idx out r.clk).bump R.MNT_CNT_MASK_SEED
  | 1 =>
    let l := SMap.get {} d.sat.sl r.idx
    let d := { d with sat := { d.sat with sl := SMap.set {} d.sat.sl r.idx { l with mask := out } } }
    ((d.set F.SAT_STATUS_READY 1 r.idx).maskShow).bump R.MNT_CNT_KEY_REQ
  | 2 => { d with bay := { d.bay with newKey := SMap.set [] d.bay.newKey r.idx out } }.bump R.MNT_CNT_KEY_REQ
  | 3 =>
    let d := { d with mint := { d.mint with keyOut := bytesToWords out } }
    ((d.set F.MNT_OUT_STATUS_KEY_WORDS r.words).mntStatus 2 1 0).bump R.MNT_CNT_KEY_REQ
  | _ =>
    let d := { d with mint := { d.mint with randOut := bytesToWords out } }
    ((d.set F.MNT_OUT_STATUS_RAND_WORDS r.words).mntStatus 2 2 0).bump R.MNT_CNT_SAGE_REQ

/-- READY is reported again once every generator is reseeded (R474). -/
def Dev.settle (d : Dev) : Dev :=
  if d.mint.settling && !d.mint.zeroPers && d.mint.reqs.all (fun r => r.kind ≠ 0) && d.mint.drbg.isSome then
    ({ d with mint := { d.mint with settling := false } }.set F.MNT_STATUS_STATE 1).raise E.MNT_READY
  else d

/-- MINT_REQUEST_SERVE (R466, R467, R469, R473): a reseed that is due and possible is made first; then the next
request is served, unless the hard limit has been reached. -/
def doMintRequestServe (d : Dev) : Dev :=
  if d.mint.erased then d
  else
    let d := if d.reseedDue then d.reseed else d
    match d.mint.drbg, nextReq d.mint.reqs with
    | some g, some r =>
      if 2 ^ 20 ≤ d.mint.served then
        if (List.range 4).all (fun n => (d.src n).st = 3) then d.set F.MNT_STATUS_STATE 3
        else if d.mint.starved.isSome then d
        else ({ d with mint := { d.mint with starved := some d.tim.clk } }.set F.MNT_STATUS_STATE 2).raise E.MNT_STARVED
      else if d.get F.MNT_STATUS_STATE = 3 then d
      else
        let o := drbgGen g (r.words * 4)
        let d := { d with mint := { d.mint with drbg := some o.1, reqs := d.mint.reqs.erase r, served := d.mint.served + 1 } }
        let d := (d.set F.MNT_DRBG_STATUS_REQS_SINCE d.mint.served).count 28 0x59 {}
        (d.mintDeliver r o.2).settle
    | _, _ => d

/-! Commands of the Sage cores (R471, R474, R476). -/

/-- Is the master a Sage core? -/
def Master.sage (m : Master) : Bool := m == .sageA || m == .sageB

/-- A KEY or RAND command: refused BUSY, NOT_READY or LENGTH, else it waits for its service. -/
def Dev.mntAsk (d : Dev) (op words lo : Nat) (m : Master) : Dev :=
  if !m.sage then (d.violate m (R.MNT_CMD.addr 0 0) true).mntStatus 3 op 2
  else
    let busy := d.get F.MNT_CMD_STATUS_STATE = 1 || !(if op = 1 then d.mint.keyOut else d.mint.randOut).isEmpty
    if busy then d.mntStatus 3 op 1
    else if d.mint.erased ∨ d.get F.MNT_STATUS_STATE = 3 then d.mntStatus 3 op 3
    else if words < lo ∨ 16 < words then d.mntStatus 3 op 4
    else ((if op = 1 then d.mintAsk 2 3 0 words else d.mintAsk 3 4 0 words)).mntStatus 1 op 0

/-- MNT_CMD KEY (R471). -/
def doMntCmdKey (words : Nat) (m : Master) (d : Dev) : Dev := d.mntAsk 1 (words % 32) 8 m
/-- MNT_CMD RAND (R471). -/
def doMntCmdRand (words : Nat) (m : Master) (d : Dev) : Dev := d.mntAsk 2 (words % 32) 1 m

/-- MNT_CMD RESEED (R466): pending until a reseed is made. -/
def doMntCmdReseed (m : Master) (d : Dev) : Dev :=
  if !m.sage then (d.violate m (R.MNT_CMD.addr 0 0) true).mntStatus 3 3 2
  else if d.get F.MNT_CMD_STATUS_STATE = 1 then d.mntStatus 3 3 1
  else if d.mint.erased ∨ d.get F.MNT_STATUS_STATE = 3 then d.mntStatus 3 3 3
  else { d with mint := { d.mint with reseedCmd := true } }.mntStatus 1 3 0

/-- May a master use the factory facilities of R474 (`capture`: also principal 1, and in FIELD_RETURN)? -/
def Dev.testMay (d : Dev) (m : Master) (capture : Bool) : Bool :=
  m.sage || d.principal m = some 0 || (capture && d.principal m = some 1)

/-- MNT_CMD KAT (R474): 512 bits from the test instance. -/
def doMntCmdKat (m : Master) (d : Dev) : Dev :=
  if !d.testMay m false then (d.violate m (R.MNT_CMD.addr 0 0) true).mntStatus 3 4 2
  else if d.fuse.lcs ≠ 0 then d.mntStatus 3 4 5
  else match d.mint.kat with
  | some g =>
    let o := drbgGen g 64
    { d with mint := { d.mint with kat := some o.1, testOut := bytesToWords o.2 } }.mntStatus 2 4 0
  | none => d.mntStatus 3 4 3

/-- A read of MNT_KEY_OUT (R471): the next word, erased. -/
def Dev.keyOutRead (d : Dev) (m : Master) : Dev × Nat :=
  if !m.sage then (d.violate m (R.MNT_KEY_OUT.addr 0 0) false, 0)
  else match d.mint.keyOut with
  | w :: rest => ({ d with mint := { d.mint with keyOut := rest } }.set F.MNT_OUT_STATUS_KEY_WORDS rest.length, w)
  | [] => (d, 0)

/-- A read of MNT_RAND_OUT (R471). -/
def Dev.randOutRead (d : Dev) (m : Master) : Dev × Nat :=
  if !m.sage then (d.violate m (R.MNT_RAND_OUT.addr 0 0) false, 0)
  else match d.mint.randOut with
  | w :: rest => ({ d with mint := { d.mint with randOut := rest } }.set F.MNT_OUT_STATUS_RAND_WORDS rest.length, w)
  | [] => (d, 0)

/-- A read of MNT_TEST_OUT (R474, R476). -/
def Dev.testOutRead (d : Dev) (m : Master) : Dev × Nat :=
  if d.fuse.lcs ≠ 0 then (d, 0)
  else if !d.testMay m false then (d.violate m (R.MNT_TEST_OUT.addr 0 0) false, 0)
  else match d.mint.testOut with
  | w :: rest => ({ d with mint := { d.mint with testOut := rest } }, w)
  | [] => (d, 0)

/-- A read of MNT_RAW_CAPTURE (R474, R476). -/
def Dev.captureRead (d : Dev) (m : Master) : Dev × Nat :=
  if d.fuse.lcs ≠ 0 ∧ d.fuse.lcs ≠ 3 then (d, 0)
  else if !d.testMay m true then (d.violate m (R.MNT_RAW_CAPTURE.addr 0 0) false, 0)
  else match d.mint.cap with
  | some v => ({ d with mint := { d.mint with cap := none, capOvf := false } }, v * 2 ^ 16 + 2 ^ 15 + b2n d.mint.capOvf * 2 ^ 14)
  | none => (d, 0)

/-- MNT_KEY_OUT_READ. -/
def doMntKeyOutRead (m : Master) (d : Dev) : Dev := (d.keyOutRead m).1.answer (d.keyOutRead m).2
/-- MNT_RAND_OUT_READ. -/
def doMntRandOutRead (m : Master) (d : Dev) : Dev := (d.randOutRead m).1.answer (d.randOutRead m).2
/-- MNT_TEST_OUT_READ. -/
def doMntTestOutRead (m : Master) (d : Dev) : Dev := (d.testOutRead m).1.answer (d.testOutRead m).2
/-- RAW_CAPTURE_READ. -/
def doRawCaptureRead (m : Master) (d : Dev) : Dev := (d.captureRead m).1.answer (d.captureRead m).2

/-- SOURCE_RESTART (R463, R476): by Sage cores; a DEAD source stays. -/
def doSourceRestart (mask : Nat) (m : Master) (d : Dev) : Dev :=
  if !m.sage then d.violate m (R.MNT_SRC_CTRL.addr 0 0) true
  else (List.range 4).foldl (fun d n =>
    if bit mask n && (d.src n).st ≠ 3 then
      (d.setSrc n { d.src n with st := 2, run := 0 }).set F.MNT_SRC_CTRL_RESTART (d.get F.MNT_SRC_CTRL_RESTART ||| 2 ^ n)
    else d) d

/-- SOURCE_ENABLE (R462, R476): writable only in FACTORY; re-enabling runs the start-up test. -/
def doSourceEnable (enable : Nat) (d : Dev) : Dev :=
  if d.fuse.lcs ≠ 0 then d
  else
    let old := d.get F.MNT_SRC_CTRL_EN
    let d := d.set F.MNT_SRC_CTRL_EN enable
    (List.range 4).foldl (fun d n =>
      if bit enable n && !bit old n && (d.src n).st ≠ 3 then (d.setSrc n { d.src n with st := 0, run := 0 }).restarted n else d) d

/-- Show CAPTURE and INJECT of the sources. -/
def Dev.testShow (d : Dev) : Dev :=
  (List.range 4).foldl (fun d n =>
    let d := d.flag ⟨R.MNT_SRC_STATUS, 8 * n + 1, 8 * n + 1⟩ (bit (d.get F.MNT_TEST_CTRL_INJECT) n)
    d.flag ⟨R.MNT_SRC_STATUS, 8 * n + 2, 8 * n + 2⟩ (d.on F.MNT_TEST_CTRL_CAPTURE_EN && d.get F.MNT_TEST_CTRL_CAPTURE_SRC = n)) d

/-- The DRBG is to be instantiated again, with PERS or with zero in its place (R474). -/
def Dev.reinstantiate (d : Dev) (zero : Bool) : Dev :=
  let d := { d with mint := { d.mint with drbg := none, zeroPers := zero, settling := !zero, pool := [], starved := none } }
  (d.poolShow).set F.MNT_STATUS_STATE 0

/-- TEST_CTRL_WRITE (R474, R476). -/
def doTestCtrlWrite (value : Nat) (m : Master) (d : Dev) : Dev :=
  if d.fuse.lcs ≠ 0 ∧ d.fuse.lcs ≠ 3 then d
  else if !d.testMay m true then d.violate m (R.MNT_TEST_CTRL.addr 0 0) true
  else
    let old := d.num R.MNT_TEST_CTRL
    let live := d.on F.MNT_TEST_CTRL_INJECT_LIVE
    let fac := d.fuse.lcs = 0 && d.testMay m false
    let d := if fac then
        ((d.set F.MNT_TEST_CTRL_INJECT (nbits value 31 28)).set F.MNT_TEST_CTRL_INJECT_LIVE (nbits value 27 27)).set
          F.MNT_TEST_CTRL_KAT_LOAD (nbits value 23 23)
      else d
    let d := (d.set F.MNT_TEST_CTRL_CAPTURE_EN (nbits value 26 26)).set F.MNT_TEST_CTRL_CAPTURE_SRC (nbits value 25 24)
    let d := d.testShow
    let now := d.on F.MNT_TEST_CTRL_INJECT_LIVE
    let d := if now && !live then d.reinstantiate true else if live && !now then d.reinstantiate false else d
    if d.num R.MNT_TEST_CTRL = old then d else d.raise E.MNT_TEST_CHANGE

/-- MNT_TEST_DATA (R474, R476): pairs of a source and a word, or words of the test instance. -/
def doMntTestData (word : Nat) (m : Master) (d : Dev) : Dev :=
  if d.fuse.lcs ≠ 0 then d
  else if !d.testMay m false then d.violate m (R.MNT_TEST_DATA.addr 0 0) true
  else if d.on F.MNT_TEST_CTRL_KAT_LOAD then
    let ws := d.mint.katWords ++ [word % 2 ^ 32]
    if ws.length < 24 then { d with mint := { d.mint with katWords := ws } }
    else { d with mint := { d.mint with katWords := [], kat := some (drbgStart (wordsToBytes (ws.take 12)) (wordsToBytes (ws.drop 12))) } }
  else match d.mint.testSrc with
  | none => { d with mint := { d.mint with testSrc := some (nbits word 31 30) } }
  | some n =>
    let s := d.src n
    let d := { d with mint := { d.mint with testSrc := none } }
    if s.fifo.length < 64 then
      (d.setSrc n { s with fifo := s.fifo ++ [word % 2 ^ 32] }).set F.MNT_TEST_CTRL_FIFO_LEVEL (d.get F.MNT_TEST_CTRL_FIFO_LEVEL + 1)
    else d

/-- A tamper response of class 2 or 3 (R472): DRBG state, pool and output buffers are erased. -/
def Dev.mintErase (d : Dev) : Dev :=
  let d := { d with mint := { d.mint with drbg := none, pool := [], keyOut := [], randOut := [], reqs := [], erased := true, starved := none, kat := none,
                                          testOut := [], cap := none } }
  let d := ((d.poolShow).set F.MNT_OUT_STATUS_KEY_WORDS 0).set F.MNT_OUT_STATUS_RAND_WORDS 0
  (d.set F.MNT_STATUS_STATE 4).raise E.MNT_ERASED

/-- The requests of a muted or reset half's generators are withdrawn (R472). -/
def Dev.mintWithdraw (d : Dev) (p : MintReq → Bool) : Dev :=
  { d with mint := { d.mint with reqs := d.mint.reqs.filter (fun r => !p r) } }

end Sys2Proof.Machine
end

