-- ==== Sys2Proof/Machine/Rsm.lean ====
section
/-! DEFINITION. Appending to the Rosemary log (R494-R496). -/

namespace Sys2Proof.Machine

/-- 3,600 KiB in units of 10^-9 byte: the level below which records are suppressed (R496). -/
def rsmThreshold : Nat := 3686400000000000

/-- The level of the append bucket at present: 12 KiB/s, at most 14,400 KiB (R496). -/
def Dev.rsmLevel (d : Dev) : Nat := min 14745600000000000 (d.rsm.level + (d.tim.clk - d.rsm.levelClk) * 12288)

/-- Reckon the append bucket to the present (R496). -/
def Dev.rsmFill (d : Dev) : Dev :=
  let l := d.rsmLevel
  ({ d with rsm := { d.rsm with level := l, levelClk := d.tim.clk } }).set F.EVT_RSM_BUCKET_LEVEL_KIB (l / 1024000000000)

/-- The kinds that also go to the retained area (R495). -/
def rsmRetained (kind : Nat) : Bool := 0x10 ≤ kind && kind ≤ 0x16

/-- The 64 bytes of a record (R494). -/
def rsmBytes (kind flags lseq eseq src net sec boot : Nat) (data prev : Bytes) : Bytes :=
  let body := beBytes 2 0x524D ++ beBytes 1 kind ++ beBytes 1 flags ++ beBytes 8 lseq ++ beBytes 4 eseq ++ beBytes 2 src
    ++ beBytes 2 (net / 2 ^ 32) ++ beBytes 4 (net % 2 ^ 32) ++ beBytes 6 sec ++ beBytes 2 boot ++ (data ++ zeros 16).take 16
    ++ (sha384 prev).take 12
  body ++ beBytes 4 (crc32 body)

/-- Append a record to the on-die ring (R494-R496), or suppress it; the spec does not say when STEPPED_TIME is 1, so that
bit is a free value (log entry 2). -/
def Dev.rsmAppend (d : Dev) (kind flags eseq src net : Nat) (data : Bytes) : Dev :=
  let d := d.rsmFill
  let keep := rsmRetained kind
  if !keep && d.rsm.level < rsmThreshold then
    let d := { d with rsm := { d.rsm with supCount := d.rsm.supCount + 1,
                                          supFirst := if d.rsm.supCount = 0 then d.rsm.lseq + 1 else d.rsm.supFirst } }
    (d.bump R.EVT_CNT_RSM_SUPPRESSED).set F.EVT_RSM_STATUS_SUPPRESSING 1
  else
    let full := 4096 ≤ d.rsm.wait.length
    let victim := d.rsm.wait.find? (fun l => !(SMap.get {} d.rsm.ring (l % 4096)).retained)
    let d := if full then (d.bump R.EVT_CNT_RSM_DISCARDED).raise E.EVT_RING_OVF else d
    if full && victim.isNone && !keep then d
    else
      let wait := if full then d.rsm.wait.erase (victim.getD (d.rsm.wait.headD 0)) else d.rsm.wait
      let l := d.rsm.lseq + 1
      let bytes := rsmBytes kind (flags + d.freeVal % 2 * 64) l eseq src net d.tim.sec (d.get F.EVT_BOOT_COUNT_BOOTS % 2 ^ 16) data d.rsm.last
      let late := keep && (!d.rsm.flashOk || decide (d.rsm.level < 256000000000))
      let r : RsmRec := ⟨l, kind, keep, d.tim.clk, late, bytes⟩
      let d := d.freeNext
      let d := { d with rsm := { d.rsm with lseq := l, ring := SMap.set {} d.rsm.ring (l % 4096) r,
                                            wait := wait ++ [l], last := bytes } }
      let d := d.put64 R.EVT_RSM_LSEQ_LO R.EVT_RSM_LSEQ_HI l
      (d.set F.EVT_RSM_STATUS_RING_LEVEL (wait.length + 1)).count 28 0x5B {}

/-- The end of suppression (R496): one SUMMARY record when the level has recovered. -/
def Dev.summary (d : Dev) : Dev :=
  let d := d.rsmFill
  if d.rsm.supCount ≠ 0 && decide (rsmThreshold ≤ d.rsm.level) then
    let data := beBytes 4 (d.rsm.supCount % 2 ^ 32) ++ beBytes 8 d.rsm.supFirst
    (({ d with rsm := { d.rsm with supCount := 0, supFirst := 0 } }).set F.EVT_RSM_STATUS_SUPPRESSING 0).rsmAppend 0x02 0 0 0 d.net data
  else d

/-- Append a record, after the SUMMARY that a recovered level asks for (R496). -/
def Dev.rsmPut (d : Dev) (kind flags eseq src net : Nat) (data : Bytes) : Dev := d.summary.rsmAppend kind flags eseq src net data

/-- A record of the present cycle without an event sequence number. -/
def Dev.rsmLog (d : Dev) (kind : Nat) (data : Bytes) : Dev := d.rsmPut kind 0 0 0 d.net data

end Sys2Proof.Machine
end

