-- ==== Sys2Proof/Machine/Bay.lean ====
section
/-! DEFINITION. Bay memory: cells, groups, the scrambler, counter lines, epochs and the patrol
(R322-R342). -/

namespace Sys2Proof.Machine

def Dev.grp (d : Dev) (b g : Nat) : GrpSt := SMap.get {} d.bay.grp (b * 2 ^ 20 + g)
def Dev.setGrp (d : Dev) (b g : Nat) (v : GrpSt) : Dev :=
  { d with bay := { d.bay with grp := SMap.set {} d.bay.grp (b * 2 ^ 20 + g) v } }
def Dev.cellOf (d : Dev) (b c : Nat) : CellSt := SMap.get {} d.bay.cell (b * 2 ^ 26 + c)
def Dev.setCell (d : Dev) (b c : Nat) (v : CellSt) : Dev :=
  { d with bay := { d.bay with cell := SMap.set {} d.bay.cell (b * 2 ^ 26 + c) v } }

/-- The groups of a bay that are not free, with their numbers. -/
def Dev.groups (d : Dev) (b : Nat) : List (Nat × GrpSt) :=
  (d.bay.grp.filter (fun e => e.1 / 2 ^ 20 = b)).map (fun e => (e.1 % 2 ^ 20, e.2))

/-- The cells of a bay that have been written or withdrawn, with their numbers. -/
def Dev.cells (d : Dev) (b : Nat) : List (Nat × CellSt) :=
  (d.bay.cell.filter (fun e => e.1 / 2 ^ 26 = b)).map (fun e => (e.1 % 2 ^ 26, e.2))

/-- The current key slot of a bay (R329). -/
def Dev.baySlot (d : Dev) (b : Nat) : Nat := d.get F.BAY_EPOCH_EPOCH b % 2

/-- QUARANTINE and the groups quarantined or holding a withdrawn cell (R341). -/
def Dev.bayShow (d : Dev) (b : Nat) : Dev :=
  let q := ((d.groups b).filter (fun e => e.2.st = 3)).map (·.1)
  let w := ((d.cells b).filter (fun e => e.2.withdrawn)).map (fun e => e.1 / 64)
  let n := (q ++ w).eraseDups.length
  (d.set F.BAY_QUARANTINE_GROUPS n b).flag F.BAY_STATUS_QUARANTINE (n ≠ 0) b

/-- Free cells of a bay: those of free groups and the untaken ones of open groups (R326). -/
def Dev.bayFree (d : Dev) (b : Nat) : Nat :=
  if d.on F.BAY_STATUS_READY b then
    2 ^ 26 - ((d.groups b).map (fun e => match e.2.st with | 0 => 0 | 1 => e.2.taken | _ => 64)).foldl (· + ·) 0
  else 0

/-- Free cells of a half (SCH_CELLS_FREE, R211). -/
def Dev.halfFree (d : Dev) (h : Nat) : Nat := d.bayFree (2 * h) + d.bayFree (2 * h + 1)

/-- Either bay of a half is FAILED (R339). -/
def Dev.halfFailed (d : Dev) (h : Nat) : Bool := d.on F.BAY_STATUS_FAILED (2 * h) || d.on F.BAY_STATUS_FAILED (2 * h + 1)

/-- An error is recorded in BAY_ERR_ADDR (R335). -/
def Dev.bayErr (d : Dev) (b kind index : Nat) : Dev :=
  ((d.set F.BAY_ERR_ADDR_VALID 1 b).set F.BAY_ERR_ADDR_KIND kind b).set F.BAY_ERR_ADDR_INDEX index b

/-- A new epoch is requested (R337). -/
def Dev.epochAsk (d : Dev) (b : Nat) : Dev :=
  if d.on F.BAY_STATUS_EPOCH_PENDING b then d
  else (d.set F.BAY_STATUS_EPOCH_PENDING 1 b).mintAsk 2 2 b 8

/-! The scrambler (R329-R332). -/

/-- The block X of a cell, counter and block number (R330). -/
def cellBlock (dom b cell w j : Nat) : Nat :=
  beNat (beBytes 1 dom ++ beBytes 1 b ++ beBytes 4 cell ++ beBytes 1 0 ++ beBytes 8 w ++ beBytes 1 j)

/-- The stored form of a cell's bytes: whole 32-byte beats are exclusive-or the keystream, unwritten beats are
zero (R325, R330). -/
def cellCipher (key : Bytes) (b cell w : Nat) (plain : Bytes) : Bytes :=
  let n := (plain.length + 31) / 32 * 32
  let p := (plain ++ zeros 32).take n
  let s := (List.range 16).flatMap (fun j => beBytes 16 (aes256 key (cellBlock 1 b cell w j)))
  (xorBytes p s ++ zeros 256).take 256

/-- The cell tag (R331). -/
def cellTag (key : Bytes) (b cell w link : Nat) (stored : Bytes) : Bytes :=
  let g := ghash (aes256 key 0) (beBytes 4 link ++ beBytes 4 cell) stored
  (beBytes 16 (g ^^^ aes256 key (cellBlock 2 b cell w 0))).take 8

/-- Write a cell (R330-R332): its counter rises, its EPOCH_MAP bit names the current slot, its line becomes
dirty; a counter that reaches its end withdraws the cell. -/
def Dev.cellWrite (d : Dev) (b c link : Nat) (plain : Bytes) : Dev :=
  let s := d.cellOf b c
  let slot := d.baySlot b
  let w := s.ctr + 1
  let key := SMap.get [] d.bay.key (b * 2 + slot)
  let stored := cellCipher key b c w plain
  let gone := w = 2 ^ 64 - 1
  let d := d.setCell b c { s with ctr := w, slot0 := slot = 0, poison := false, live := true, withdrawn := gone,
                                  wdEpoch := if gone then d.get F.BAY_EPOCH_EPOCH b else 0,
                                  link := link, stored := stored, tag := cellTag key b c w link stored }
  let g := d.grp b (c / 64)
  let d := d.setGrp b (c / 64) { g with cached := true, dirty := true, dirtyClk := if g.dirty then g.dirtyClk else d.tim.clk }
  let d := d.count (19 + b) 0x38 {}
  if gone then (((d.raise E.BAY_COUNTER_SAT b).rsmLog 1 (beBytes 4 (d.num R.BAY_EVT_STATUS b))).epochAsk b).bayShow b else d

/-! Allocation (R325, R326). -/

/-- The first free group of a bay from a start, which the spec leaves open (log entry 2). -/
def Dev.freeGroup (d : Dev) (b start : Nat) : Option Nat :=
  let used := ((d.groups b).filter (fun e => e.2.st ≠ 0)).map (·.1)
  ((List.range (used.length + 1)).map (fun i => (start + i) % 2 ^ 20)).find? (fun g => !used.contains g)

/-- The number of untaken cells of an open group whose next cell is not withdrawn. -/
def Dev.nextCell (d : Dev) (b g : Nat) : Option Nat :=
  (List.range 64).find? (fun k => (d.grp b g).taken ≤ k && !(d.cellOf b (g * 64 + k)).withdrawn)

/-- A group closes: its line is written back, and it frees once no live cell is left. -/
def Dev.closeGroup (d : Dev) (b g : Nat) : Dev :=
  let v := d.grp b g
  d.setGrp b g { v with st := if v.live = 0 then 0 else 2, taken := 64, closeClk := d.tim.clk, dirty := false }

/-- Take a cell from the open group of an owner in a bay, opening a free group where none is open. -/
def Dev.takeCell (d : Dev) (b owner : Nat) : Option (Dev × Nat) :=
  let key := b * 1024 + owner
  let opened : Option (Dev × Nat) :=
    match SMap.get 0 d.bay.opens key with
    | g + 1 => some (d, g)
    | 0 =>
      match d.freeGroup b (d.freeVal % 2 ^ 20) with
      | some g =>
        let d := (d.freeNext).setGrp b g { d.grp b g with st := 1, taken := 0, live := 0, cached := true }
        some ({ d with bay := { d.bay with opens := SMap.set 0 d.bay.opens key (g + 1) } }, g)
      | none => none
  match opened with
  | none => none
  | some (d, g) =>
    match d.nextCell b g with
    | none => none
    | some k =>
      let v := d.grp b g
      let d := d.setGrp b g { v with taken := k + 1, live := v.live + 1 }
      let d := if (d.nextCell b g).isNone then
          (d.closeGroup b g |> fun d => { d with bay := { d.bay with opens := SMap.set 0 d.bay.opens key 0 } })
        else d
      some (d, g * 64 + k)

/-- The half index of a cell (R322). -/
def halfIndex (b c : Nat) : Nat := b % 2 * 2 ^ 26 + c

/-- Take `n` cells of a half for an owner, alternating between its bays from `b` on (R325). -/
def Dev.takeCells (d : Dev) (owner b : Nat) : Nat → Option (Dev × List (Nat × Nat))
  | 0 => some (d, [])
  | n + 1 =>
    match d.takeCell b owner with
    | none => none
    | some (d, c) =>
      match d.takeCells owner (b ^^^ 1) n with
      | none => none
      | some (d, cs) => some (d, (b, c) :: cs)

/-- Write the bytes of a frame into its cells, each linked to the next (R327). -/
def Dev.writeCells (d : Dev) : List (Nat × Nat) → Bytes → Dev
  | [], _ => d
  | (b, c) :: cs, bs =>
    let link := match cs with
      | (b', c') :: _ => halfIndex b' c'
      | [] => 2 ^ 31
    (d.cellWrite b c link (bs.take 256)).writeCells cs (bs.drop 256)

/-- Store bytes in cells of a half (R325): none where its cells do not suffice. -/
def Dev.storeBytes (d : Dev) (half owner : Nat) (bs : Bytes) : Option (Dev × List (Nat × Nat)) :=
  let first := if d.bayFree (2 * half) < d.bayFree (2 * half + 1) then 2 * half + 1 else 2 * half
  match d.takeCells owner first ((bs.length + 255) / 256) with
  | some (d, cs) => some (d.writeCells cs bs, cs)
  | none => none

/-- Free the cells of a frame; a closed group with no live cell returns to the free list (R326). -/
def Dev.freeCells (d : Dev) (cs : List (Nat × Nat)) : Dev :=
  cs.foldl (fun d x =>
    let s := d.cellOf x.1 x.2
    if s.live then
      let d := d.setCell x.1 x.2 { s with live := false }
      let g := d.grp x.1 (x.2 / 64)
      d.setGrp x.1 (x.2 / 64) { g with live := g.live - 1, st := if g.st = 2 ∧ g.live ≤ 1 then 0 else g.st }
    else d) d

/-! Errors (R335, R336). -/

/-- A lost counter line (R336): its cells are poisoned and its group quarantined. -/
def Dev.quarantine (d : Dev) (b g : Nat) : Dev :=
  let v := d.grp b g
  let d := d.setGrp b g { v with st := 3, cached := false, dirty := false, qEpoch := d.get F.BAY_EPOCH_EPOCH b }
  let d := (List.range 64).foldl (fun d k => d.setCell b (g * 64 + k) { d.cellOf b (g * 64 + k) with poison := true }) d
  let d := { d with bay := { d.bay with
      opens := d.bay.opens.filter (fun e => !(e.1 / 1024 = b && e.2 = g + 1)),
      quarClk := SMap.upd none d.bay.quarClk b (fun o => o.or (some d.tim.clk)) } }
  ((d.bayErr b 2 g).raise E.BAY_LINE_POISON b).bayShow b

/-- Is a cell unusable: poisoned, or of a quarantined group? -/
def Dev.cellLost (d : Dev) (x : Nat × Nat) : Bool := (d.cellOf x.1 x.2).poison || (d.grp x.1 (x.2 / 64)).st = 3

/-- Are the counter lines of every cell in the cache (R334)? -/
def Dev.linesReady (d : Dev) (cs : List (Nat × Nat)) : Bool := cs.all (fun x => (d.grp x.1 (x.2 / 64)).cached || d.cellLost x)

/-- A frame is a bay discard, counted once in the bay of its first error (R335). -/
def Dev.bayDiscard (d : Dev) (b : Nat) : Dev := (d.bump R.BAY_CNT_POISON_DISCARD b).count (19 + b) 0x3B {}

/-- A corrected error of a bay (R335). -/
def Dev.bayCorr (d : Dev) (b : Nat) : Dev :=
  { d.bump R.BAY_CNT_CORRECTED b with bay := { d.bay with corr := SMap.upd 0 d.bay.corr b (· + 1) } }

/-- Read the cells of a frame, with an error found on the way: kind (0 corrected, 1 data or sideband, 3 tag, 4
descriptor) and the place of the cell in the frame's order.  True where the frame is lost (R335). -/
def Dev.readCells (d : Dev) (cs : List (Nat × Nat)) (err : Option (Nat × Nat)) : Dev × Bool :=
  let at_ (k : Nat) : Nat × Nat := cs.getD k (cs.headD (0, 0))
  let d := cs.foldl (fun d x => d.count (19 + x.1) 0x39 {}) d
  match cs.find? d.cellLost with
  | some x => (d.bayDiscard x.1, true)
  | none =>
    match err with
    | some (0, k) =>
      ((((d.bayCorr (at_ k).1).bayErr (at_ k).1 1 (at_ k).2).raise E.BAY_CORR (at_ k).1).count (19 + (at_ k).1) 0x3A {}, false)
    | some (1, k) =>
      (((d.bump R.BAY_CNT_DATA_UNCORR (at_ k).1).bayErr (at_ k).1 1 (at_ k).2).raise E.BAY_DATA_UNCORR (at_ k).1 |>.bayDiscard (at_ k).1, true)
    | some (3, k) =>
      (((d.bump R.BAY_CNT_TAG_FAIL (at_ k).1).bayErr (at_ k).1 3 (at_ k).2).raise E.BAY_TAG_FAIL (at_ k).1 |>.bayDiscard (at_ k).1, true)
    | _ => (d, false)

/-- A descriptor failure (R335), in the bay of the frame's first cell: the frame is lost, its cells stay for
orphan reclaim. -/
def Dev.descErr (d : Dev) (b index : Nat) : Dev :=
  ((d.bump R.BAY_CNT_DESC_ERR b).bayErr b 4 index).raise E.BAY_DESC_ERR b

/-! Commands and engines. -/

/-- COUNTER_LINE_LOAD (R334-R336): `err` 0 none, 1 a correctable ECC error, else ECC, LINE or LCRC fails. -/
def doCounterLineLoad (bay line err : Nat) (d : Dev) : Dev :=
  let b := bay % 4
  let g := line % 2 ^ 20
  let v := d.grp b g
  if v.cached ∨ v.st = 3 ∨ !d.on F.BAY_STATUS_READY b ∨ 3840 ≤ ((d.groups b).filter (fun e => e.2.cached)).length then d
  else match err with
  | 0 => d.setGrp b g { v with cached := true }
  | 1 => (((d.setGrp b g { v with cached := true }).bayCorr b).bayErr b 2 g).raise E.BAY_CORR b |>.count (19 + b) 0x3A {}
  | _ => d.quarantine b g

/-- COUNTER_LINE_WRITEBACK (R37, R334): a dirty line is written back; `evict` also drops it from the cache, which
the line of an open group does not leave. -/
def doCounterLineWriteback (bay line : Nat) (evict : Bool) (d : Dev) : Dev :=
  let b := bay % 4
  let g := line % 2 ^ 20
  let v := d.grp b g
  if v.cached then d.setGrp b g { v with dirty := false, cached := !(evict && v.st ≠ 1) } else d

/-- ORPHAN_RECLAIM (R326): a closed group still live 300 ms after it closed has its remaining cells freed. -/
def doOrphanReclaim (bay group : Nat) (d : Dev) : Dev :=
  let b := bay % 4
  let g := group % 2 ^ 20
  if (d.grp b g).st = 2 ∧ (d.grp b g).live ≠ 0 ∧ d.on F.BAY_CTRL_RECLAIM_EN b then
    let d := d.advance ((d.grp b g).closeClk + ms 300)
    let d := (List.range 64).foldl (fun d k => d.setCell b (g * 64 + k) { d.cellOf b (g * 64 + k) with live := false }) d
    (d.setGrp b g { d.grp b g with st := 0, live := 0 }).raise E.BAY_ORPHAN_RECLAIM b
  else d

/-- PATROL_SCRUB (R338, R335): a visit of a cell (`part` 0), a counter line (1) or a descriptor block (2); `err` 0
none, 1 correctable, else uncorrectable. -/
def doPatrolScrub (bay part index err : Nat) (d : Dev) : Dev :=
  let b := bay % 4
  if !d.on F.BAY_CTRL_PATROL_EN b ∨ !d.on F.BAY_STATUS_READY b then d
  else
    let d := if part = 0 ∧ index = 0 then
        let late := match SMap.get none d.bay.patrolClk b with
          | some c => decide (c + ms 6720 < d.tim.clk)
          | none => false
        let d := { d with bay := { d.bay with patrolClk := SMap.set none d.bay.patrolClk b (some d.tim.clk) } }
        if late then d.raise E.BAY_PATROL_OVERRUN b else d
      else d
    match err, part with
    | 0, _ => d
    | 1, 0 => (((d.bayCorr b).bayErr b 1 (index % 2 ^ 26)).raise E.BAY_CORR b).count (19 + b) 0x3A {}
    | 1, 1 => (((d.bayCorr b).bayErr b 2 (index % 2 ^ 20)).raise E.BAY_CORR b).count (19 + b) 0x3A {}
    | 1, _ => (((d.bayCorr b).bayErr b 4 index).raise E.BAY_CORR b).count (19 + b) 0x3A {}
    | _, 0 =>
      let c := index % 2 ^ 26
      let d := ((d.bump R.BAY_CNT_DATA_UNCORR b).bayErr b 1 c).raise E.BAY_DATA_UNCORR b
      if (d.cellOf b c).live then d.setCell b c { d.cellOf b c with poison := true } else d
    | _, 1 => if (d.grp b (index % 2 ^ 20)).st = 3 then d else d.quarantine b (index % 2 ^ 20)
    | _, _ => d.descErr b index

/-- BAY_CMD_STATUS (R341). -/
def Dev.bayStatus (d : Dev) (b st reason epoch : Nat) : Dev :=
  ((d.set F.BAY_CMD_STATUS_STATE st b).set F.BAY_CMD_STATUS_REASON reason b).set F.BAY_CMD_STATUS_EPOCH epoch b

/-- NEW_EPOCH (R337): accepted only from the active Sage core. -/
def doNewEpoch (bay : Nat) (m : Master) (d : Dev) : Dev :=
  let b := bay % 4
  if !d.isActive m then (d.violate m (R.BAY_CMD.addr b 0) true).bayStatus b 3 1 0
  else if !d.on F.BAY_STATUS_READY b then d.bayStatus b 3 2 0
  else
    let d := (d.epochAsk b).bayStatus b 1 0 0
    { d with bay := { d.bay with cmd := SMap.set false d.bay.cmd b true } }

/-- An epoch begins with the key that Mint delivered. -/
def Dev.epochBegin (d : Dev) (b : Nat) : Dev :=
  let e := (d.get F.BAY_EPOCH_EPOCH b + 1) % 2 ^ 16
  let key := SMap.get [] d.bay.newKey b
  let d := { d with bay := { d.bay with
      key := SMap.set [] d.bay.key (b * 2 + e % 2) key, newKey := SMap.set [] d.bay.newKey b [],
      epochClk := SMap.set 0 d.bay.epochClk b d.tim.clk, quarClk := SMap.set none d.bay.quarClk b none } }
  let d := (((d.set F.BAY_EPOCH_EPOCH e b).set F.BAY_EPOCH_CUR_SLOT (e % 2) b).set F.BAY_STATUS_EPOCH_PENDING 0 b).set F.BAY_STATUS_KEYED 1 b
  d.raise E.BAY_EPOCH_START b

/-- Does the previous key slot of a bay hold a key? -/
def Dev.prevLive (d : Dev) (b : Nat) : Bool := SMap.get [] d.bay.key (b * 2 + (1 - d.baySlot b)) ≠ []

/-- EPOCH_START (R337): the request is served once the previous slot is empty and Mint has delivered the key. -/
def doEpochStart (bay : Nat) (d : Dev) : Dev :=
  let b := bay % 4
  if d.on F.BAY_STATUS_READY b ∧ d.on F.BAY_STATUS_EPOCH_PENDING b ∧ SMap.get [] d.bay.newKey b ≠ [] ∧ !d.prevLive b then
    let d := d.epochBegin b
    let d := (d.set F.BAY_STATUS_PREV_KEY_LIVE 1 b).set F.BAY_EPOCH_PREV_LIVE 1 b
    if SMap.get false d.bay.cmd b then
      { d with bay := { d.bay with cmd := SMap.set false d.bay.cmd b false } }.bayStatus b 2 0 (d.get F.BAY_EPOCH_EPOCH b)
    else d
  else d

/-- PREV_KEY_ERASE (R337): 300 ms after the epoch's start. -/
def doPrevKeyErase (bay : Nat) (d : Dev) : Dev :=
  let b := bay % 4
  if !d.prevLive b ∨ !d.on F.BAY_STATUS_PREV_KEY_LIVE b then d
  else
    let d := d.advance (SMap.get 0 d.bay.epochClk b + ms 300)
    let e := d.get F.BAY_EPOCH_EPOCH b
    let slot := d.baySlot b
    let d := (d.cells b).foldl (fun d x =>
      if x.2.live && ((x.2.slot0 : Bool) != decide (slot = 0)) then d.setCell b x.1 { x.2 with poison := true } else d) d
    let d := { d with bay := { d.bay with key := SMap.set [] d.bay.key (b * 2 + (1 - slot)) [] } }
    let d := ((d.set F.BAY_STATUS_PREV_KEY_LIVE 0 b).set F.BAY_EPOCH_PREV_LIVE 0 b).raise E.BAY_PREV_KEY_ERASED b
    let old := ((d.groups b).filter (fun x => x.2.st = 3 && x.2.qEpoch ≠ e)).map (·.1)
    let wd := ((d.cells b).filter (fun x => x.2.withdrawn && x.2.wdEpoch ≠ e)).map (fun x => x.1 / 64)
    let gs := (old ++ wd).eraseDups
    let d := gs.foldl (fun d g =>
      let d := (List.range 64).foldl (fun d k =>
        d.setCell b (g * 64 + k) { d.cellOf b (g * 64 + k) with ctr := 0, poison := false, slot0 := slot = 0, withdrawn := false, wdEpoch := 0 }) d
      let v := d.grp b g
      if v.st = 3 then d.setGrp b g { v with st := if v.live = 0 then 0 else 2, qEpoch := 0 } else d) d
    (if gs.isEmpty then d else d.raise E.BAY_QUAR_RELEASED b).bayShow b

/-- EPOCH_AUTO_TIMER (R337): one second after the first quarantine of the epoch. -/
def doEpochAutoTimer (bay : Nat) (d : Dev) : Dev :=
  let b := bay % 4
  match SMap.get none d.bay.quarClk b with
  | some c => if d.on F.BAY_CTRL_EPOCH_AUTO b then (d.advance (c + sec 1)).epochAsk b else d
  | none => d

/-- EPOCH_PERIOD_TIMER (R337): EPOCH_PERIOD_H hours after the epoch began. -/
def doEpochPeriodTimer (bay : Nat) (d : Dev) : Dev :=
  let b := bay % 4
  let h := d.get F.BAY_CTRL_EPOCH_PERIOD_H b
  if h ≠ 0 ∧ d.on F.BAY_STATUS_READY b then (d.advance (SMap.get 0 d.bay.epochClk b + sec (3600 * h))).epochAsk b else d

/-- Every cell and group of a bay is forgotten: counter lines as R339 writes them. -/
def Dev.bayWipe (d : Dev) (b : Nat) : Dev :=
  { d with bay := { d.bay with
      cell := d.bay.cell.filter (fun e => e.1 / 2 ^ 26 ≠ b), grp := d.bay.grp.filter (fun e => e.1 / 2 ^ 20 ≠ b),
      opens := d.bay.opens.filter (fun e => e.1 / 1024 ≠ b), quarClk := SMap.set none d.bay.quarClk b none } }

/-- BAY_TRAINING_DONE (R339): `ok` false is a failure; else epoch 1 is keyed from Mint's key and every counter
line is written. -/
def doBayTrainingDone (bay : Nat) (ok : Bool) (rows : Nat) (d : Dev) : Dev :=
  let b := bay % 4
  if !d.on F.BAY_STATUS_TRAINING b ∨ d.domHeld (b / 2) then d
  else if !ok then
    (((d.set F.BAY_STATUS_TRAINING 0 b).set F.BAY_STATUS_FAILED 1 b).set F.BAY_TRAIN_STATUS_DONE 1 b).set F.BAY_TRAIN_STATUS_FAIL 1 b
      |>.raise E.BAY_TRAIN_FAIL b
  else if SMap.get [] d.bay.newKey b = [] then d
  else
    let d := (d.set F.BAY_EPOCH_EPOCH 0 b).bayWipe b
    let d := d.epochBegin b
    (((d.set F.BAY_STATUS_TRAINING 0 b).set F.BAY_STATUS_READY 1 b).set F.BAY_TRAIN_STATUS_DONE 1 b).set F.BAY_TRAIN_STATUS_REPAIRED_ROWS rows b

/-- A bay's keys are erased and its cells lost: a mute, or a class 2 or 3 response (R339). -/
def Dev.bayErase (d : Dev) (b : Nat) : Dev :=
  let d := { d with bay := { d.bay with key := (SMap.set [] (SMap.set [] d.bay.key (b * 2) []) (b * 2 + 1) []), newKey := SMap.set [] d.bay.newKey b [] } }
  let d := (d.bayWipe b).set F.BAY_STATUS_KEYED 0 b
  let d := (d.set F.BAY_STATUS_PREV_KEY_LIVE 0 b).set F.BAY_EPOCH_PREV_LIVE 0 b
  (d.set F.BAY_STATUS_EPOCH_PENDING 0 b).set F.BAY_STATUS_READY 0 b

end Sys2Proof.Machine
end

