-- ==== Sys2Proof/Machine/Sat.lean ====
section
/-! DEFINITION. Security associations: the SA tables, SA commands, key switches, usage limits, replay and
the diagnostic test window (R87-R128). -/

namespace Sys2Proof.Machine

/-! Access to the tables. -/

/-- Where position `p` of transmit entry `e` of slice `s` has its home. -/
def txKey (s e p : Nat) : Nat := s * 2 ^ 14 + p * 2 ^ 13 + e

/-- Where receive entry `e` of slice `s` has its home: its KSI (R90). -/
def rxKey (s e : Nat) : Nat := s * 2 ^ 13 + e

def Dev.tx (d : Dev) (s e p : Nat) : TxPos := SMap.get {} d.sat.tx (txKey s e p)
def Dev.rx (d : Dev) (s e : Nat) : RxEnt := SMap.get {} d.sat.rx (rxKey s e)
def Dev.setTx (d : Dev) (s e p : Nat) (v : TxPos) : Dev :=
  { d with sat := { d.sat with tx := SMap.set {} d.sat.tx (txKey s e p) v } }
def Dev.setRx (d : Dev) (s e : Nat) (v : RxEnt) : Dev :=
  { d with sat := { d.sat with rx := SMap.set {} d.sat.rx (rxKey s e) v } }
def Dev.sl (d : Dev) (s : Nat) : SatSl := SMap.get {} d.sat.sl s
def Dev.setSl (d : Dev) (s : Nat) (v : SatSl) : Dev :=
  { d with sat := { d.sat with sl := SMap.set {} d.sat.sl s v } }

/-- The position of an entry that may seal: ACTIVE or EXHAUSTED (R88, R103). -/
def Dev.txLive (d : Dev) (s e : Nat) : Option Nat :=
  (List.range 2).find? (fun p => (d.tx s e p).st = 2 || (d.tx s e p).st = 3)

/-- Is a line port in F-mode (R256)? -/
def Dev.fMode (d : Dev) (p : Nat) : Bool := d.get F.ENV_CTRL_MODE p = 1

/-- Does a line port take frames into its queues: enabled, and in E-mode with its envelope running (R212, R271, R272)? -/
def Dev.portOpen (d : Dev) (p : Nat) : Bool :=
  d.on F.LPORT_CTRL_ENABLE p && decide (d.get F.LPORT_CTRL_WIDTH p ≠ 0) && (d.fMode p || d.get F.ENV_STATUS_TX_STATE p = 1)

/-- A record enters SAT_TRIGGER_FIFO of 256 records (R123). -/
def Dev.trigger (d : Dev) (s kind dir pos entry : Nat) : Dev :=
  let l := d.sl s
  if l.fifo.length < 256 then
    d.setSl s { l with fifo := l.fifo ++ [2 ^ 31 + kind * 2 ^ 28 + dir * 2 ^ 27 + pos * 2 ^ 13 + entry] }
  else (d.set F.SAT_STATUS_FIFO_OVF 1 s).raise E.SAT_FIFO_OVF s

/-- A transmit position becomes EMPTY: its key and salt are erased, with a CLOSED record unless it is by
ZEROIZE (R105). -/
def Dev.txEmpty (d : Dev) (s e p : Nat) (closed : Bool) : Dev :=
  let d := d.setTx s e p {}
  if closed then d.trigger s 5 0 p e else d

/-- A receive entry becomes EMPTY, with a CLOSED record when it was CLOSING (R105). -/
def Dev.rxEmpty (d : Dev) (s e : Nat) (closed : Bool) : Dev :=
  let d := d.setRx s e {}
  if closed then d.trigger s 5 1 0 e else d

/-- DRAINING_END (R103): a DRAINING position with no frame left under it becomes EMPTY. -/
def Dev.drainEnd (d : Dev) (s e p : Nat) : Dev :=
  if (d.tx s e p).st = 4 ∧ (d.tx s e p).busy = 0 then d.txEmpty s e p true else d

/-- The switch of one entry (R103, R111): its LOADED position `p` becomes ACTIVE, the other DRAINING. -/
def Dev.switchTx (d : Dev) (s e p : Nat) : Dev :=
  let o := 1 - p
  let d := d.setTx s e p { d.tx s e p with st := 2 }
  let q := d.tx s e o
  if q.st = 2 ∨ q.st = 3 then (d.setTx s e o { q with st := 4 }).drainEnd s e o else d

/-- KEY_ACCEPT in every slice (R111): the entries opened. -/
def Dev.keyAccept (d : Dev) (g inst : Nat) : Dev × Nat :=
  let hits := d.sat.rx.filter (fun e => e.2.st = 1 && e.2.group = g && !d.domHeld (e.1 / 2 ^ 13 / 4))
  (hits.foldl (fun d e => { d with sat := { d.sat with rx := SMap.set {} d.sat.rx e.1 { e.2 with st := 2, at_ := inst } } }) d,
    hits.length)

/-- KEY_RETIRE in every slice (R111): the entries closing. -/
def Dev.keyRetire (d : Dev) (g inst : Nat) : Dev × Nat :=
  let hits := d.sat.rx.filter (fun e => e.2.st = 2 && e.2.group = g && !d.domHeld (e.1 / 2 ^ 13 / 4))
  (hits.foldl (fun d e => { d with sat := { d.sat with rx := SMap.set {} d.sat.rx e.1 { e.2 with st := 3, at_ := inst } } }) d,
    hits.length)

/-- The slice, entry and position of a home index. -/
def txOf (k : Nat) : Nat × Nat × Nat := (k / 2 ^ 14, k % 2 ^ 13, k / 2 ^ 13 % 2)

/-- KEY_SWITCH in every slice (R111): entries switched, and entries that recorded SWITCH_MISSED. -/
def Dev.keySwitch (d : Dev) (g : Nat) : Dev × Nat × Nat :=
  let on (k : Nat) : Bool := !d.domHeld ((txOf k).1 / 4)
  let hits := d.sat.tx.filter (fun e => e.2.st = 1 && e.2.group = g && on e.1)
  let miss := d.sat.tx.filter (fun e => (e.2.st = 2 || e.2.st = 3) && e.2.group = g && on e.1 &&
    (d.tx (txOf e.1).1 (txOf e.1).2.1 (1 - (txOf e.1).2.2)).st ≠ 1)
  let d := hits.foldl (fun d e => d.switchTx (txOf e.1).1 (txOf e.1).2.1 (txOf e.1).2.2) d
  let d := miss.foldl (fun d e =>
    (d.trigger (txOf e.1).1 3 0 (txOf e.1).2.2 (txOf e.1).2.1).raise E.SAT_SWITCH_MISSED (txOf e.1).1) d
  (d, hits.length, miss.length)

/-! Usage limits (R98-R102, R117). -/

/-- PN_MAX (R101). -/
def pnMax (suite : Nat) : Nat := if suite = 0 then 0xFFFFFFFF else 2 ^ 64 - 1

/-- The effective frame limit (R101). -/
def frameLimit (t : TxPos) : Nat := min (t.frmLim * 65536) (pnMax t.suite - t.pnStart + 1)

/-- The block limit (R98). -/
def blockLimit (t : TxPos) : Nat := t.blkLim * 65536

/-- Has a count reached its pre-trigger point (R100)? -/
def preTrigger (t : TxPos) : Bool :=
  decide (frameLimit t * 7 / 8 ≤ t.frames) || decide (blockLimit t * 7 / 8 ≤ t.blocks)

/-- Record the pre-trigger of a position once (R100). -/
def Dev.checkPre (d : Dev) (s e p : Nat) : Dev :=
  let t := d.tx s e p
  if preTrigger t && !t.pretrig then
    ((d.setTx s e p { t with pretrig := true }).trigger s 1 0 p e).raise E.SAT_PRETRIGGER s
  else d

/-- The limit check before a frame of `b` blocks begins sealing (R99): true where both limits hold. -/
def limitsHold (t : TxPos) (b : Nat) : Bool :=
  decide (t.frames + 1 ≤ frameLimit t) && decide (t.blocks + b ≤ blockLimit t)

/-- Key starvation on a position (R99). -/
def Dev.starve (d : Dev) (s e p : Nat) (f : Frame) : Dev :=
  let t := d.tx s e p
  let d := d.setTx s e p { t with st := 3, starve := min 0xFFFFFFFF (t.starve + 1) }
  let d := (d.bump R.SAT_CNT_STARVE s).count (8 + s) 0x13 { f.seen with cport := none, txe := some e }
  let d := d.svcBump f.svc 7
  if t.st = 2 then (d.trigger s 2 0 p e).raise E.SAT_EXHAUSTED s else d

/-! Replay (R104, R107-R110). -/

/-- Does a receive entry take a record stamped at network time `net` (R104)? -/
def rxTakes (r : RxEnt) (net : Nat) : Bool :=
  let after := decide (0 ≤ signed 48 ((net + twrap - r.at_) % twrap))
  (r.st = 2 && after) || (r.st = 3 && !after)

/-- Does the replay mode accept PN `p` (R108)? -/
def replayOk (r : RxEnt) (p : Nat) : Bool :=
  match r.mode with
  | 0 => true
  | 1 => if r.window = 0 then decide (r.highest < p) else decide (r.highest < p + r.window)
  | _ => decide (r.highest < p) || (decide (r.highest < p + 1024) && !bit r.map (r.highest - p))

/-- The replay state after PN `p` was accepted (R108). -/
def replayTake (r : RxEnt) (p : Nat) : RxEnt :=
  let h := max r.highest p
  { r with highest := h, ok := r.ok + 1,
           map := if r.mode = 2 then
               (if h < r.highest + 1024 then ((r.map <<< (h - r.highest)) ||| 2 ^ (h - p)) % 2 ^ 1024 else 1)
             else r.map }

/-! SA commands (R115-R119). -/

/-- SAT_CMD_STATUS. -/
def Dev.satStatus (d : Dev) (s st ab op reason ticket : Nat) : Dev :=
  ((((d.set F.SAT_CMD_STATUS_STATE st s).set F.SAT_CMD_STATUS_ABORT_RESULT ab s).set F.SAT_CMD_STATUS_OP op s).set
    F.SAT_CMD_STATUS_REASON reason s).set F.SAT_CMD_STATUS_TICKET ticket s

/-- A command ends: the key staging clears (R115). -/
def Dev.satEnd (d : Dev) (s op reason ticket ab : Nat) : Dev :=
  let l := d.sl s
  let d := d.setSl s { l with cmd := none, words := [], done := if reason = 0 then some ticket else l.done }
  let d := ((d.set F.SAT_STATUS_CMD_BUSY 0 s).set F.SAT_STATUS_ZEROIZE_PENDING 0 s).set F.SAT_STATUS_KEY_WORDS 0 s
  let d := d.satStatus s (if reason = 0 then 2 else 3) ab op reason ticket
  if reason = 0 then d.raise E.SAT_CMD_DONE s else d.raise E.SAT_CMD_ABORTED s

/-- Is a line port formed, and of the slice's half (R18, R89)? -/
def Dev.portOfSlice (d : Dev) (s p : Nat) : Bool := p / 16 = s / 4 && d.lRate p ≠ 0

/-- Is an entry stopped by an accepted ZEROIZE or ZEROIZE_ALL (R118)? -/
def Dev.satStopped (d : Dev) (s dir e : Nat) : Bool :=
  match (d.sl s).cmd with
  | some c => (c.op = 7 && c.dir = dir && c.entry = e) || c.op = 8
  | none => false

/-- The checks on the staged words of INSTALL (R115, items 2, 3). -/
def stageSuite (attr : Nat) : Nat := nbits attr 31 31

/-- Why a command fails at acceptance, by the reason codes of R127, 0 where it does not (R115). -/
def Dev.satStop (d : Dev) (s : Nat) (c : SatCmd) : Nat :=
  let p0 := (d.tx s c.entry 0).st
  let p1 := (d.tx s c.entry 1).st
  let rx := (d.rx s c.entry).st
  let suite := stageSuite c.attr
  let need := if suite = 1 then 11 else 8
  let lport := nbits c.link 28 24
  let live := d.txLive s c.entry
  if d.on F.SAT_STATUS_DIAG_OPEN s then 11
  else if d.on F.SAT_STATUS_FENCED s ∧ c.op < 7 then 10
  else match c.op with
  | 1 =>
    if !((p0 = 0 && p1 ≠ 1 && p1 ≠ 4) || (p1 = 0 && p0 ≠ 1 && p0 ≠ 4)) then 3
    else if (suite = 0 ∧ !d.fMode lport) ∨ (bit c.attr 30 ∧ !(suite = 1 ∧ d.fMode lport)) then 6
    else if c.words.length < need then 9
    else if !d.portOfSlice s lport then 5
    else if (match live with | some p => decide (nbits c.attr 29 28 ≠ ((d.tx s c.entry p).an + 1) % 4) | none => false) then 4
    else if c.pn = 0 ∨ (suite = 0 ∧ 2 ^ 32 ≤ c.pn) then 8
    else if c.frm = 0 ∨ c.blk = 0 then 7
    else 0
  | 2 =>
    if rx ≠ 0 then 3
    else if suite = 0 ∧ bit c.attr 24 then 6
    else if c.words.length < need then 9
    else if nbits c.attr 26 25 = 3 then 15
    else if c.pn = 0 ∨ (suite = 0 ∧ 2 ^ 32 ≤ c.pn) then 8
    else if nbits c.attr 26 25 = 1 ∧ bit c.attr 24 ∧ c.link < 64 then 7
    else 0
  | 3 => if p0 = 1 ∨ p1 = 1 then 0 else 3
  | 4 => if rx = 1 then 0 else 3
  | 5 => if rx = 2 then 0 else 3
  | 6 => if live.isNone then 3 else if c.frm = 0 ∨ c.blk = 0 then 7 else 0
  | _ => 0

/-- The command that a write of SAT_CMD stands for, with the staged words and limits it takes (R115). -/
def Dev.saStaged (d : Dev) (s op dir entry : Nat) : SatCmd :=
  { op := op, dir := dir, entry := entry % 8192, ticket := ((d.sl s).ticket + 1) % 2 ^ 16, attr := d.num R.SAT_STAGE_ATTR s,
    link := d.num R.SAT_STAGE_LINK s, sci := d.num R.SAT_STAGE_SCI_HI s * 2 ^ 32 + d.num R.SAT_STAGE_SCI_LO s,
    ssci := d.num R.SAT_STAGE_SSCI s, pn := d.num R.SAT_STAGE_PN_HI s * 2 ^ 32 + d.num R.SAT_STAGE_PN_LO s,
    frm := d.num R.SAT_USAGE_LIMIT_FRM s, blk := d.num R.SAT_USAGE_LIMIT_BLK s, words := (d.sl s).words }

/-- An SA command is written (R115, R116): from another master it is a violation; while one runs it is
refused without a trace; else it is accepted with a ticket, or ends ABORTED at once. -/
def Dev.satCommand (d : Dev) (s op dir entry : Nat) (m : Master) : Dev :=
  if !d.isActive m then d.violate m (R.SAT_CMD.addr s 0) true
  else
    if (d.sl s).cmd.isSome then d
    else
      let c := d.saStaged s op dir entry
      let r := d.satStop s c
      let d := d.setSl s { d.sl s with ticket := c.ticket }
      if r = 0 then
        let d := (d.setSl s { d.sl s with cmd := some c }).set F.SAT_STATUS_CMD_BUSY 1 s
        (if 7 ≤ op then d.set F.SAT_STATUS_ZEROIZE_PENDING 1 s else d).satStatus s 1 0 op 0 c.ticket
      else d.satEnd s op r c.ticket 0

/-- INSTALL_TX. -/
def doInstallTx (slice entry : Nat) (m : Master) (d : Dev) : Dev := d.satCommand (slice % 8) 1 0 entry m
/-- INSTALL_RX. -/
def doInstallRx (slice entry : Nat) (m : Master) (d : Dev) : Dev := d.satCommand (slice % 8) 2 1 entry m
/-- SWITCH_NOW_TX. -/
def doSwitchNowTx (slice entry : Nat) (m : Master) (d : Dev) : Dev := d.satCommand (slice % 8) 3 0 entry m
/-- OPEN_NOW_RX. -/
def doOpenNowRx (slice entry : Nat) (m : Master) (d : Dev) : Dev := d.satCommand (slice % 8) 4 1 entry m
/-- RETIRE_RX. -/
def doRetireRx (slice entry : Nat) (m : Master) (d : Dev) : Dev := d.satCommand (slice % 8) 5 1 entry m
/-- SET_LIMITS. -/
def doSetLimits (slice entry : Nat) (m : Master) (d : Dev) : Dev := d.satCommand (slice % 8) 6 0 entry m
/-- ZEROIZE. -/
def doZeroize (slice dir entry : Nat) (m : Master) (d : Dev) : Dev := d.satCommand (slice % 8) 7 (dir % 2) entry m
/-- ZEROIZE_ALL. -/
def doZeroizeAll (slice : Nat) (m : Master) (d : Dev) : Dev := d.satCommand (slice % 8) 8 0 0 m

/-- Key and salt of staged words (R127). -/
def stagedKey (ws : List Nat) : Bytes := wordsToBytes (ws.take 8)
def stagedSalt (ws : List Nat) : Bytes := wordsToBytes ((ws.drop 8).take 3)

/-- The SSCI of a replica (R94): member index, slice and entry. -/
def Dev.ownSsci (d : Dev) (s e : Nat) : Nat := d.fleet.member * 2 ^ 20 + s * 2 ^ 17 + e

/-- The effect of INSTALL_TX at completion (R103, R115). -/
def Dev.installTx (d : Dev) (s : Nat) (c : SatCmd) : Dev :=
  let p := if (d.tx s c.entry 0).st = 0 then 0 else 1
  let src := bit c.attr 30
  d.setTx s c.entry p
    { st := if (d.txLive s c.entry).isSome then 1 else 2, suite := stageSuite c.attr, ssciSrc := src, an := nbits c.attr 29 28,
      group := nbits c.attr 9 0, lport := nbits c.link 28 24, peerKsi := nbits c.link 15 0, sci := c.sci,
      ssci := if src then c.ssci else d.ownSsci s c.entry, pn := c.pn, pnStart := c.pn, frmLim := c.frm, blkLim := c.blk,
      key := stagedKey c.words, salt := stagedSalt c.words }

/-- The effect of INSTALL_RX at completion (R104, R108, R115). -/
def Dev.installRx (d : Dev) (s : Nat) (c : SatCmd) : Dev :=
  d.setRx s c.entry
    { st := if bit c.attr 27 then 2 else 1, suite := stageSuite c.attr, emode := bit c.attr 24, mode := nbits c.attr 26 25,
      an := nbits c.attr 29 28, group := nbits c.attr 9 0, window := c.link, sci := c.sci, ssci := c.ssci,
      highest := c.pn - 1, at_ := if bit c.attr 27 then d.net else 0, key := stagedKey c.words, salt := stagedSalt c.words }

/-- SET_LIMITS at completion (R117). -/
def Dev.newLimits (d : Dev) (s : Nat) (c : SatCmd) : Dev :=
  match d.txLive s c.entry with
  | none => d
  | some p =>
    let t := { d.tx s c.entry p with frmLim := c.frm, blkLim := c.blk }
    let below := decide (frameLimit t < t.frames) || decide (blockLimit t < t.blocks)
    let above := decide (t.frames < frameLimit t) && decide (t.blocks < blockLimit t)
    let t := { t with st := if below then 3 else if above then 2 else t.st, pretrig := t.pretrig && preTrigger t }
    (d.setTx s c.entry p t).checkPre s c.entry p

/-- Every entry of a slice becomes EMPTY by replacement of its key-storage mask (R118, R120). -/
def Dev.satErase (d : Dev) (s : Nat) : Dev :=
  { d with sat := { d.sat with tx := d.sat.tx.filter (fun e => e.1 / 2 ^ 14 ≠ s), rx := d.sat.rx.filter (fun e => e.1 / 2 ^ 13 ≠ s) } }

/-- Frames and records still under the entries a ZEROIZE has stopped (R118). -/
def Dev.satWaits (d : Dev) (s : Nat) (c : SatCmd) : Bool :=
  match c.op with
  | 7 => if c.dir = 0 then (d.tx s c.entry 0).busy ≠ 0 || (d.tx s c.entry 1).busy ≠ 0 else (d.rx s c.entry).busy ≠ 0
  | 8 => d.sat.tx.any (fun e => e.1 / 2 ^ 14 = s && e.2.busy ≠ 0) || d.sat.rx.any (fun e => e.1 / 2 ^ 13 = s && e.2.busy ≠ 0)
  | _ => false

/-- SAT_ECC_STATUS is cleared by ZEROIZE of the entry it names (R127). -/
def Dev.satEccClear (d : Dev) (s : Nat) (c : SatCmd) : Dev :=
  if c.op = 8 ∨ (c.op = 7 ∧ d.get F.SAT_ECC_STATUS_DIR s = c.dir ∧ d.get F.SAT_ECC_STATUS_ENTRY s = c.entry) then
    d.set F.SAT_ECC_STATUS_VALID 0 s else d

/-- SA_CMD_COMPLETE (R115, R118): the accepted command takes effect on the tables in its completion cycle. -/
def doSaCmdComplete (slice : Nat) (d : Dev) : Dev :=
  let s := slice % 8
  match (d.sl s).cmd with
  | none => d
  | some c =>
    if d.satWaits s c then d
    else if d.on F.SAT_STATUS_FENCED s ∧ c.op < 7 then d.satEnd s c.op 10 c.ticket 0
    else
      let st := (match c.op with
        | 1 => decide ((d.tx s c.entry 0).st ≠ 0 ∧ (d.tx s c.entry 1).st ≠ 0)
        | 2 => decide ((d.rx s c.entry).st ≠ 0)
        | 3 => decide ((d.tx s c.entry 0).st ≠ 1 ∧ (d.tx s c.entry 1).st ≠ 1)
        | 4 => decide ((d.rx s c.entry).st ≠ 1)
        | 5 => decide ((d.rx s c.entry).st ≠ 2)
        | _ => false)
      if st then d.satEnd s c.op 3 c.ticket 0
      else
        let d' := match c.op with
          | 1 => d.installTx s c
          | 2 => d.installRx s c
          | 3 => d.switchTx s c.entry (if (d.tx s c.entry 0).st = 1 then 0 else 1)
          | 4 => d.setRx s c.entry { d.rx s c.entry with st := 2, at_ := d.net }
          | 5 => d.setRx s c.entry { d.rx s c.entry with st := 3, at_ := d.net }
          | 6 => d.newLimits s c
          | 7 => if c.dir = 0 then (d.txEmpty s c.entry 0 false).txEmpty s c.entry 1 false else d.rxEmpty s c.entry false
          | _ => d.satErase s
        (d'.satEccClear s c).satEnd s c.op 0 c.ticket 0

/-- SAT_CMD_ABORT (R119, R481). -/
def doSatCmdAbort (slice ticket : Nat) (m : Master) (d : Dev) : Dev :=
  let s := slice % 8
  if !d.isActive m then d.violate m (R.SAT_CMD_ABORT.addr s 0) true
  else
    let d := d.abortReq E.SAT_CMD_ABORTED s
    let t := ticket % 2 ^ 16
    match (d.sl s).cmd with
    | some c =>
      if c.ticket = t then d.satEnd s c.op 12 t 1
      else d.set F.SAT_CMD_STATUS_ABORT_RESULT (if (d.sl s).done = some t then 2 else 3) s
    | none => d.set F.SAT_CMD_STATUS_ABORT_RESULT (if (d.sl s).done = some t then 2 else 3) s

/-- SAT_KEY_STAGE (R127): the next key or salt word; a twelfth write is ignored. -/
def doSatKeyStage (slice word : Nat) (m : Master) (d : Dev) : Dev :=
  let s := slice % 8
  if !d.isActive m then d.violate m (R.SAT_KEY_STAGE.addr s 0) true
  else
    let l := d.sl s
    if l.words.length < 11 then
      (d.setSl s { l with words := l.words ++ [word % 2 ^ 32] }).set F.SAT_STATUS_KEY_WORDS (l.words.length + 1) s
    else d

/-- RX_CLOSING_END (R104): no record stamped before CLOSE_AT remains. -/
def doRxClosingEnd (slice entry : Nat) (d : Dev) : Dev :=
  let s := slice % 8
  let e := entry % 8192
  if (d.rx s e).st = 3 ∧ (d.rx s e).busy = 0 then d.rxEmpty s e true else d

/-- A read of SAT_TRIGGER_FIFO (R123, R127). -/
def Dev.triggerRead (d : Dev) (s : Nat) : Dev × Nat :=
  let l := d.sl s
  match l.fifo with
  | r :: rest =>
    let d := d.setSl s { l with fifo := rest }
    (if rest.isEmpty then d.set F.SAT_STATUS_FIFO_OVF 0 s else d, r)
  | [] => (d, 0)

/-- SAT_TRIGGER_FIFO_READ (R123). -/
def doSatTriggerFifoRead (slice : Nat) (d : Dev) : Dev :=
  (d.triggerRead (slice % 8)).1.answer (d.triggerRead (slice % 8)).2

/-- SA_TABLE_SCRUB (R121, R122): a visit of an entry; `err` 0 finds no error, 1 a correctable, else an uncorrectable, which
ends a command that runs on the entry with the reason ECC, unless it is a ZEROIZE. -/
def doSaTableScrub (slice dir entry pos err : Nat) (d : Dev) : Dev :=
  let s := slice % 8
  let e := entry % 8192
  let p := pos % 2
  if !d.on F.SAT_CTRL_SCRUB_EN s ∨ d.domHeld (s / 4) then d
  else match err with
  | 0 => d
  | 1 => d.raise E.SAT_ECC_CORR s
  | _ =>
    let d := if dir = 0 then d.setTx s e p { d.tx s e p with st := 5, key := [], salt := [] }
      else d.setRx s e { d.rx s e with st := 5, key := [], salt := [], map := 0 }
    let d := d.trigger s 4 (dir % 2) (if dir = 0 then p else 0) e
    let d := (((d.set F.SAT_ECC_STATUS_VALID 1 s).set F.SAT_ECC_STATUS_DIR (dir % 2) s).set F.SAT_ECC_STATUS_POS
      (if dir = 0 then p else 0) s).set F.SAT_ECC_STATUS_ENTRY e s
    let d := d.raise E.SAT_ECC_UNCORR s
    match (d.sl s).cmd with
    | some c => if c.op < 7 ∧ c.dir = dir % 2 ∧ c.entry = e then d.satEnd s c.op 13 c.ticket 0 else d
    | none => d

/-! The diagnostic test window (R124, R125). -/

/-- May a master open the window: 0 yes, 1 not (a violation), 2 the write is ignored (R124)? -/
def Dev.diagMay (d : Dev) (s : Nat) (m : Master) : Nat :=
  let p := d.principal m
  if d.fuse.lcs = 4 then 2
  else if d.fuse.lcs = 0 then (if p = some 0 ∨ m = .sageA ∨ m = .sageB then 0 else 1)
  else if p = some 1 ∨ d.isActive m then (if d.on F.SAT_STATUS_FENCED s then 0 else 2)
  else 1

/-- DIAG_CHANGE and its Rosemary record, with the principal (R124). -/
def Dev.diagLog (d : Dev) (s : Nat) (m : Master) : Dev :=
  (d.raise E.SAT_DIAG_CHANGE s).rsmLog 0x16 (beBytes 1 s ++ beBytes 1 ((d.principal m).getD 0xFF))

/-- Drop the test buffer of a slice (R125). -/
def Dev.diagClear (d : Dev) (s : Nat) : Dev := d.dropEntries (fun sel _ => sel = 0x38 + s)

/-- A command that runs when the window opens ends ABORTED with the reason DIAG_OPEN (R125). -/
def Dev.diagStop (d : Dev) (s : Nat) : Dev :=
  match (d.sl s).cmd with
  | some c => d.satEnd s c.op 11 c.ticket 0
  | none => d

/-- DIAG_OPEN (R124). -/
def doDiagOpen (slice : Nat) (m : Master) (d : Dev) : Dev :=
  let s := slice % 8
  match d.diagMay s m with
  | 0 =>
    if d.on F.SAT_DIAG_CTRL_OPEN s then d
    else
      let d := (if d.fuse.lcs = 0 then d else d.satErase s).diagStop s
      ((d.set F.SAT_DIAG_CTRL_OPEN 1 s).set F.SAT_STATUS_DIAG_OPEN 1 s).diagLog s m
  | 1 => d.violate m (R.SAT_DIAG_CTRL.addr s 0) true
  | _ => d

/-- DIAG_CLOSE (R124, R125). -/
def doDiagClose (slice : Nat) (m : Master) (d : Dev) : Dev :=
  let s := slice % 8
  if d.diagMay s m = 1 then d.violate m (R.SAT_DIAG_CTRL.addr s 0) true
  else if d.on F.SAT_DIAG_CTRL_OPEN s then
    (((d.diagClear s).set F.SAT_DIAG_CTRL_OPEN 0 s).set F.SAT_STATUS_DIAG_OPEN 0 s).diagLog s m
  else d

/-- The bytes of the test buffer (R126). -/
def Dev.diagBytes (d : Dev) (s : Nat) : Bytes :=
  (List.range 30).flatMap (fun i => wordsToBytes ((List.range 16).map (fun w => d.tw (0x38 + s) (i + 2) w)))

/-- Bytes back into the test buffer, from byte 0 of index 2. -/
def Dev.setDiagBytes (d : Dev) (s : Nat) (bs : Bytes) : Dev :=
  (List.range 30).foldl (fun d i => d.setEntry (0x38 + s) (i + 2) (bytesToWords (slice bs (64 * i) 64))) d

/-! The tables through the window (R126). -/

/-- Words of a transmit position. -/
def txWords (t : TxPos) : List Nat :=
  [t.st * 2 ^ 29 + t.suite * 2 ^ 28 + b2n t.ssciSrc * 2 ^ 27 + t.an * 2 ^ 24 + t.group, t.lport * 2 ^ 24 + t.peerKsi,
   t.sci / 2 ^ 32, t.sci % 2 ^ 32, t.ssci, t.pn / 2 ^ 32, t.pn % 2 ^ 32, t.frames / 2 ^ 32, t.frames % 2 ^ 32,
   t.blocks / 2 ^ 32, t.blocks % 2 ^ 32, t.frmLim, t.blkLim, t.starve, t.pnStart % 2 ^ 32]

/-- Words of a receive entry. -/
def rxWords (r : RxEnt) : List Nat :=
  [r.st * 2 ^ 29 + r.suite * 2 ^ 28 + b2n r.emode * 2 ^ 27 + r.mode * 2 ^ 25 + r.an * 2 ^ 23 + r.group, r.window,
   r.sci / 2 ^ 32, r.sci % 2 ^ 32, r.ssci, r.highest / 2 ^ 32, r.highest % 2 ^ 32, r.ok / 2 ^ 32, r.ok % 2 ^ 32,
   r.replayDisc, r.at_ / 2 ^ 32, r.at_ % 2 ^ 32]

/-- SAT_OCCUPANCY (R127). -/
def Dev.satOccupancy (d : Dev) (s : Nat) : Nat :=
  let ents := ((d.sat.tx.filter (fun e => e.1 / 2 ^ 14 = s && (e.2.st = 2 || e.2.st = 3))).map (fun e => e.1 % 2 ^ 13)).eraseDups
  let rx := d.sat.rx.filter (fun e => e.1 / 2 ^ 13 = s && (e.2.st = 2 || e.2.st = 3))
  ents.length * 2 ^ 16 + rx.length

end Sys2Proof.Machine
end

