-- ==== Sys2Proof/Machine/Lrn.lean ====
section
/-! DEFINITION. Multipoint services and per-slice learning (R175-R199). -/

namespace Sys2Proof.Machine

def Dev.lrnEnt (d : Dev) (s i : Nat) : LrnEnt := SMap.get {} d.lrn.tab (s * 2 ^ 15 + i)
def Dev.setLrn (d : Dev) (s i : Nat) (e : LrnEnt) : Dev :=
  { d with lrn := { d.lrn with tab := SMap.set {} d.lrn.tab (s * 2 ^ 15 + i) e } }

/-- The bucket of a key (R191). -/
def lrnBucket (mpi mac : Nat) : Nat := crc32 (beBytes 2 (mpi % 1024) ++ beBytes 6 mac) % 8192

/-- The index of the entry that holds a key, looked for in the ways of its bucket (R191). -/
def Dev.lrnFind (d : Dev) (s mpi mac : Nat) : Option Nat :=
  ((List.range 4).map (lrnBucket mpi mac * 4 + ·)).find? fun i =>
    let e := d.lrnEnt s i
    e.valid && e.mpi = mpi && e.mac = mac

/-- The valid entries of a slice's table. -/
def Dev.lrnAll (d : Dev) (s : Nat) : List LrnEnt :=
  ((d.lrn.tab.filter (fun e => e.1 / 2 ^ 15 = s)).map Prod.snd).filter (fun e => e.valid)

/-- COUNT of an MPI in a slice (R197). -/
def Dev.lrnCount (d : Dev) (s mpi : Nat) : Nat := ((d.lrnAll s).filter (fun e => e.mpi = mpi)).length

/-- LRN_OCCUPANCY (R198). -/
def Dev.lrnOccupancy (d : Dev) (s : Nat) : Nat :=
  ((d.lrnAll s).filter (fun e => e.static)).length * 2 ^ 16 + (d.lrnAll s).length

/-- An uncorrectable error found in the entry of a key deletes it and the lookup misses (R191). -/
def Dev.lrnEcc (d : Dev) (s mpi mac : Nat) : Dev :=
  match d.lrnFind s mpi mac with
  | some i => (d.setLrn s i {}).raise E.LRN_ECC_UNCORR s
  | none => d.raise E.LRN_ECC_UNCORR s

/-- The learn queue's level is shown by LEARN_Q_FULL (R198). -/
def Dev.setLearnQ (d : Dev) (s : Nat) (q : List LrnReq) : Dev :=
  ({ d with lrn := { d.lrn with queue := SMap.set [] d.lrn.queue s q } }).flag F.LRN_STATUS_LEARN_Q_FULL (decide (64 ≤ q.length)) s

/-- A request enters the learn queue of 64 (R190). -/
def Dev.learnAsk (d : Dev) (s : Nat) (r : LrnReq) : Dev :=
  let q := SMap.get [] d.lrn.queue s
  if q.length < 64 then d.setLearnQ s (q ++ [r]) else d.bump R.LRN_CNT_LEARN_DROP s

/-- Learning from a verified frame of receive entry `e` with source address `mac` (R186, R187). -/
def Dev.learnFrom (d : Dev) (s e mac : Nat) : Dev :=
  let b0 := d.tw (0x48 + s) e 0
  let mpi := d.tf (0x48 + s) e 1 9 0
  if !d.on F.LRN_CTRL_LEARN_EN s || d.sliceOff s then d
  else if !bit b0 31 then
    (((d.bump R.LRN_CNT_NO_BIND s).set F.LRN_STATUS_NO_BIND_VALID 1 s).set F.LRN_STATUS_NO_BIND_ENTRY e s).raise E.LRN_NO_BIND s
  else if !bit b0 30 || bit mac 40 || mac = 0 then d
  else
    let r : LrnReq := ⟨e, mpi, mac, nbits b0 27 16, nbits b0 12 0⟩
    match d.lrnFind s mpi mac with
    | none => d.learnAsk s r
    | some i =>
      let v := d.lrnEnt s i
      if v.peer = r.peer then d.setLrn s i { v with hit := true }
      else if v.static || v.frozen then (d.setLrn s i { v with hit := true }).bump R.LRN_CNT_MOVE_REFUSED s
      else d.learnAsk s r

/-- A move (R188). -/
def Dev.learnMove (d : Dev) (s i : Nat) (r : LrnReq) : Dev :=
  let v := d.lrnEnt s i
  let lim := d.get F.LRN_CTRL_MOVE_LIMIT s
  let n := min 8 (v.moves + 1)
  let froze := decide (lim ≠ 0 ∧ lim < n)
  let d := d.setLrn s i { v with peer := r.peer, tx := r.tx, hit := true, moves := n, frozen := froze, visits := 0 }
  let d := (d.bump R.LRN_CNT_MOVES s).raise E.LRN_MOVE s
  if froze then d.raise E.LRN_FROZEN s else d

/-- A failed insert (R189): 1 BUCKET_FULL, 2 LIMIT. -/
def Dev.insertFail (d : Dev) (s mpi cause : Nat) : Dev :=
  (((d.bump R.LRN_CNT_INSERT_FAIL s).set F.LRN_STATUS_FAIL_MPI mpi s).set F.LRN_STATUS_FAIL_CAUSE cause s).raise E.LRN_INSERT_FAIL s

/-- An insert (R189); which of the free ways it takes is a free value (log entry 17). -/
def Dev.learnInsert (d : Dev) (s : Nat) (r : LrnReq) : Dev :=
  let lim := d.tf (0x50 + s) r.mpi 0 31 16
  if lim ≠ 0 ∧ lim ≤ d.lrnCount s r.mpi then d.insertFail s r.mpi 2
  else
    match ((List.range 4).map (lrnBucket r.mpi r.mac * 4 + ·)).filter (fun i => !(d.lrnEnt s i).valid) with
    | [] => d.insertFail s r.mpi 1
    | w :: ws =>
      let i := (w :: ws).getD (d.freeVal % (ws.length + 1)) w
      let d := (d.freeNext).setLrn s i { valid := true, hit := true, mpi := r.mpi, mac := r.mac, peer := r.peer, tx := r.tx }
      (d.bump R.LRN_CNT_LEARNED s).count (8 + s) 0x17 { rxe := some r.entry }

/-- LEARN_REQUEST (R187-R190, R195): the learning unit serves the oldest request by what it finds now. -/
def doLearnRequest (slice : Nat) (d : Dev) : Dev :=
  let s := slice % 8
  if d.sliceOff s then d
  else match SMap.get [] d.lrn.queue s with
  | [] => d
  | r :: q =>
    let d := d.setLearnQ s q
    match d.lrnFind s r.mpi r.mac with
    | none => d.learnInsert s r
    | some i =>
      let v := d.lrnEnt s i
      if v.peer = r.peer then d.setLrn s i { v with hit := true }
      else if v.static || v.frozen then (d.setLrn s i { v with hit := true }).bump R.LRN_CNT_MOVE_REFUSED s
      else d.learnMove s i r

/-! Aging and flushing (R193, R194). -/

/-- Does an entry match the selector of a flush (R194)? -/
def flushHits (sel : Nat) (e : LrnEnt) : Bool :=
  e.valid && (!e.static || bit sel 27) &&
  match nbits sel 29 28 with
  | 0 => e.mpi = nbits sel 9 0
  | 1 => e.peer = nbits sel 21 10
  | 2 => e.mpi = nbits sel 9 0 && e.peer = nbits sel 21 10
  | _ => true

/-- The flush passes the entries of buckets `lo` up to `hi`, `hi` not included. -/
def Dev.flushRange (d : Dev) (s lo hi : Nat) : Dev :=
  let sel := SMap.get 0 d.lrn.flushSel s
  let keep (e : Nat × LrnEnt) : Bool :=
    !(e.1 / 2 ^ 15 = s && lo ≤ e.1 % 2 ^ 15 / 4 && e.1 % 2 ^ 15 / 4 < hi && flushHits sel e.2)
  { d with lrn := { d.lrn with tab := d.lrn.tab.filter keep, flushAt := SMap.set 0 d.lrn.flushAt s hi } }

/-- The sweeper at one dynamic entry (R188, R193). -/
def Dev.sweepEntry (d : Dev) (s i : Nat) : Dev :=
  let v := d.lrnEnt s i
  if !v.valid then d
  else
    let n := if v.frozen then v.visits + 1 else 0
    let v := { v with moves := 0, visits := if n < 2 then n else 0, frozen := v.frozen && decide (n < 2) }
    if v.static then d.setLrn s i v
    else if v.hit then d.setLrn s i { v with hit := false }
    else (d.setLrn s i {}).bump R.LRN_CNT_AGED s

/-- INTERVAL_MS within its range (R198). -/
def Dev.sweepMs (d : Dev) (s : Nat) : Nat := max 50 (min 600000 (d.get F.LRN_SWEEP_INTERVAL_INTERVAL_MS s))

/-- A pass of the sweeper begins; one that begins more than twice its period after the last raises
SWEEP_OVERRUN (R39). -/
def Dev.sweepPass (d : Dev) (s : Nat) : Dev :=
  let late := match SMap.get none d.lrn.sweepClk s with
    | some c => decide (c + 2 * ms (d.sweepMs s) < d.tim.clk)
    | none => false
  let d := { d with lrn := { d.lrn with sweepClk := SMap.set none d.lrn.sweepClk s (some d.tim.clk) } }
  if late then d.raise E.LRN_SWEEP_OVERRUN s else d

/-- SWEEPER_VISIT (R191, R193-R195): the sweeper, or the flush in its place, visits a bucket; `err` names the way
whose entry shows an uncorrectable error. -/
def doSweeperVisit (slice bucket : Nat) (err : Option Nat) (d : Dev) : Dev :=
  let s := slice % 8
  let b := bucket % 8192
  if d.sliceOff s then d
  else
    let d := match err with
      | some w => (d.setLrn s (b * 4 + w % 4) {}).raise E.LRN_ECC_UNCORR s
      | none => d
    if d.on F.LRN_FLUSH_BUSY s then d.flushRange s (SMap.get 0 d.lrn.flushAt s) (max (SMap.get 0 d.lrn.flushAt s) (b + 1))
    else if !d.on F.LRN_CTRL_SWEEP_EN s then d
    else (List.range 4).foldl (fun d w => d.sweepEntry s (b * 4 + w)) (if b = 0 then d.sweepPass s else d)

/-- LRN_FLUSH (R194, R198): a write of the register: the selector, and START where no flush runs; `value` is the
word written. -/
def doLrnFlush (slice value : Nat) (d : Dev) : Dev :=
  let s := slice % 8
  let busy := d.on F.LRN_FLUSH_BUSY s
  let d := (((d.set F.LRN_FLUSH_SEL (nbits value 29 28) s).set F.LRN_FLUSH_INCL_STATIC (nbits value 27 27) s).set
    F.LRN_FLUSH_PEER (nbits value 21 10) s).set F.LRN_FLUSH_MPI (nbits value 9 0) s
  if !bit value 31 || busy || d.sliceOff s then d
  else
    ({ d with lrn := { d.lrn with flushAt := SMap.set 0 d.lrn.flushAt s 0,
                                  flushSel := SMap.set 0 d.lrn.flushSel s (value % 2 ^ 30) } }).set F.LRN_FLUSH_BUSY 1 s

/-- FLUSH_DONE (R194): the pass reaches the last bucket. -/
def doFlushDone (slice : Nat) (d : Dev) : Dev :=
  let s := slice % 8
  if !d.on F.LRN_FLUSH_BUSY s || d.sliceOff s then d
  else
    let d := d.flushRange s (SMap.get 0 d.lrn.flushAt s) 8192
    (({ d with lrn := { d.lrn with flushAt := SMap.set 0 d.lrn.flushAt s 0,
                                   flushSel := SMap.set 0 d.lrn.flushSel s 0 } }).set F.LRN_FLUSH_BUSY 0 s).raise E.LRN_FLUSH_DONE s

/-- A fence or a hold ends a running flush without FLUSH_DONE (R194, R195). -/
def Dev.flushStop (d : Dev) (s : Nat) : Dev :=
  ({ d with lrn := { d.lrn with flushAt := SMap.set 0 d.lrn.flushAt s 0,
                                flushSel := SMap.set 0 d.lrn.flushSel s 0 } }).set F.LRN_FLUSH_BUSY 0 s

/-! The table window (R192, R197). -/

/-- DATA0-DATA2 of a learning entry. -/
def lrnWords (e : LrnEnt) : List Nat :=
  [b2n e.valid * 2 ^ 31 + b2n e.static * 2 ^ 30 + b2n e.hit * 2 ^ 29 + b2n e.frozen * 2 ^ 28 + e.mpi * 2 ^ 16 + e.mac / 2 ^ 32,
   e.mac % 2 ^ 32, min 7 e.moves * 2 ^ 29 + e.peer * 2 ^ 16 + e.tx]

/-- A window write of a learning entry (R192): none where it is refused. -/
def Dev.lrnWrite (d : Dev) (s i : Nat) (ws : List Nat) : Option Dev :=
  let w0 := ws.getD 0 0
  let w2 := ws.getD 2 0
  let mpi := nbits w0 25 16
  let mac := nbits w0 15 0 * 2 ^ 32 + ws.getD 1 0
  if !bit w0 31 then some (d.setLrn s i {})
  else if !bit w0 30 || lrnBucket mpi mac ≠ i / 4 then none
  else
    let d := match d.lrnFind s mpi mac with
      | some j => d.setLrn s j {}
      | none => d
    some (d.setLrn s i { valid := true, static := true, mpi := mpi, mac := mac, peer := nbits w2 27 16, tx := nbits w2 12 0 })

/-- Every learning entry, binding and station limit of a slice is emptied (R195, R317). -/
def Dev.lrnErase (d : Dev) (s : Nat) : Dev :=
  let d := { d with lrn := { d.lrn with tab := d.lrn.tab.filter (fun e => e.1 / 2 ^ 15 ≠ s),
                                        queue := SMap.set [] d.lrn.queue s [],
                                        sweepClk := SMap.set none d.lrn.sweepClk s none } }
  (d.dropEntries (fun sel _ => sel = 0x48 + s || sel = 0x50 + s)).flushStop s |>.set F.LRN_STATUS_LEARN_Q_FULL 0 s

end Sys2Proof.Machine
end

