-- ==== Sys2Proof/Machine/Sch.lean ====
section
/-! DEFINITION. Queues, admission and the line scheduler (R208-R223, R227-R229), and the bank copies of the
bound tables (R239). -/

namespace Sys2Proof.Machine

/-! Tables and their errors (R228, R229). -/

/-- Is an entry of a table of R229 free of an uncorrectable error? -/
def Dev.schGood (d : Dev) (sel idx : Nat) : Bool := !d.sch.bad.contains (sel, idx)

/-- Is an entry valid, an entry with an uncorrectable error being treated as VALID = 0 (R228)? -/
def Dev.schValid (d : Dev) (sel idx : Nat) : Bool := d.tf sel idx 0 31 31 = 1 && d.schGood sel idx

/-- The class plane of a class (R217): Express, Assured, Standard and Bulk. -/
def planeOf (c : Nat) : Nat := min c 2

/-- Number of ones among the low `i` bits of a mask. -/
def popBelow (m i : Nat) : Nat := ((List.range i).filter (fun k => bit m k)).length

/-- The place of a queue in the scheduling tree (R218). -/
structure Path where
  s : Nat := 0
  q : Nat := 0
  cls : Nat := 0
  node : Nat := 0
  sub : Nat := 0
  deriving DecidableEq, Repr

/-- The path of queue `q` of slice `s`, where each entry on it is valid, with its line port. -/
def Dev.pathOf (d : Dev) (s q : Nat) : Option (Path × Nat) :=
  let node := d.tf (0x70 + s) q 0 10 0
  let sub := d.tf (0x78 + s) node 0 25 16
  let p := d.tf (0x70 + s) q 0 28 24
  if d.schValid (0x70 + s) q && d.schValid (0x78 + s) node && d.schValid (0x80 + s) sub &&
      d.tf (0x80 + s) sub 0 28 24 = p && d.schGood 0x88 p
  then some (⟨s, q, d.tf (0x70 + s) q 0 30 29, node, sub⟩, p) else none

/-- Frames of queue `q` of slice `s`, oldest first. -/
def Dev.queue (d : Dev) (s q : Nat) : List Frame := SMap.get [] d.sch.q (s * 2 ^ 13 + q)

/-- The queues of a port and plane that hold frames, in rising order of slice and queue. -/
def Dev.livePaths (d : Dev) (p plane : Nat) : List Path :=
  d.sch.q.filterMap fun e =>
    match d.pathOf (e.1 / 2 ^ 13) (e.1 % 2 ^ 13) with
    | some (x, port) => if port = p && planeOf x.cls = plane && !e.2.isEmpty then some x else none
    | none => none

/-! Encryption-aware length (R213, R214). -/

/-- Does a transmit position add the merge shim (R135)? -/
def Dev.txShim (d : Dev) (t : TxPos) : Bool := !d.fMode t.lport || (t.suite = 1 && !t.ssciSrc)

/-- ELEN of a frame of `len` bytes with FCS (R213). -/
def elenOf (fmode shim : Bool) (len : Nat) : Nat :=
  if fmode then len + (if shim then 60 else 52)
  else ((len + 36 + 7) / 8 * 8 * 256 + 254) / 255

/-- ELEN of a queued frame now (R214). -/
def Dev.frameElen (d : Dev) (f : Frame) : Nat :=
  let shim := match d.txLive f.slice f.txEntry with
    | some p => d.txShim (d.tx f.slice f.txEntry p)
    | none => true
  elenOf (d.fMode f.lport) shim (f.data.length + 4)

/-- Replace a queue; a frame that becomes its head takes its ELEN (R214). -/
def Dev.setQueue (d : Dev) (s q : Nat) (fs : List Frame) : Dev :=
  let fs := match fs with
    | f :: r => (if f.elen = 0 then { f with elen := d.frameElen f } else f) :: r
    | [] => []
  { d with sch := { d.sch with q := SMap.set [] d.sch.q (s * 2 ^ 13 + q) fs } }

/-! Scheduling state (R219-R222). -/

/-- Where a node has its state: level 0 the port, 1 subscriber, 2 service, 3 queue. -/
def nodeKey (port plane level s i : Nat) : Nat := (((port * 4 + plane) * 4 + level) * 8 + s) * 2 ^ 13 + i
def Dev.nd (d : Dev) (k : Nat) : NodeSt := SMap.get {} d.sch.node k
def Dev.setNd (d : Dev) (k : Nat) (v : NodeSt) : Dev := { d with sch := { d.sch with node := SMap.set {} d.sch.node k v } }

/-- The parent's key, the child's key and the child's number at each level of a path. -/
def levelKeys (port plane : Nat) (x : Path) : Nat → Nat × Nat × Nat
  | 1 => (nodeKey port plane 0 0 0, nodeKey port plane 1 x.s x.sub, x.s * 2 ^ 13 + x.sub)
  | 2 => (nodeKey port plane 1 x.s x.sub, nodeKey port plane 2 x.s x.node, x.node)
  | _ => (nodeKey port plane 2 x.s x.node, nodeKey port plane 3 x.s x.q, x.q)

/-- Does a level use the deficit rule (R219)? -/
def Dev.deficit (d : Dev) (port level : Nat) : Bool := 2 ≤ level && d.tf 0x88 port 0 31 31 = 1

/-- QUANTUM_UNIT within its range (R221). -/
def Dev.quantumUnit (d : Dev) (port : Nat) : Nat := max 16384 (min 1048575 (d.tf 0x88 port 0 19 0))

/-- The weight of a child (R218); 0 acts as 1. -/
def Dev.weight (d : Dev) (x : Path) (level : Nat) : Nat :=
  max 1 (match level with
    | 1 => d.tf (0x80 + x.s) x.sub 0 11 0
    | 2 => d.tf (0x78 + x.s) x.node 0 11 0
    | _ => match x.cls with
      | 2 => d.tf (0x78 + x.s) x.node 1 11 0
      | 3 => d.tf (0x78 + x.s) x.node 1 27 16
      | _ => 1)

/-- on_wake of a child at a level (R219, R221). -/
def Dev.wakeAt (d : Dev) (port plane : Nat) (x : Path) (level : Nat) : Dev :=
  let k := levelKeys port plane x level
  let n := d.nd k.1
  let c := d.nd k.2.1
  if d.deficit port level then
    (d.setNd k.2.1 { c with d := 0 }).setNd k.1 { n with list := n.list.erase k.2.2 ++ [k.2.2] }
  else
    let dv := (n.v + 2 ^ 64 - c.vIdle) % 2 ^ 64
    d.setNd k.2.1 { c with s := (n.v + (c.lead - dv)) % 2 ^ 64 }

/-- A child goes idle without a dequeue: it keeps the lead of its start tag. -/
def Dev.idleAt (d : Dev) (port plane : Nat) (x : Path) (level : Nat) : Dev :=
  let k := levelKeys port plane x level
  let n := d.nd k.1
  let c := d.nd k.2.1
  if d.deficit port level then
    (d.setNd k.2.1 { c with d := 0 }).setNd k.1 { n with list := n.list.erase k.2.2, cur := if n.cur = some k.2.2 then none else n.cur }
  else d.setNd k.2.1 { c with lead := (signed 64 ((c.s + 2 ^ 64 - n.v) % 2 ^ 64)).toNat, vIdle := n.v }

/-- Has a child of the given level on this path frames in the plane? -/
def Dev.hasFrames (d : Dev) (port plane : Nat) (x : Path) (level : Nat) : Bool :=
  (d.livePaths port plane).any fun y =>
    y.s = x.s && (match level with
      | 1 => y.sub = x.sub
      | 2 => y.node = x.node
      | _ => y.q = x.q)

/-- A frame enters a queue: every child on its path that had no frame wakes (R219, R228). -/
def Dev.enqueue (d : Dev) (s q : Nat) (f : Frame) : Dev :=
  let e := d.setQueue s q (d.queue s q ++ [f])
  match d.pathOf s q with
  | none => e
  | some (x, port) =>
    [1, 2, 3].foldl (fun e l => if d.hasFrames port (planeOf x.cls) x l then e else e.wakeAt port (planeOf x.cls) x l) e

/-- Replace a queue's frames without a dequeue: children left without frames go idle. -/
def Dev.cutQueue (d : Dev) (s q : Nat) (fs : List Frame) : Dev :=
  let e := d.setQueue s q fs
  match d.pathOf s q with
  | none => e
  | some (x, port) =>
    [1, 2, 3].foldl (fun e l =>
      if d.hasFrames port (planeOf x.cls) x l && !e.hasFrames port (planeOf x.cls) x l then e.idleAt port (planeOf x.cls) x l else e) e

/-- The children of a level among paths, each once. -/
def childPaths (xs : List Path) (level : Nat) : List Path :=
  xs.foldl (fun acc x =>
    if acc.any (fun y => y.s = x.s && (match level with
      | 1 => y.sub = x.sub
      | 2 => y.node = x.node
      | _ => y.q = x.q)) then acc else acc ++ [x]) []

/-- The number that breaks ties among children of a level: the slice, then the index. -/
def Path.rank (x : Path) (level : Nat) : Nat :=
  x.s * 2 ^ 13 + (match level with
    | 1 => x.sub
    | 2 => x.node
    | _ => x.q)

/-- The child with the smallest start tag by signed difference; a tie goes to the lower rank (R219). -/
def Dev.minTag (d : Dev) (port plane level : Nat) (xs : List Path) : Option Path :=
  xs.foldl (fun best x =>
    match best with
    | none => some x
    | some b =>
      let df := signed 64 ((d.nd (levelKeys port plane x level).2.1).s + 2 ^ 64 - (d.nd (levelKeys port plane b level).2.1).s)
      if df < 0 || (df = 0 && x.rank level < b.rank level) then some x else best) none

/-- The child that the deficit rule serves next, given each child's head length (R221): the child, the new active
list, and whether its quantum is added. -/
def Dev.minDef (d : Dev) (port plane level : Nat) (xs : List (Path × Nat)) : Option (Path × List Nat × Bool) :=
  match xs with
  | [] => none
  | (x0, _) :: _ =>
    let n := d.nd (levelKeys port plane x0 level).1
    let num (x : Path) : Nat := (levelKeys port plane x level).2.2
    let cur : Option (Path × Nat) := xs.find? (fun e => n.cur = some (num e.1))
    match cur.filter (fun (e : Path × Nat) => e.2 ≤ (d.nd (levelKeys port plane e.1 level).2.1).d) with
    | some e => some (e.1, n.list, false)
    | none =>
      let list := match cur with
        | some e => n.list.erase (num e.1) ++ [num e.1]
        | none => n.list
      let list := list ++ ((xs.map (fun e => num e.1)).filter (fun i => !list.contains i))
      match list.findSome? (fun i => xs.find? (fun e => num e.1 = i)) with
      | some e => some (e.1, list, true)
      | none => none

/-- What is missing from a bucket, after it has filled at `kbps` up to now. -/
def Dev.debt (d : Dev) (k kbps : Nat) : Nat :=
  (SMap.get {} d.sch.bkt k).debt - kbps * (d.tim.clk - (SMap.get {} d.sch.bkt k).clk)

/-- Debit a bucket of rate `kbps`. -/
def Dev.debit (d : Dev) (k kbps bytes : Nat) : Dev :=
  { d with sch := { d.sch with bkt := SMap.set {} d.sch.bkt k ⟨d.debt k kbps + bytes * 8000000, d.tim.clk⟩ } }

/-- Keys of the shapers, plane caps and control-queue buckets. -/
def shaperKey (level s i : Nat) : Nat := level * 2 ^ 17 + s * 2 ^ 14 + i
def capKey (port plane : Nat) : Nat := 2 ^ 20 + port * 4 + plane
def ctlKey (port : Nat) : Nat := 2 ^ 21 + port

/-- Rate and burst of the shaper at a level of a path (R222). -/
def Dev.shaper (d : Dev) (x : Path) (level : Nat) : Nat × Nat :=
  if level = 1 then (d.tw (0x80 + x.s) x.sub 1, d.tf (0x80 + x.s) x.sub 2 23 0)
  else (d.tw (0x78 + x.s) x.node 2, d.tf (0x78 + x.s) x.node 3 23 0)

/-- Is a node's shaper not negative (R222)? -/
def Dev.shaped (d : Dev) (x : Path) (level : Nat) : Bool :=
  let r := d.shaper x level
  r.1 = 0 || d.debt (shaperKey level x.s (if level = 1 then x.sub else x.node)) r.1 ≤ r.2 * 8000000

/-- Rate and burst of a plane's cap (R217). -/
def Dev.cap (d : Dev) (port plane : Nat) : Nat × Nat := (d.tw 0x88 port (1 + 2 * plane), d.tf 0x88 port (2 + 2 * plane) 23 0)

/-- Is a plane demoted by its cap (R217)? -/
def Dev.demoted (d : Dev) (port plane : Nat) : Bool :=
  (d.cap port plane).1 ≠ 0 && (d.cap port plane).2 * 8000000 < d.debt (capKey port plane) (d.cap port plane).1

/-- ELEN of the head of a path's queue. -/
def Dev.headElen (d : Dev) (x : Path) : Nat :=
  match d.queue x.s x.q with
  | f :: _ => f.elen
  | [] => 0

/-- The queue that a service node serves next, among its eligible queues. -/
def Dev.pickQueue (d : Dev) (port plane : Nat) (xs : List Path) : Option (Path × List Nat × Bool) :=
  if d.deficit port 3 then d.minDef port plane 3 (xs.map (fun x => (x, d.headElen x)))
  else (d.minTag port plane 3 xs).map (fun x => (x, [], false))

/-- The choice of a plane of a port (R218-R221): the queue, and the deficit moves at the service and the queue
level. -/
def Dev.pickPlane (d : Dev) (port plane : Nat) : Option (Path × (List Nat × Bool) × (List Nat × Bool)) :=
  let xs := (d.livePaths port plane).filter (fun x => plane = 0 || (d.shaped x 1 && d.shaped x 2))
  match d.minTag port plane 1 (childPaths xs 1) with
  | none => none
  | some u =>
    let xs := xs.filter (fun x => x.s = u.s && x.sub = u.sub)
    let head (y : Path) : Option (Path × List Nat × Bool) := d.pickQueue port plane (xs.filter (fun x => x.node = y.node))
    let nodes := childPaths xs 2
    let svc : Option (Path × List Nat × Bool) :=
      if d.deficit port 2 then
        d.minDef port plane 2 (nodes.filterMap (fun y => (head y).map (fun h => (y, d.headElen h.1))))
      else (d.minTag port plane 2 nodes).map (fun x => (x, [], false))
    match svc with
    | none => none
    | some v => (head v.1).map (fun h => (h.1, v.2, h.2))

/-- The charge of a dequeued frame at one level (R219, R221); `more` says whether the child still has frames. -/
def Dev.chargeAt (d : Dev) (port plane : Nat) (x : Path) (level elen : Nat) (mv : List Nat × Bool) (more : Bool) : Dev :=
  let k := levelKeys port plane x level
  let n := d.nd k.1
  let c := d.nd k.2.1
  let w := d.weight x level
  if d.deficit port level then
    let dd := c.d + (if mv.2 then w * d.quantumUnit port else 0) - elen
    if more then (d.setNd k.2.1 { c with d := dd }).setNd k.1 { n with list := mv.1, cur := some k.2.2 }
    else (d.setNd k.2.1 { c with d := 0 }).setNd k.1 { n with list := mv.1.erase k.2.2, cur := none }
  else
    let fin := c.s + (elen * 65536 + w - 1) / w
    let d := d.setNd k.1 { n with v := c.s }
    let c := d.nd k.2.1
    if more then d.setNd k.2.1 { c with s := fin % 2 ^ 64 }
    else d.setNd k.2.1 { c with lead := fin - c.s, vIdle := c.s }

/-! Admission (R208-R211). -/

/-- Cells of a frame (R210). -/
def Frame.cellCount (f : Frame) : Nat := (f.data.length + 4 + 255) / 256

/-- DEPTH of a queue in cells (R227). -/
def Dev.depth (d : Dev) (s q : Nat) : Nat := ((d.queue s q).map Frame.cellCount).foldl (· + ·) 0

/-- Frames queued in a slice. -/
def Dev.sliceQueued (d : Dev) (s : Nat) : List Frame := (d.sch.q.filter (fun e => e.1 / 2 ^ 13 = s)).flatMap Prod.snd

/-- SCH_DESC_FREE (R211). -/
def Dev.descFree (d : Dev) (s : Nat) : Nat := 1048576 - (d.sliceQueued s).length

/-- Cells of on-die Express queue memory in use (R208). -/
def Dev.expressUsed (d : Dev) (s : Nat) : Nat :=
  (((d.sliceQueued s).filter (fun f => f.cls = 0)).map Frame.cellCount).foldl (· + ·) 0

/-- Frames of a slice whose descriptors lie in its bays: all but Express (R328). -/
def Dev.bayQueued (d : Dev) (s : Nat) : Nat := ((d.sliceQueued s).filter (fun f => f.cls ≠ 0)).length

/-- MRG_HOLD_USED (R311). -/
def Dev.holdUsed (d : Dev) (h : Nat) : Nat :=
  ((d.mrg.held.filter (fun c => c.f.slice / 4 = h)).map (fun c => c.f.cells.length)).foldl (· + ·) 0

/-- Free cells of a half that its queues may use (R311). -/
def Dev.queueCells (d : Dev) (h : Nat) : Nat := d.halfFree h - (d.get F.MRG_HOLD_RESERVE_CELLS h - d.holdUsed h)

/-- The queue of a frame (R209), and whether it may be used. -/
def Dev.queueFor (d : Dev) (s : Nat) (f : Frame) : Option Nat :=
  let i := f.lport % 16
  let m := d.tw (0x68 + s) f.svc 0
  let q := nbits m 28 16 + 4 * popBelow (nbits m 15 0) i + f.cls
  if d.schValid (0x68 + s) f.svc && bit m i && decide (q ≤ 8191) && d.schValid (0x70 + s) q &&
      d.tf (0x70 + s) q 0 30 29 = f.cls && d.tf (0x70 + s) q 0 28 24 = f.lport && d.tf (0x70 + s) q 1 13 0 = f.svc
  then some q else none

/-- A frame discarded by a flush (R212). -/
def Dev.flushed (d : Dev) (n : Nat) : Dev := d.bump R.SCH_CNT_FLUSHED (n := n)

/-- The check that turns a frame away at its queue (R210), by its counter. -/
def Dev.turnAway (d : Dev) (s q : Nat) (f : Frame) : Option Reg :=
  let n := f.cellCount
  let age := d.tf (0x70 + s) q 4 19 0
  let max_ := d.tf (0x70 + s) q 2 23 0
  let ymax := d.tf (0x70 + s) q 3 23 0
  let late := match d.queue s q with
    | h :: _ => d.on F.SCH_CTRL_AGE_ADMIT_EN && decide (age ≠ 0) && decide (us age < d.tim.clk - h.arr)
    | [] => false
  if late then some R.SCH_CNT_LATE_ADMIT
  else if max_ ≠ 0 ∧ max_ < d.depth s q + n then some R.SCH_CNT_QUEUE_FULL
  else if f.yellow ∧ ymax ≠ 0 ∧ ymax < d.depth s q + n then some R.SCH_CNT_YELLOW_DROP
  else if d.descFree s = 0 ∨ (if f.cls = 0 then 1024 < d.expressUsed s + n
      else 1047552 ≤ d.bayQueued s ∨ d.halfFailed (s / 4) ∨ d.queueCells (s / 4) < n) then
    some R.SCH_CNT_NO_BUFFER
  else none

/-- Admission of one copy with its transmit entry and line port (R209-R212). -/
def Dev.enterQueue (d : Dev) (s : Nat) (f : Frame) : Dev :=
  if !d.portOpen f.lport then d.flushed 1
  else match d.queueFor s f with
  | none => (d.bump R.SCH_CNT_NO_QUEUE).raise E.SCH_NO_QUEUE
  | some q =>
    let seen := { f.seen with cport := none, queue := some q }
    if (match d.sch.flush with | some (a, b, _) => a = s && b = q | none => false) then d.flushed 1
    else match d.turnAway s q f with
    | some r => ((d.bump r f.cls).count 17 0x29 seen).svcBump f.svc 4
    | none =>
      let f := { f with queue := q }
      let stored : Option (Dev × Frame) :=
        if f.cls = 0 then some (d, f)
        else (d.storeBytes (s / 4) (s * 32 + f.lport) (f.data ++ fcsBytes f.data)).map (fun r => (r.1, { f with cells := r.2 }))
      match stored with
      | none => ((d.bump R.SCH_CNT_NO_BUFFER f.cls).count 17 0x29 seen).svcBump f.svc 4
      | some (e, f) =>
        let e := (e.enqueue s q f).count 17 0x28 seen
        let e := if e.descFree s = 0 then e.raise E.SCH_DESC_EXHAUST else e
        if f.cls ≠ 0 ∧ e.halfFree (s / 4) = 0 then e.raise E.SCH_CELLS_EXHAUST else e

/-! The steer stage (R88, R180, R181). -/

/-- Is a suite permitted on a line port's mode (R91)? -/
def Dev.suiteOk (d : Dev) (t : TxPos) : Bool := t.suite = 1 || d.fMode t.lport

/-- A frame without a usable transmit entry (R88). -/
def Dev.noSa (d : Dev) (s : Nat) (f : Frame) : Dev :=
  (d.bump R.SAT_CNT_TX_NO_SA s).count (8 + s) 0x14 { f.seen with cport := none }

/-- A copy on transmit entry `e` (R88, R209). -/
def Dev.steerOn (d : Dev) (s e : Nat) (f : Frame) : Dev :=
  match d.txLive s e with
  | none => d.noSa s f
  | some p =>
    let t := d.tx s e p
    if !d.suiteOk t || d.satStopped s 0 e then d.noSa s f
    else d.enterQueue s { f with txEntry := e, lport := t.lport }

/-- Discard every frame of a queue, counted in a register. -/
def Dev.emptyQueue (d : Dev) (s q : Nat) (r : Reg) : Dev :=
  let fs := d.queue s q
  let d := fs.foldl (fun d f => d.freeCells f.cells) (d.cutQueue s q [])
  d.bump r (n := fs.length)

/-- The queues below an entry of a table (R228): map, queue, service node, subscriber node, port. -/
def Dev.queuesBelow (d : Dev) (sel idx : Nat) : List (Nat × Nat) :=
  (d.sch.q.map (fun e => (e.1 / 2 ^ 13, e.1 % 2 ^ 13))).filter fun sq =>
    let s := sq.1
    let q := sq.2
    let node := d.tf (0x70 + s) q 0 10 0
    if sel = 0x68 + s then d.tf (0x70 + s) q 1 13 0 = idx
    else if sel = 0x70 + s then q = idx
    else if sel = 0x78 + s then node = idx
    else if sel = 0x80 + s then d.tf (0x78 + s) node 0 25 16 = idx
    else sel = 0x88 && d.tf (0x70 + s) q 0 28 24 = idx

/-- TABLE of SCH_ECC_STATUS for a TBL_SEL (R232, R255). -/
def schTable (sel : Nat) : Nat :=
  if sel = 0x88 then 4 else if sel = 0x89 then 5 else if 0x90 ≤ sel ∧ sel < 0x98 then 6
  else if 0xA0 ≤ sel then 7 else (sel - 0x68) / 8

/-- An error in an entry of the tables of R229 or R255 (R228). -/
def Dev.schEcc (d : Dev) (sel idx : Nat) (uncorr : Bool) : Dev :=
  if !uncorr then (d.bump R.SCH_CNT_ECC_CORRECTED).raise E.SCH_ECC_CORR
  else
    let below := d.queuesBelow sel idx
    let d := below.foldl (fun d x => d.emptyQueue x.1 x.2 R.SCH_CNT_ECC_DISCARD) d
    let d := if sel = 0x89 then
        let gone := d.sch.egr.filter (fun e => e.1 / 4 = idx)
        let n := (gone.map (fun e => e.2.length)).foldl (· + ·) 0
        ({ d with sch := { d.sch with egr := d.sch.egr.filter (fun e => e.1 / 4 ≠ idx) } }).bump R.SCH_CNT_ECC_DISCARD (n := n)
      else d
    let d := { d with sch := { d.sch with bad := (sel, idx) :: d.sch.bad.filter (· ≠ (sel, idx)) } }
    ((((d.set F.SCH_ECC_STATUS_VALID 1).set F.SCH_ECC_STATUS_TABLE (schTable sel)).set F.SCH_ECC_STATUS_SLICE
      (if sel < 0x88 ∨ (0x90 ≤ sel ∧ sel < 0x98) then sel % 8 else 0)).set F.SCH_ECC_STATUS_INDEX idx).raise E.SCH_ECC_UNCORR

/-- STEER (R88, R180, R181, R209-R212): the oldest waiting copy of the slice, Express or other; `ecc` names an entry
read for it that shows an ECC error: TBL_SEL, index, and whether it is uncorrectable. -/
def doSteer (slice : Nat) (express : Bool) (ecc : Option (Nat × Nat × Bool)) (d : Dev) : Dev :=
  let s := slice % 8
  let w := SMap.get [] d.fe.steer s
  match w.find? (fun f => decide (f.cls = 0) == express) with
  | none => d
  | some f =>
    let d := { d with fe := { d.fe with steer := SMap.set [] d.fe.steer s (w.erase f) } }
    if d.sliceOff s then d.flushed 1
    else
      let sidx := f.tag * 2 ^ 24 + f.svc
      let steerBad := match ecc with
        | some (sel, _, u) => sel = 0x20 + s && u
        | none => false
      let d := match ecc with
        | some (sel, idx, u) =>
          if sel = 0x20 + s then
            if u then (d.feDiscard R.FE_CNT_ECC_DISCARD (f.port / 8) f.port (f.data.length + 4)).raise E.FE_ECC_UNCORR (f.port / 8)
            else (d.bump R.FE_CNT_ECC_CORRECTED (f.port / 8)).raise E.FE_ECC_CORR (f.port / 8)
          else if 0x68 ≤ sel && sel < 0xA8 then d.schEcc sel idx u
          else d
        | none => d
      if steerBad then d
      else
        let w0 := d.tw (0x20 + s) sidx 0
        let mp := d.tw (0x20 + s) sidx 1
        let f := { f with slice := s }
        if !bit w0 31 then d.noSa s f
        else if !bit w0 30 then d.steerOn s (nbits w0 12 0) f
        else
          let dst := numAt f.data 0 6
          let group := bit dst 40
          let d := match ecc with
            | some (sel, _, true) => if sel = 0x40 + s && !group then d.lrnEcc s (nbits mp 31 22) dst else d
            | _ => d
          let n := min 4 (nbits mp 18 16)
          let drop := d.bump R.LRN_CNT_FLOOD_DROP s
          let flood :=
            if n = 0 then drop
            else
              let d := (d.bump R.LRN_CNT_FLOODED s).count (8 + s) 0x18 { f.seen with cport := none }
              (List.range n).foldl (fun d k => d.steerOn s ((nbits mp 12 0 + k) % 8192) f) d
          if group then flood
          else match d.lrnFind s (nbits mp 31 22) dst with
          | some i => d.steerOn s (d.lrnEnt s i).tx f
          | none => if bit mp 21 then drop else flood

/-! The line scheduler (R215-R223, R247, R250). -/

/-- The present in units of 2^-16 ns. -/
def Dev.now16 (d : Dev) : Nat := d.tim.clk * 65536

/-- The time of `bytes` at a rate in Gbit/s, in units of 2^-16 ns (R215). -/
def byteTime (bytes rate : Nat) : Nat := bytes * 8 * 65536 / rate

/-- D_p (R215). -/
def Dev.dp (d : Dev) (p : Nat) : Nat := SMap.get 0 d.sch.dp p
def Dev.setDp (d : Dev) (p v : Nat) : Dev := { d with sch := { d.sch with dp := SMap.set 0 d.sch.dp p v } }

/-- Bytes that a port's line back end holds (R244). -/
def Dev.backBytes (d : Dev) (p : Nat) : Nat := ((SMap.get [] d.env.be p).map (fun i => i.bytes.length)).foldl (· + ·) 0

/-- May a frame be dequeued for a line port (R215, R244)? -/
def Dev.lineReady (d : Dev) (p : Nat) : Bool :=
  let r := d.lRate p
  d.portOpen p && d.on F.LPORT_STATUS_TX_ACTIVE p && decide (r ≠ 0) && !d.domHeld (p / 16) &&
    decide (d.backBytes p < r * 20) && decide (d.dp p ≤ d.now16 + byteTime 16103 r)

/-- The verdict of the line deadline guard (R247, R250): D_p after the charge, the reckoned last-byte time and the
time it must not pass, in units of 2^-16 ns. -/
def Dev.lineGuard (d : Dev) (p : Nat) (f : Frame) : Nat × Nat × Nat :=
  let r := d.lRate p
  let e := if d.fMode p then 0 else 1
  let dnow := max (d.dp p) d.now16
  let el := byteTime f.elen r
  let fp := 456 * 65536 + 512 * e * 65536 / r
  match f.ptp with
  | some tl => ((tl - 456) * 65536 + el, dnow + el + fp, tl * 65536 + byteTime (f.elen + 64 * e) r)
  | none =>
    let dl := match f.deadline with
      | some t => t
      | none => (f.arr + 1200) * 65536 + byteTime (32206 + 64 * e + f.elen) r
    (dnow + el, dnow + el + fp, dl)

/-- Take the head off a queue. -/
def Dev.popQueue (d : Dev) (s q : Nat) : Dev := d.setQueue s q ((d.queue s q).drop 1)

/-- The event fields of a frame at the line scheduler. -/
def Frame.lineSeen (f : Frame) : Seen :=
  { f.seen with cport := none, lport := some f.lport, txe := some f.txEntry, queue := some f.queue }

/-- The charges of a dequeued frame (R215, R217, R219, R221, R222). -/
def Dev.charge (d : Dev) (p plane : Nat) (pk : Path × (List Nat × Bool) × (List Nat × Bool)) (f : Frame) : Dev :=
  let x := pk.1
  let d := [1, 2, 3].foldl (fun e l =>
    e.chargeAt p plane x l f.elen (if l = 2 then pk.2.1 else pk.2.2) (d.hasFrames p plane x l)) d
  let d := if plane = 0 then d else
    [1, 2].foldl (fun d l =>
      if (d.shaper x l).1 = 0 then d else d.debit (shaperKey l x.s (if l = 1 then x.sub else x.node)) (d.shaper x l).1 f.elen) d
  if plane < 2 ∧ (d.cap p plane).1 ≠ 0 then
    let was := d.demoted p plane
    let d := d.debit (capKey p plane) (d.cap p plane).1 f.elen
    if !was && d.demoted p plane then d.bump (if plane = 0 then R.SCH_CNT_CAP_DEMOTE_EXP else R.SCH_CNT_CAP_DEMOTE_ASR) else d
  else d

/-- A frame that the guard discards moves nothing but its queue (R223, R249). -/
def Dev.guardLine (d : Dev) (f : Frame) (late : Nat) : Dev :=
  let d := (d.cutQueue f.slice f.queue ((d.queue f.slice f.queue).drop 1)).freeCells f.cells
  let d := ((d.bump R.SCH_CNT_GUARD_LINE f.cls).count 17 0x2B { f.lineSeen with txe := none }).svcBump f.svc 5
  d.sampleCh f.cls (late / 65536)

/-- The dequeue of a class plane (R217-R223): the frame handed to the seal stage, if one is. -/
def Dev.planeDequeue (d : Dev) (p plane : Nat) (pk : Path × (List Nat × Bool) × (List Nat × Bool)) (err : Option (Nat × Nat)) :
    Dev × Option Frame :=
  match d.queue pk.1.s pk.1.q with
  | [] => (d, none)
  | f :: _ =>
    let g := d.lineGuard p f
    if g.2.2 < g.2.1 then (d.guardLine f (g.2.1 - g.2.2), none)
    else if !d.linesReady f.cells then (d, none)
    else
      let bad : Dev × Bool :=
        if f.cells = [] then (d, false)
        else match err with
          | some (4, k) => (d.descErr (f.cells.headD (0, 0)).1 k, true)
          | _ => d.readCells f.cells err
      let d := bad.1
      if bad.2 then
        let free := match err with
          | some (4, _) => false
          | _ => true
        let d := d.cutQueue f.slice f.queue ((d.queue f.slice f.queue).drop 1)
        (if free then d.freeCells f.cells else d, none)
      else
        let d := ((d.popQueue f.slice f.queue).freeCells f.cells).charge p plane pk f
        let d := d.setDp p g.1
        let key := f.slice * 2 ^ 13 + f.queue
        let wait := d.tim.clk - f.arr
        let d := { d with sch := { d.sch with maxDelay := SMap.upd 0 d.sch.maxDelay key (fun m => max m (min 0xFFFFFFFF wait)) } }
        let d := if d.get F.SCH_SAMPLE_SEL_EN = 1 ∧ d.get F.SCH_SAMPLE_SEL_SLICE = f.slice ∧ d.get F.SCH_SAMPLE_SEL_QUEUE = f.queue then
            d.putNum R.SCH_SAMPLE_DELAY_MAX (max (d.num R.SCH_SAMPLE_DELAY_MAX) (min 0xFFFFFFFF wait)) else d
        let d := (d.sample 0x01 (f.slice * 2 ^ 24 + f.queue) wait).sample 0x03 f.svc (g.2.1 / 65536 - f.arr)
        ((d.bump64 R.SCH_CNT_DEQUEUED_LO R.SCH_CNT_DEQUEUED_HI).count 17 0x2A f.lineSeen, some f)

/-- ELEN of a frame of the control queue (R213, R216). -/
def Dev.ctlElen (d : Dev) (p : Nat) (c : CtlFrame) : Nat :=
  match c.sa with
  | some _ => elenOf (d.fMode p) true (c.data.length - 4)
  | none => c.data.length + 24

/-- The control queue's turn (R216): its head, where the bucket of 32 KiB holds its length. -/
def Dev.ctlHead (d : Dev) (p : Nat) : Option CtlFrame :=
  match SMap.get [] d.sch.ctl p with
  | c :: _ => if d.debt (ctlKey p) 1000000 + d.ctlElen p c * 8000000 ≤ 32768 * 8000000 then some c else none
  | [] => none

/-- Take the head of the control queue, charged to its bucket and to D_p. -/
def Dev.ctlTake (d : Dev) (p : Nat) (c : CtlFrame) : Dev :=
  let el := d.ctlElen p c
  let d := { d with sch := { d.sch with ctl := SMap.set [] d.sch.ctl p ((SMap.get [] d.sch.ctl p).drop 1) } }
  (d.debit (ctlKey p) 1000000 el).setDp p (max (d.dp p) d.now16 + byteTime el (d.lRate p))

/-- The plane that a dequeue opportunity serves (R217). -/
def Dev.linePlane (d : Dev) (p : Nat) : Option (Nat × Path × (List Nat × Bool) × (List Nat × Bool)) :=
  let try_ (k : Nat) := (d.pickPlane p k).map (fun x => (k, x))
  let up (k : Nat) := if d.demoted p k then none else try_ k
  let down (k : Nat) := if d.demoted p k then try_ k else none
  ((((up 0).or (up 1)).or (try_ 2)).or (down 0)).or (down 1)

/-! Flushes (R212). -/

/-- Every frame of a port's queues is discarded (R212); frames of the control queue go with the port. -/
def Dev.flushPort (d : Dev) (p : Nat) : Dev :=
  let qs := (d.sch.q.map (fun e => (e.1 / 2 ^ 13, e.1 % 2 ^ 13))).filter (fun x => d.tf (0x70 + x.1) x.2 0 28 24 = p)
  let d := qs.foldl (fun d x => d.emptyQueue x.1 x.2 R.SCH_CNT_FLUSHED) d
  let c := (SMap.get [] d.sch.ctl p).length
  ({ d with sch := { d.sch with ctl := SMap.set [] d.sch.ctl p [] } }).flushed c

/-- Every frame of a slice's queues is discarded (R43, R212). -/
def Dev.flushSlice (d : Dev) (s : Nat) : Dev :=
  let qs := (d.sch.q.filter (fun e => e.1 / 2 ^ 13 = s)).map (fun e => e.1 % 2 ^ 13)
  let d := qs.foldl (fun d q => d.emptyQueue s q R.SCH_CNT_FLUSHED) d
  let n := (SMap.get [] d.fe.steer s).length
  ({ d with fe := { d.fe with steer := SMap.set [] d.fe.steer s [] } }).flushed n

/-- FLUSH_QUEUE (R212, R228): every frame in the queue at acceptance goes. -/
def doFlushQueue (slice queue : Nat) (d : Dev) : Dev :=
  let s := slice % 8
  let q := queue % 8192
  if d.sch.flush.isSome then d
  else
    let n := (d.queue s q).length
    let d := d.emptyQueue s q R.SCH_CNT_FLUSHED
    let d := { d with sch := { d.sch with flush := some (s, q, n) } }
    ((d.set F.SCH_STATUS_CMD_BUSY 1).set F.SCH_CMD_STATUS_STATE 1).set F.SCH_CMD_STATUS_FRAMES 0

/-- FLUSH_QUEUE_DONE (R212). -/
def doFlushQueueDone (d : Dev) : Dev :=
  match d.sch.flush with
  | none => d
  | some (_, _, n) =>
    let d := { d with sch := { d.sch with flush := none } }
    (((d.set F.SCH_STATUS_CMD_BUSY 0).set F.SCH_CMD_STATUS_STATE 2).set F.SCH_CMD_STATUS_FRAMES n).raise E.SCH_CMD_DONE

/-- FILL (R205): both buckets of a meter full, its last update now. -/
def doFill (meter : Nat) (d : Dev) : Dev :=
  let m := meter % 32768
  let v : MeterSt := ⟨d.tf 0x60 m 2 23 0 * 65536, d.tf 0x60 m 3 23 0 * 65536, d.raw⟩
  let d := { d with fe := { d.fe with meter := SMap.set {} d.fe.meter m v } }
  (d.set F.POL_CMD_STATUS_STATE 2).set F.POL_CMD_STATUS_INDEX m

/-! The control queue and the bound banks. -/

/-- CONTROL_QUEUE_SEND (R216): a control record to seal on an entry, or an MKA EAPOL frame in the clear, which goes
on an F-mode port only (R30, R32). -/
def doControlQueueSend (port : Nat) (sa : Option (Nat × Nat)) (data : Bytes) (d : Dev) : Dev :=
  let p := port % 32
  if !d.portOpen p || (sa.isNone && !d.fMode p) || d.active.isNone then d
  else { d with sch := { d.sch with ctl := SMap.set [] d.sch.ctl p (SMap.get [] d.sch.ctl p ++ [⟨sa.map (fun x => (x.1 % 8, x.2 % 8192)), data⟩]) } }

/-- The switch of the bound banks at its instant (R239). -/
def Dev.boundSwitch (d : Dev) : Dev :=
  { d with fe := { d.fe with bank := 1 - d.fe.bank, switchClk := d.tim.clk, copyWait := true } }

/-- BOUND_BANK_COPY (R239): at T + 2 µs the active bank is copied into the other. -/
def doBoundBankCopy (d : Dev) : Dev :=
  if !d.fe.copyWait then d
  else
    let d := d.advance (d.fe.switchClk + us 2)
    let b := d.fe.bank
    let o := 1 - b
    let svc := (d.entries 0xA0).filter (fun e => e.1 / 16384 = b)
    let df := (d.entries 0xA1).filter (fun e => e.1 / 64 = b)
    let d := d.dropEntries (fun sel i => (sel = 0xA0 && i / 16384 = o) || (sel = 0xA1 && i / 64 = o))
    let d := svc.foldl (fun d e => d.setEntry 0xA0 (o * 16384 + e.1 % 16384) e.2) d
    let d := df.foldl (fun d e => d.setEntry 0xA1 (o * 64 + e.1 % 64) e.2) d
    { d with fe := { d.fe with copyWait := false, copyBusy := true } }

/-- BOUND_COPY_DONE (R239): writes to the inactive bank are accepted again. -/
def doBoundCopyDone (d : Dev) : Dev := if d.fe.copyBusy then { d with fe := { d.fe with copyBusy := false } } else d

end Sys2Proof.Machine
end

