-- ==== Sys2Proof/Machine/Cip.lean ====
section
/-! DEFINITION. The cipher transform: sealing, opening, verify-hold, masks, faults and fences of a slice
(R129-R174). -/

namespace Sys2Proof.Machine

/-! Sealing contexts and the items of a port's back end. -/

def Dev.ctx (d : Dev) (s p : Nat) : SealCtx := SMap.get {} d.cip.ctx (s * 32 + p)
def Dev.setCtx (d : Dev) (s p : Nat) (c : SealCtx) : Dev := { d with cip := { d.cip with ctx := SMap.set {} d.cip.ctx (s * 32 + p) c } }
def Dev.backEnd (d : Dev) (p : Nat) : List Item := SMap.get [] d.env.be p
def Dev.setBackEnd (d : Dev) (p : Nat) (q : List Item) : Dev := { d with env := { d.env with be := SMap.set [] d.env.be p q } }

/-- An item takes its place in the back end of a port, in the order in which sealing begins (R157): its number. -/
def Dev.newItem (d : Dev) (p : Nat) (bytes : Bytes) (ready : Bool) (launch : Option Nat) (slice : Nat := 0) : Dev × Nat :=
  let id := d.env.ids + 1
  let d := d.setBackEnd p (d.backEnd p ++ [{ bytes := bytes, id := id, ready := ready, launch := launch, slice := slice }])
  ({ d with env := { d.env with ids := id } }, id)

/-- The bytes of an item are complete. -/
def Dev.fillItem (d : Dev) (p id : Nat) (bytes : Bytes) : Dev :=
  d.setBackEnd p ((d.backEnd p).map (fun i => if i.id = id then { i with bytes := bytes, ready := true } else i))

/-- Frames parked in a slice (R173). -/
def Dev.parkShow (d : Dev) (s : Nat) : Dev :=
  d.set F.CIP_PARK_STATUS_PARKED (((List.range 32).filter (fun p => (d.ctx s p).park.isSome)).length) s

/-! Formats (R133-R149). -/

/-- BEXP and BMAN of a bound of `b` ns (R145). -/
def boundCode (b : Nat) : Nat × Nat :=
  match (List.range 25).find? (fun e => b >>> e < 64) with
  | some e => (e, (b >>> e) - 32)
  | none => (24, 31)

/-- The bound that BEXP and BMAN encode (R145). -/
def boundOf (e m : Nat) : Nat := (32 + m) <<< e

/-- The merge shim of a frame (R144). -/
def shimBytes (f : Frame) : Bytes :=
  let c := boundCode f.bound
  beBytes 2 0x88B5 ++
  beBytes 2 (2 ^ 14 + b2n f.prot * 2 ^ 13 + b2n (f.prot && f.path) * 2 ^ 12 + f.cls * 2 ^ 10 + c.1 * 2 ^ 5 + c.2) ++
  beBytes 4 (if f.prot then f.msn else 0)

/-- The record AAD in E-mode (R141). -/
def recordAad (ksi an textlen pn : Nat) : Bytes :=
  beBytes 2 ksi ++ beBytes 1 (an * 64) ++ beBytes 1 1 ++ zeros 2 ++ beBytes 2 textlen ++ beBytes 8 pn

/-- The SecTAG sent in F-mode (R142). -/
def secTag (an pn sci : Nat) : Bytes := beBytes 2 0x88E5 ++ beBytes 1 (0x2C + an) ++ beBytes 1 0 ++ beBytes 4 pn ++ beBytes 8 sci

/-- The IV (R136, R137). -/
def gcmIv (suite sci ssci pn : Nat) (salt : Bytes) : Nat :=
  if suite = 1 then ((ssci % 2 ^ 32) * 2 ^ 64 + pn) ^^^ beNat salt else sci * 2 ^ 32 + pn % 2 ^ 32

/-- Block count of a text of `n` bytes (R149). -/
def blockCount (n : Nat) : Nat := (n + 15) / 16 + 1

/-- Pad to a multiple of 8 bytes (R146). -/
def pad8 (bs : Bytes) : Bytes := bs ++ zeros ((8 - bs.length % 8) % 8)

/-- A segment's header (R146). -/
def segHeader (ksi an seg seglen textlen pn : Nat) (last abort : Bool) : Bytes :=
  beBytes 2 ksi ++ beBytes 1 (an * 64 + b2n (seg = 0) * 32 + b2n last * 16 + b2n abort * 8) ++ beBytes 1 seg ++ beBytes 2 seglen ++
    beBytes 2 textlen ++ beBytes 8 pn

/-- A segment of a record from text byte `off` to `upto`. -/
def Seal.segment (x : Seal) (upto : Nat) (last : Bool) : Bytes :=
  let h := segHeader x.ksi x.an x.seg (upto - x.off) x.ct.length x.pn last false
  let body := slice x.ct x.off (upto - x.off)
  if last then pad8 (h ++ body ++ x.tag) else h ++ body

/-- The end of a frame that completes: its last segment, or its secured frame with FCS. -/
def Seal.whole (x : Seal) : Bytes :=
  if x.emode then x.segment x.ct.length true
  else
    let bs := x.head ++ x.ct ++ x.tag
    bs ++ fcsBytes bs

/-- The end of a frame that is aborted after `n` more text bytes (R148, R169). -/
def Seal.aborted (x : Seal) (n : Nat) : Bytes :=
  if x.emode then
    let h := segHeader x.ksi x.an x.seg n x.ct.length x.pn true true
    if n = 0 then h ++ zeros 16 else pad8 (h ++ slice x.ct x.off n ++ zeros 16)
  else
    let bs := x.head ++ x.ct.take n
    bs ++ (fcsBytes bs).map (fun b => ~~~ b)

/-! Masks (R165, R166). -/

/-- The generators of a direction of a slice: 0 encrypt, 1 decrypt. -/
def dirGens (s dir : Nat) : List Nat := (List.range 8).map (fun i => s * 16 + dir * 8 + i)

/-- Blocks that each generator draws for a frame of `b` blocks: four in each cycle that its pipeline is active. -/
def maskNeed (b : Nat) : Nat := 4 * ((b + 7) / 8)

/-- Can every generator of the direction draw for the whole frame and 4,096 blocks more (R166)? -/
def Dev.masksFor (d : Dev) (s dir b : Nat) : Bool :=
  (dirGens s dir).all fun g =>
    let m := d.mgen g
    m.seeded && !m.stopped && decide (m.drawn + maskNeed b + 4096 ≤ 2 ^ 24)

/-- The generators of a direction draw `n` blocks each. -/
def Dev.drawMasks (d : Dev) (s dir n : Nat) : Dev :=
  (dirGens s dir).foldl (fun d g => d.setMgen g { d.mgen g with drawn := (d.mgen g).drawn + n }) d

/-- CIP_MASK_RESERVE (R173): the generator with the least blocks left, and them in units of 2^15. -/
def Dev.maskReserve (d : Dev) (s : Nat) : Nat :=
  let left (g : Nat) : Nat := if (d.mgen (s * 16 + g)).seeded then 2 ^ 24 - (d.mgen (s * 16 + g)).drawn else 0
  let g := (List.range 16).foldl (fun b g => if left g < left b then g else b) 0
  g * 2 ^ 16 + left g / 2 ^ 15

/-- The known-answer test that runs in a direction of a slice (R171). -/
def Dev.katOf (d : Dev) (s dir : Nat) : Option KatRun := SMap.get none d.cip.kat (s + 8 * (dir % 2))

/-- CIP_STATUS.KAT_BUSY (R173). -/
def Dev.katShow (d : Dev) (s : Nat) : Dev := d.flag F.CIP_STATUS_KAT_BUSY ((d.katOf s 0).isSome || (d.katOf s 1).isSome) s

/-- A known-answer test begins in a direction of a slice, or none runs there any more. -/
def Dev.setKat (d : Dev) (s dir : Nat) (k : Option KatRun) : Dev :=
  ({ d with cip := { d.cip with kat := SMap.set none d.cip.kat (s + 8 * (dir % 2)) k } }).katShow s

/-- Does a known-answer test keep a direction of a slice from work (R171)? -/
def Dev.katBusy (d : Dev) (s dir : Nat) : Bool :=
  (d.katOf s dir).isSome || ((d.katOf s (dir + 1)).map (fun k => k.all)).getD false

/-- The direction under which a test that software started runs. -/
def Dev.katSoft (d : Dev) (s : Nat) : Option Nat :=
  (List.range 2).find? (fun e => ((d.katOf s e).map (fun k => !k.auto)).getD false)

/-! The operation of the diagnostic test window (R125). -/

/-- Can the generator of one pipeline draw for a text of `b` blocks (R125, R165, R166)? -/
def Dev.diagMasks (d : Dev) (g b : Nat) : Bool :=
  (d.mgen g).seeded && !(d.mgen g).stopped && decide ((d.mgen g).drawn + 4 * b + 4096 ≤ 2 ^ 24)

/-- DIAG_GO (R125, R165-R167): one GCM operation, `op` 0 encrypt, 1 decrypt and verify, on pipeline `pipe`, which draws its
masks as for a frame and does nothing while its generator cannot. -/
def doDiagGo (slice op pipe : Nat) (d : Dev) : Dev :=
  let s := slice % 8
  if !d.on F.SAT_DIAG_CTRL_OPEN s then d
  else
    let d := (d.set F.SAT_DIAG_CTRL_OP op s).set F.SAT_DIAG_CTRL_PIPE pipe s
    let t := 0x38 + s
    let key := wordsToBytes ((List.range 8).map (fun w => d.tw t 0 w))
    let iv := beNat (wordsToBytes ((List.range 3).map (fun w => d.tw t 0 (8 + w))))
    let al := d.tf t 0 11 10 0
    let tl := d.tf t 0 12 10 0
    let g := s * 16 + op % 2 * 8 + pipe % 8
    if 1920 < al + tl then ((d.set F.SAT_DIAG_CTRL_ERR 1 s).set F.SAT_DIAG_CTRL_DONE 1 s).set F.SAT_DIAG_CTRL_TAG_OK 0 s
    else if !d.diagMasks g (blockCount tl) then d
    else
      let d := d.setMgen g { d.mgen g with drawn := (d.mgen g).drawn + 4 * blockCount tl }
      let bs := d.diagBytes s
      let aad := bs.take al
      let text := (bs.drop al).take tl
      if op % 2 = 0 then
        let r := gcmSeal key iv aad text
        let d := (d.setDiagBytes s (aad ++ r.1 ++ bs.drop (al + tl))).setEntry t 1 (bytesToWords r.2)
        ((d.set F.SAT_DIAG_CTRL_ERR 0 s).set F.SAT_DIAG_CTRL_DONE 1 s).set F.SAT_DIAG_CTRL_TAG_OK 0 s
      else
        let r := gcmOpen key iv aad text
        let ok := decide (r.2 = wordsToBytes ((List.range 4).map (fun w => d.tw t 1 w)))
        let d := d.setDiagBytes s (aad ++ r.1 ++ bs.drop (al + tl))
        ((d.set F.SAT_DIAG_CTRL_ERR 0 s).set F.SAT_DIAG_CTRL_DONE 1 s).flag F.SAT_DIAG_CTRL_TAG_OK ok s

/-! Sealing (R92, R99, R132-R138, R154-R157). -/

/-- The text that a frame is sealed as: its shim and its bytes, in F-mode without the addresses (R133, R144). -/
def Dev.sealText (d : Dev) (s port pos : Nat) (f : Frame) : Bytes :=
  (if d.txShim (d.tx s f.txEntry pos) && !f.ctl then shimBytes f else []) ++ (if d.fMode port then f.data.drop 12 else f.data)

/-- A frame begins sealing on position `p` of its entry: PN and counts are taken and the item has its place. -/
def Dev.sealOn (d : Dev) (s port pos : Nat) (f : Frame) : Dev :=
  let e := f.txEntry
  let t := d.tx s e pos
  let emode := !d.fMode port
  let text := d.sealText s port pos f
  let head := if emode then [] else f.data.take 12 ++ secTag t.an t.pn t.sci
  let b := blockCount text.length
  let c := d.ctx s port
  if !d.masksFor s 0 b || d.katBusy s 0 then
    if f.waited then d
    else (d.setCtx s port { c with ready := { f with waited := true } :: c.ready.drop 1 }).bump R.CIP_CNT_MASK_WAIT s
  else
    let d := d.setCtx s port { c with ready := c.ready.drop 1 }
    if !limitsHold t b then d.starve s e pos f
    else
      let iv := gcmIv t.suite t.sci t.ssci t.pn t.salt
      let aad := if emode then recordAad t.peerKsi t.an text.length t.pn else head
      let r := gcmSeal t.key iv aad text
      let d := d.setTx s e pos { t with pn := t.pn + 1, frames := t.frames + 1, blocks := t.blocks + b, busy := t.busy + 1 }
      let d := (d.checkPre s e pos).drawMasks s 0 (maskNeed b)
      let it := d.newItem port [] false f.ptp s
      let d := it.1
      let x : Seal := { f := f, entry := e, pos := pos, pn := t.pn, emode := emode, ksi := t.peerKsi, an := t.an, head := head,
                        ct := r.1, tag := r.2, id := it.2 }
      let c := d.ctx s port
      let c := { c with tail := c.tail ++ c.cur.toList, cur := some x }
      let n := (c.park.map (fun k => k.passes + 1)).getD 0
      let c := if f.cls = 0 && !f.ctl then { c with park := c.park.map (fun k => { k with passes := k.passes + 1 }) } else c
      let d := d.setCtx s port c
      let d := if d.get F.CIP_PARK_STATUS_MAX_PASS s < n then d.set F.CIP_PARK_STATUS_MAX_PASS n s else d
      let d := (d.bump64 R.CIP_CNT_SEALED_LO R.CIP_CNT_SEALED_HI s).count (8 + s) 0x10
        { f.lineSeen with queue := none, txe := some e }
      if f.ctl then d else d.svcBump f.svc 6

/-- SEAL_START (R24, R99, R118, R132, R154, R156): the frame dequeued first for the port begins. -/
def doSealStart (slice port : Nat) (d : Dev) : Dev :=
  let s := slice % 8
  let p := port % 32
  let c := d.ctx s p
  match c.ready with
  | [] => d
  | f :: rest =>
    let held := match c.park with
      | some k => !(f.cls = 0 && !f.ctl) || 63 ≤ k.passes
      | none => false
    if d.sliceOff s || held then d
    else
      match d.txLive s f.txEntry with
      | some pos =>
        if d.satStopped s 0 f.txEntry then (d.setCtx s p { c with ready := rest }).noSa s f else d.sealOn s p pos f
      | none => (d.setCtx s p { c with ready := rest }).noSa s f

/-- SEAL_RESUME (R156): the parked frame continues with its next segment, unless an Express frame goes first. -/
def doSealResume (slice port : Nat) (d : Dev) : Dev :=
  let s := slice % 8
  let p := port % 32
  let c := d.ctx s p
  match c.park with
  | none => d
  | some k =>
    let first := match c.ready with
      | f :: _ => f.cls = 0 && !f.ctl && decide (k.passes < 63)
      | [] => false
    if d.sliceOff s || d.katBusy s 0 || first then d
    else
      let it := d.newItem p [] false none
      (it.1.setCtx s p { c with tail := c.tail ++ c.cur.toList, cur := some { k with id := it.2 }, park := none }).parkShow s

/-- A frame leaves its sealing: the position it holds is freed (R103). -/
def Dev.sealEnd (d : Dev) (s : Nat) (x : Seal) : Dev :=
  let t := d.tx s x.entry x.pos
  (d.setTx s x.entry x.pos { t with busy := t.busy - 1 }).drainEnd s x.entry x.pos

/-- A frame ends as an aborted frame (R169); `parked` frames have no item in progress.  How much ciphertext had been
emitted is a free value (log entry 2). -/
def Dev.sealAbort (d : Dev) (s p : Nat) (x : Seal) (parked : Bool) : Dev :=
  let left := x.ct.length - x.off
  let n := if parked then 0 else 16 * (d.freeVal % ((left + 15) / 16 + 1))
  let d := if parked then d else d.freeNext
  let d := if parked then (d.newItem p (x.aborted 0) true none).1 else d.fillItem p x.id (x.aborted (min n (left - left % 16)))
  ((d.sealEnd s x).bump R.CIP_CNT_TX_ABORT s).raise E.CIP_TX_ABORT s

/-- SEAL_TAG_COMPLETE (R130, R157): the tag of the oldest frame of the context is complete; `bayErr` is an error found
in its cells after sealing had begun (R335). -/
def doSealTagComplete (slice port : Nat) (bayErr : Option (Nat × Nat)) (d : Dev) : Dev :=
  let s := slice % 8
  let p := port % 32
  let c := d.ctx s p
  let take : Option (Seal × SealCtx) :=
    match c.tail with
    | x :: r => some (x, { c with tail := r })
    | [] => c.cur.map (fun x => (x, { c with cur := none }))
  match take with
  | none => d
  | some (x, c) =>
    if d.katBusy s 0 then d
    else
      let d := d.setCtx s p c
      match bayErr with
      | some (k, i) =>
        if x.f.cells = [] || k = 0 then (d.fillItem p x.id x.whole).sealEnd s x
        else (d.readCells x.f.cells (some (k, i))).1.sealAbort s p x false
      | none => (d.fillItem p x.id x.whole).sealEnd s x

/-- The suspension of the frame being sealed for a port, when an Express frame is dequeued (R154, R155); `entered` is
the number of its text blocks that have entered.  An Express frame that the limit of 63 holds back is counted (R156):
those already dequeued go before it. -/
def Dev.suspend (d : Dev) (s p entered : Nat) : Dev :=
  let c := d.ctx s p
  let held : Bool := match c.park with
    | some k => decide (63 < k.passes + (c.ready.filter (fun f => f.cls = 0 && !f.ctl)).length)
    | none => false
  let later := if held then d.bump R.CIP_CNT_PREEMPT_CAP s else d
  match c.cur with
  | none => later
  | some x =>
    if !x.emode || x.f.cls = 0 || x.f.ctl then later
    else if 63 ≤ x.passes then d.bump R.CIP_CNT_PREEMPT_CAP s
    else
      let k := max (max entered 4) (x.off / 16 + 1)
      if (x.ct.length + 15) / 16 ≤ k then d
      else
        let d := d.fillItem p x.id (x.segment (16 * k) false)
        let d := (d.setCtx s p { c with cur := none, park := some { x with off := 16 * k, seg := x.seg + 1 } }).parkShow s
        let d := d.setDp p (d.dp p + byteTime 16 (d.lRate p))
        ((d.bump R.SCH_CNT_SUSPEND_CHARGE).bump R.CIP_CNT_SUSPEND s).count (8 + s) 0x16
          { cls := some x.f.cls, txe := some x.entry, lport := some p }

/-- LINE_DEQUEUE (R213-R223, R247, R250): a dequeue opportunity of a line port.  `entered` counts the blocks of the
frame being sealed that have entered when an Express frame is chosen; `err` is an error found in the cells read
for the frame (log entries 7 and 18). -/
def doLineDequeue (port entered : Nat) (err : Option (Nat × Nat)) (d : Dev) : Dev :=
  let p := port % 32
  if !d.lineReady p then d
  else match d.ctlHead p with
  | some c =>
    let d := d.ctlTake p c
    (match c.sa with
     | some (s, e) =>
       let f : Frame := { data := c.data, slice := s, txEntry := e, lport := p, ctl := true }
       let x := d.ctx s p
       d.setCtx s p { x with ready := x.ready ++ [f] }
     | none => (d.newItem p (c.data ++ fcsBytes c.data) true none).1)
  | none =>
    match d.linePlane p with
    | none => d
    | some (plane, pk) =>
      let r := d.planeDequeue p plane pk err
      match r.2 with
      | none => r.1
      | some f =>
        let x := r.1.ctx f.slice p
        let d := r.1.setCtx f.slice p { x with ready := x.ready ++ [f] }
        if f.cls = 0 then d.suspend f.slice p entered else d

/-! Opening (R135, R139, R158, R159). -/

def Dev.parked (d : Dev) (s p : Nat) : Option OpenRec := SMap.get none d.cip.park (s * 32 + p)
def Dev.setParked (d : Dev) (s p : Nat) (r : Option OpenRec) : Dev :=
  { d with cip := { d.cip with park := SMap.set none d.cip.park (s * 32 + p) r } }
def Dev.openedOf (d : Dev) (s : Nat) : List OpenRec := SMap.get [] d.cip.opened s
def Dev.setOpened (d : Dev) (s : Nat) (l : List OpenRec) : Dev := { d with cip := { d.cip with opened := SMap.set [] d.cip.opened s l } }
def Dev.vheld (d : Dev) (s : Nat) : List Frame := SMap.get [] d.cip.vhold s
def Dev.setVheld (d : Dev) (s : Nat) (l : List Frame) : Dev := { d with cip := { d.cip with vhold := SMap.set [] d.cip.vhold s l } }

/-- Verify-hold units of a slice in use by records of port `p`. -/
def Dev.unitsOf (d : Dev) (s p : Nat) : Nat :=
  ((d.parked s p).map (fun r => r.units)).getD 0 +
  (((d.openedOf s).filter (fun r => r.port = p)).map (fun r => r.units)).foldl (· + ·) 0 +
  (((d.vheld s).filter (fun f => f.lport = p)).map (fun f => f.units)).foldl (· + ·) 0

/-- CIP_HOLD_STATUS (R173): the level, and the high-water mark since the last read. -/
def Dev.holdShow (d : Dev) (s : Nat) : Dev :=
  let l := ((List.range 32).map (fun p => d.unitsOf s p)).foldl (· + ·) 0
  let d := d.set F.CIP_HOLD_STATUS_LEVEL l s
  if d.get F.CIP_HOLD_STATUS_HWM s < l then d.set F.CIP_HOLD_STATUS_HWM l s else d

/-- A record's opening has ended: its entry is free of it. -/
def Dev.openEnd (d : Dev) (s : Nat) (r : OpenRec) : Dev :=
  if r.refused then d
  else
    let x := d.rx s r.entry
    (d.setRx s r.entry { x with busy := x.busy - 1 }).holdShow s

/-- A segment error (R158, R162). -/
def Dev.segErr (d : Dev) (s : Nat) : Dev := (d.bump R.CIP_CNT_SEG_ERR s).raise E.CIP_SEG_ERR s

/-- Discard the record parked for a port, counted unless it had been refused (R158, R159). -/
def Dev.dropParked (d : Dev) (s p : Nat) : Dev :=
  match d.parked s p with
  | none => d
  | some r =>
    let d := (d.setParked s p none).openEnd s r
    if r.refused then d else d.segErr s

/-- A record rejected by its receive entry (R104, R107, R118). -/
def Dev.rxReject (d : Dev) (s e len : Nat) : Dev :=
  (d.bump R.SAT_CNT_RX_REJECT s).count (8 + s) 0x15 { rxe := some e, bytes := len }

/-- A segment of a record, or a whole secured frame, as the line front end hands it to a slice. -/
structure Seg where
  ksi : Nat := 0
  entry : Nat := 0
  an : Nat := 0
  first : Bool := true
  last : Bool := true
  abort : Bool := false
  seg : Nat := 0
  textlen : Nat := 0
  pn : Nat := 0
  ct : Bytes := []
  tag : Bytes := []
  port : Nat := 0
  clk : Nat := 0
  net : Nat := 0
  emode : Bool := true
  shim : Bool := true
  aad : Bytes := []
  addrs : Bytes := []
  deriving DecidableEq, Repr

/-- A record that is complete ends its opening context: aborted ones are discarded, the others await their tag
check (R148, R162). -/
def Dev.recordDone (d : Dev) (s : Nat) (r : OpenRec) : Dev :=
  if r.abort then
    ((d.openEnd s r).bump R.CIP_CNT_TAG_FAIL s).count (8 + s) 0x12 { rxe := some r.entry, lport := some r.port, bytes := r.ct.length }
  else (d.setOpened s (d.openedOf s ++ [r])).holdShow s

/-- The PN of a record for the IV (R139). -/
def recoverPn (r : RxEnt) (pn : Nat) : Nat :=
  let w := match r.mode with
    | 2 => 1024
    | 1 => r.window
    | _ => 2 ^ 30
  let la := max 1 (r.highest + 1 - w)
  let hi := la / 2 ^ 32
  if la % 2 ^ 32 ≤ pn then hi * 2 ^ 32 + pn else ((hi + 1) * 2 ^ 32 + pn) % 2 ^ 64

/-- A first segment or secured frame (R104, R107, R118, R139, R159, R166): true where it must wait for masks. -/
def Dev.openFirst (d : Dev) (s : Nat) (g : Seg) : Dev × Bool :=
  let x := d.rx s g.entry
  let len := g.ct.length + 16
  if !rxTakes x g.net || x.an ≠ g.an || d.satStopped s 1 g.entry then (d.rxReject s g.entry len, false)
  else if g.pn = 0 then (d.bump R.CIP_CNT_UNSUPPORTED s, false)
  else
    let units := (g.textlen + 255) / 256
    let free := 128 * d.get F.LPORT_CTRL_WIDTH g.port - d.unitsOf s g.port
    if free < units then
      let d := ((d.bump R.CIP_CNT_HOLD_FULL s).raise E.CIP_HOLD_FULL s).count (8 + s) 0x19
        { rxe := some g.entry, lport := some g.port, bytes := len }
      let r : OpenRec := { ksi := g.ksi, entry := g.entry, an := g.an, textlen := g.textlen, pn := g.pn, clk := g.clk, net := g.net,
                           port := g.port, refused := true }
      (if g.last then d else d.setParked s g.port (some r), false)
    else
      let b := blockCount g.textlen
      if !d.masksFor s 1 b || d.katBusy s 1 then (d, true)
      else
        let pn := if g.emode || x.suite = 0 then g.pn else recoverPn x g.pn
        let r : OpenRec :=
          { ksi := g.ksi, entry := g.entry, an := g.an, textlen := g.textlen, pn := pn, ct := g.ct, tag := g.tag,
            aad := if g.emode then recordAad g.ksi g.an g.textlen g.pn else g.aad, clk := g.clk, net := g.net, port := g.port,
            units := units, emode := g.emode, shim := g.shim, abort := g.abort, key := x.key,
            iv := gcmIv x.suite x.sci x.ssci pn x.salt, addrs := g.addrs }
        let d := (d.setRx s g.entry { x with busy := x.busy + 1 }).drawMasks s 1 (maskNeed b)
        if g.last then
          if !g.abort && g.ct.length ≠ g.textlen then ((d.openEnd s r).segErr s, false) else (d.recordDone s r, false)
        else if g.textlen < g.ct.length then ((d.openEnd s r).segErr s, false)
        else ((d.setParked s g.port (some r)).holdShow s, false)

/-- Does a segment continue the parked record (R158)? -/
def continues (r : OpenRec) (g : Seg) : Bool :=
  !g.first && r.ksi = g.ksi && r.an = g.an && r.textlen = g.textlen && r.pn = g.pn && g.seg = r.seg + 1

/-- A segment reaches a slice (R158, R159): true where it must wait for masks. -/
def Dev.openSegment (d : Dev) (s : Nat) (g : Seg) : Dev × Bool :=
  if d.katBusy s 1 then (d, true)
  else match d.parked s g.port with
  | some r =>
    if r.refused && !continues r g then
      let d' := d.setParked s g.port none
      if g.first then
        let o := d'.openFirst s g
        if o.2 then (d, true) else o
      else (d'.segErr s, false)
    else if continues r g then
      let d := d.setParked s g.port none
      if r.refused then (if g.last then d else d.setParked s g.port (some { r with seg := g.seg }), false)
      else
        let r := { r with seg := g.seg, ct := r.ct ++ g.ct, tag := g.tag, abort := g.abort }
        if r.textlen < r.ct.length && !(g.last && g.abort) then ((d.openEnd s r).segErr s, false)
        else if !g.last then (d.setParked s g.port (some r), false)
        else if !g.abort && r.ct.length ≠ r.textlen then ((d.openEnd s r).segErr s, false)
        else (d.recordDone s r, false)
    else if g.first && g.last then d.openFirst s g
    else
      let d' := d.dropParked s g.port
      if g.first then
        let o := d'.openFirst s g
        if o.2 then (d, true) else o
      else (d'.segErr s, false)
  | none => if g.first then d.openFirst s g else (d.segErr s, false)

/-- CIP_SEG_TIMEOUT within its range (R173). -/
def Dev.segTimeout (d : Dev) (s : Nat) : Nat := us (max 10 (min 500 (d.get F.CIP_SEG_TIMEOUT_TIMEOUT_US s)))

/-- SEGMENT_TIMEOUT (R158, R159): the continuation of the record parked for a port has not completed in time. -/
def doSegmentTimeout (slice port : Nat) (d : Dev) : Dev :=
  let s := slice % 8
  let p := port % 32
  match d.parked s p with
  | none => d
  | some r => (d.advance (r.clk + d.segTimeout s)).dropParked s p

/-! The tag check and what follows it (R153, R160-R162). -/

/-- The service behind a receive entry, where the fleet map knows it (R556). -/
def Dev.rxService (d : Dev) (s e : Nat) : Option Nat :=
  match SMap.get 0 d.fleet.rxSvc (rxKey s e) with
  | 0 => none
  | n + 1 => some n

/-- A page count of the service behind a receive entry. -/
def Dev.rxBump (d : Dev) (s e w : Nat) : Dev :=
  match d.rxService s e with
  | some v => d.svcBump v w
  | none => d

/-- FMODE_RX_US of a line port, within its range (R236, R237). -/
def Dev.fmodeRxNs (d : Dev) (p clk : Nat) : Nat := us (max 10 (min 50000 (d.boundDef (d.bankAt clk) p 0)))

/-- The frame that a verified record carries, its shim removed (R145, R160, R237). -/
def Dev.openedFrame (d : Dev) (s : Nat) (r : OpenRec) (p : Bytes) : Frame :=
  let ctl := numAt p 2 2
  let body := if r.shim then p.drop 8 else p
  { data := if r.emode then body else r.addrs ++ body, port := r.port, lport := r.port, arr := r.clk, arrNet := r.net, slice := s,
    rxEntry := r.entry, units := r.units, prot := r.shim && bit ctl 13, path := r.shim && bit ctl 12,
    cls := if r.shim then nbits ctl 11 10 else 2, msn := if r.shim then numAt p 4 4 else 0,
    bound := if r.shim then boundOf (nbits ctl 9 5) (nbits ctl 4 0) else d.fmodeRxNs r.port r.clk }

/-- A tag failure (R162). -/
def Dev.tagFail (d : Dev) (s : Nat) (r : OpenRec) : Dev :=
  let d := ((d.openEnd s r).bump R.CIP_CNT_TAG_FAIL s).raise E.CIP_TAG_FAIL s
  (d.count (8 + s) 0x12 { rxe := some r.entry, lport := some r.port, bytes := r.ct.length + 16 }).rxBump s r.entry 9

/-- TAG_CHECK_DONE (R139, R153, R160-R162, R186): the tag comparison of the slice's oldest complete record ends;
`holdErr` says that its verify-hold units show an uncorrectable error, `lrnErr` that the learning entry looked up
does. -/
def doTagCheckDone (slice : Nat) (holdErr lrnErr : Bool) (d : Dev) : Dev :=
  let s := slice % 8
  match d.openedOf s with
  | [] => d
  | r :: rest =>
    if d.katBusy s 1 then d
    else
      let d := d.setOpened s rest
      let o := gcmOpen r.key r.iv r.aad r.ct
      let p := o.1
      let ctl := numAt p 2 2
      let ver := nbits ctl 15 14
      let x := d.rx s r.entry
      if o.2 ≠ r.tag then d.tagFail s r
      else if r.fault then (d.openEnd s r).bump R.CIP_CNT_RX_FAULT s
      else if holdErr then ((d.openEnd s r).bump R.CIP_CNT_HOLD_ECC s).raise E.CIP_HOLD_ECC s
      else if r.shim && !(numAt p 0 2 = 0x88B5 && (ver = 3 || (ver = 1 && decide (nbits ctl 9 5 ≤ 24)))) then
        ((d.openEnd s r).bump R.CIP_CNT_SHIM_ERR s).raise E.CIP_SHIM_ERR s
      else if !replayOk x r.pn then
        ((d.setRx s r.entry { x with replayDisc := min 0xFFFFFFFF (x.replayDisc + 1) }).openEnd s r).rxReject s r.entry (r.ct.length + 16)
      else
        let d := d.setRx s r.entry (replayTake x r.pn)
        let f := d.openedFrame s r p
        if !r.emode && 16000 < f.data.length + 4 then (d.openEnd s r).bump R.CIP_CNT_OVERSIZE s
        else if r.shim && ver = 3 then
          let d := (d.openEnd s r).bump R.CIP_CNT_CTRL_REC s
          d.exception ⟨0x80, 4 + r.port / 8, r.port, r.net, 0, 0, p, s * 8192 + r.entry⟩ p.length
        else
          let d := d.openEnd s r
          let d := if lrnErr then d.lrnEcc s (d.tf (0x48 + s) r.entry 1 9 0) (numAt f.data 6 6) else d
          (((d.setVheld s (d.vheld s ++ [f])).holdShow s).learnFrom s r.entry (numAt f.data 6 6))

/-! Faults, known-answer tests and fences (R165, R168-R172). -/

/-- Frames of a direction that have begun and are not parked end at once (R169-R171). -/
def Dev.strike (d : Dev) (s dir : Nat) : Dev :=
  if dir = 0 then
    (List.range 32).foldl (fun d p =>
      let c := d.ctx s p
      (c.tail ++ c.cur.toList).foldl (fun d x => d.sealAbort s p x false) (d.setCtx s p { c with tail := [], cur := none })) d
  else d.setOpened s ((d.openedOf s).map (fun r => { r with fault := true }))

/-- What the engine of a slice and its queues hold ends as a fence discard (R43, R162, R169, R212); frames being sent end
aborted. -/
def Dev.engineDrop (d : Dev) (s : Nat) : Dev :=
  let d := (List.range 32).foldl (fun d p =>
    let c := d.ctx s p
    let n := c.tail.length + c.cur.toList.length + c.park.toList.length + c.ready.length
    let d := d.setCtx s p {}
    let d := (c.tail ++ c.cur.toList).foldl (fun d x => d.sealAbort s p x false) d
    let d := c.park.toList.foldl (fun d x => d.sealAbort s p x true) d
    d.bump R.CIP_CNT_FENCE_DISCARD s (n := n)) d
  let d := d.parkShow s
  let open_ := d.openedOf s ++ ((List.range 32).filterMap (fun p => d.parked s p)).filter (fun r => !r.refused)
  let held := d.vheld s
  let d := (List.range 32).foldl (fun d p => d.setParked s p none) ((d.setOpened s []).setVheld s [])
  let d := open_.foldl (fun d r => d.openEnd s r) d
  let d := (d.bump R.CIP_CNT_FENCE_DISCARD s (n := open_.length + held.length)).holdShow s
  (d.flushSlice s).flushStop s

/-- A slice is fenced (R43, R162, R169, R194, R212): the FENCED bits of its blocks, its frames, records, queues, SA
command and learning flush. -/
def Dev.fence (d : Dev) (s : Nat) : Dev :=
  if d.on F.SAT_STATUS_FENCED s then d
  else
    let d := ((d.set F.SAT_STATUS_FENCED 1 s).set F.CIP_STATUS_FENCED 1 s).set F.LRN_STATUS_FENCED 1 s
    let d := d.engineDrop s
    match (d.sl s).cmd with
    | some c => if c.op < 7 then d.satEnd s c.op 10 c.ticket 0 else d
    | none => d

/-- PIPELINE_FAULT (R168, R171): a fault of `kind` 1 PARITY, 2 GHASH_CMP or 3 MASK_STUCK in a pipeline: the frames of
its direction end, its generator is reseeded and the known-answer test runs. -/
def doPipelineFault (slice dir pipe kind : Nat) (d : Dev) : Dev :=
  let s := slice % 8
  let dr := dir % 2
  let pi := pipe % 8
  if d.sliceOff s || kind = 0 || 3 < kind || (d.katOf s dr).isSome then d
  else
    let d := ((((d.set F.CIP_FAULT_STATUS_VALID 1 s).set F.CIP_FAULT_STATUS_DIR dr s).set F.CIP_FAULT_STATUS_PIPE pi s).set
      F.CIP_FAULT_STATUS_KIND kind s)
    ((d.strike s dr).maskAsk (s * 16 + dr * 8 + pi)).setKat s dr (some ⟨dr, pi, false, true⟩)

/-- Transient faults of a slice within the last second, as TRANSIENTS shows them. -/
def Dev.transients (d : Dev) (s : Nat) : List Nat := (SMap.get [] d.cip.trans s).filter (fun t => d.tim.clk < t + sec 1)

/-- The pipelines of a test draw masks for its 2,000 cycles (R165). -/
def Dev.katDraw (d : Dev) (s : Nat) (k : KatRun) : Dev :=
  let gens := if k.all then (List.range 16).map (s * 16 + ·) else [s * 16 + k.dir * 8 + k.pipe]
  gens.foldl (fun d g => d.setMgen g { d.mgen g with drawn := min (2 ^ 24) ((d.mgen g).drawn + 8000) }) d

/-- A pipeline is failed: its bit, PIPE_FAILED and the fence (R171). -/
def Dev.pipeFailed (d : Dev) (s dir pipe : Nat) : Dev :=
  let d := if dir = 0 then d.set F.CIP_PIPE_STATUS_TX_FAILED (d.get F.CIP_PIPE_STATUS_TX_FAILED s ||| 2 ^ pipe) s
    else d.set F.CIP_PIPE_STATUS_RX_FAILED (d.get F.CIP_PIPE_STATUS_RX_FAILED s ||| 2 ^ pipe) s
  (d.raise E.CIP_PIPE_FAILED s).fence s

/-- PIPE_KAT_DONE (R171): the test after a fault in direction `dir` ends, `pass` or not. -/
def doPipeKatDone (slice dir : Nat) (pass : Bool) (d : Dev) : Dev :=
  let s := slice % 8
  match d.katOf s dir with
  | none => d
  | some k =>
    if !k.auto then d
    else
      let d := (d.setKat s dir none).katDraw s k
      if !pass then (d.set F.CIP_FAULT_STATUS_KIND 4 s).pipeFailed s k.dir k.pipe
      else
        let ts := d.transients s ++ [d.tim.clk]
        let d := { d with cip := { d.cip with trans := SMap.set [] d.cip.trans s ts } }
        let d := (d.bump R.CIP_CNT_PIPE_TRANSIENT s).set F.CIP_FAULT_STATUS_TRANSIENTS (min 4 ts.length) s
        if 4 ≤ ts.length then d.pipeFailed s k.dir k.pipe else d.raise E.CIP_PIPE_FAULT s

/-- KAT_GO (R171, R173): a write of CIP_KAT_CTRL with GO; ignored unless the slice is fenced. -/
def doKatGo (slice dir pipe : Nat) (all : Bool) (d : Dev) : Dev :=
  let s := slice % 8
  let d := ((d.set F.CIP_KAT_CTRL_DIR dir s).set F.CIP_KAT_CTRL_PIPE pipe s).flag F.CIP_KAT_CTRL_ALL all s
  if !d.on F.CIP_STATUS_FENCED s || (d.katOf s 0).isSome || (d.katOf s 1).isSome then d
  else ((d.setKat s dir (some ⟨dir % 2, pipe % 8, all, false⟩)).set F.CIP_KAT_CTRL_DONE 0 s).set F.CIP_KAT_CTRL_PASS 0 s

/-- KAT_DONE (R171): a test started by software ends. -/
def doKatDone (slice : Nat) (pass : Bool) (d : Dev) : Dev :=
  let s := slice % 8
  match d.katSoft s with
  | none => d
  | some e =>
    match d.katOf s e with
    | none => d
    | some k =>
      let d := (d.setKat s e none).katDraw s k
      ((d.set F.CIP_KAT_CTRL_DONE 1 s).flag F.CIP_KAT_CTRL_PASS pass s).raise E.CIP_KAT_DONE s

/-- MASK_RESEED_REQUEST (R165, R268): a generator, by the numbers of R469, that has drawn 2^20 blocks under its seed
asks Mint for another. -/
def doMaskReseedRequest (gen : Nat) (d : Dev) : Dev :=
  let g := gen % 384
  if d.genUp g ∧ (d.mgen g).seeded ∧ 2 ^ 20 ≤ (d.mgen g).drawn then d.maskAsk g else d

/-- MASK_GENERATOR_STOP (R165, R268): a generator at 2^24 blocks stops until a reseed arrives. -/
def doMaskGeneratorStop (gen : Nat) (d : Dev) : Dev :=
  let g := gen % 384
  let m := d.mgen g
  if m.seeded ∧ !m.stopped ∧ 2 ^ 24 ≤ m.drawn then
    let d := (d.setMgen g { m with stopped := true }).maskShow
    if g < 128 then d.raise E.CIP_MASK_STARVE (g / 16) else d
  else d

end Sys2Proof.Machine
end

