-- ==== Sys2Proof/Machine/Map.lean ====
section
/-! DEFINITION. Finding a register by its address, the bits of a register by access code, and the shapes of
the window tables (R12-R14, R540-R543). -/

namespace Sys2Proof.Machine

/-- The instance of a register at an address. -/
def regFind (r : Reg) (a : Nat) : Option (Nat × Nat) :=
  let o := a - r.base
  let i := if r.s1 = 0 then 0 else o / r.s1
  let rest := if r.s1 = 0 then o else o % r.s1
  let j := if r.s2 = 0 then 0 else rest / r.s2
  if r.base ≤ a ∧ i < r.n1 ∧ j < r.n2 ∧ r.addr i j = a then some (i, j) else none

/-- The registers marked Global in R85 are one register each, seen in the four client front ends. -/
def foldAddr (a : Nat) : Nat :=
  if 0x180000 ≤ a ∧ a < 0x188000 ∧ feGlobalOffsets.contains (a % 0x2000) then 0x180000 + a % 0x2000 else a

/-- The register at an address of the map, with its instance (R540). -/
def regAt (addr : Nat) : Option (Reg × Nat × Nat) :=
  let a := foldAddr addr
  blockMap.findSome? (fun b =>
    if b.1 ≤ a ∧ a < b.2.1 then b.2.2.findSome? (fun r => (regFind r a).map (fun x => (r, x.1, x.2))) else none)

/-- The bits of a register whose fields have the access codes that `p` names. -/
def regBits (r : Reg) (p : Acc → Bool) : Nat :=
  (r.fields.map (fun f => if p f.acc then (2 ^ (f.hi + 1 - f.lo) - 1) * 2 ^ f.lo else 0)).foldl (· ||| ·) 0

/-- Bits a configuration record may hold: the fields that a write sets (R13, R449). -/
def regWritable (r : Reg) : Nat := regBits r (fun a => a == .rw || a == .rwl)
/-- The RWL bits (R13). -/
def regLockable (r : Reg) : Nat := regBits r (· == .rwl)
/-- The bits a write of 1 clears (R14). -/
def regOnesClear (r : Reg) : Nat := regBits r (· == .w1c)
/-- The bits a read clears (R14). -/
def regReadClear (r : Reg) : Nat := regBits r (· == .rc)

/-- A word of all ones, `n` times. -/
def full (n : Nat) : List Nat := List.replicate n 0xFFFFFFFF

/-- The index range and the number of words of a table, by TBL_SEL (R543 and the rules it names, R570, R574,
R575, R577). -/
def tblShape (sel : Nat) : Option (Nat × Nat) :=
  if 0x20 ≤ sel ∧ sel < 0x98 ∧ !(0x60 ≤ sel ∧ sel < 0x68) ∧ !(0x88 ≤ sel ∧ sel < 0x90) ∧ !(0x58 ≤ sel ∧ sel < 0x60) then
    match sel / 8 with
    | 4 => some (16384, 2)
    | 5 => some (16384, 15)
    | 6 => some (8192, 12)
    | 7 => some (32, 16)
    | 8 => some (32768, 3)
    | 9 => some (8192, 2)
    | 10 => some (1024, 1)
    | 13 => some (16384, 1)
    | 14 => some (8192, 8)
    | 15 => some (2048, 4)
    | 16 => some (1024, 3)
    | _ => some (8192, 1)
  else if 0x120 ≤ sel ∧ sel < 0x13E then some (unitCounters (sel - 0x120), 7)
  else if 0xB4 ≤ sel ∧ sel < 0xB8 then some (2048, 5)
  else if 0xC8 ≤ sel ∧ sel < 0xD0 then some (8192, 1)
  else if sel = 0x10 then some (131072, 7)
  else if sel = 0x11 then some (32768, 16)
  else if sel = 0x12 then some (16384, 2)
  else if sel = 0x13 then some (32, 2)
  else if sel = 0x14 then some (64, 5)
  else if sel = 0x60 then some (32768, 8)
  else if sel = 0x88 ∨ sel = 0x89 then some (32, 5)
  else if sel = 0xA0 then some (32768, 7)
  else if sel = 0xA1 then some (128, 2)
  else if sel = 0xA2 then some (32, 1)
  else if sel = 0xA3 then some (1, 1)
  else if sel = 0xB0 then some (1024, 2)
  else if sel = 0xB1 then some (1024, 4)
  else if sel = 0xC0 then some (32768, 8)
  else if sel = 0xC1 then some (16384, 1)
  else if sel = 0xD0 ∨ sel = 0xD1 then some (512, 2)
  else if sel = 0xD2 ∨ sel = 0xD3 then some (512, 4)
  else if sel = 0xE0 then some (4096, 8)
  else if sel = 0xF0 then some (4096, 15)
  else if sel = 0xF1 then some (4096, 12)
  else if sel = 0xF2 then some (4096, 7)
  else if sel = 0xF3 then some (16384, 2)
  else if sel = 0xF4 then some (8192, 16)
  else if sel = 0xF5 then some (1, 8)
  else if sel = 0xF8 then some (4096, 16)
  else if sel = 0x100 then some (4096, 16)
  else if sel = 0x108 then some (256, 1)
  else if sel = 0x109 then some (16, 13)
  else if sel = 0x110 then some (256, 16)
  else if sel = 0x140 then some (480, 5)
  else if sel = 0x150 then some (256, 4)
  else if sel = 0x151 ∨ sel = 0x152 then some (1024, 16)
  else none

/-- The index without the tag-slot bits of a versioned table (R84, R126). -/
def tblIndex (sel idx : Nat) : Nat :=
  if (0x12 ≤ sel ∧ sel ≤ 0x14) ∨ (0x20 ≤ sel ∧ sel < 0x28) then idx - nbits idx 25 24 * 2 ^ 24 else idx

/-- Is the index inside the table (R542)? -/
def tblIndexOk (sel idx : Nat) : Bool :=
  match tblShape sel with
  | none => false
  | some (n, _) =>
    let i := tblIndex sel idx
    decide (i < n) &&
    (if sel = 0x11 then decide (i % 4 ≠ 3)
     else if sel = 0xA1 then decide (i % 64 < 32) || (decide (33 ≤ i % 64) && decide (i % 64 ≤ 35))
     else if sel = 0x108 then decide (32 ≤ i)
     else if sel = 0x109 then decide (1 ≤ i)
     else if sel = 0x151 ∨ sel = 0x152 then decide (i % 4 ≠ 3)
     else true)

/-- The bits of each word of a table that a write sets: no reserved and no read-only bits. -/
def tblMask (sel idx : Nat) : List Nat :=
  if 0x20 ≤ sel ∧ sel < 0x28 then [0xC0001FFF, 0xFFFFFFFF]
  else if 0x40 ≤ sel ∧ sel < 0x48 then [0xC3FFFFFF, 0xFFFFFFFF, 0x0FFF1FFF]
  else if 0x48 ≤ sel ∧ sel < 0x50 then [0xCFFF1FFF, 0x3FF]
  else if 0x50 ≤ sel ∧ sel < 0x58 then [0xFFFF0000]
  else if 0x68 ≤ sel ∧ sel < 0x70 then [0x9FFFFFFF]
  else if 0x70 ≤ sel ∧ sel < 0x78 then [0xFF0007FF, 0x3FFF, 0xFFFFFF, 0xFFFFFF, 0xFFFFF]
  else if 0x78 ≤ sel ∧ sel < 0x80 then [0x83FF0FFF, 0x0FFF0FFF, 0xFFFFFFFF, 0xFFFFFF]
  else if 0x80 ≤ sel ∧ sel < 0x88 then [0x9FFFFFFF, 0xFFFFFFFF, 0xFFFFFF]
  else if 0x90 ≤ sel ∧ sel < 0x98 then [0x8000001F]
  else if 0xB4 ≤ sel ∧ sel < 0xB8 then 0xFFF00000 :: full 4
  else if 0xC8 ≤ sel ∧ sel < 0xD0 then [0xC0007FFF]
  else match sel with
  | 0x10 => 0xF01F0000 :: full 5
  | 0x11 => if idx % 4 = 2 then [0xFFFFFFFF, 0x80001FFF] else full 16
  | 0x12 => [0xFFF3FFFF, 0xFFFF]
  | 0x13 => [0x8000FFFF, 0xFFFFFFFF]
  | 0x14 => full 5
  | 0x60 => [0xFFFFFFFF, 0xFFFFFFFF, 0xE0FFFFFF, 0xFFFFFF]
  | 0x88 => [0x800FFFFF, 0xFFFFFFFF, 0xFFFFFF, 0xFFFFFFFF, 0xFFFFFF]
  | 0x89 => [0x0FFF0FFF, 0x1FFFF, 0x1FFFF, 0x1FFFF, 0x1FFFF]
  | 0xA0 => List.replicate 6 0x3FFFF ++ [0xFFFF]
  | 0xA1 => [0x3FFFF, 0x3FFFF]
  | 0xA2 => [0x8000FFFF]
  | 0xC0 => [0xDF003FFF, 0x3FF, 0x03FF7FFF]
  | 0xF0 => 0xC00000FF :: full 14
  | 0xF1 => full 12
  | 0xF2 => 0xC000FFFF :: full 4 ++ [0xFFFF, 0xFFFFFFFF]
  | 0xF3 => [0xFFFF0FFF, 0x3F3F]
  | 0xF4 => full 16
  | 0xF5 => [0xFFFFFFFF, 0xFFFFFFFF, 0xFFC0FFFF, 0xFFFFFFFF, 0xFFFFFFFF, 0xFFFF83FF, 0xFFFFFF, 0xFFFFF0FF]
  | 0x108 => [0xBFFF3FFF]
  | 0x109 => 0xC0000007 :: full 12
  | 0x110 => full 16
  | _ => []

/-- Words with only the bits a write sets. -/
def tblKeep (sel idx : Nat) (ws : List Nat) : List Nat :=
  (tblMask sel idx).zipIdx.map (fun m => ws.getD m.2 0 &&& m.1)

end Sys2Proof.Machine
end

