-- ==== Sys2Proof/Machine/Digest.lean ====
section
/-! DEFINITION. Canonical configuration records and the digests over them (R404, R449, R450, R452, R454). -/

namespace Sys2Proof.Machine

/-- A canonical record (R404): KIND, PHASE 0, N, TARGET, INDEX, DATA. -/
def canonRec (kind target index : Nat) (ws : List Nat) : Bytes :=
  beBytes 1 kind ++ beBytes 1 0 ++ beBytes 2 ws.length ++ beBytes 4 target ++ beBytes 4 index ++ wordsToBytes ws

/-- Words of a table entry, as many as the table has, with read-only fields as zero. -/
def canonWords (sel idx : Nat) (ws : List Nat) : List Nat :=
  let n := if sel = 0x11 then feWords sel idx else ((tblShape sel).map (·.2)).getD 0
  let k := tblKeep sel idx ws
  k ++ List.replicate (n - k.length) 0

/-- The words of a configured entry as it stands now: versioned tables at the current version, bound tables at the
active bank (R449); none where the current version does not hold the entry. -/
def Dev.liveEntry (d : Dev) (sel idx : Nat) : Option (List Nat) :=
  let n := d.feRunning.headD 0
  if 0x11 ≤ sel ∧ sel ≤ 0x14 then
    match d.curTag with
    | none => none
    | some t =>
      if sel = 0x11 then (if bit (d.mask 0x11 n (idx / 4 * 4 + 2)) t then some (d.entry (feSel 0x11 n) idx) else none)
      else some (d.entry (feSel sel n) (idx + t * 2 ^ 24))
  else if 0x20 ≤ sel ∧ sel < 0x28 then d.curTag.map (fun t => d.entry sel (idx + t * 2 ^ 24))
  else if sel = 0xA0 then some (d.entry sel (d.fe.bank * 16384 + idx))
  else if sel = 0xA1 then some [d.boundDef d.fe.bank idx 0, d.boundDef d.fe.bank idx 1]
  else if 0x40 ≤ sel ∧ sel < 0x48 then some (lrnWords (SMap.get {} d.lrn.tab ((sel - 0x40) * 2 ^ 15 + idx)))
  else some (d.entry sel idx)

/-- The exact-match entries of the current version by their keys (R449). -/
def Dev.liveKeys (d : Dev) : List (List Nat) :=
  match d.curTag with
  | none => []
  | some t => ((d.entries (feSel 0x10 (d.feRunning.headD 0))).filter (fun e => bit (e.2.getD 6 0) t)).map (·.2)

/-- The local part LP: canonical records in ascending order of TARGET, then INDEX (R449). -/
def Dev.localPart (d : Dev) : Bytes :=
  let put (m : SMap Bytes) (target index kind : Nat) (b : Bytes) : SMap Bytes :=
    SMap.set [] m ((target * 2 ^ 32 + index) * 4 + kind) b
  let m := d.fleet.cfgRegs.foldl (fun m a =>
    match regAt a with
    | some (r, i, j) => put m a 0 1 (canonRec 1 a 0 [d.num r i j &&& regWritable r])
    | none => m) []
  let m := d.fleet.cfgEnts.foldl (fun m (e : Nat × Nat) =>
    if e.1 = 0x10 ∨ (0xF0 ≤ e.1 ∧ e.1 ≤ 0xF5) then m
    else match d.liveEntry e.1 e.2 with
    | some ws => put m e.1 e.2 2 (canonRec 2 e.1 e.2 (canonWords e.1 e.2 ws))
    | none => m) m
  let keys : SMap Bytes := d.liveKeys.foldl (fun (k : SMap Bytes) ws =>
    let c := canonWords 0x10 0 ws
    SMap.set [] k (beNat (wordsToBytes (c.take 5))) (canonRec 2 0x10 0 c)) []
  let below := m.filter (fun e => e.1 < 0x10 * 2 ^ 34)
  let above := m.filter (fun e => 0x10 * 2 ^ 34 ≤ e.1)
  (below.flatMap (·.2)) ++ (keys.flatMap (·.2)) ++ (above.flatMap (·.2))

/-- The member digest of this module (R449). -/
def Dev.memberDigest (d : Dev) : Bytes :=
  sha384 (ascii "SQ2MEMBR" ++ beBytes 4 d.fleet.domain ++ beBytes 2 d.fleet.member ++ d.localPart)

/-- Is this entry of a fleet table valid? -/
def fleetValid (sel : Nat) (ws : List Nat) : Bool :=
  if sel = 0xF4 ∨ sel = 0xF5 then true else bit (ws.getD 0 0) 31

/-- FC: the canonical records of the fleet tables (R450). -/
def Dev.fleetPart (d : Dev) : Bytes :=
  [0xF0, 0xF2, 0xF3, 0xF4, 0xF5].flatMap (fun sel =>
    (d.entries sel).flatMap (fun e => if fleetValid sel e.2 then canonRec 2 sel e.1 (canonWords sel e.1 e.2) else []))

/-- Is `m` a valid member (R458)? -/
def Dev.memberValid (d : Dev) (m : Nat) : Bool := d.tf 0xF0 m 0 31 31 = 1

/-- Bytes of words `lo` to `hi - 1` of an entry. -/
def Dev.entryBytes (d : Dev) (sel idx lo hi : Nat) : Bytes :=
  wordsToBytes ((List.range (hi - lo)).map (fun k => d.tw sel idx (lo + k)))

/-- The canonical configuration digest for a configuration version (R450). -/
def Dev.cfgDigest (d : Dev) (version : Nat) : Bytes :=
  let own := d.memberDigest
  sha384 (ascii "SQ2CONFG" ++ beBytes 4 d.fleet.domain ++ beBytes 4 version ++ sha384 d.fleetPart ++
    (List.range 4096).flatMap (fun m =>
      if !d.memberValid m then zeros 48 else if m = d.fleet.member then own else d.entryBytes 0xF1 m 0 12))

/-- The digest of the pending configuration changes (R452). -/
def Dev.schedDigest (d : Dev) : Bytes :=
  let es := d.thy.ent.filter (fun e => e.2.st = 1 && e.2.action = 9 && d.sage.cs.tickets.contains e.2.ticket)
  let m : SMap Bytes := es.foldl (fun m e =>
    SMap.set [] m ((d.netDist e.2.at_ + 2 ^ 48).toNat * 2 ^ 32 + e.2.arg)
      (beBytes 2 (e.2.at_ / 2 ^ 32) ++ beBytes 4 (e.2.at_ % 2 ^ 32) ++ beBytes 1 9 ++ beBytes 4 e.2.arg)) []
  sha384 (ascii "SQ2SCHED" ++ m.flatMap (·.2))

/-- MODE and MPI of a service keying entry (R458). -/
def Dev.svcMode (d : Dev) (s : Nat) : Nat := d.tf 0xF3 s 0 30 29
def Dev.svcMpi (d : Dev) (s : Nat) : Nat := d.tf 0xF3 s 0 25 16
def Dev.svcGate (d : Dev) (s : Nat) : Nat := d.tf 0xF3 s 0 27 26

/-- Does member `m` belong to the service of an MPI (R458)? -/
def Dev.mpiMember (d : Dev) (mpi m : Nat) : Bool := bit (d.tw 0xF4 (mpi * 8 + m / 512) (m % 512 / 32)) (m % 32)

/-- The members of an MPI. -/
def Dev.mpiMembers (d : Dev) (mpi : Nat) : List Nat := (List.range 4096).filter (fun m => d.mpiMember mpi m)

/-- Does this module share a keyed service with a member? -/
def Dev.shares (d : Dev) (s m : Nat) : Bool :=
  d.tf 0xF3 s 0 31 31 = 1 &&
    (if d.svcMode s = 0 then d.tf 0xF3 s 0 11 0 = m
     else d.mpiMember (d.svcMpi s) m && d.mpiMember (d.svcMpi s) d.fleet.member)

/-- The services shared with a member. -/
def Dev.shared (d : Dev) (m : Nat) : List Nat := ((d.entries 0xF3).map (·.1)).filter (fun s => d.shares s m)

/-- The service digest (R454): the membership rows belong to it for a multipoint service. -/
def Dev.svcDigest (d : Dev) (s : Nat) : Bytes :=
  let rec1 (sel idx : Nat) : Bytes := canonRec 2 sel idx (canonWords sel idx (d.entry sel idx))
  let rows := if d.svcMode s = 0 then [] else (List.range 8).flatMap (fun k => rec1 0xF4 (d.svcMpi s * 8 + k))
  sha384 (ascii "SQ2SERVC" ++ beBytes 4 d.fleet.domain ++ beBytes 2 s ++ rec1 0xF3 s ++ rows ++ rec1 0xF5 0)

/-- This module's identity hash (R428). -/
def Dev.ownIdh (_d : Dev) : Bytes := sha384 ((Config.identityPub 0).1 ++ (Config.identityPub 0).2)

end Sys2Proof.Machine
end

