-- ==== Sys2Proof/Machine/Mrg.lean ====
section
/-! DEFINITION. The client crossbar with the sequence-generator pair, the client egress, and the merge pair
(R224-R226, R244-R251, R296-R318). -/

namespace Sys2Proof.Machine

/-! Numbering (R296-R299). -/

/-- Is a sequence-generator or merge pair fenced: 0 sequence generator, 1 merge (R299, R300)? -/
def Dev.pairFenced (d : Dev) (k : Nat) : Bool := d.on (if k = 0 then F.MRG_STATUS_SEQ_FENCED else F.MRG_STATUS_MERGE_FENCED)

/-- A pair is fenced (R299-R301): again within 1 s of a restart, it refuses every later one. -/
def Dev.fencePair (d : Dev) (k field item : Nat) : Dev :=
  let last := if k = 0 then d.mrg.seqRestart else d.mrg.mergeRestart
  let lock := match last with
    | some c => decide (d.tim.clk < c + sec 1)
    | none => false
  let d := d.bump R.MRG_CNT_FENCES
  let d := if lock then d.set F.MRG_STATUS_LOCKED 1 else d
  if k = 0 then
    let d := { d with mrg := { d.mrg with seqClk := d.tim.clk, seqLocked := d.mrg.seqLocked || lock } }
    let d := ((d.set F.MRG_SEQ_FENCE_INFO_VALID 1).set F.MRG_SEQ_FENCE_INFO_FIELD field).set F.MRG_SEQ_FENCE_INFO_SERVICE item
    (d.set F.MRG_STATUS_SEQ_FENCED 1).raise E.MRG_SEQ_FENCE
  else
    let d := { d with mrg := { d.mrg with mergeClk := d.tim.clk, mergeLocked := d.mrg.mergeLocked || lock } }
    let d := ((d.set F.MRG_MERGE_FENCE_INFO_VALID 1).set F.MRG_MERGE_FENCE_INFO_FIELD field).set F.MRG_MERGE_FENCE_INFO_STREAM item
    let held := d.mrg.held
    let d := held.foldl (fun d c => d.freeCells c.f.cells) { d with mrg := { d.mrg with held := [] } }
    ((d.bump R.MRG_CNT_HOLD_FENCE_DISCARD (n := held.length)).set F.MRG_STATUS_MERGE_FENCED 1).raise E.MRG_MERGE_FENCE

/-- An error in an entry of the tables of R319. -/
def Dev.mrgEcc (d : Dev) (sel idx : Nat) (uncorr : Bool) : Dev :=
  if !uncorr then (d.bump R.MRG_CNT_ECC_CORRECTED).raise E.MRG_ECC_CORR
  else
    let d := { d with mrg := { d.mrg with bad := (sel, idx) :: d.mrg.bad.filter (· ≠ (sel, idx)) } }
    let table := if sel = 0xC0 then 0 else if sel = 0xC1 then 1 else 2
    ((((d.set F.MRG_ECC_STATUS_VALID 1).set F.MRG_ECC_STATUS_TABLE table).set F.MRG_ECC_STATUS_SLICE
      (if 0xC8 ≤ sel then sel % 8 else 0)).set F.MRG_ECC_STATUS_INDEX idx).raise E.MRG_ECC_UNCORR

/-! The crossbar (R244). -/

/-- Bytes of a front end's frames of one kind that wait at a slice. -/
def Dev.xbarBytes (d : Dev) (fe s : Nat) (express : Bool) : Nat :=
  heldBytes ((SMap.get [] d.fe.steer s).filter (fun f => f.port / 8 = fe)) express

/-- Does a frame hold the credits of its slices (R244)? A buffer takes a frame while it is empty, or where the frame
fits its depth (log entry 19). -/
def Dev.xbarCredit (d : Dev) (fe : Nat) (f : Frame) : Bool :=
  f.slices.all fun s =>
    let b := d.xbarBytes fe s (decide (f.cls = 0))
    b = 0 || b + f.data.length + 4 ≤ (if f.cls = 0 then 8192 else 65536)

/-- The oldest frame of a hold that has its credits, no older frame waiting for one of its slices. -/
def Dev.xbarPick (d : Dev) (fe : Nat) (express : Bool) : List Frame → List Nat → Option Frame
  | [], _ => none
  | f :: fs, stopped =>
    if decide (f.cls = 0) != express then d.xbarPick fe express fs stopped
    else if d.xbarCredit fe f && !f.slices.any (fun s => stopped.contains s) then some f
    else d.xbarPick fe express fs (stopped ++ f.slices)

/-- A copy arrives at its slice's steer stage; a fenced or held slice takes none. -/
def Dev.carry (d : Dev) (s : Nat) (f : Frame) : Dev :=
  if d.sliceOff s then
    (d.feDiscard R.FE_CNT_SLICE_FENCED (f.port / 8) f.port (f.data.length + 4)).count (f.port / 8) 0x06 f.seen
  else
    { d with fe := { d.fe with steer := SMap.set [] d.fe.steer s (SMap.get [] d.fe.steer s ++ [{ f with slice := s, slices := [] }]) } }

/-- CROSSBAR_TRANSFER (R22, R244, R296-R299): a frame waiting in the hold of front end `fe`, Express or other, is
carried over.  `disagree` is the first field in which the sequence-generator instances differ, 0 where they agree;
`ecc` an error in the sequence number read. -/
def doCrossbarTransfer (fe : Nat) (express : Bool) (disagree : Nat) (ecc : Option Bool) (d : Dev) : Dev :=
  let n := fe % 4
  let h := SMap.get [] d.fe.hold n
  match d.xbarPick n express h [] with
  | none => d
  | some f =>
    let d := { d with fe := { d.fe with hold := SMap.set [] d.fe.hold n (h.erase f) } }
    if !f.prot then f.slices.foldl (fun d s => d.carry s f) d
    else if d.pairFenced 0 then d.bump R.MRG_CNT_SEQ_FENCED
    else
      let d := match ecc with
        | some u => d.mrgEcc 0xC1 f.svc u
        | none => d
      if d.mrg.bad.contains (0xC1, f.svc) then d.bump R.MRG_CNT_ECC_DISCARD
      else
        let m := d.tw 0xC1 f.svc 0
        let d := d.setEntry 0xC1 f.svc [(m + 1) % 2 ^ 32]
        let d := (d.bump64 R.MRG_CNT_NUMBERED_LO R.MRG_CNT_NUMBERED_HI).count 18 0x30 { svc := some f.svc, bytes := f.data.length + 4 }
        if disagree ≠ 0 then d.fencePair 0 disagree f.svc
        else
          f.slices.foldl (fun d s => d.carry s { f with msn := m, path := decide (s ≠ f.work) }) d

/-! Client egress (R224-R226, R247, R251). -/

/-- Cells of the egress buffer in use, of one class or of all. -/
def Dev.egrCells (d : Dev) (p : Nat → Bool) : Nat :=
  ((d.sch.egr.filter (fun e => p e.1)).map (fun e => (e.2.map Frame.cellCount).foldl (· + ·) 0)).foldl (· + ·) 0

/-- The client port of a receive entry (R224). -/
def Dev.egressPort (d : Dev) (s e : Nat) : Option Nat :=
  let c := d.tf (0x90 + s) e 0 4 0
  if d.schValid (0x90 + s) e && d.schGood 0x89 c then some c else none

/-- The event fields of a frame at the client egress. -/
def Frame.egrSeen (f : Frame) : Seen :=
  { cls := some f.cls, rxe := some f.rxEntry, cport := some f.outPort, bytes := f.data.length + 4 }

/-- The correction of a timed PTP frame at the receiver (R251, R253). -/
def Dev.egressPtp (d : Dev) (f : Frame) : Dev × Frame :=
  let p := parseFrame { altTpid := d.get F.FE_PARSE_CTRL_ALT_TPID, altEn := d.on F.FE_PARSE_CTRL_ALT_TPID_EN,
                        ptpL2 := d.on F.FE_PTP_CTRL_L2_EN, ptpUdp4 := d.on F.FE_PTP_CTRL_UDP4_EN,
                        ptpUdp6 := d.on F.FE_PTP_CTRL_UDP6_EN } f.data
  let w := d.tw 0xA2 f.outPort 0
  if bit w 31 && f.cls = 0 && p.ptpEvent && decide (f.data.length + 4 ≤ 1518) then
    let ns := nbits w 15 0
    let f := { f with data := ptpCorrect f.data p (d.lLatency f.lport + f.holdNs + ns), ptp := some (f.arr + f.holdNs + ns) }
    (d.count 17 0x2E { f.egrSeen with rxe := none, bytes := 0 }, f)
  else (d, f)

/-- Admission to the client egress buffer (R224, R225). -/
def Dev.egress (d : Dev) (f : Frame) : Dev :=
  match d.egressPort f.slice f.rxEntry with
  | none => (d.bump R.SCH_CNT_NO_QUEUE).raise E.SCH_NO_QUEUE
  | some c =>
    let r := d.egressPtp { f with outPort := c }
    let d := r.1
    let f := r.2
    let n := f.cellCount
    let k := c * 4 + f.cls
    let max_ := d.tf 0x89 c (1 + f.cls) 16 0
    let full := decide (65536 < d.egrCells (fun _ => true) + n) || (decide (max_ ≠ 0) && decide (max_ < d.egrCells (· = k) + n)) ||
      !d.on F.CPORT_CTRL_ENABLE c
    if full then (d.bump R.SCH_CNT_EGR_FULL f.cls).count 17 0x2F { f.egrSeen with rxe := none }
    else
      let q := SMap.get [] d.sch.egr k
      let d := { d with sch := { d.sch with egr := SMap.set [] d.sch.egr k (q ++ [f]) } }
      if q = [] then
        let n := SMap.get {} d.sch.egrNode (c * 8)
        let m := SMap.set {} d.sch.egrNode (c * 8 + 1 + f.cls) {}
        { d with sch := { d.sch with egrNode := SMap.set {} m (c * 8) { n with list := n.list.erase f.cls ++ [f.cls] } } }
      else d

/-- The client port clock (R226). -/
def Dev.cp (d : Dev) (c : Nat) : Nat := SMap.get 0 d.sch.cp c
def Dev.setCp (d : Dev) (c v : Nat) : Dev := { d with sch := { d.sch with cp := SMap.set 0 d.sch.cp c v } }

/-- The class that a client port serves next (R225): Express, Assured, then Standard and Bulk by deficit; for these two
the new active list and whether a quantum is added. -/
def Dev.egrPick (d : Dev) (c : Nat) : Option (Nat × List Nat × Bool) :=
  let q (k : Nat) : List Frame := SMap.get [] d.sch.egr (c * 4 + k)
  let head (k : Nat) : Nat := match q k with
    | f :: _ => f.data.length + 24
    | [] => 0
  if q 0 ≠ [] then some (0, [], false)
  else if q 1 ≠ [] then some (1, [], false)
  else
    let n := SMap.get {} d.sch.egrNode (c * 8)
    let live := ([2, 3] : List Nat).filter (fun k => q k ≠ [])
    match n.cur.filter (fun k => live.contains k && decide (head k ≤ (SMap.get {} d.sch.egrNode (c * 8 + 1 + k)).d)) with
    | some k => some (k, n.list, false)
    | none =>
      let list := match n.cur with
        | some k => if n.list.contains k then n.list.erase k ++ [k] else n.list
        | none => n.list
      let list := list.filter (fun k => live.contains k) ++ live.filter (fun k => !list.contains k)
      match list with
      | k :: _ => some (k, list, true)
      | [] => none

/-- Remove the head of an egress queue; a queue left empty loses its deficit (R221). -/
def Dev.egrPop (d : Dev) (c k : Nat) : Dev :=
  let q := (SMap.get [] d.sch.egr (c * 4 + k)).drop 1
  let d := { d with sch := { d.sch with egr := SMap.set [] d.sch.egr (c * 4 + k) q } }
  if q = [] then
    let n := SMap.get {} d.sch.egrNode (c * 8)
    let m := SMap.set {} d.sch.egrNode (c * 8 + 1 + k) {}
    { d with sch := { d.sch with egrNode := SMap.set {} m (c * 8) { n with list := n.list.erase k, cur := if n.cur = some k then none else n.cur } } }
  else d

/-- The verdict of the client deadline guard (R235, R247, R251): C_c after the charge, the reckoned last-byte time, and
the time it must not pass. -/
def Dev.clientGuard (d : Dev) (c : Nat) (f : Frame) : Nat × Nat × Nat :=
  let r := d.cRate c
  let l := f.data.length + 4
  let cn := max (d.cp c) d.now16
  let t := byteTime (l + 20) r
  match f.ptp with
  | some tl => ((tl - 368) * 65536 + t, cn + t + 368 * 65536, tl * 65536 + t)
  | none =>
    let dl := if f.cls = 0 then
        let e := if d.fMode f.lport then 0 else 1
        (f.arr + f.holdNs + 1200) * 65536 + byteTime (elenOf (d.fMode f.lport) true l + 64 * e) (d.lRate f.lport) +
          byteTime (32040 + l + 20) r
      else (f.arr + f.holdNs + f.bound) * 65536
    (cn + t, cn + t + 368 * 65536, dl)

/-- May a client port send (R215, R247)? -/
def Dev.clientReady (d : Dev) (c : Nat) : Bool :=
  let r := d.cRate c
  d.on F.CPORT_CTRL_ENABLE c && d.on F.CPORT_STATUS_TX_ACTIVE c && decide (r ≠ 0) && !d.domHeld (c / 16) && !d.domHeld 2 &&
    decide (d.cp c ≤ d.now16 + byteTime 16020 r)

/-- A frame goes to the client MAC, which adds its FCS (R134, R363). -/
def Dev.sendClient (d : Dev) (c : Nat) (data : Bytes) : Dev :=
  let bs := data ++ fcsBytes data
  (((d.cCount c 8).cCount c 9 bs.length).count 25 0x4B { cport := some c, bytes := bs.length }).emit (.client c bs)

/-- CLIENT_EGRESS_DEQUEUE (R225, R226, R247-R251): a dequeue opportunity of a client port; `preempts` says that an
Express frame chosen meets a preemptible frame being sent. -/
def doClientEgressDequeue (port : Nat) (preempts : Bool) (d : Dev) : Dev :=
  let c := port % 32
  if !d.clientReady c then d
  else match d.egrPick c with
  | none => d
  | some (k, list, add) =>
    match SMap.get [] d.sch.egr (c * 4 + k) with
    | [] => d
    | f :: _ =>
      let g := d.clientGuard c f
      if g.2.2 < g.2.1 then
        let d := ((d.egrPop c k).bump R.SCH_CNT_GUARD_CLIENT k).count 17 0x2C f.egrSeen
        (d.sampleCh (4 + k) ((g.2.1 - g.2.2) / 65536)).rxBump f.slice f.rxEntry 11
      else
        let len := f.data.length + 24
        let w := max 1 (if k = 2 then d.tf 0x89 c 0 11 0 else d.tf 0x89 c 0 27 16)
        let d := if k < 2 then d else
          let n := SMap.get {} d.sch.egrNode (c * 8)
          let ch := SMap.get {} d.sch.egrNode (c * 8 + 1 + k)
          let m := SMap.set {} d.sch.egrNode (c * 8 + 1 + k) { ch with d := ch.d + (if add then w * 16384 else 0) - len }
          { d with sch := { d.sch with egrNode := SMap.set {} m (c * 8) { n with list := list, cur := some k } } }
        let d := (d.egrPop c k).setCp c g.1
        let d := if preempts && k = 0 && d.on F.CPORT_STATUS_PREEMPT_ACTIVE c then
            ((d.setCp c (d.cp c + byteTime 24 (d.cRate c))).bump R.SCH_CNT_PREEMPT).cCount c 10
          else d
        let d := (d.sample 0x04 (f.slice * 2 ^ 24 + f.rxEntry) (g.2.1 / 65536 - f.arr)).count 17 0x2D f.egrSeen
        (d.rxBump f.slice f.rxEntry 12).sendClient c f.data

/-- TIME_MESSAGE_SEND (R378): a Delay_Req of the Sage core at a client port's next frame boundary, with its stamp; at
most 128 bytes long and 128 in a second. -/
def doTimeMessageSend (port tag : Nat) (frame : Bytes) (d : Dev) : Dev :=
  let c := port % 32
  let w := SMap.get (0, 0) d.tim.slotRate c
  let w := if w.1 + sec 1 ≤ d.tim.clk then (d.tim.clk, 0) else w
  if 128 < frame.length + 4 ∨ 128 ≤ w.2 ∨ !d.clientReady c ∨ d.active.isNone then d
  else
    let d := { d with tim := { d.tim with slotRate := SMap.set (0, 0) d.tim.slotRate c (w.1, w.2 + 1) } }
    let start := max (d.cp c) d.now16
    let d := d.setCp c (start + byteTime (frame.length + 24) (d.cRate c))
    (d.txStamp c tag (d.netAt (start / 65536 + 368))).sendClient c frame

/-! The merge pair (R303-R313). -/

def Dev.stream (d : Dev) (m : Nat) : StreamSt := SMap.get {} d.mrg.stream m
def Dev.setStream (d : Dev) (m : Nat) (s : StreamSt) : Dev := { d with mrg := { d.mrg with stream := SMap.set {} d.mrg.stream m s } }

/-- The fields of a stream's entry (R319). -/
def Dev.mWin (d : Dev) (m : Nat) : Nat := 2 ^ max 12 (min 24 (d.tf 0xC0 m 0 28 24))
def Dev.mResync (d : Dev) (m : Nat) : Nat := ms (max 1 (min 1000 (d.tf 0xC0 m 1 9 0)))
def Dev.mMargin (d : Dev) (m : Nat) : Nat := us (max 1 (min 1000 (d.tf 0xC0 m 2 25 16)))
def Dev.mDeskew (d : Dev) (m : Nat) : Nat := us (min 25000 (d.tf 0xC0 m 2 14 0))
def Dev.mAligned (d : Dev) (m : Nat) : Bool := d.tf 0xC0 m 0 30 30 = 1

/-- The rule of first-verified merge (R305): 0 pass, 1 duplicate, 2 stale, and the stream's new state; a reseed is
told apart (R306). -/
def firstVerified (s : StreamSt) (w resync deskew msn t : Nat) : StreamSt × Nat × Bool :=
  let late := s.seeded && decide (resync < t - s.lastPass)
  if !s.seeded || late then
    ({ seeded := true, highest := msn, map := 1, lastPass := t, h0 := deskew, h1 := deskew, intervalClk := t,
       lastMin := s.lastMin, lastMax := s.lastMax, lastN := s.lastN }, 0, late)
  else
    let up := (msn + 2 ^ 32 - s.highest) % 2 ^ 32
    if 1 ≤ up ∧ up < 2 ^ 31 then
      ({ s with highest := msn, map := if up < w then ((s.map <<< up) ||| 1) % 2 ^ w else 1, lastPass := t }, 0, false)
    else
      let k := (s.highest + 2 ^ 32 - msn) % 2 ^ 32
      if w ≤ k then (s, 2, false)
      else if bit s.map k then (s, 1, false)
      else ({ s with map := s.map ||| 2 ^ k, lastPass := t }, 0, false)

/-- A copy passes to the client egress buffer. -/
def Dev.mergePass (d : Dev) (m : Nat) (f : Frame) : Dev :=
  ((d.bump64 R.MRG_CNT_PASSED_LO R.MRG_CNT_PASSED_HI).count 18 0x31 { stream := some m, bytes := f.data.length + 4 }).egress f

/-- A copy is dropped as a duplicate. -/
def Dev.mergeDup (d : Dev) (m : Nat) (f : Frame) : Dev :=
  ((d.bump64 R.MRG_CNT_DUP_LO R.MRG_CNT_DUP_HI).count 18 0x32 { stream := some m, bytes := f.data.length + 4 }).rxBump f.slice f.rxEntry 10

/-- Store a copy in the hold of its half, its 32-byte header first (R309, R311, R325): none where the reservation or the
pool is exhausted.  What the header holds is a free value (log entry 2). -/
def Dev.holdStore (d : Dev) (f : Frame) : Option (Dev × Frame) :=
  let h := f.slice / 4
  let n := (f.data.length + 32 + 255) / 256
  if d.halfFailed h || min 100663296 (d.get F.MRG_HOLD_RESERVE_CELLS h) < d.holdUsed h + n then none
  else (d.freeNext.storeBytes h 1023 (beBytes 32 d.freeVal ++ f.data)).map (fun r => (r.1, { f with cells := r.2 }))

/-- A copy that passes in aligned mode is held until its release instant (R309, R311). -/
def Dev.holdCopy (d : Dev) (m : Nat) (f : Frame) : Dev :=
  let s := d.stream m
  let rel := f.arr + (if f.path then s.h1 else s.h0)
  let d := d.bump R.MRG_CNT_FIRST f.slice
  if rel ≤ d.tim.clk then d.mergePass m { f with holdNs := rel - f.arr }
  else match d.holdStore f with
  | some (d, f) =>
    let c : HeldCopy := { f := { f with release := rel, holdNs := rel - f.arr }, stream := m }
    (({ d with mrg := { d.mrg with held := d.mrg.held ++ [c] } }).bump64 R.MRG_CNT_HELD_LO R.MRG_CNT_HELD_HI).count 18 0x34
      { stream := some m, bytes := f.data.length + 4 }
  | none =>
    let d := if d.halfFailed (f.slice / 4) then d else (d.bump R.MRG_CNT_HOLD_NO_CELL).raise E.MRG_HOLD_NO_CELL
    d.mergePass m { f with holdNs := 0 }

/-- The held first copy of an MSN of a stream. -/
def Dev.heldFirst (d : Dev) (m msn : Nat) : Option HeldCopy := d.mrg.held.find? (fun c => c.stream = m && c.f.msn = msn && !c.twin)

/-- A copy whose twin is held gives a sample of the delay difference and is held too (R309, R310). -/
def Dev.holdTwin (d : Dev) (m : Nat) (f : Frame) (c : HeldCopy) : Dev :=
  let s := d.stream m
  let dd : Int := if f.path then (f.arr : Int) - c.f.arr else (c.f.arr : Int) - f.arr
  let s := { s with dmin := if s.n = 0 then dd else min s.dmin dd, dmax := if s.n = 0 then dd else max s.dmax dd, n := s.n + 1 }
  let d := d.setStream m s
  match d.holdStore f with
  | some (d, f) => { d with mrg := { d.mrg with held := d.mrg.held ++ [{ f := { f with release := c.f.release }, stream := m, twin := true }] } }
  | none => d.mergeDup m f

/-- The merge pair decides a copy (R304-R309). -/
def Dev.mergeDecide (d : Dev) (f : Frame) (disagree : Nat) (ecc : Option (Nat × Nat × Bool)) : Dev :=
  let s := f.slice
  let d := d.bump R.MRG_CNT_COPIES s
  let d := match ecc with
    | some (sel, i, u) => d.mrgEcc sel i u
    | none => d
  let b := d.tw (0xC8 + s) f.rxEntry 0
  let m := nbits b 14 0
  if !bit b 31 || d.tf 0xC0 m 0 31 31 ≠ 1 then (d.bump R.MRG_CNT_NO_STREAM).raise E.MRG_NO_STREAM
  else if bit b 30 != f.path then (d.bump R.MRG_CNT_PATH_ERR).raise E.MRG_PATH_ERR
  else if d.pairFenced 1 then d.bump R.MRG_CNT_MERGE_FENCED
  else if d.mrg.bad.contains (0xC0, m) || d.mrg.bad.contains (0xC8 + s, f.rxEntry) then d.bump R.MRG_CNT_ECC_DISCARD
  else if disagree ≠ 0 then d.fencePair 1 disagree m
  else
    let tag := m * 2 ^ 32 + f.msn
    let same := decide (d.mrg.lastClk = d.tim.clk ∧ d.mrg.lastMsn = tag ∧ d.tim.clk ≠ 0)
    let d := { d with mrg := { d.mrg with lastClk := d.tim.clk, lastMsn := tag } }
    let d := if same then d.bump R.MRG_CNT_SAME_CYCLE else d
    let r := firstVerified (d.stream m) (d.mWin m) (d.mResync m) (d.mDeskew m) f.msn f.arr
    let d := if r.2.2 then (d.bump R.MRG_CNT_RESYNC).raise E.MRG_RESYNC else d
    match r.2.1 with
    | 0 =>
      let d := d.setStream m r.1
      if d.mAligned m then d.holdCopy m f else (d.bump R.MRG_CNT_FIRST s).mergePass m f
    | 1 =>
      (match (if d.mAligned m then d.heldFirst m f.msn else none) with
       | some c => d.holdTwin m f c
       | none => d.mergeDup m f)
    | _ => ((d.bump R.MRG_CNT_STALE).raise E.MRG_STALE).count 18 0x33 { stream := some m, bytes := f.data.length + 4 }

/-- VERIFY_HOLD_RELEASE (R28, R161, R224, R300, R304): the oldest verified frame of a slice leaves verify-hold; `disagree`
is the field in which the merge instances differ, 0 where they agree, `ecc` an error in an entry read for it. -/
def doVerifyHoldRelease (slice disagree : Nat) (ecc : Option (Nat × Nat × Bool)) (d : Dev) : Dev :=
  let s := slice % 8
  match d.vheld s with
  | [] => d
  | f :: rest =>
    if d.domHeld 2 then d
    else
      let d := (d.setVheld s rest).holdShow s
      let d := (d.bump64 R.CIP_CNT_OPENED_LO R.CIP_CNT_OPENED_HI s).count (8 + s) 0x11
        { cls := some f.cls, rxe := some f.rxEntry, lport := some f.lport, bytes := f.data.length + 4 }
      let d := d.rxBump s f.rxEntry 8
      if f.prot then d.mergeDecide f disagree ecc
      else
        let d := match ecc with
          | some (sel, i, u) => if 0x88 ≤ sel && sel < 0xA8 then d.schEcc sel i u else d
          | none => d
        d.egress f

/-- A copy lost from the hold (R309, R312): its MSN's bit is cleared unless a held twin takes its place. -/
def Dev.holdLost (d : Dev) (c : HeldCopy) : Dev :=
  let d := { d with mrg := { d.mrg with held := d.mrg.held.erase c } }
  let d := ((d.freeCells c.f.cells).bump R.MRG_CNT_HOLD_LOST).raise E.MRG_HOLD_LOST
  if c.twin then d
  else match d.mrg.held.find? (fun x => x.stream = c.stream && x.f.msn = c.f.msn && x.twin) with
  | some t =>
    let t' := { t with twin := false, f := { t.f with holdNs := t.f.release - t.f.arr } }
    let d := { d with mrg := { d.mrg with held := d.mrg.held.map (fun x => if x = t then t' else x) } }
    d.bump R.MRG_CNT_HOLD_REPLACED
  | none =>
    let s := d.stream c.stream
    let k := (s.highest + 2 ^ 32 - c.f.msn) % 2 ^ 32
    if bit s.map k then d.setStream c.stream { s with map := s.map - 2 ^ k } else d

/-- The held copy that is released next (R313): the earliest instant, then the lowest MSN. -/
def Dev.nextHeld (d : Dev) : Option HeldCopy :=
  (d.mrg.held.filter (fun c => !c.twin)).foldl (fun b c =>
    match b with
    | none => some c
    | some x => if c.f.release < x.f.release ∨ (c.f.release = x.f.release ∧ c.f.msn < x.f.msn) then some c else b) none

/-- HOLD_RELEASE (R309, R312, R313): at its release instant a held copy goes to the client egress and its twin is
dropped; `err` is an error found in its cells. -/
def doHoldRelease (err : Option (Nat × Nat)) (d : Dev) : Dev :=
  match d.nextHeld with
  | none => d
  | some c =>
    let d := d.advance c.f.release
    if !d.linesReady c.f.cells then d
    else
      let r := d.readCells c.f.cells err
      let d := r.1
      if r.2 then d.holdLost c
      else
        let d := ({ d with mrg := { d.mrg with held := d.mrg.held.erase c } }).freeCells c.f.cells
        let twins := d.mrg.held.filter (fun x => x.stream = c.stream && x.f.msn = c.f.msn && x.twin)
        let d := twins.foldl (fun d t =>
          (({ d with mrg := { d.mrg with held := d.mrg.held.erase t } }).freeCells t.f.cells).mergeDup c.stream t.f) d
        d.mergePass c.stream { c.f with cells := [] }

/-- Every held copy of a half goes to the client egress with H = 0: a bay of the half has failed (R339). -/
def Dev.holdAllGo (d : Dev) (h : Nat) : Dev :=
  let mine := d.mrg.held.filter (fun c => c.f.slice / 4 = h)
  mine.foldl (fun d c =>
    let d := ({ d with mrg := { d.mrg with held := d.mrg.held.erase c } }).freeCells c.f.cells
    if c.twin then d.mergeDup c.stream c.f else d.mergePass c.stream { c.f with cells := [], holdNs := 0 }) d

/-- A hold moves towards its target (R310): up at once, down by at most 1,000 ns. -/
def holdStep (h target : Nat) (first : Bool) : Nat := if first || h ≤ target then target else max target (h - 1000)

/-- HOLD_INTERVAL_END (R310): the end of a stream's interval of 2^20 ns of raw time. -/
def doHoldIntervalEnd (stream : Nat) (d : Dev) : Dev :=
  let m := stream % 32768
  let s := d.stream m
  if !s.seeded || !d.mAligned m then d
  else
    let o := d.tim.rawOrigin
    let d := d.advance (o + ((s.intervalClk - o) / 2 ^ 20 + 1) * 2 ^ 20)
    let done := { s with lastMin := s.dmin, lastMax := s.dmax, lastN := s.n, dmin := 0, dmax := 0, n := 0, intervalClk := d.tim.clk }
    if s.n < 16 then d.setStream m done
    else
      let w0 := s.dmax.toNat + d.mMargin m
      let w1 := (-s.dmin).toNat + d.mMargin m
      let dk := d.mDeskew m
      let capped := decide (dk < w0) || decide (dk < w1)
      let d := d.setStream m { done with h0 := holdStep s.h0 (min dk w0) (!s.aligned), h1 := holdStep s.h1 (min dk w1) (!s.aligned),
                                         aligned := true, capped := capped }
      if capped then (d.bump R.MRG_CNT_ALIGN_CAPPED).raise E.MRG_ALIGN_CAPPED else d

/-- BAY_STACK_FAULT (R339): a bay fails; held copies of its half are released with H = 0. -/
def doBayStackFault (bay : Nat) (d : Dev) : Dev :=
  let b := bay % 4
  if d.domHeld (b / 2) || d.on F.BAY_STATUS_FAILED b then d
  else (((d.set F.BAY_STATUS_FAILED 1 b).set F.BAY_STATUS_READY 0 b).raise E.BAY_TRAIN_FAIL b).holdAllGo (b / 2)

/-! Restarts (R301). -/

/-- QUIET_MS within its range (R320). -/
def Dev.quietNs (d : Dev) : Nat := ms (max 10 (min 1000 (d.get F.MRG_QUIET_QUIET_MS)))

/-- MRG_CMD_STATUS. -/
def Dev.mrgStatus (d : Dev) (st op reason : Nat) : Dev :=
  ((d.set F.MRG_CMD_STATUS_STATE st).set F.MRG_CMD_STATUS_OP op).set F.MRG_CMD_STATUS_REASON reason

/-- A restart of pair `k` is commanded (R301). -/
def Dev.restart (d : Dev) (k : Nat) (m : Master) : Dev :=
  let op := k + 1
  let clk := if k = 0 then d.mrg.seqClk else d.mrg.mergeClk
  let locked := if k = 0 then d.mrg.seqLocked else d.mrg.mergeLocked
  if d.mrg.run ≠ 0 then d
  else if !d.isActive m then d.mrgStatus 3 op 3
  else if !d.pairFenced k then d.mrgStatus 3 op 1
  else if locked then d.mrgStatus 3 op 5
  else if d.tim.clk < clk + d.quietNs then d.mrgStatus 3 op 2
  else
    let d := if k = 0 then d.dropEntries (fun sel _ => sel = 0xC1) else { d with mrg := { d.mrg with stream := [] } }
    let d := d.set (if k = 0 then F.MRG_SEQ_FENCE_INFO_VALID else F.MRG_MERGE_FENCE_INFO_VALID) 0
    (({ d with mrg := { d.mrg with run := op } }).set F.MRG_STATUS_CMD_BUSY 1).mrgStatus 1 op 0

/-- RESTART_SEQ. -/
def doRestartSeq (m : Master) (d : Dev) : Dev := d.restart 0 m
/-- RESTART_MERGE. -/
def doRestartMerge (m : Master) (d : Dev) : Dev := d.restart 1 m

/-- RESTART_SELF_CHECK_DONE (R301). -/
def doRestartSelfCheckDone (pass : Bool) (d : Dev) : Dev :=
  let op := d.mrg.run
  if op = 0 then d
  else
    let d := ({ d with mrg := { d.mrg with run := 0 } }).set F.MRG_STATUS_CMD_BUSY 0
    if !pass then (d.mrgStatus 3 op 4).raise E.MRG_RESTART_FAILED
    else
      let d := if op = 1 then ({ d with mrg := { d.mrg with seqRestart := some d.tim.clk } }).set F.MRG_STATUS_SEQ_FENCED 0
        else ({ d with mrg := { d.mrg with mergeRestart := some d.tim.clk } }).set F.MRG_STATUS_MERGE_FENCED 0
      let d := d.set (if op = 1 then F.MRG_STATUS_SEQ_QUIET_MET else F.MRG_STATUS_MERGE_QUIET_MET) 0
      (d.mrgStatus 2 op 0).raise E.MRG_RESTART_DONE

/-- QUIET_TIME_MET (R301, R320): pair `pair` (0 sequence generator, 1 merge) has been fenced for QUIET_MS; with
AUTO_RESTART the active Sage core restarts it. -/
def doQuietTimeMet (pair : Nat) (d : Dev) : Dev :=
  let k := pair % 2
  if !d.pairFenced k then d
  else
    let d := d.advance ((if k = 0 then d.mrg.seqClk else d.mrg.mergeClk) + d.quietNs)
    let d := d.set (if k = 0 then F.MRG_STATUS_SEQ_QUIET_MET else F.MRG_STATUS_MERGE_QUIET_MET) 1
    match d.active with
    | some m => if d.on F.MRG_CTRL_AUTO_RESTART then d.restart k m else d
    | none => d

/-! Relocation (R316). -/

/-- SLICE_RELOCATION (R316): the active Sage core moves the services of fenced slice `slice` to the slice at offset
`target` of the same half, the one the image names. -/
def doSliceRelocation (slice target : Nat) (d : Dev) : Dev :=
  let s := slice % 8
  let t := s / 4 * 4 + target % 4
  if !d.on F.SAT_STATUS_FENCED s || t = s || d.sliceOff t || d.active.isNone then d
  else
    let d := d.set ⟨R.FE_SLICE_REMAP, 2 * s + 1, 2 * s⟩ (t % 4)
    let ents := (d.sat.rx.filter (fun e => e.1 / 2 ^ 13 = s && e.2.st = 2)).map (fun e => (e.1 % 2 ^ 13, e.2))
    let d := ents.foldl (fun d e =>
      let n := e.1 ^^^ 0x1000
      if (d.rx t n).st ≠ 0 then d
      else
        let d := d.setRx t n { e.2 with at_ := d.net, ok := 0, replayDisc := 0, map := 0, busy := 0 }
        [0x48, 0xC8, 0x90].foldl (fun d base => d.setEntry (base + t) n (d.entry (base + s) e.1)) d) d
    let d := d.set ⟨R.MRG_RX_REDIRECT, 2 * s + 1, 2 * s⟩ (t % 4)
    d.set ⟨R.MRG_RX_REDIRECT, 24 + s, 24 + s⟩ 1

end Sys2Proof.Machine
end

