-- ==== Sys2Proof/Machine/Line.lean ====
section
/-! DEFINITION. Line framing: the Ozkaeb envelope in both directions, its keys and defects, and frame mode
(R256-R295). -/

namespace Sys2Proof.Machine

/-! Ports and key positions. -/

def Dev.ep (d : Dev) (p : Nat) : EnvPort := SMap.get {} d.env.port p
def Dev.setEp (d : Dev) (p : Nat) (e : EnvPort) : Dev := { d with env := { d.env with port := SMap.set {} d.env.port p e } }
def Dev.epos (d : Dev) (p dir k : Nat) : EnvPos := SMap.get {} d.env.pos (p * 4 + dir * 2 + k)

/-- Replace a key position, and show its state in ENV_STATUS (R295). -/
def Dev.setEpos (d : Dev) (p dir k : Nat) (e : EnvPos) : Dev :=
  let d := { d with env := { d.env with pos := SMap.set {} d.env.pos (p * 4 + dir * 2 + k) e } }
  match dir, k with
  | 0, 0 => d.set F.ENV_STATUS_TX_POS0 e.st p
  | 0, _ => d.set F.ENV_STATUS_TX_POS1 e.st p
  | _, 0 => d.set F.ENV_STATUS_RX_POS0 (min 1 e.st) p
  | _, _ => d.set F.ENV_STATUS_RX_POS1 (min 1 e.st) p

/-- Block time of a port in units of 0.04 ns (R258). -/
def Dev.blockTime (d : Dev) (p : Nat) : Nat := 1600 / d.lRate p

/-- The clock in units of 0.04 ns. -/
def Dev.now25 (d : Dev) : Nat := d.tim.clk * 25

/-- A raw counter of a port (R285), with the programmable counters of its class (R568). -/
def Dev.envCount (d : Dev) (p k : Nat) (n : Nat := 1) : Dev :=
  let d := d.rawCount 0xB0 (p * 32 + k) n
  let cls := match k with
    | 0 => some 0x40
    | 1 => some 0x41
    | 3 => some 0x42
    | 6 => some 0x43
    | 14 => some 0x44
    | _ => none
  match cls with
  | some c => (List.range n).foldl (fun d _ => d.count (23 + p / 16) c { lport := some p }) d
  | none => d

/-- Does the port run an envelope: formed, in E-mode, its half up? -/
def Dev.eMode (d : Dev) (p : Nat) : Bool := decide (d.lRate p ≠ 0) && !d.fMode p && !d.domHeld (p / 16)

/-- The number of set bits. -/
def popCount (v : Nat) : Nat := ((List.range 64).filter (fun i => v.testBit i)).length

/-- XOR of all bytes (R280). -/
def xorAll (bs : Bytes) : Nat := (bs.foldl (· ^^^ ·) 0).toNat

/-- XOR of all 16-bit words (R281). -/
def xorWords : Bytes → Nat
  | a :: b :: rest => (a.toNat * 256 + b.toNat) ^^^ xorWords rest
  | _ => 0

/-! Defects (R283, R284). -/

/-- The discards of R162 for a port: every record open or parked in a slice of its half. -/
def Dev.dropPort (d : Dev) (p : Nat) : Dev :=
  (List.range 4).foldl (fun d k => d.dropParked (p / 16 * 4 + k) p) d

/-- Back to SEARCH (R275): alignment is lost. -/
def Dev.envSearch (d : Dev) (p : Nat) : Dev :=
  let e := d.ep p
  let d := d.setEp p { e with cand := [], badPos := 0, blk := 0, rxPrev := false, rxSbip := none,
                              strm := if e.strm = [] then [] else e.strm ++ [{ brk := true }], delin := e.delin && decide (e.strm ≠ []) }
  d.set F.ENV_STATUS_ALIGN 0 p

/-- The raw condition `k` is present or absent; its clock starts where that changes (R283). -/
def Dev.envRaw (d : Dev) (p k : Nat) (b : Bool) : Dev :=
  let e := d.ep p
  if bit e.raw k = b then d
  else d.setEp p { e with raw := putNbits e.raw k k (b2n b), rawClk := SMap.set 0 e.rawClk k d.tim.clk }

/-- A defect is set or cleared, with its event (R283, R284). -/
def Dev.defMark (d : Dev) (p k : Nat) (b : Bool) : Dev :=
  let w := d.get F.ENV_STATUS_DEFECTS p
  if bit w k = b then d
  else
    let d := d.set F.ENV_STATUS_DEFECTS (putNbits w k k (b2n b)) p
    let e := d.ep p
    let d := if b then d.setEp p { e with es := e.es || decide (k ≠ 7), ses := e.ses || decide (k ≤ 5) } else d
    if b then d.raise { E.ENV_DEF_SET0 with bit := k } p else d.raise { E.ENV_DEF_CLR0 with bit := 8 + k } p

/-- The counts by which dLOM, dSEAL, dDEG and dRDI are judged start again. -/
def Dev.defRestart (d : Dev) (p : Nat) : Dev :=
  let e := d.ep p
  d.setEp p { e with lomFail := 0, lomOk := 0, lomFailClk := d.tim.clk, lomOkClk := d.tim.clk, rdiSet := 0, rdiClr := 0,
                     seal16 := [], sealOk := 0, degSec := 0, degClr := 0, raw := e.raw % 4, rawClk := e.rawClk.filter (fun x => x.1 < 2) }

/-- Are dLOM and the defects after it evaluated (R284)? -/
def Dev.defLive (d : Dev) (p : Nat) : Bool := d.get F.ENV_STATUS_DEFECTS p % 4 = 0

/-- A defect changes with its consequent actions: dPCS sends alignment to SEARCH; while dPCS or dLOA is set the others
are cleared; a line defect discards the records open or parked (R162, R283, R284, R291). -/
def Dev.defect (d : Dev) (p k : Nat) (b : Bool) : Dev :=
  if bit (d.get F.ENV_STATUS_DEFECTS p) k = b then d
  else
    let d := d.defMark p k b
    if 2 ≤ k then d
    else if b then
      let d := [2, 3, 4, 5, 6, 7].foldl (fun d j => d.defMark p j false) d
      let d := if k = 0 && !d.fMode p then (d.envSearch p).envRaw p 1 true else d
      (d.defRestart p).dropPort p
    else if d.defLive p then d.defRestart p else d

/-- Set and clear times in ns (R283): a time of 0 acts as 1. -/
def Dev.defTime (d : Dev) (p k : Nat) (set : Bool) : Nat :=
  let f : Fld := match k, set with
    | 1, true => F.ENV_DEF_INTEG_SET_LOA
    | 1, false => F.ENV_DEF_INTEG_CLR_LOA
    | 2, true => F.ENV_DEF_INTEG_SET_LOM
    | 2, false => F.ENV_DEF_INTEG_CLR_LOM
    | 3, true => F.ENV_DEF_INTEG_SET_KEY
    | 3, false => F.ENV_DEF_INTEG_CLR_KEY
    | _, true => F.ENV_DEF_INTEG_SET_TIM
    | _, false => F.ENV_DEF_INTEG_CLR_TIM
  max 1 (d.get f p) * (if k = 5 then ms 1 else us 10)

/-- DEFECT_TIMER (R283): the set or clear time of dLOA (1), dLOM (2), dKEY (3) or dTIM (5) elapses. -/
def doDefectTimer (port k : Nat) (d : Dev) : Dev :=
  let p := port % 32
  let e := d.ep p
  let on := bit (d.get F.ENV_STATUS_DEFECTS p) k
  if !d.eMode p || !d.on F.LPORT_CTRL_ENABLE p then d
  else match k with
  | 2 =>
    if !d.defLive p then d
    else if !on then
      if 3 ≤ e.lomFail then (d.advance (e.lomFailClk + d.defTime p 2 true)).defect p 2 true else d
    else if 2 ≤ e.lomOk then (d.advance (e.lomOkClk + d.defTime p 2 false)).defect p 2 false else d
  | _ =>
    if (k ≠ 1 ∧ k ≠ 3 ∧ k ≠ 5) ∨ (k ≠ 1 ∧ !d.defLive p) ∨ bit e.raw k = on then d
    else (d.advance (SMap.get 0 e.rawClk k + d.defTime p k (bit e.raw k))).defect p k (bit e.raw k)

/-! The transmit state (R269-R272). -/

/-- TX_STATE changes: leaving RUN handles the queues as those of a disabled port, with dTXI (R271, R272, R283). -/
def Dev.txState (d : Dev) (p st : Nat) : Dev :=
  let d := if d.get F.ENV_STATUS_TX_STATE p = 1 && st ≠ 1 then d.flushPort p else d
  let d := d.set F.ENV_STATUS_TX_STATE st p
  if st ≠ 1 && !d.on F.ENV_STATUS_D_TXI p && d.on F.LPORT_CTRL_ENABLE p && !d.fMode p then
    let e := d.ep p
    ((d.set F.ENV_STATUS_D_TXI 1 p).setEp p { e with es := true }).raise E.ENV_TXI_SET p
  else d

/-- The transmit position that seals frames. -/
def Dev.envActive (d : Dev) (p : Nat) : Option Nat := [0, 1].find? (fun k => (d.epos p 0 k).st = 2)

/-- The envelope starts to run: the next frame's number is the next multiple of 256 (R259). -/
def Dev.envRun (d : Dev) (p : Nat) : Dev :=
  if d.get F.ENV_STATUS_TX_STATE p ≠ 1 && d.on F.LPORT_CTRL_ENABLE p && d.on F.LPORT_STATUS_TX_ACTIVE p && (d.envActive p).isSome && !d.on F.LFE_STATUS_TX_ENGINE_FAILED (p / 8)
  then
    let e := d.ep p
    (d.setEp p { e with efn := (e.efn + 255) / 256 * 256, start := d.now25, pay := [], fip := none, tld := 0, zeroTag := false }).set
      F.ENV_STATUS_TX_STATE 1 p
  else d

/-- The switch at a multiframe boundary (R269, R270): a position due becomes ACTIVE and the other EMPTY. -/
def Dev.envBoundary (d : Dev) (p : Nat) : Dev :=
  match [0, 1].find? (fun k => (d.epos p 0 k).due) with
  | none => d
  | some k =>
    let o := d.epos p 0 (1 - k)
    let d := d.setEpos p 0 k { d.epos p 0 k with st := 2, due := false }
    let d := if o.st = 2 ∨ o.st = 3 then d.setEpos p 0 (1 - k) {} else d
    let d := (d.set F.ENV_STATUS_TX_KP k p).setEntry 0xB0 (p * 32 + 20) []
    let d := { d with env := { d.env with latch := SMap.set 0 d.env.latch (p * 32 + 20) 0 } }
    d.raise E.ENV_SWITCH_DONE p

/-- MULTIFRAME_BOUNDARY (R259, R269-R271): of a running envelope, the instant at which a frame with FIDX 0 begins; of
an idle port, the present. -/
def doMultiframeBoundary (port : Nat) (d : Dev) : Dev :=
  let p := port % 32
  let e := d.ep p
  if !d.eMode p then d
  else if d.get F.ENV_STATUS_TX_STATE p = 1 then
    if e.efn % 256 = 0 ∧ d.now25 < e.start + 25 then d.envBoundary p else d
  else (d.envBoundary p).envRun p

/-- What falls on the boundary before a frame (R270, R271, R291): the switch, then the pre-trigger, then the limit; a
failed engine stops the port (R268). -/
def Dev.frameBoundary (d : Dev) (p : Nat) : Dev :=
  let d := if (d.ep p).efn % 256 = 0 then d.envBoundary p else d
  if d.on F.LFE_STATUS_TX_ENGINE_FAILED (p / 8) then d.txState p 3
  else match d.envActive p with
  | none => d.txState p 0
  | some k =>
    let x := d.epos p 0 k
    let d := if !x.pretrig && decide (x.limit * 65536 * 7 / 8 ≤ x.frames) then
        (d.setEpos p 0 k { x with pretrig := true }).raise E.ENV_PRETRIGGER p
      else d
    let x := d.epos p 0 k
    if x.limit * 65536 ≤ x.frames then ((d.setEpos p 0 k { x with st := 3 }).raise E.ENV_EXHAUSTED p).txState p 2 else d

/-! The payload and the frame (R258-R268, R280-R282). -/

/-- A fill block (R262). -/
def fillBlock : Bytes := [0xFF, 0xFF, 0x07, 0, 0, 0, 0, 0]

/-- The payload block, counted from this frame's block 0, that begins at or after `t` in units of 0.04 ns. -/
def Dev.payBlock (d : Dev) (p t : Nat) : Nat :=
  let bt := d.blockTime p
  (t - (d.ep p).start + bt - 1) / bt - 8

/-- An item goes into the payload area from block `b`, with fill before it (R261-R264). -/
def Dev.putItem (d : Dev) (p b : Nat) (bytes : Bytes) : Dev :=
  let e := d.ep p
  let n := b - e.pay.length / 8
  let d := d.setEp p { e with pay := e.pay ++ (List.replicate n fillBlock).flatten ++ pad8 bytes }
  (d.envCount p 14 n).envCount p 13

/-- A frame on the lanes of an F-mode port (R287, R353): the next may follow once it and the gap have passed, without a
break where it starts in the ns in which they end. -/
def Dev.lineSend (d : Dev) (p : Nat) (bytes : Bytes) : Dev :=
  let b := SMap.get 0 d.env.busy p
  let t := (if d.now16 < b + 65536 then b else d.now16) + byteTime (bytes.length + 20) (d.lRate p)
  let d := { d with env := { d.env with busy := SMap.set 0 d.env.busy p t } }
  (((d.emit (.line p bytes)).lCount p 8).lCount p 9 bytes.length).count 26 0x4B { lport := some p, bytes := bytes.length }

/-- May an F-mode port send now? -/
def Dev.lineIdle (d : Dev) (p : Nat) : Bool :=
  d.fMode p && d.on F.LPORT_CTRL_ENABLE p && d.on F.LPORT_STATUS_TX_ACTIVE p && !d.domHeld (p / 16) && decide (d.lRate p ≠ 0) &&
    decide (SMap.get 0 d.env.busy p ≤ d.now16)

/-- ITEM_EMIT (R157, R261-R264, R287): the item first in sealing order starts once its predecessor has left; a timed
record waits for TIMED_LAUNCH.  Its bytes are complete by then (log entry 8). -/
def doItemEmit (port : Nat) (d : Dev) : Dev :=
  let p := port % 32
  match d.backEnd p with
  | [] => d
  | it :: rest =>
    if !it.ready || it.launch.isSome then d
    else if d.lineIdle p then (d.setBackEnd p rest).lineSend p it.bytes
    else if d.eMode p && d.get F.ENV_STATUS_TX_STATE p = 1 then
      let b := max (d.payBlock p d.now25) ((d.ep p).pay.length / 8)
      if b < 2040 then (d.setBackEnd p rest).putItem p b it.bytes else d
    else d

/-- TIMED_LAUNCH (R250, R265, R287): the timed record first in sealing order starts at its launch time. -/
def doTimedLaunch (port : Nat) (d : Dev) : Dev :=
  let p := port % 32
  match d.backEnd p with
  | [] => d
  | it :: rest =>
    match it.launch with
    | none => d
    | some t =>
      if !it.ready then d
      else if (d.advance t).lineIdle p then ((d.advance t).setBackEnd p rest).lineSend p it.bytes
      else if d.eMode p && d.get F.ENV_STATUS_TX_STATE p = 1 then
        let d := d.advance t
        let e := d.ep p
        let bt := d.blockTime p
        let b := max (d.payBlock p (t * 25)) (e.pay.length / 8)
        if 2040 ≤ b then d
        else
          let first := decide (b = 0) && decide (e.start < t * 25 + bt)
          let n := if first then 8 - min 8 ((t * 25 - e.start + bt - 1) / bt) else 0
          let d := if n = 0 then d else d.setEp p { d.ep p with tld := n }
          let d := ((d.setBackEnd p rest).putItem p b it.bytes).envCount p 21
          if n = 0 then d else d.envCount p 22
      else d

/-- The RDI code sent (R282). -/
def Dev.rdiCode (d : Dev) (p : Nat) : Nat :=
  if !d.on F.ENV_CTRL_RDI_EN p then 0
  else match (List.range 6).find? (fun k => bit (d.get F.ENV_STATUS_DEFECTS p) k) with
    | some k => k + 1
    | none => 0

/-- The generators of an envelope engine that are at work: the spare idles until it replaces a pipeline (R268). -/
def Dev.engineGens (d : Dev) (n dir : Nat) : List Nat :=
  let out := match SMap.get 0 d.env.spare (n * 2 + dir) with
    | 0 => 13
    | k + 1 => k
  ((List.range 14).filter (· ≠ out)).map (fun i => 128 + n * 28 + dir * 14 + i)

/-- Mask blocks each pipeline of an envelope engine draws for a frame: four a cycle over 79 cycles. -/
def frameMasks : Nat := 316

/-- Can an engine draw for a whole frame and 4,096 blocks more (R166, R268)? -/
def Dev.engineMasks (d : Dev) (n dir : Nat) : Bool :=
  (d.engineGens n dir).all fun g =>
    let m := d.mgen g
    m.seeded && !m.stopped && decide (m.drawn + frameMasks + 4096 ≤ 2 ^ 24)

/-- An engine draws for a frame. -/
def Dev.engineDraw (d : Dev) (n dir : Nat) : Dev :=
  (d.engineGens n dir).foldl (fun d g => d.setMgen g { d.mgen g with drawn := (d.mgen g).drawn + frameMasks }) d

/-- The IV of an envelope frame (R266). -/
def envIv (salt : Bytes) (efn : Nat) : Nat := beNat salt ^^^ (efn % 2 ^ 64)

/-- Bytes 0-15 of a frame (R260). -/
def envHead (efn sbip kp : Nat) : Bytes :=
  beBytes 6 0x3CA596695AC3 ++ beBytes 1 efn ++ beBytes 1 sbip ++ beBytes 7 (efn / 256) ++ beBytes 1 (kp * 128 + 16)

/-- Bytes 32-63 of a frame before sealing (R260). -/
def envOver (fip pbip sbei rdi pbei tld domain member port : Nat) : Bytes :=
  beBytes 2 fip ++ beBytes 2 pbip ++ beBytes 1 (sbei * 16 + rdi) ++ beBytes 1 pbei ++ beBytes 1 tld ++ [0] ++
    beBytes 4 domain ++ beBytes 2 member ++ beBytes 1 port ++ zeros 17

/-- ENVELOPE_FRAME_TX (R257-R268, R280-R282): the frame whose period ends now is filled, sealed and sent.  What the first
frame of a count carries of a frame before it, and the tag after a ZEROIZE, are free values (log entry 2). -/
def doEnvelopeFrameTx (port : Nat) (d : Dev) : Dev :=
  let p := port % 32
  let n := p / 8
  match d.envActive p with
  | none => d
  | some k =>
    if !d.eMode p || d.get F.ENV_STATUS_TX_STATE p ≠ 1 || !d.on F.LPORT_STATUS_TX_ACTIVE p || !d.engineMasks n 0 then d
    else
      let e := d.ep p
      let d := d.advance ((e.start + 2048 * d.blockTime p + 24) / 25)
      let fills := 2040 - e.pay.length / 8
      let all := e.pay ++ (List.replicate fills fillBlock).flatten
      let pay := all.take 16320
      let rest := all.drop 16320
      let free := decide (e.stag = [])
      let sbip := if free && e.efn = 0x100 then d.freeVal % 256 else e.sbip
      let pbip := if free && e.efn = 0x100 then d.freeVal / 2 ^ 8 % 2 ^ 16 else e.pbip
      let stag := if free then beBytes 16 (d.freeVal / 2 ^ 24) else e.stag
      let d := if free then d.freeNext else d
      let bei := d.on F.ENV_CTRL_BEI_EN p
      let ovh := envOver (e.fip.getD 0) pbip (if bei then min 15 e.sErr else 0) (d.rdiCode p) (if bei then min 31 e.pErr else 0) e.tld
        d.fleet.domain d.fleet.member p
      let x := d.epos p 0 k
      let head := envHead e.efn sbip k
      let r := gcmSeal x.key (envIv x.salt e.efn) head (ovh ++ pay)
      let sent := head ++ stag ++ r.1
      let d := (d.emit (.line p sent)).engineDraw n 0
      let d := d.setEpos p 0 k { x with frames := x.frames + 1 }
      let e' := { d.ep p with efn := e.efn + 1, start := e.start + 2048 * d.blockTime p, pay := rest, fip := some (rest.length / 8), tld := 0,
                              sbip := xorAll sent, stag := if e.zeroTag then zeros 16 else r.2, pbip := xorWords pay, zeroTag := false,
                              sErr := 0, pErr := 0 }
      let d := (d.setEp p e').set F.ENV_STATUS_D_TXI 0 p
      (((d.envCount p 14 fills).envCount p 1).envCount p 20).frameBoundary p

/-! Reception (R275-R282). -/

/-- ALIGNMENT_SEARCH_BLOCK (R257, R275, R285): a received block outside SYNC; one that is not good data counts as zeros. -/
def doAlignmentSearchBlock (port : Nat) (block : Bytes) (good : Bool) (d : Dev) : Dev :=
  let p := port % 32
  let e := d.ep p
  if !d.eMode p || !d.on F.LPORT_CTRL_ENABLE p || d.get F.ENV_STATUS_ALIGN p = 2 || bit (d.get F.ENV_STATUS_DEFECTS p) 0 then d
  else
    let bs := if good then block else zeros 8
    let aw := decide (numAt bs 0 6 = 0x3CA596695AC3)
    let f := numAt bs 6 1
    let at_ := e.cand.filter (fun c => c.1 + 2048 = e.blk)
    let rest := e.cand.filter (fun c => c.1 + 2048 ≠ e.blk)
    let d := if e.blk % 2048 = 2047 then (d.setEp p { e with periods := e.periods + 1, badPeriods := e.badPeriods + 1 }).envCount p 10 else d
    if aw && at_.any (fun c => f = (c.2 + 1) % 256) then
      let d := d.setEp p { d.ep p with cand := [], badPos := 0, blk := 0, rxPrev := false, rxSbip := none }
      ((d.set F.ENV_STATUS_ALIGN 2 p).set F.ENV_RX_TRAIL_VALID 0 p).envRaw p 1 false
    else
      let cand := if aw && decide (rest.length < 4) then rest ++ [(e.blk, f)] else rest
      (d.setEp p { d.ep p with cand := cand, blk := e.blk + 1 }).set F.ENV_STATUS_ALIGN (if cand = [] then 0 else 1) p

/-- The check of the previous frame's seal (R267), and dSEAL (R283). -/
def Dev.sealCheck (d : Dev) (p : Nat) (ok clean : Bool) : Dev :=
  let e := d.ep p
  let live := d.defLive p
  let d := d.setEp p { e with seal16 := if live then ((!ok) :: e.seal16).take 16 else [], sealOk := if live && ok then e.sealOk + 1 else 0,
                              es := e.es || !ok }
  let d := if ok then d else d.envCount p 6
  let d := if !ok && clean then (d.envCount p 7).raise E.ENV_SEAL_CLEAN_FAIL p else d
  let e := d.ep p
  if !live then d
  else if 4 ≤ (e.seal16.filter id).length then d.defect p 4 true
  else if 256 ≤ e.sealOk then d.defect p 4 false
  else d

/-- Section errors of the previous frame (R280). -/
def Dev.sectionErr (d : Dev) (p n : Nat) : Dev :=
  if n = 0 then d
  else
    let e := d.ep p
    ((d.setEp p { e with sErr := e.sErr + n, es := true, badPeriods := e.badPeriods + b2n e.rxPrev }).envCount p 2 n).envCount p 3

/-- Path errors of the previous frame (R281). -/
def Dev.pathErr (d : Dev) (p n : Nat) : Dev :=
  if n = 0 then d
  else
    let e := d.ep p
    ((d.setEp p { e with pErr := e.pErr + n, es := true, degFrames := e.degFrames + 1 }).envCount p 4 n).envCount p 5

/-- The far-end fields and the trail of an accepted frame (R260, R282, R283). -/
def Dev.farEnd (d : Dev) (p : Nat) (ovh : Bytes) : Dev :=
  let sbei := numAt ovh 4 1 / 16
  let code := numAt ovh 4 1 % 16
  let rdi := if 7 ≤ code then 0 else code
  let pbei := numAt ovh 5 1 % 32
  let dom := numAt ovh 8 4
  let mem := numAt ovh 12 2 % 4096
  let prt := numAt ovh 14 1 % 32
  let d := (d.envCount p 15 sbei).envCount p 16 pbei
  let d := if rdi = 0 then d else d.envCount p 17
  let d := ((d.set F.ENV_FAR_END_RDI_CODE rdi p).set F.ENV_FAR_END_PBEI pbei p).set F.ENV_FAR_END_SBEI sbei p
  let ok := decide (dom = d.fleet.domain)
  let d := (((d.set F.ENV_RX_TRAIL_VALID 1 p).flag F.ENV_RX_TRAIL_DOMAIN_OK ok p).set F.ENV_RX_TRAIL_MEMBER mem p).set F.ENV_RX_TRAIL_PORT prt p
  if !d.defLive p then d
  else
    let bad := d.on F.ENV_CTRL_TIM_EN p && !(ok && mem = d.get F.ENV_TRAIL_EXP_MEMBER p && prt = d.get F.ENV_TRAIL_EXP_PORT p)
    let d := d.envRaw p 5 bad
    let e := d.ep p
    let d := d.setEp p { e with rdiSet := if rdi = 0 then 0 else e.rdiSet + 1, rdiClr := if rdi = 0 then e.rdiClr + 1 else 0 }
    if 3 ≤ (d.ep p).rdiSet then d.defect p 7 true else if 3 ≤ (d.ep p).rdiClr then d.defect p 7 false else d

/-- Bookkeeping of dLOM (R283): a frame fails the sequence check, passes it, or neither. -/
def Dev.lomTrack (d : Dev) (p : Nat) (failed accepted : Bool) : Dev :=
  if !d.defLive p then d
  else
    let e := d.ep p
    if failed then
      d.setEp p { e with lomFail := e.lomFail + 1, lomFailClk := if e.lomFail = 0 then d.tim.clk else e.lomFailClk, lomOk := 0, lomOkClk := d.tim.clk }
    else if accepted then d.setEp p { e with lomFail := 0, lomOk := e.lomOk + 1 }
    else d.setEp p { e with lomFail := 0, lomOk := 0 }

/-- A frame that is not accepted: delineation is lost (R277). -/
def Dev.frameRefused (d : Dev) (p sbip : Nat) : Dev :=
  let e := d.ep p
  d.setEp p { e with rxPrev := false, rxSbip := some sbip, badPeriods := e.badPeriods + 1, rxFault := none,
                     strm := if e.strm = [] then [] else e.strm ++ [{ brk := true }], delin := e.delin && decide (e.strm ≠ []) }

/-- An accepted frame (R266, R267, R276, R277, R280-R282). -/
def Dev.frameTaken (d : Dev) (p kp efn serr : Nat) (bytes : Bytes) (start : Nat) (bad : Bool) : Dev :=
  let e := d.ep p
  let x := d.epos p 1 kp
  let r := gcmOpen x.key (envIv x.salt efn) (bytes.take 16) (bytes.drop 32)
  let ovh := r.1.take 32
  let pay := r.1.drop 32
  let d := (d.engineDraw (p / 8) 1).setEpos p 1 kp { x with highest := max x.highest efn }
  let d := (d.set F.ENV_STATUS_RX_KP kp p).envCount p 0
  let d := if e.rxPrev then
      (d.sealCheck p (decide (e.rxTag = slice bytes 16 16)) (decide (serr = 0) && !e.rxBad)).pathErr p (popCount (e.rxPbip ^^^ numAt ovh 2 2))
    else d
  let d := (d.lomTrack p false true).farEnd p ovh
  let d := if d.defLive p then d.envRaw p 3 false else d
  let fip := numAt ovh 0 2
  let tld := numAt ovh 6 1 % 16
  let chunk : RxChunk :=
    match e.rxFault with
    | none => if 2040 ≤ fip then { brk := true, err := true } else { bytes := pay, fip := fip, start := start, tld := tld }
    | some b => if 2040 ≤ fip then { brk := true, err := true } else { bytes := pay.take ((b - 8) * 8), fip := fip, start := start, tld := tld }
  let e := d.ep p
  d.setEp p { e with rxPrev := true, rxEfn := efn, rxTag := if e.rxFault.isSome then [] else r.2, rxSbip := some (xorAll bytes),
                     rxPbip := xorWords pay, rxBad := bad, rxFault := none,
                     strm := e.strm ++ [chunk] ++ (if e.rxFault.isSome then [{ brk := true }] else []) }

/-- ENVELOPE_FRAME_RX (R257, R275-R277, R280-R283): the 16,384 bytes received in SYNC at the expected position, the first
of them at clock `at_`; `bad` says that the PCS reported an uncorrectable codeword in them. -/
def doEnvelopeFrameRx (port : Nat) (bytes : Bytes) (at_ : Nat) (bad : Bool) (d : Dev) : Dev :=
  let p := port % 32
  if !d.eMode p || !d.on F.LPORT_CTRL_ENABLE p || d.get F.ENV_STATUS_ALIGN p ≠ 2 then d
  else
    let d := d.advance at_
    let e := d.ep p
    let wrong := popCount (numAt bytes 0 6 ^^^ 0x3CA596695AC3)
    let serr := match e.rxSbip with
      | some v => popCount (v ^^^ numAt bytes 7 1)
      | none => 0
    let d := (d.setEp p { e with periods := e.periods + 1, badPos := if 4 ≤ wrong then e.badPos + 1 else 0 }).sectionErr p serr
    if 4 ≤ wrong then
      let d := (d.frameRefused p (xorAll bytes)).lomTrack p false false
      if 4 ≤ (d.ep p).badPos then (d.envSearch p).envRaw p 1 true else d
    else
      let ohc := numAt bytes 15 1
      let kp := ohc / 128
      let efn := numAt bytes 8 7 * 256 + numAt bytes 6 1
      let x := d.epos p 1 kp
      let seq := if e.rxPrev then decide (efn = e.rxEfn + 1) else decide (x.highest < efn)
      let form := decide (ohc % 128 = 16) && !d.on F.LFE_STATUS_RX_ENGINE_FAILED (p / 8) && d.engineMasks (p / 8) 1
      if form && decide (x.st = 1) && seq then d.frameTaken p kp efn serr bytes (at_ * 25) bad
      else
        let d := if form && decide (x.st = 1) && !seq then d.envCount p 8 else d
        let d := if form && decide (x.st ≠ 1) && seq then d.envCount p 9 else d
        let d := d.lomTrack p (!seq) false
        let d := if d.defLive p then d.envRaw p 3 (decide (x.st ≠ 1)) else d
        d.frameRefused p (xorAll bytes)

/-! Delivering records (R277-R279). -/

/-- A discard of a line front end, with its counter (R293). -/
def Dev.lfeDiscard (d : Dev) (p : Nat) (r : Reg) (len : Nat) : Dev :=
  (d.bump r (p / 8) (p % 8)).count (4 + p / 8) 0x09 { lport := some p, bytes := len }

/-- A format error (R278). -/
def Dev.formatErr (d : Dev) (p len : Nat) : Dev :=
  ((d.lfeDiscard p R.LFE_CNT_FORMAT_ERR len).envCount p 11).raise E.LFE_FORMAT_ERR (p / 8)

/-- The slice and entry a KSI names, after redirection (R6, R19, R279, R317): none where the record is discarded. -/
def Dev.ksiTarget (d : Dev) (p ksi len : Nat) : Dev × Option (Nat × Nat) :=
  let s := ksi / 8192
  let e := ksi % 8192
  if s / 4 ≠ p / 16 then ((d.lfeDiscard p R.LFE_CNT_HALF_MISMATCH len).raise E.LFE_HALF_MISMATCH (p / 8), none)
  else
    let w := d.num R.MRG_RX_REDIRECT
    if bit w (24 + s) then (d.bump R.MRG_CNT_REDIRECTED, some (s / 4 * 4 + nbits w (2 * s + 1) (2 * s), e ^^^ 0x1000))
    else (d, some (s, e))

/-- The checks of R278 on a segment header; the last two hold the lengths together. -/
def segmentOk (h : Bytes) : Bool :=
  let rctl := numAt h 2 1
  let seg := numAt h 3 1
  let len := numAt h 4 2
  let text := numAt h 6 2
  let first := bit rctl 5
  let last := bit rctl 4
  let ab := bit rctl 3
  decide (rctl % 8 = 0) && decide (seg < 64) &&
  ((decide (1 ≤ len) && decide (len ≤ 16004) && decide (len ≤ text)) || (decide (len = 0) && last && ab)) &&
  decide (68 ≤ text) && decide (text ≤ 16004) &&
  (!(first && last) || (if ab then decide (len ≤ text) else decide (len = text))) &&
  (last || (decide (len % 16 = 0) && !ab))

/-- The first `n` bytes of the stream, fewer where it ends or delineation is lost before them. -/
def streamTake : List RxChunk → Nat → Bytes
  | [], _ => []
  | c :: cs, n =>
    let h := c.bytes.take n
    if c.brk then [] else if h.length < n then h ++ streamTake cs (n - h.length) else h

/-- Take `n` bytes off a stream. -/
def streamDrop : List RxChunk → Nat → List RxChunk
  | [], _ => []
  | c :: cs, n =>
    let h := c.bytes.take n
    if h.length < n then streamDrop cs (n - h.length)
    else { c with bytes := c.bytes.drop n, off := c.off + n / 8 } :: cs

/-- What delineation finds next in a port's stream: a segment with the chunk its header starts in, or nothing yet. -/
inductive Found
  | none
  | segment (c : RxChunk) (bytes : Bytes)
  deriving DecidableEq, Repr

/-- The stamp of a segment in clock cycles (R279): its header's block, less the TLD adjustment at payload block 0. -/
def Dev.stampOf (d : Dev) (p : Nat) (c : RxChunk) : Nat :=
  (c.start + (8 + c.off) * d.blockTime p - (if c.off = 0 then c.tld * d.blockTime p else 0)) / 25

/-- Delineation (R261-R263, R277, R278): losses, fill and format errors are worked off until a whole segment is found;
`fuel` bounds the items looked at. -/
def Dev.delineate : Nat → Dev → Nat → Dev × Found
  | 0, d, _ => (d, .none)
  | fuel + 1, d, p =>
    let e := d.ep p
    match e.strm with
    | [] => (d, .none)
    | c :: cs =>
      let skip (d : Dev) : Dev := d.setEp p { d.ep p with strm := cs, delin := false }
      if c.brk then (if c.err then (skip d).formatErr p 0 else skip d).delineate fuel p
      else if !e.delin then
        (((d.setEp p { e with strm := { c with bytes := c.bytes.drop (c.fip * 8), off := c.fip } :: cs, delin := true })).dropPort p).delineate fuel p
      else if c.bytes = [] then
        if cs = [] then (d, .none) else (d.setEp p { e with strm := cs }).delineate fuel p
      else
        let bs := streamTake e.strm 16
        let lost := e.strm.any (·.brk)
        let drop (d : Dev) : Dev := d.setEp p { d.ep p with strm := e.strm.dropWhile (fun c => !c.brk), delin := false }
        if bs.take 8 = fillBlock then (d.setEp p { e with strm := streamDrop e.strm 8 }).delineate fuel p
        else if numAt bs 2 1 % 8 ≠ 0 then ((skip d).formatErr p 8).delineate fuel p
        else if bs.length < 16 then (if lost then (drop d).delineate fuel p else (d, .none))
        else if !segmentOk bs then ((skip d).formatErr p (numAt bs 4 2)).delineate fuel p
        else
          let n := (16 + numAt bs 4 2 + (if bit (numAt bs 2 1) 4 then 16 else 0) + 7) / 8 * 8
          let whole := streamTake e.strm n
          if whole.length < n then (if lost then (drop d).delineate fuel p else (d, .none))
          else (d, .segment c whole)

/-- Items a port's stream can hold. -/
def streamFuel (e : EnvPort) : Nat := (e.strm.map (fun c => c.bytes.length / 8 + 3)).foldl (· + ·) 1

/-- Count a wait for masks once (R166). -/
def Dev.segHeld (d : Dev) (p s : Nat) : Dev :=
  let e := d.ep p
  if e.segWait then d else (d.setEp p { e with segWait := true }).bump R.CIP_CNT_MASK_WAIT s

/-- A segment or frame has been dispatched (R285, R568). -/
def Dev.dispatched (d : Dev) (p entry len : Nat) (count : Bool) : Dev :=
  let d := d.setEp p { d.ep p with segWait := false }
  let d := d.count (4 + p / 8) 0x08 { rxe := some entry, lport := some p, bytes := len }
  if count then d.envCount p 12 else d

/-- The segment of a port's stream goes to its slice (R279). -/
def Dev.sendSegment (d : Dev) (p : Nat) (c : RxChunk) (bs : Bytes) : Dev :=
  let ksi := numAt bs 0 2
  let rctl := numAt bs 2 1
  let len := numAt bs 4 2
  let take (d : Dev) : Dev := let e := d.ep p; d.setEp p { e with strm := streamDrop e.strm bs.length, segWait := false }
  let r := d.ksiTarget p ksi bs.length
  match r.2 with
  | none => take r.1
  | some (s, entry) =>
    let w := d.get F.ENV_STATUS_DEFECTS p
    if !d.on F.LFE_CTRL_ENABLE (p / 8) || (bit w 4 && d.on F.ENV_CTRL_SEAL_DISCARD p) || (bit w 5 && d.on F.ENV_CTRL_TIM_EN p) then
      take (r.1.lfeDiscard p R.LFE_CNT_DEFECT_DISCARD bs.length)
    else
      let clk := d.stampOf p c
      let g : Seg :=
        { ksi := ksi, entry := entry, an := rctl / 64, first := bit rctl 5, last := bit rctl 4, abort := bit rctl 3, seg := numAt bs 3 1,
          textlen := numAt bs 6 2, pn := numAt bs 8 8, ct := slice bs 16 len, tag := if bit rctl 4 then slice bs (16 + len) 16 else [],
          port := p, clk := clk, net := d.netAt clk }
      let o := r.1.openSegment s g
      if o.2 then d.segHeld p s else (take o.1).dispatched p entry bs.length true

/-! Frame mode (R287-R289). -/

/-- The receive channel entry of a port for a SecTAG (R289): with SC by SCI, without by PORT_DEFAULT; an entry with an
uncorrectable error acts as invalid (R292). -/
def Dev.rxChannel (d : Dev) (p : Nat) (sc : Bool) (sci : Nat) : Option Nat :=
  let sel := 0xB4 + p / 8
  ((d.entries sel).map (·.1)).find? (fun i =>
    d.tf sel i 0 31 31 = 1 && d.tf sel i 0 28 24 = p && !d.env.bad.contains (p / 8, i) &&
      (if sc then d.tw sel i 1 * 2 ^ 32 + d.tw sel i 2 = sci else d.tf sel i 0 29 29 = 1))

/-- The KSI of an entry for an AN (R289, R292). -/
def Dev.channelKsi (d : Dev) (p i an : Nat) : Option Nat :=
  let sel := 0xB4 + p / 8
  if d.tf sel i 0 (20 + an) (20 + an) = 1 then
    some (match an with
      | 0 => d.tf sel i 3 15 0
      | 1 => d.tf sel i 3 31 16
      | 2 => d.tf sel i 4 15 0
      | _ => d.tf sel i 4 31 16)
  else none

/-- A secured frame without its FCS is looked up and dispatched (R143, R288, R289): true where it must wait for masks. -/
def Dev.securedFrame (d : Dev) (p : Nat) (data : Bytes) (clk : Nat) : Dev × Bool :=
  let tci := numAt data 14 1
  let sc := bit tci 5
  let hd := if sc then 16 else 8
  let i := d.rxChannel p sc (numAt data 20 8)
  let ksi := match i with
    | some i => d.channelKsi p i (tci % 4)
    | none => none
  let fmt (d : Dev) : Dev := (d.lfeDiscard p R.LFE_CNT_FORMAT_ERR data.length).raise E.LFE_FORMAT_ERR (p / 8)
  if bit tci 7 || bit tci 6 || bit tci 4 || !bit tci 3 || !bit tci 2 then
    (match ksi with
     | some k => if k / 8192 / 4 = p / 16 then d.bump R.CIP_CNT_UNSUPPORTED (k / 8192) else fmt d
     | none => fmt d, false)
  else
    let n := data.length - 12 - hd - 16
    let peer := match i with
      | some i => d.tf (0xB4 + p / 8) i 0 30 30 = 1
      | none => false
    if data.length < 12 + hd + 16 || n < 48 || (peer && n < 56) || numAt data 15 1 ≠ 0 then (fmt d, false)
    else match ksi with
    | none => ((d.lfeDiscard p R.LFE_CNT_UNKNOWN_KSI data.length).raise E.LFE_UNKNOWN_KSI (p / 8), false)
    | some k =>
      let r := d.ksiTarget p k data.length
      match r.2 with
      | none => (r.1, false)
      | some (s, entry) =>
        if !d.on F.LFE_CTRL_ENABLE (p / 8) then (r.1.lfeDiscard p R.LFE_CNT_DEFECT_DISCARD data.length, false)
        else
          let g : Seg :=
            { ksi := k, entry := entry, an := tci % 4, textlen := n, pn := numAt data 16 4, ct := slice data (12 + hd) n,
              tag := data.drop (12 + hd + n), port := p, clk := clk, net := d.netAt clk, emode := false, shim := peer,
              aad := data.take (12 + hd), addrs := data.take 12 }
          let o := r.1.openSegment s g
          if o.2 then (d.segHeld p s, true) else (o.1.dispatched p entry data.length false, false)

/-- SEGMENT_DISPATCH (R261-R263, R277-R279): the next segment of a port's stream; on an F-mode port, a frame held back
for masks. -/
def doSegmentDispatch (port : Nat) (d : Dev) : Dev :=
  let p := port % 32
  if d.domHeld (p / 16) || d.lRate p = 0 then d
  else if d.fMode p then
    match (d.ep p).pend with
    | [] => d
    | x :: rest =>
      let o := d.securedFrame p x.1 x.2
      if o.2 then o.1 else o.1.setEp p { o.1.ep p with pend := rest }
  else
    let o := Dev.delineate (streamFuel (d.ep p)) d p
    match o.2 with
    | .none => o.1
    | .segment c bs => o.1.sendSegment p c bs

/-- FMODE_FRAME_RX (R30, R143, R288, R289, R294, R354, R363): a whole frame, its FCS included, its start-of-frame
delimiter passed at clock `at_`. -/
def doFmodeFrameRx (port : Nat) (frame : Bytes) (at_ : Nat) (d : Dev) : Dev :=
  let p := port % 32
  let d := d.advance at_
  let len := frame.length
  if !d.fMode p || d.lRate p = 0 || !d.on F.LPORT_CTRL_ENABLE p || !d.on F.LPORT_STATUS_LINK_UP p || d.domHeld (p / 16) then d
  else if len < 64 then d.lCount p 3
  else if 16040 < len then d.lCount p 4
  else
    let data := frame.take (len - 4)
    if frame.drop (len - 4) ≠ fcsBytes data then d.lCount p 2
    else
      let d := ((d.lCount p 0).lCount p 1 len).count 26 0x4A { lport := some p, bytes := len }
      let et := numAt data 12 2
      if et = 0x888E ∧ numAt data 0 6 = 0x0180C2000003 then
        d.exception ⟨0x81, 4 + p / 8, p, d.netAt at_, 0, 0, data, 0⟩ data.length
      else if et = 0x88E5 then
        if (d.ep p).pend ≠ [] then d.setEp p { d.ep p with pend := (d.ep p).pend ++ [(data, at_)] }
        else
          let o := d.securedFrame p data at_
          if o.2 then o.1.setEp p { o.1.ep p with pend := [(data, at_)] } else o.1
      else (d.lfeDiscard p R.LFE_CNT_FORMAT_ERR data.length).raise E.LFE_FORMAT_ERR (p / 8)

/-- An error of a receive channel entry (R292). -/
def Dev.channelEcc (d : Dev) (n i : Nat) (uncorr : Bool) : Dev :=
  if !uncorr then d.raise E.LFE_ECC_CORR n
  else
    let d := { d with env := { d.env with bad := (n, i) :: d.env.bad.filter (· ≠ (n, i)) } }
    ((d.set F.LFE_ECC_STATUS_VALID 1 n).set F.LFE_ECC_STATUS_INDEX i n).raise E.LFE_ECC_UNCORR n

/-! Engine faults (R268). -/

/-- ENGINE_FAULT (R268, R277, R291): a fault in pipeline `pipe` of an envelope engine, in a frame of line port `port`; for
the receive engine, at block `block` of the frame now arriving. -/
def doEngineFault (port dir pipe block : Nat) (d : Dev) : Dev :=
  let p := port % 32
  let n := p / 8
  let dr := dir % 2
  let failed := if dr = 0 then d.on F.LFE_STATUS_TX_ENGINE_FAILED n else d.on F.LFE_STATUS_RX_ENGINE_FAILED n
  if !d.eMode p || failed then d
  else
    let d := (d.envCount p 23).raise E.LFE_ENGINE_FAULT n
    let d := if dr = 0 then d.setEp p { d.ep p with zeroTag := true } else d.setEp p { d.ep p with rxFault := some (max 8 (min 2047 block)) }
    if SMap.get 0 d.env.spare (n * 2 + dr) = 0 then
      let d := { d with env := { d.env with spare := SMap.set 0 d.env.spare (n * 2 + dr) (pipe % 14 + 1) } }
      d.set F.LFE_STATUS_SPARE_IN_USE 1 n
    else if dr = 0 then
      let d := (d.set F.LFE_STATUS_TX_ENGINE_FAILED 1 n).raise E.LFE_ENGINE_FAILED n
      (List.range 8).foldl (fun d j =>
        let q := n * 8 + j
        if d.eMode q && d.on F.LPORT_CTRL_ENABLE q && d.get F.ENV_STATUS_TX_STATE q ≠ 1 then d.txState q 3 else d) d
    else (d.set F.LFE_STATUS_RX_ENGINE_FAILED 1 n).raise E.LFE_ENGINE_FAILED n

/-! Envelope keys (R269-R273). -/

/-- ENV_KEY_STATUS. -/
def Dev.envStatus (d : Dev) (p st ab op reason ticket : Nat) : Dev :=
  ((((d.set F.ENV_KEY_STATUS_STATE st p).set F.ENV_KEY_STATUS_ABORT_RESULT ab p).set F.ENV_KEY_STATUS_OP op p).set
    F.ENV_KEY_STATUS_REASON reason p).set F.ENV_KEY_STATUS_TICKET ticket p

/-- A key command ends: the key staging clears (R273). -/
def Dev.envEnd (d : Dev) (p op reason ticket ab : Nat) : Dev :=
  let e := d.ep p
  let d := d.setEp p { e with cmd := none, words := [], done := if reason = 0 then some ticket else e.done }
  let d := d.envStatus p (if reason = 0 then 2 else 3) ab op reason ticket
  if reason = 0 then d.raise E.ENV_KEY_CMD_DONE p else d.raise E.ENV_KEY_CMD_ABORTED p

/-- Why a key command is not accepted, by the reason codes of R295, 0 where it is (R273). -/
def Dev.envRefuse (d : Dev) (p op dir k words limit : Nat) : Nat :=
  match op with
  | 1 =>
    if d.fMode p then 6
    else if (d.epos p 0 k).st ≠ 0 ∨ (d.epos p 0 (1 - k)).st = 1 then 3
    else if words < 11 then 4
    else if limit = 0 then 5
    else 0
  | 2 =>
    if d.fMode p then 6
    else if (d.epos p 1 k).st ≠ 0 then 3
    else if words < 11 then 4
    else 0
  | 3 => if (d.epos p 0 0).st = 1 ∨ (d.epos p 0 1).st = 1 then 0 else 3
  | _ => if dir < 2 then 0 else 3

/-- The LOADED transmit position. -/
def Dev.envLoaded (d : Dev) (p : Nat) : Option Nat := [0, 1].find? (fun k => (d.epos p 0 k).st = 1)

/-- A key command is written (R273): from another master it is a violation; while one runs it is refused without a
trace; else it takes a ticket and is accepted, or ends ABORTED at once. -/
def Dev.envCommand (d : Dev) (p op dir k group : Nat) (m : Master) : Dev :=
  if !d.isActive m then d.violate m (R.ENV_KEY_CMD.addr p 0) true
  else
    let e := d.ep p
    if e.cmd.isSome || d.lRate p = 0 then d
    else
      let t := (e.ticket + 1) % 2 ^ 16
      let d := d.setEp p { e with ticket := t }
      let r := d.envRefuse p op dir k e.words.length (d.num R.ENV_KEY_LIMIT p)
      if r = 0 then
        let d := (d.setEp p { d.ep p with cmd := some ⟨op, dir, k, group % 1024, t⟩ }).envStatus p 1 0 op 0 t
        match op, d.envLoaded p with
        | 3, some x => d.setEpos p 0 x { d.epos p 0 x with due := true }
        | _, _ => d
      else d.envEnd p op r t 0

/-- ENV_INSTALL_TX (R273). -/
def doEnvInstallTx (port pos group : Nat) (m : Master) (d : Dev) : Dev := d.envCommand (port % 32) 1 0 (pos % 2) group m
/-- ENV_INSTALL_RX (R273). -/
def doEnvInstallRx (port pos : Nat) (m : Master) (d : Dev) : Dev := d.envCommand (port % 32) 2 1 (pos % 2) 0 m
/-- ENV_SWITCH_NOW_TX (R273). -/
def doEnvSwitchNowTx (port : Nat) (m : Master) (d : Dev) : Dev := d.envCommand (port % 32) 3 0 0 0 m
/-- ENV_ZEROIZE (R273). -/
def doEnvZeroize (port dir pos : Nat) (m : Master) (d : Dev) : Dev := d.envCommand (port % 32) 4 (dir % 2) (pos % 2) 0 m
/-- ENV_ZEROIZE_ALL (R273). -/
def doEnvZeroizeAll (port : Nat) (m : Master) (d : Dev) : Dev := d.envCommand (port % 32) 5 0 0 0 m

/-- A transmit position becomes EMPTY: the frame being sealed under it is completed and sent first, and no later frame
carries its tag (R269, R291). -/
def Dev.envTxErase (d : Dev) (p k : Nat) : Dev :=
  let live := decide ((d.epos p 0 k).st = 2) && d.get F.ENV_STATUS_TX_STATE p = 1
  let d := if live then doEnvelopeFrameTx p d else d
  let d := d.setEpos p 0 k {}
  if live then (d.setEp p { d.ep p with stag := [] }).txState p 0 else d

/-- Every key position of a port is erased at once (R256, R273). -/
def Dev.envErase (d : Dev) (p : Nat) : Dev :=
  let d := [0, 1].foldl (fun d dir => [0, 1].foldl (fun d k => d.setEpos p dir k {}) d) d
  let d := d.setEp p { d.ep p with stag := [] }
  if d.get F.ENV_STATUS_TX_STATE p = 1 ∨ d.get F.ENV_STATUS_TX_STATE p = 2 then d.txState p 0 else d

/-- A tamper response of class 2 or 3 or a hold erases the keys of a port and ends its command (R120, R273). -/
def Dev.envTamper (d : Dev) (p : Nat) : Dev :=
  let d := d.envErase p
  match (d.ep p).cmd with
  | some c => d.envEnd p c.op 8 c.ticket 0
  | none => d

/-- ENV_KEY_CMD_COMPLETE (R269, R271, R273): the accepted command takes effect; a switch ends DONE once the position is
ACTIVE. -/
def doEnvKeyCmdComplete (port : Nat) (d : Dev) : Dev :=
  let p := port % 32
  match (d.ep p).cmd with
  | none => d
  | some c =>
    let ws := (d.ep p).words
    match c.op with
    | 1 =>
      let o := (d.epos p 0 (1 - c.pos)).st
      let live := decide (o = 2 ∨ o = 3)
      let d := d.setEpos p 0 c.pos { st := 1, due := !live, key := stagedKey ws, salt := stagedSalt ws, group := c.group,
                                     limit := d.num R.ENV_KEY_LIMIT p }
      d.envEnd p 1 0 c.ticket 0
    | 2 => (d.setEpos p 1 c.pos { st := 1, key := stagedKey ws, salt := stagedSalt ws }).envEnd p 2 0 c.ticket 0
    | 3 => if (d.epos p 0 0).due || (d.epos p 0 1).due then d else d.envEnd p 3 0 c.ticket 0
    | 4 => (if c.dir = 0 then d.envTxErase p c.pos else d.setEpos p 1 c.pos {}).envEnd p 4 0 c.ticket 0
    | _ => ((((d.envTxErase p 0).envTxErase p 1).setEpos p 1 0 {}).setEpos p 1 1 {}).envEnd p 5 0 c.ticket 0

/-- ENV_KEY_ABORT (R273, R481): the abort of a command by its ticket. -/
def doEnvKeyAbort (port ticket : Nat) (m : Master) (d : Dev) : Dev :=
  let p := port % 32
  if !d.isActive m then d.violate m (R.ENV_KEY_CMD.addr p 0) true
  else if d.lRate p = 0 then d
  else
    let d := d.abortReq E.ENV_KEY_CMD_ABORTED p
    let t := ticket % 2 ^ 16
    let late := d.set F.ENV_KEY_STATUS_ABORT_RESULT (if (d.ep p).done = some t then 2 else 3) p
    match (d.ep p).cmd with
    | some c =>
      if c.ticket = t then
        let d := if c.op = 3 then [0, 1].foldl (fun d k => d.setEpos p 0 k { d.epos p 0 k with due := false }) d else d
        d.envEnd p c.op 7 t 1
      else late
    | none => late

/-- ENV_KEY_STAGE (R295): the next key or salt word; a twelfth write is ignored. -/
def doEnvKeyStage (port word : Nat) (m : Master) (d : Dev) : Dev :=
  let p := port % 32
  if !d.mayWrite m then d.violate m (R.ENV_KEY_STAGE.addr p 0) true
  else
    let e := d.ep p
    if e.words.length < 11 then d.setEp p { e with words := e.words ++ [word % 2 ^ 32] } else d

/-- KEY_SWITCH of a group, on the envelope positions (R270): positions switched, and positions that recorded
SWITCH_MISSED. -/
def Dev.envKeySwitch (d : Dev) (g : Nat) : Dev × Nat × Nat :=
  (List.range 32).foldl (fun (d, n, miss) p =>
    if !d.eMode p then (d, n, miss)
    else match d.envLoaded p with
    | some k =>
      if (d.epos p 0 k).group = g then (d.setEpos p 0 k { d.epos p 0 k with due := true }, n + 1, miss) else (d, n, miss)
    | none =>
      if [0, 1].any (fun k => ((d.epos p 0 k).st = 2 || (d.epos p 0 k).st = 3) && (d.epos p 0 k).group = g) then
        (d.raise E.ENV_SWITCH_MISSED p, n, miss + 1)
      else (d, n, miss)) (d, 0, 0)

/-! Seconds (R283, R285, R286). -/

/-- The value of a raw counter. -/
def Dev.envRawValue (d : Dev) (i : Nat) : Nat := d.tf 0xB0 i 0 15 0 * 2 ^ 32 + d.tw 0xB0 i 1

/-- The end of a Thyme second on a line port: dDEG, ES and SES, and the latch of every counter's rise. -/
def Dev.envSecond (d : Dev) (p net : Nat) : Dev :=
  if d.lRate p = 0 then d
  else
    let w := d.get F.ENV_STATUS_DEFECTS p
    let e := d.ep p
    let m := d.get F.ENV_CTRL_DEG_M p
    let deg := decide (d.get F.ENV_CTRL_DEG_FRAMES p * 16 ≤ e.degFrames)
    let es := e.es || decide (w % 128 ≠ 0) || d.on F.ENV_STATUS_D_TXI p
    let ses := e.ses || decide (w % 64 ≠ 0) || (decide (0 < e.periods) && decide (15 * e.periods ≤ 100 * e.badPeriods))
    let live := d.defLive p && decide (m ≠ 0)
    let d := d.setEp p { e with degFrames := 0, degSec := if live && deg then e.degSec + 1 else 0,
                                degClr := if live && !deg then e.degClr + 1 else 0, es := false, ses := false, periods := 0, badPeriods := 0 }
    let d := if m = 0 then d.defect p 6 false
      else if !d.defLive p then d
      else if m ≤ (d.ep p).degSec then d.defect p 6 true
      else if m ≤ (d.ep p).degClr then d.defect p 6 false
      else d
    let d := if es then d.envCount p 18 else d
    let d := if ses then d.envCount p 19 else d
    (List.range 24).foldl (fun d k =>
      let i := p * 32 + k
      let v := d.envRawValue i
      let r := (v + 2 ^ 48 - SMap.get 0 d.env.latch i) % 2 ^ 48
      let d := d.setEntry 0xB1 i [r / 2 ^ 32, r % 2 ^ 32, net / 2 ^ 32, net % 2 ^ 32]
      { d with env := { d.env with latch := SMap.set 0 d.env.latch i v } }) d

end Sys2Proof.Machine
end

