-- ==== Sys2Proof/Machine/Port.lean ====
section
/-! DEFINITION. Lanes and ports: forming, bring-up, link state, FEC windows, preemption verification and test
patterns (R343-R365). -/

namespace Sys2Proof.Machine

/-! The two sides share one layout (R365). -/

/-- A field of a port of the client or the line side. -/
def sideF (line : Bool) (c l : Fld) : Fld := if line then l else c

/-- The address of CPORT_CTRL or LPORT_CTRL of a port. -/
def pfCtrl (line : Bool) (p : Nat) : Nat := if line then R.LPORT_CTRL.addr p 0 else R.CPORT_CTRL.addr p 0

def pfEnable (line : Bool) : Fld := sideF line F.CPORT_CTRL_ENABLE F.LPORT_CTRL_ENABLE
def pfRate (line : Bool) : Fld := sideF line F.CPORT_CTRL_LANE_RATE F.LPORT_CTRL_LANE_RATE
def pfWidth (line : Bool) : Fld := sideF line F.CPORT_CTRL_WIDTH F.LPORT_CTRL_WIDTH
def pfLink (line : Bool) : Fld := sideF line F.CPORT_STATUS_LINK_UP F.LPORT_STATUS_LINK_UP
def pfAligned (line : Bool) : Fld := sideF line F.CPORT_STATUS_PCS_ALIGNED F.LPORT_STATUS_PCS_ALIGNED
def pfHiSer (line : Bool) : Fld := sideF line F.CPORT_STATUS_HI_SER F.LPORT_STATUS_HI_SER
def pfFec (line : Bool) : Fld := sideF line F.CPORT_STATUS_FEC_LOCK F.LPORT_STATUS_FEC_LOCK
def pfAm (line : Bool) : Fld := sideF line F.CPORT_STATUS_AM_LOCK F.LPORT_STATUS_AM_LOCK
def pfFormed (line : Bool) : Fld := sideF line F.CPORT_STATUS_FORMED F.LPORT_STATUS_FORMED
def pfTx (line : Bool) : Fld := sideF line F.CPORT_STATUS_TX_ACTIVE F.LPORT_STATUS_TX_ACTIVE
def pfSkew (line : Bool) : Fld := sideF line F.CPORT_STATUS_RX_SKEW F.LPORT_STATUS_RX_SKEW
def pfShown (line : Bool) : Fld := sideF line F.CPORT_STATUS_RATE F.LPORT_STATUS_RATE

/-- An event of a port of either side. -/
def sideE (line : Bool) (c l : Ev) : Ev := if line then l else c

/-- The rate of a port in Gbit/s. -/
def Dev.pRate (d : Dev) (line : Bool) (p : Nat) : Nat := if line then d.lRate p else d.cRate p

/-- A raw counter of a port (R363). -/
def Dev.pCount (d : Dev) (line : Bool) (p k : Nat) (n : Nat := 1) : Dev := if line then d.lCount p k n else d.cCount p k n

/-- The lanes of a formed port, as the LANE block numbers them (R364). -/
def Dev.lanesOf (d : Dev) (line : Bool) (p : Nat) : List Nat :=
  (List.range (d.get (pfWidth line) p)).map (fun i => (if line then 32 else 0) + p + i)

/-- The port a lane belongs to. -/
def Dev.portOfLane (d : Dev) (lane : Nat) : Option (Bool × Nat) :=
  let line := decide (32 ≤ lane)
  ((List.range 32).find? (fun p => (d.lanesOf line p).contains lane)).map (fun p => (line, p))

/-- Is the lane's half running? -/
def Dev.laneUp (d : Dev) (lane : Nat) : Bool := !d.domHeld (lane % 32 / 16)

/-! Forming (R343-R345). -/

/-- The combinations of R343: lane rate code and width. -/
def shapeOk (line : Bool) (rate width : Nat) : Bool :=
  match rate with
  | 3 => [1, 2, 4, 8].contains width
  | 2 => !line && [2, 4, 8].contains width
  | 1 => !line && [4, 8].contains width
  | _ => false

/-- May port `p` be formed so (R343, R344)? -/
def Dev.formOk (d : Dev) (line : Bool) (p rate width : Nat) : Bool :=
  if width = 0 then !line || rate = 3
  else
    shapeOk line rate width && decide (p % width = 0) &&
    (List.range 32).all fun q =>
      let w := d.get (pfWidth line) q
      q = p || w = 0 ||
        ((decide (q + w ≤ p) || decide (p + width ≤ q)) &&
          (d.get (pfRate line) q = rate || decide ((q + w - 1) / 4 < p / 4) || decide ((p + width - 1) / 4 < q / 4)))

/-- The code of a port's rate (R365). -/
def rateCode : Nat → Nat
  | 200 => 1
  | 400 => 2
  | 800 => 3
  | 1600 => 4
  | _ => 0

/-- The lanes of a port show their rate (R364). -/
def Dev.laneRates (d : Dev) (lanes : List Nat) (rate : Nat) : Dev := lanes.foldl (fun d l => d.set F.LANE_STATUS_RATE rate l) d

/-- PORT_FORM (R343-R345, R365): a write of LANE_RATE and WIDTH. -/
def doPortForm (line : Bool) (port rate width : Nat) (d : Dev) : Dev :=
  let p := port % 32
  let old := d.get (pfRate line) p
  let rate := if rate % 4 = 0 then old else rate % 4
  let width := width % 16
  if rate = old ∧ width = d.get (pfWidth line) p then d
  else if d.on (pfEnable line) p || !d.formOk line p rate width then d.raise (sideE line E.CPORT_CFG_REJECT E.LPORT_CFG_REJECT) p
  else
    let d := d.laneRates (d.lanesOf line p) 0
    let d := (d.set (pfRate line) rate p).set (pfWidth line) width p
    let d := (d.laneRates (d.lanesOf line p) rate).flag (pfFormed line) (decide (width ≠ 0)) p
    let d := d.set (pfShown line) (rateCode (d.pRate line p)) p
    if !line then d
    else if width = 0 then (d.putNum R.ENV_STATUS 0 p).setEp p { ticket := (d.ep p).ticket, done := (d.ep p).done, words := (d.ep p).words }
    else d.defect p 0 true

/-! Bring-up (R356). -/

/-- The transmit side of an enabled port starts once the lane PLLs of its groups are locked (R356, step 2): the
transmitters leave squelch; an envelope that had run starts again at a multiple of 256 (R259). -/
def Dev.txStart (d : Dev) (line : Bool) (p : Nat) : Dev :=
  let ls := d.lanesOf line p
  if d.on (pfEnable line) p && !d.on (pfTx line) p && decide (ls ≠ []) && ls.all (fun l => d.on F.LANE_STATUS_PLL_LOCK l) then
    let d := ls.foldl (fun d l => if d.on F.LANE_CTRL_TX_FORCE_SQUELCH l then d else d.set F.LANE_STATUS_TX_ACTIVE 1 l) d
    let d := d.set (pfTx line) 1 p
    if line && d.eMode p && d.get F.ENV_STATUS_TX_STATE p ≤ 1 then (d.set F.ENV_STATUS_TX_STATE 0 p).envRun p else d
  else d

/-- PORT_ENABLE (R272, R356, R361, R492): ENABLE is set; on a formed port bring-up starts and the lanes' test fields
clear. -/
def doPortEnable (line : Bool) (port : Nat) (d : Dev) : Dev :=
  let p := port % 32
  if d.on (pfEnable line) p || d.on F.TAMP_STATUS_HALTED || d.tamp.hold then d
  else
    let d := d.set (pfEnable line) 1 p
    if d.pRate line p = 0 then d
    else
      let d := (d.lanesOf line p).foldl (fun d l =>
        (((d.set F.LANE_PRBS_CTRL_GEN_EN 0 l).set F.LANE_PRBS_CTRL_CHK_EN 0 l).set F.LANE_CTRL_LOOPBACK 0 l).set F.LANE_STATUS_PRBS_LOCK 0 l) d
      let d := if !line then d
        else
          let d := d.setBackEnd p []
          if d.fMode p then d else (d.envRaw p 1 true).txState p 0
      d.txStart line p

/-- LANE_PLL_LOCK (R350, R356): the PLL of a 4-lane group locks; the enabled ports whose PLLs are now locked transmit. -/
def doLanePllLock (group : Nat) (d : Dev) : Dev :=
  let g := group % 16
  let ls := (List.range 4).map (fun i => g * 4 + i)
  if !d.laneUp (g * 4) then d
  else
    let d := ls.foldl (fun d l => d.set F.LANE_STATUS_PLL_LOCK 1 l) d
    (List.range 32).foldl (fun d p => if (d.lanesOf (decide (8 ≤ g)) p).any ls.contains then d.txStart (decide (8 ≤ g)) p else d) d

/-- May a lane's receiver go on: its PLL locked, and step 2 done for an enabled port (R345, R356)? -/
def Dev.rxMay (d : Dev) (l : Nat) : Bool :=
  d.laneUp l && d.on F.LANE_STATUS_PLL_LOCK l &&
    match d.portOfLane l with
    | some (line, p) => !d.on (pfEnable line) p || d.on (pfTx line) p
    | none => true

/-- CDR_LOCK (R356): signal is present and clock and data recovery locks. -/
def doCdrLock (lane : Nat) (d : Dev) : Dev :=
  let l := lane % 64
  if !d.rxMay l then d
  else
    let d := (d.set F.LANE_STATUS_SIGNAL_DETECT 1 l).set F.LANE_STATUS_CDR_LOCK 1 l
    { d with port := { d.port with lockClk := SMap.set 0 d.port.lockClk l d.tim.clk } }

/-- ADAPT_DONE (R356): the initial adaptation of a lane completes. -/
def doAdaptDone (lane : Nat) (d : Dev) : Dev :=
  let l := lane % 64
  if d.laneUp l && d.on F.LANE_STATUS_CDR_LOCK l then d.set F.LANE_STATUS_ADAPT_DONE 1 l else d

/-- ADAPT_RESTART (R356): 50 ms after CDR_LOCK without ADAPT_DONE. -/
def doAdaptRestart (lane : Nat) (d : Dev) : Dev :=
  let l := lane % 64
  if !d.laneUp l || !d.on F.LANE_STATUS_CDR_LOCK l || d.on F.LANE_STATUS_ADAPT_DONE l then d
  else
    let d := d.advance (SMap.get 0 d.port.lockClk l + ms 50)
    ({ d with port := { d.port with lockClk := SMap.set 0 d.port.lockClk l d.tim.clk } }).raise E.LANE_ADAPT_RESTART l

/-! The link (R352, R355-R359). -/

/-- Preemption verification starts or stops with the link (R355): VERIFY_STATE and PREEMPT_ACTIVE of a client port. -/
def Dev.preempt (d : Dev) (p : Nat) (up : Bool) : Dev :=
  let en := d.on F.CPORT_PREEMPT_EN p
  let dis := d.on F.CPORT_PREEMPT_VERIFY_DIS p
  let d := d.set F.CPORT_PREEMPT_STATUS_VERIFY_STATE (if en && !dis && d.on F.CPORT_CTRL_ENABLE p then (if up then 2 else 1) else 0) p
  let d := d.flag F.CPORT_STATUS_PREEMPT_ACTIVE (en && dis && up) p
  { d with port := { d.port with tries := SMap.set 0 d.port.tries p 0 } }

/-- The link is up when the port is aligned and HI_SER is 0 (R352): its events, its counter and the defect dPCS
follow (R283, R357). -/
def Dev.linkShow (d : Dev) (line : Bool) (p : Nat) : Dev :=
  let up := d.on (pfAligned line) p && !d.on (pfHiSer line) p
  if up = d.on (pfLink line) p then d
  else
    let d := d.flag (pfLink line) up p
    let d := if up then d.raise (sideE line E.CPORT_LINK_UP E.LPORT_LINK_UP) p
      else
        let d := (d.raise (sideE line E.CPORT_LINK_DOWN E.LPORT_LINK_DOWN) p).pCount line p 15
        d.count (if line then 26 else 25) 0x4C (if line then { lport := some p } else { cport := some p })
    if line then (if up then d else d.set F.LPORT_RX_FREQ_OFFSET 0 p).defect p 0 (!up) else d.preempt p up

/-- A frame cut short is discarded and counted (R354, R358); an E-mode port has none. -/
def Dev.rxCut (d : Dev) (line : Bool) (p : Nat) (cut : Bool) : Dev :=
  if cut && !(line && !d.fMode p) then d.pCount line p 6 else d

/-- A port loses alignment. -/
def Dev.unalign (d : Dev) (line : Bool) (p : Nat) (cut : Bool) : Dev :=
  if !d.on (pfAligned line) p then d
  else
    let d := ((d.rxCut line p cut).set (pfAligned line) 0 p).set (pfFec line) 0 p
    let d := d.set (pfAm line) 0 p
    let d := if line then d.set F.LPORT_RX_LATENCY_NS 0 p else d
    d.linkShow line p

/-- LINK_UP (R347, R352, R356, R359): codeword lock, marker lock and deskew on all lanes of an enabled port; `skew` in ns,
`freq` the received-signal offset. -/
def doLinkUp (line : Bool) (port skew freq : Nat) (d : Dev) : Dev :=
  let p := port % 32
  let ls := d.lanesOf line p
  if !d.on (pfEnable line) p || !d.on (pfTx line) p || d.on (pfAligned line) p || d.domHeld (p / 16) || 180 < skew || ls = [] ||
      !ls.all (fun l => d.on F.LANE_STATUS_CDR_LOCK l && d.on F.LANE_STATUS_ADAPT_DONE l) then d
  else
    let d := (((d.set (pfFec line) 1 p).set (pfAm line) 1 p).set (pfAligned line) 1 p).set (pfSkew line) (min 255 skew) p
    let d := if line then d.set F.LPORT_RX_LATENCY_NS (d.lLatency p) p else d
    let d := d.linkShow line p
    if line && d.on F.LPORT_STATUS_LINK_UP p then d.set F.LPORT_RX_FREQ_OFFSET freq p else d

/-- LINK_DOWN (R275, R352, R357): an aligned port loses alignment and returns to step 3; `cut` says that a frame was being
received. -/
def doLinkDown (line : Bool) (port : Nat) (cut : Bool) (d : Dev) : Dev :=
  let p := port % 32
  if !d.on (pfAligned line) p then d
  else ((d.lanesOf line p).foldl (fun d l => d.set F.LANE_STATUS_CDR_LOCK 0 l) d).unalign line p cut

/-- What a count of `n` happenings adds to the programmable counters of a port's class. -/
def Dev.portClass (d : Dev) (line : Bool) (p code n : Nat) : Dev :=
  (List.range n).foldl (fun d _ => d.count (if line then 26 else 25) code (if line then { lport := some p } else { cport := some p })) d

/-- FEC_WINDOW_END (R351, R352, R362, R363, R576): the window's codewords corrected and uncorrectable, symbols corrected
and in error altogether, and blocks in error; `cut` says that a frame was being received. -/
def doFecWindowEnd (line : Bool) (port corrected uncorrectable symbols errors blocks : Nat) (cut : Bool) (d : Dev) : Dev :=
  let p := port % 32
  if !d.on (pfAligned line) p then d
  else
    let d := (((d.pCount line p 11 corrected).pCount line p 12 uncorrectable).pCount line p 13 symbols).pCount line p 14 blocks
    let d := ((d.portClass line p 0x48 corrected).portClass line p 0x49 uncorrectable).sample 0x0E ((if line then 32 else 0) + p) errors
    let hi := d.get (sideF line F.CPORT_FEC_THRESH_HI_SER_SYMBOLS F.LPORT_FEC_THRESH_HI_SER_SYMBOLS) p
    let dg := d.get (sideF line F.CPORT_FEC_THRESH_DEGRADE_SYMBOLS F.LPORT_FEC_THRESH_DEGRADE_SYMBOLS) p
    let k := (if line then 32 else 0) + p
    let run := d.port.degr.contains k
    let bad := decide (dg ≠ 0) && decide (dg < errors)
    let d := if bad && !run then d.raise (sideE line E.CPORT_FEC_DEGRADE E.LPORT_FEC_DEGRADE) p else d
    let d := { d with port := { d.port with degr := if bad then (if run then d.port.degr else k :: d.port.degr) else d.port.degr.filter (· ≠ k) } }
    if hi < errors then
      let d := if d.on (pfHiSer line) p then d else d.rxCut line p cut
      ((d.set (pfHiSer line) 1 p).raise (sideE line E.CPORT_HI_SER_SET E.LPORT_HI_SER_SET) p).linkShow line p
    else (d.set (pfHiSer line) 0 p).linkShow line p

/-- The record held for its launch goes with its port's alignment (R362): a fence discard. -/
def Dev.dropHeldLaunch (d : Dev) (p : Nat) : Dev :=
  match d.backEnd p with
  | it :: rest => if it.launch.isSome then (d.setBackEnd p rest).bump R.CIP_CNT_FENCE_DISCARD it.slice else d
  | [] => d

/-- REFCLK_LOSS (R350, R362): a lane PLL loses lock or its reference: the lanes of the group are reset and squelched. -/
def doRefclkLoss (group : Nat) (cut : Bool) (d : Dev) : Dev :=
  let g := group % 16
  let line := decide (8 ≤ g)
  let ls := (List.range 4).map (fun i => g * 4 + i)
  if !d.on F.LANE_STATUS_PLL_LOCK (g * 4) then d
  else
    let d := ls.foldl (fun d l =>
      let d := ((d.set F.LANE_STATUS_PLL_LOCK 0 l).set F.LANE_STATUS_TX_ACTIVE 0 l).set F.LANE_STATUS_CDR_LOCK 0 l
      (d.set F.LANE_STATUS_ADAPT_DONE 0 l).raise E.LANE_PLL_UNLOCK l) d
    (List.range 32).foldl (fun d p =>
      if (d.lanesOf line p).any ls.contains then
        let d := (d.set (pfTx line) 0 p).raise (sideE line E.CPORT_REFCLK_LOSS E.LPORT_REFCLK_LOSS) p
        let d := if line then d.dropHeldLaunch p else d
        d.unalign line p cut
      else d) d

/-- LOS (R364): a lane loses its received signal. -/
def doLos (lane : Nat) (d : Dev) : Dev :=
  let l := lane % 64
  if d.on F.LANE_STATUS_SIGNAL_DETECT l then (d.set F.LANE_STATUS_SIGNAL_DETECT 0 l).raise E.LANE_LOS l else d

/-- CDR_UNLOCK (R364): clock and data recovery loses lock. -/
def doCdrUnlock (lane : Nat) (d : Dev) : Dev :=
  let l := lane % 64
  if d.on F.LANE_STATUS_CDR_LOCK l then (d.set F.LANE_STATUS_CDR_LOCK 0 l).raise E.LANE_CDR_UNLOCK l else d

/-- PORT_DISABLE (R212, R256, R272, R356, R358, R362): ENABLE is cleared; the envelope frame being sent is completed, the
transmitters squelch, received and queued frames are discarded and the envelope's keys and count start again. -/
def doPortDisable (line : Bool) (port : Nat) (cut : Bool) (d : Dev) : Dev :=
  let p := port % 32
  if !d.on (pfEnable line) p then d
  else if d.pRate line p = 0 then d.set (pfEnable line) 0 p
  else
    let d := if line && d.on F.LPORT_STATUS_TX_ACTIVE p then doEnvelopeFrameTx p d else d
    let ls := d.lanesOf line p
    let d := ls.foldl (fun d l => d.set F.LANE_STATUS_TX_ACTIVE 0 l) d
    let aligned := d.on (pfAligned line) p
    let d := (d.set (pfEnable line) 0 p).set (pfTx line) 0 p
    let d := if aligned then d.unalign line p cut else d.rxCut line p cut
    if line then
      let d := (d.flushPort p).setBackEnd p []
      if d.fMode p then d
      else
        let d := (d.envErase p).set F.ENV_STATUS_TX_STATE 0 p
        let e := d.ep p
        (d.setEp p { e with efn := 0x100, pay := [], fip := none, tld := 0, stag := [], zeroTag := false, strm := [], delin := false }).set F.ENV_STATUS_D_TXI 0 p
    else
      let d := (List.range 4).foldl (fun d c =>
        let n := (SMap.get [] d.sch.egr (p * 4 + c)).length
        ({ d with sch := { d.sch with egr := SMap.set [] d.sch.egr (p * 4 + c) [] } }).bump R.SCH_CNT_EGR_FULL c (n := n)) d
      d.preempt p false

/-- PREEMPT_VERIFY_ATTEMPT (R355): an attempt of the 802.3br verification ends, answered or not; the next follows after
VERIFY_MS, three at most. -/
def doPreemptVerifyAttempt (port : Nat) (ok : Bool) (d : Dev) : Dev :=
  let p := port % 32
  if d.get F.CPORT_PREEMPT_STATUS_VERIFY_STATE p ≠ 2 then d
  else
    let n := SMap.get 0 d.port.tries p
    let d := if n = 0 then d else d.advance (SMap.get 0 d.port.triesClk p + ms (max 1 (min 128 (d.get F.CPORT_PREEMPT_VERIFY_MS p))))
    let d := { d with port := { d.port with tries := SMap.set 0 d.port.tries p (n + 1), triesClk := SMap.set 0 d.port.triesClk p d.tim.clk } }
    if ok then (d.set F.CPORT_PREEMPT_STATUS_VERIFY_STATE 3 p).set F.CPORT_STATUS_PREEMPT_ACTIVE 1 p
    else if 2 ≤ n then (d.set F.CPORT_PREEMPT_STATUS_VERIFY_STATE 4 p).raise E.CPORT_VERIFY_FAIL p
    else d

/-! Lanes (R348, R356, R360). -/

/-- Pattern errors of a lane while locked: the first since CLEAR raises PRBS_ERR (R360). -/
def Dev.prbsErrors (d : Dev) (l n : Nat) : Dev :=
  if n = 0 then d
  else
    let d := d.bump R.LANE_PRBS_ERR l (n := n)
    if d.port.prbs.contains l then d
    else ({ d with port := { d.port with prbs := l :: d.port.prbs } }).raise E.LANE_PRBS_ERR l

/-- LANE_ADAPTATION_UPDATE (R37, R40, R348, R360): the 16 µs update of a lane: its pending equalizer word takes effect; the
SNR estimate is `snr`, and `errors` pattern errors have been found since the last update. -/
def doLaneAdaptationUpdate (lane snr errors : Nat) (d : Dev) : Dev :=
  let l := lane % 64
  if !d.laneUp l then d
  else
    let d := { d with port := { d.port with eq := SMap.set 0x04360601 d.port.eq l (d.num R.LANE_TX_EQ l + 1) } }
    let d := if d.on F.LANE_CTRL_ADAPT_FREEZE l then d else d.set F.LANE_STATUS_SNR_QDB (min 255 snr) l
    if d.on F.LANE_STATUS_PRBS_LOCK l then d.prbsErrors l errors else d

/-- PRBS_CLEAR (R360). -/
def doPrbsClear (lane : Nat) (d : Dev) : Dev :=
  let l := lane % 64
  { d.putNum R.LANE_PRBS_ERR 0 l with port := { d.port with prbs := d.port.prbs.filter (· ≠ l) } }

/-- PRBS_LOCK_GAINED (R360). -/
def doPrbsLockGained (lane : Nat) (d : Dev) : Dev :=
  let l := lane % 64
  if d.laneUp l && d.on F.LANE_PRBS_CTRL_CHK_EN l then d.set F.LANE_STATUS_PRBS_LOCK 1 l else d

/-- PRBS_LOCK_LOST (R360): 4,096 errored symbols among 8,192; `errors` were counted since the last update. -/
def doPrbsLockLost (lane errors : Nat) (d : Dev) : Dev :=
  let l := lane % 64
  if d.on F.LANE_STATUS_PRBS_LOCK l then (d.prbsErrors l errors).set F.LANE_STATUS_PRBS_LOCK 0 l else d

/-- The lanes of a half go down with it (R362): squelched, PLLs to lock again, ports out of alignment, ENABLE kept. -/
def Dev.lanesDown (d : Dev) (h : Nat) : Dev :=
  let d := [false, true].foldl (fun d line =>
    (List.range 16).foldl (fun d i => (d.unalign line (h * 16 + i) false).set (pfTx line) 0 (h * 16 + i)) d) d
  ((List.range 16).flatMap (fun i => [h * 16 + i, 32 + h * 16 + i])).foldl (fun d l =>
    (((d.set F.LANE_STATUS_PLL_LOCK 0 l).set F.LANE_STATUS_TX_ACTIVE 0 l).set F.LANE_STATUS_CDR_LOCK 0 l).set F.LANE_STATUS_ADAPT_DONE 0 l) d

/-- The per-second latch of the port counters (R363, R286). -/
def Dev.portSecond (d : Dev) (net : Nat) : Dev :=
  [0, 1].foldl (fun d side => (List.range 512).foldl (fun d i =>
    let v := d.tf (0xD0 + side) i 0 15 0 * 2 ^ 32 + d.tw (0xD0 + side) i 1
    let r := (v + 2 ^ 48 - SMap.get 0 d.port.latch (side * 512 + i)) % 2 ^ 48
    let d := d.setEntry (0xD2 + side) i [r / 2 ^ 32, r % 2 ^ 32, net / 2 ^ 32, net % 2 ^ 32]
    { d with port := { d.port with latch := SMap.set 0 d.port.latch (side * 512 + i) v } }) d) d

end Sys2Proof.Machine
end

