-- ==== Sys2Proof/Machine/Fire.lean ====
section
/-! DEFINITION. The firing of Thyme entries: the effect of each action at its instant (R379, R381, R385). -/

namespace Sys2Proof.Machine

/-- The effect of a fired entry on the module: its COUNT, its MISSED and the reason where it ends ABORTED. -/
def Dev.thyAct (d : Dev) (e : ThyEnt) (stepped : Bool) : Dev × Nat × Nat × Nat :=
  let pin := e.arg % 4
  let kept := (SMap.get ({} : PinSt) d.tim.pins pin).modeGen = e.gen
  match e.action with
  | 1 =>
    let r := d.ruleCommit
    (r.1, b2n r.2, 0, if r.2 then 0 else 12)
  | 2 => ((d.keyAccept e.arg e.at_).1, (d.keyAccept e.arg e.at_).2, 0, 0)
  | 3 =>
    let r := d.keySwitch e.arg
    let v := r.1.envKeySwitch e.arg
    (v.1, r.2.1 + v.2.1, r.2.2 + v.2.2, 0)
  | 4 => ((d.keyRetire e.arg e.at_).1, (d.keyRetire e.arg e.at_).2, 0, 0)
  | 5 => (d.boundSwitch, 1, 0, 0)
  | 6 => if kept && !stepped then ((d.pulseStop pin).pulseBegin pin, 1, 0, 0) else (d, 0, 0, 0)
  | 7 =>
    if !kept then (d, 0, 0, 0)
    else
      let d := d.pinUpd pin (fun p => { p with train := true, nextNet := e.at_ })
      let d := if stepped then d.alignTrains
        else (d.pulseBegin pin).pinUpd pin (fun p => { p with nextNet := (e.at_ + d.num R.TIM_PPS_OUT_PERIOD pin) % twrap })
      (d.pinShow pin, 1, 0, 0)
  | 8 => ((d.pinUpd pin (fun p => { p with train := false })).pinShow pin, b2n (SMap.get ({} : PinSt) d.tim.pins pin).train, 0, 0)
  | _ => ((d.putNum R.THY_USER_ARG e.arg).raise E.THY_USER, 1, 0, 0)

/-- An entry fires in the present cycle (R381, R382): a STEPPED entry written with LATE_ABORT ends ABORTED
without its effect. -/
def Dev.thyFire (d : Dev) (k : Nat) (stepped : Bool) : Dev :=
  let e := SMap.get ({} : ThyEnt) d.thy.ent k
  let d := d.count 28 0x5A {}
  let d := if stepped then (d.bump R.THY_CNT_STEPPED).raise E.THY_STEPPED else d
  if stepped && e.late then d.thyEnd k 13 0 0 true true
  else
    let r := d.thyAct e stepped
    r.1.thyEnd k r.2.2.2 r.2.1 r.2.2.1 stepped true

/-- The entry that fires next: first by the cycle in which its instant is reached, then by entry number
(R381). -/
def Dev.thyDue (d : Dev) : Option Nat :=
  ((d.thy.ent.filter (fun e => e.2.st = 1)).foldl (fun (best : Option (Nat × Nat)) e =>
    let t := d.netReach e.2.at_
    match best with
    | some b => if t < b.1 then some (t, e.1) else best
    | none => some (t, e.1)) none).map (·.2)

/-- A pending entry of an action fires where it is the next to fire, and no Thyme second is due before it or
in its cycle (R371, R381, R388). -/
def Dev.fireEntry (d : Dev) (action k : Nat) : Dev :=
  let e := SMap.get ({} : ThyEnt) d.thy.ent k
  let t := d.netReach e.at_
  if e.st = 1 ∧ e.action = action ∧ d.thyDue = some k ∧ t < d.netReach d.secNext then (d.advance t).thyFire k false else d

/-- RULE_COMMIT (R75, R381). -/
def doRuleCommit (entry : Nat) (d : Dev) : Dev := d.fireEntry 1 (entry % 4096)
/-- KEY_ACCEPT (R111). -/
def doKeyAccept (entry : Nat) (d : Dev) : Dev := d.fireEntry 2 (entry % 4096)
/-- KEY_SWITCH (R111, R270). -/
def doKeySwitch (entry : Nat) (d : Dev) : Dev := d.fireEntry 3 (entry % 4096)
/-- KEY_RETIRE (R111). -/
def doKeyRetire (entry : Nat) (d : Dev) : Dev := d.fireEntry 4 (entry % 4096)
/-- BOUND_SWITCH (R239). -/
def doBoundSwitch (entry : Nat) (d : Dev) : Dev := d.fireEntry 5 (entry % 4096)
/-- PULSE_ONE (R385). -/
def doPulseOne (entry : Nat) (d : Dev) : Dev := d.fireEntry 6 (entry % 4096)
/-- PULSE_START (R385). -/
def doPulseStart (entry : Nat) (d : Dev) : Dev := d.fireEntry 7 (entry % 4096)
/-- PULSE_STOP (R385). -/
def doPulseStop (entry : Nat) (d : Dev) : Dev := d.fireEntry 8 (entry % 4096)
/-- EVENT (R379). -/
def doEvent (entry : Nat) (d : Dev) : Dev := d.fireEntry 9 (entry % 4096)

end Sys2Proof.Machine
end

