-- ==== Sys2Proof/Machine/Firm.lean ====
section
/-! DEFINITION. What the active core's firmware does with the units it commands: SA, envelope and Thyme
commands issued and completed in one go (log entry 20), and Mint's words taken. -/

namespace Sys2Proof.Machine

/-- The core that acts: the lease holder. -/
def Dev.sageNow (d : Dev) : Master := d.active.getD .sageA

/-- What an SA command of the firmware stages. -/
structure SaArgs where
  attr : Nat := 0
  link : Nat := 0
  sci : Nat := 0
  ssci : Nat := 0
  words : List Nat := []
  frm : Option Nat := none
  blk : Option Nat := none
  deriving DecidableEq, Repr

/-- Write a register where a value is given. -/
def Dev.putOpt (d : Dev) (r : Reg) (v : Option Nat) (s : Nat) : Dev :=
  match v with
  | some x => d.putNum r x s
  | none => d

/-- The active core stages and issues an SA command, and waits for its end (R115, R116): true where it ended DONE. -/
def Dev.satNow (d : Dev) (s op dir e : Nat) (a : SaArgs := {}) : Dev × Bool :=
  if (d.sl s).cmd.isSome then (d, false)
  else
    let d := (d.putNum R.SAT_STAGE_ATTR a.attr s).putNum R.SAT_STAGE_LINK a.link s
    let d := (d.putNum R.SAT_STAGE_SCI_HI (a.sci / 2 ^ 32) s).putNum R.SAT_STAGE_SCI_LO (a.sci % 2 ^ 32) s
    let d := ((d.putNum R.SAT_STAGE_SSCI a.ssci s).putNum R.SAT_STAGE_PN_HI 0 s).putNum R.SAT_STAGE_PN_LO 1 s
    let d := (d.putOpt R.SAT_USAGE_LIMIT_FRM a.frm s).putOpt R.SAT_USAGE_LIMIT_BLK a.blk s
    let d := a.words.foldl (fun d w => doSatKeyStage s w d.sageNow d) (d.setSl s { d.sl s with words := [] })
    let d := doSaCmdComplete s (d.satCommand s op dir e d.sageNow)
    (d, (d.sl s).cmd.isNone && d.get F.SAT_CMD_STATUS_STATE s = 2)

/-- The active core stages and issues an envelope key command; a switch ends later (R273). -/
def Dev.envNow (d : Dev) (p op dir k group : Nat) (words : List Nat) : Dev × Bool :=
  if (d.ep p).cmd.isSome then (d, false)
  else
    let d := words.foldl (fun d w => doEnvKeyStage p w d.sageNow d) (d.setEp p { d.ep p with words := [] })
    let d := doEnvKeyCmdComplete p (d.envCommand p op dir k group d.sageNow)
    (d, decide (d.get F.ENV_KEY_STATUS_STATE p ≠ 3))

/-- The active core writes a Thyme entry: its ticket, none where the unit refuses it (R379, R380). -/
def Dev.thyNow (d : Dev) (action arg at_ : Nat) : Dev × Option Nat :=
  let d := (d.putNum R.THY_STAGE_ARG arg).putNum R.THY_STAGE_AT_NS (at_ % 2 ^ 32)
  let d := (d.set F.THY_STAGE_AT_WRAP_WRAP (at_ / 2 ^ 32)).set F.THY_STAGE_ACTION_ACTION action
  let d := doThyWrite d.sageNow (d.set F.THY_STAGE_ACTION_LATE_ABORT 0)
  (d, if d.get F.THY_CMD_STATUS_STATE = 2 then some d.thy.ticket else none)

/-- The active core aborts a Thyme entry by its ticket: true where the abort was accepted (R383). -/
def Dev.thyDrop (d : Dev) (ticket : Nat) : Dev × Bool :=
  let d := doThyAbort ticket d.sageNow d
  (d, d.get F.THY_CMD_STATUS_ABORT_RESULT = 1)

/-- Take `n` words from MNT_KEY_OUT (R471): none where fewer are there. -/
def Dev.takeKeyWords (d : Dev) (n : Nat) : Option (Dev × List Nat) :=
  if d.mint.keyOut.length < n then none
  else some ((List.range n).foldl (fun (x : Dev × List Nat) _ =>
    let r := x.1.keyOutRead x.1.sageNow
    (r.1, x.2 ++ [r.2])) (d, []))

/-- Take `n` words from MNT_RAND_OUT (R471). -/
def Dev.takeRandWords (d : Dev) (n : Nat) : Option (Dev × List Nat) :=
  if d.mint.randOut.length < n then none
  else some ((List.range n).foldl (fun (x : Dev × List Nat) _ =>
    let r := x.1.randOutRead x.1.sageNow
    (r.1, x.2 ++ [r.2])) (d, []))

/-- Attribute word of an install (R127). -/
def saAttr (suite an openNow mode emode group : Nat) : Nat :=
  suite * 2 ^ 31 + an % 4 * 2 ^ 28 + openNow * 2 ^ 27 + mode % 4 * 2 ^ 25 + emode * 2 ^ 24 + group % 1024

end Sys2Proof.Machine
end

