-- ==== Sys2Proof/Machine/Fleet.lean ====
section
/-! DEFINITION. Fleet keying: messages, associations, heartbeats, consensus and the key server (R426-R437,
R446-R454). -/

namespace Sys2Proof.Machine

/-! Peers. -/

def Dev.peer (d : Dev) (m : Nat) : Peer := SMap.get {} d.fleet.peers m
def Dev.setPeer (d : Dev) (m : Nat) (p : Peer) : Dev :=
  { d with fleet := { d.fleet with peers := SMap.set {} d.fleet.peers m p } }
def Dev.updPeer (d : Dev) (m : Nat) (f : Peer → Peer) : Dev := d.setPeer m (f (d.peer m))
/-- ASSOC and CONSENSUS of the peer status table (R458). -/
def Dev.assoc (d : Dev) (m : Nat) : Nat := d.tf 0xF8 m 0 31 29
def Dev.consensus (d : Dev) (m : Nat) : Nat := d.tf 0xF8 m 0 28 26
/-- Peers whose association is up. -/
def Dev.peersUp (d : Dev) : List Nat := ((d.entries 0xF8).map (·.1)).filter (fun m => d.assoc m = 2)

/-- A field of the fleet constants in seconds (R456, R458). -/
def Dev.fleetConst (d : Dev) (w hi lo : Nat) : Nat := d.tf 0xF5 0 w hi lo
def Dev.peerLostS (d : Dev) : Nat := d.fleetConst 3 31 24
def Dev.ksLeaseS (d : Dev) : Nat := d.fleetConst 3 23 16
def Dev.versionGraceS (d : Dev) : Nat := d.fleetConst 7 31 24

/-- Does fleet keying act now: started (R426), with an active core (R395)? -/
def Dev.fleetOn (d : Dev) : Bool := d.fleet.on && d.active.isSome

/-- A Rosemary FLEET record: peer, state, digest prefixes, the peer's version (R495). -/
def Dev.fleetLog (d : Dev) (m state : Nat) : Dev :=
  d.rsmLog 0x15 (beBytes 2 m ++ beBytes 1 state ++ beBytes 1 0 ++ d.fleet.digest.take 4 ++ d.entryBytes 0xF8 m 2 3 ++ beBytes 4 (d.tw 0xF8 m 1))

/-- A message from a member is discarded (R431). -/
def Dev.fleetDiscard (d : Dev) (m : Nat) : Dev := d.setTf 0xF8 m 0 15 0 (min 0xFFFF (d.tf 0xF8 m 0 15 0 + 1))

/-! Messages (R429-R433). -/

/-- Bytes 0-19 of a message (R430). -/
def Dev.fleetHdr (d : Dev) (msg cseq m len : Nat) : Bytes :=
  beBytes 2 0x88B5 ++ beBytes 2 (0xC000 + msg) ++ beBytes 4 cseq ++ beBytes 4 d.fleet.domain ++ beBytes 2 d.fleet.member ++
    beBytes 2 m ++ beBytes 2 len ++ zeros 2

/-- The out-of-band or wrap key of a direction among 128 bytes of keys (R436): `o` is 0 or 64. -/
def dirKey (keys : Bytes) (fromInitiator : Bool) (o : Nat) : Bytes := slice keys (o + if fromInitiator then 0 else 32) 32

/-- The open control channel to a member (R429). -/
def Dev.ctlChan (d : Dev) (m : Nat) : Option Chan :=
  d.fleet.chans.find? (fun c => c.member = m && c.role = 1 && (d.txLive c.slice c.entry).isSome && d.portOpen c.lport &&
    !d.domHeld (c.slice / 4))

/-- The station address of a member (R458). -/
def Dev.stationOf (d : Dev) (m : Nat) : Bytes := beBytes 2 (d.tf 0xF2 m 5 15 0) ++ beBytes 4 (d.tw 0xF2 m 6)

/-- Send a message as a control record (R430). -/
def Dev.sendInBand (d : Dev) (c : Chan) (text : Bytes) : Dev :=
  let f := d.fMode c.lport
  let p := text ++ zeros ((if f then 56 else 68) - text.length)
  doControlQueueSend c.lport (some (c.slice, c.entry)) (if f then d.stationOf c.member ++ d.stationOf d.fleet.member ++ p else p) d

/-- Cut bytes into pieces of 1,200: at least one piece (R432). -/
def cut1200 : Nat → Bytes → List Bytes
  | 0, bs => [bs]
  | n + 1, bs => if bs.length ≤ 1200 then [bs] else bs.take 1200 :: cut1200 n (bs.drop 1200)

/-- Can the module send on its management Ethernet port? -/
def Dev.ethUp (d : Dev) : Bool := d.on F.GLB_ETH_CFG_EN && d.on F.GLB_ETH_STATUS_LINK

/-- Send a message out-of-band, in fragments (R432). -/
def Dev.sendOob (d : Dev) (m kind seq : Nat) (hdr data : Bytes) : Dev :=
  let parts := cut1200 15 data
  let id := (d.fleet.msgId + 1) % 2 ^ 16
  let d := { d with fleet := { d.fleet with msgId := id } }
  if !d.ethUp || d.tf 0xF2 m 0 31 31 = 0 then d
  else parts.zipIdx.foldl (fun d x =>
    d.emit (.fleet m false (beBytes 4 0x5351464B ++ beBytes 1 kind ++ beBytes 1 (x.2 * 16 + (parts.length - 1)) ++ beBytes 2 id ++ hdr ++
      beBytes 8 seq ++ x.1))) d

/-- Send a message to a member: on its open control channel where it has one, else out-of-band, sealed unless it belongs to
a handshake (R429, R432). -/
def Dev.fleetSend (d : Dev) (m msg : Nat) (body : Bytes) : Dev :=
  let p := d.peer m
  let clear := decide (msg ≤ 4)
  let cseq := if clear then 0 else p.cseqTx + 1
  let hdr := d.fleetHdr msg cseq m body.length
  let d := d.setPeer m { p with cseqTx := if clear then p.cseqTx else cseq }
  match d.ctlChan m with
  | some c => d.sendInBand c (hdr ++ body)
  | none =>
    if clear then d.sendOob m 0 0 hdr body
    else
      let seq := p.seqTx + 1
      let d := d.updPeer m (fun p => { p with seqTx := seq })
      let r := gcmSeal (dirKey p.keys p.initiator 0) (2 ^ 64 + seq) hdr body
      d.sendOob m 1 seq hdr (r.1 ++ r.2)

/-- Is a sequence number above the highest accepted, or within `w` below it and not yet accepted (R431, R432)? -/
def seqOk (high map w n : Nat) : Bool := decide (high < n) || (decide (high ≤ n + w) && !bit map (high - n))

/-- The window after `n` was accepted. -/
def seqTake (high map w n : Nat) : Nat × Nat :=
  let h := max high n
  (h, ((map <<< (h - high)) ||| 2 ^ (h - n)) % 2 ^ (w + 1))

/-- The association is up at this end (R436): new keys, the former ones kept for 60 s (R437). -/
def Dev.assocUp (d : Dev) (m : Nat) (initiator : Bool) : Dev :=
  let p := d.peer m
  let d := d.setPeer m
    { p with hs := 0, retry := 0, h1 := [], th := [], ecPriv := [], kemPriv := [], newKeys := [], initiator := initiator,
             keys := p.newKeys.take 128, old := p.keys, oldClk := d.tim.clk, oldHigh := p.seqHigh, oldMap := p.seqMap,
             cseqTx := 0, cseqHigh := 0, cseqMap := 0, seqTx := 0, seqHigh := 0, seqMap := 0, upClk := d.tim.clk, lastClk := d.tim.clk }
  d.setTf 0xF8 m 0 31 29 2

/-- Unseal a complete message with the association's keys, the running handshake's or the former ones (R432, R436, R437):
its text and which keys opened it. -/
def Dev.unseal (d : Dev) (m seq : Nat) (hdr data : Bytes) : Option (Dev × Bytes × Nat) :=
  let p := d.peer m
  let ct := data.take (data.length - 16)
  let tag := data.drop (data.length - 16)
  let openWith (key : Bytes) : Option Bytes :=
    if key = [] then none
    else
      let r := gcmOpen key (2 ^ 64 + seq) hdr ct
      if r.2 = tag then some r.1 else none
  if data.length < 16 then none
  else match (if seqOk p.seqHigh p.seqMap 64 seq then openWith (dirKey p.keys (!p.initiator) 0) else none) with
  | some t =>
    let w := seqTake p.seqHigh p.seqMap 64 seq
    some (d.setPeer m { p with seqHigh := w.1, seqMap := w.2 }, t, 1)
  | none =>
    match (if p.hs = 3 then openWith (dirKey p.newKeys false 0) else none) with
    | some t =>
      let d := d.assocUp m true
      let w := seqTake 0 0 64 seq
      some (d.updPeer m (fun p => { p with seqHigh := w.1, seqMap := w.2 }), t, 1)
    | none =>
      match (if d.tim.clk < p.oldClk + sec 60 ∧ seqOk p.oldHigh p.oldMap 64 seq then openWith (dirKey p.old (!p.initiator) 0) else none) with
      | some t =>
        let w := seqTake p.oldHigh p.oldMap 64 seq
        some (d.setPeer m { p with oldHigh := w.1, oldMap := w.2 }, t, 2)
      | none => none

/-- A whole out-of-band message (R432): clear ones are hellos and nudges only; what opens waits for the core. -/
def Dev.fleetWhole (d : Dev) (f : FragSet) : Dev :=
  let data := f.parts.flatMap (·.2)
  let msg := numAt f.hdr 3 1
  if f.kind = 0 then
    if 1 ≤ msg ∧ msg ≤ 4 then { d with fleet := { d.fleet with inbox := d.fleet.inbox ++ [⟨f.hdr, data, false, 0, 0⟩] } }
    else d.fleetDiscard f.src
  else match d.unseal f.src f.seq f.hdr data with
  | some r => { r.1 with fleet := { r.1.fleet with inbox := r.1.fleet.inbox ++ [⟨f.hdr, r.2.1, false, 0, r.2.2⟩] } }
  | none => d.fleetDiscard f.src

/-- OOB_DATAGRAM_RX (R432): a datagram to OOB_PORT; lost while no core is active (R395). -/
def doOobDatagramRx (datagram : Bytes) (d : Dev) : Dev :=
  let b := datagram
  let kind := numAt b 4 1
  let idx := numAt b 5 1 / 16
  let total := numAt b 5 1 % 16 + 1
  let id := numAt b 6 2
  let hdr := slice b 8 20
  let src := numAt hdr 12 2 % 4096
  if !d.fleetOn || !d.ethUp then d
  else if b.length < 36 ∨ 1236 < b.length ∨ numAt b 0 4 ≠ 0x5351464B ∨ 1 < kind ∨ total ≤ idx then d
  else
    let same (f : FragSet) : Bool := f.src = src && f.msgId = id && f.kind = kind && f.total = total && f.hdr == hdr && f.seq = numAt b 28 8
    let f := (d.fleet.frags.find? same).getD ⟨src, id, kind, total, hdr, numAt b 28 8, [], d.tim.clk⟩
    let f := { f with parts := SMap.ins f.parts idx (b.drop 36) }
    let rest := d.fleet.frags.filter (fun g => !same g)
    if f.parts.length = total then ({ d with fleet := { d.fleet with frags := rest } }).fleetWhole f
    else { d with fleet := { d.fleet with frags := rest ++ [f] } }

/-- FRAGMENT_TIMEOUT (R432): the oldest incomplete message is discarded 1 s after its first fragment. -/
def doFragmentTimeout (d : Dev) : Dev :=
  match d.fleet.frags with
  | f :: rest =>
    let d := d.advance (f.clk + sec 1)
    { d with fleet := { d.fleet with frags := rest } }
  | [] => d

/-- Take a message of a type from where it waits. -/
def Dev.takeMsg (d : Dev) (at_ : FleetAt) (msg : Nat) : Option (Dev × FleetMsg) :=
  if !d.fleetOn then none
  else match at_ with
  | .inbox i =>
    match d.fleet.inbox[i]? with
    | some x =>
      if numAt x.hdr 3 1 = msg then some ({ d with fleet := { d.fleet with inbox := d.fleet.inbox.eraseIdx i } }, x) else none
    | none => none
  | .buffer i =>
    match d.fe.buf[i]? with
    | some r =>
      if r.reason = 0x80 ∧ numAt r.data 3 1 = msg then
        some ({ d with fe := { d.fe with buf := d.fe.buf.eraseIdx i } },
          ⟨r.data.take 20, slice r.data 20 (numAt r.data 16 2), true, r.entry, 0⟩)
      else none
    | none => none

/-- The sender of a message. -/
def FleetMsg.src (x : FleetMsg) : Nat := numAt x.hdr 12 2 % 4096

/-- The checks of R431; an accepted message refreshes the peer (R448). -/
def Dev.fleetAccept (d : Dev) (x : FleetMsg) : Dev × Bool :=
  let m := x.src
  let msg := numAt x.hdr 3 1
  let cseq := numAt x.hdr 4 4
  let bound := !x.inBand || (d.tf (0x48 + x.entry / 8192) (x.entry % 8192) 0 31 31 = 1 && d.tf (0x48 + x.entry / 8192) (x.entry % 8192) 0 27 16 = m)
  let d := if x.inBand && 4 < msg && bound && (d.peer m).hs = 3 then d.assocUp m true else d
  let p := d.peer m
  let high := p.cseqHigh
  let ok := numAt x.hdr 8 4 = d.fleet.domain && numAt x.hdr 14 2 % 4096 = d.fleet.member && d.memberValid m && bound &&
    x.body.length = numAt x.hdr 16 2 && (decide (msg ≤ 4) || (d.assoc m = 2 && (x.keyed = 2 || seqOk high p.cseqMap 256 cseq)))
  if ok then
    let w := if msg ≤ 4 ∨ x.keyed = 2 then (high, p.cseqMap) else seqTake high p.cseqMap 256 cseq
    let d := d.setPeer m { p with cseqHigh := w.1, cseqMap := w.2, lastClk := d.tim.clk }
    ((d.setTf 0xF8 m 14 15 0 (d.net / 2 ^ 32)).setTf 0xF8 m 15 31 0 (d.net % 2 ^ 32), true)
  else (d.fleetDiscard m, false)

/-- A message of a type that passes the checks of R431. -/
def Dev.message (d : Dev) (at_ : FleetAt) (msg : Nat) (act : Dev → Nat → Bytes → Dev) : Dev :=
  match d.takeMsg at_ msg with
  | none => d
  | some (d, x) =>
    let r := d.fleetAccept x
    if r.2 then act r.1 x.src x.body else r.1

/-! Heartbeats (R447). -/

/-- Is this module time-fit (R442)? -/
def Dev.timeFit (d : Dev) : Bool :=
  decide (2 ≤ d.get F.TIM_SYNC_SYNC_STATE) && decide (d.get F.TIM_SYNC_ERR_EST_NS ≤ d.fleetConst 6 23 0)

/-- May this module hold the key-server role, and its PRIORITY (R446)? -/
def Dev.ksCapable (d : Dev) : Bool := d.tf 0xF0 d.fleet.member 0 30 30 = 1
def Dev.ownPriority (d : Dev) : Nat := d.tf 0xF0 d.fleet.member 0 7 0

/-- The recognised key server (R446): this module where it claims the role, else a live peer whose claim has come within
KS_LEASE_S. -/
def Dev.ksKnown (d : Dev) : Option Nat :=
  match d.fleet.ks with
  | some k => if d.fleet.claim || (d.assoc k.1 = 2 && decide (d.tim.clk ≤ k.2.2.2)) then some k.1 else none
  | none => none

/-- The HEARTBEAT body (R447). -/
def Dev.heartbeat (d : Dev) : Bytes :=
  let consent := (d.entries 0xF8).all (fun e => let c := nbits (e.2.getD 0 0) 28 26; c = 0 || c = 1 || c = 6)
  let staged := d.get F.SAGE_CS_STATUS_STATE = 3
  let ks := if d.ksKnown.isSome then d.fleet.ks.getD (0, 0, 0, 0) else (0, 0, 0, 0)
  let remain := if d.fleet.claim then min 0xFFFF ((ks.2.2.2 - d.tim.clk) / 1000000) else 0
  let t := if staged then d.sage.cs.at_ else 0
  beBytes 4 (d.num R.SAGE_CFG_VERSION) ++ d.fleet.digest ++ zeros (48 - d.fleet.digest.length) ++ d.memberDigest ++ d.schedDigest ++
    beBytes 2 (d.get F.FE_VER_CURRENT_VERSION) ++ beBytes 1 (b2n d.timeFit * 128 + d.get F.TIM_SYNC_SYNC_STATE) ++
    beBytes 1 (b2n d.ksCapable * 128 + b2n d.fleet.claim * 64 + b2n consent * 32) ++ beBytes 4 (d.get F.TIM_SYNC_ERR_EST_NS) ++
    beBytes 6 d.tim.sec ++ beBytes 2 ks.1 ++ beBytes 4 ks.2.1 ++ beBytes 2 remain ++ beBytes 1 d.ownPriority ++ beBytes 1 0 ++
    beBytes 4 (if staged then d.sage.cs.ver else 0) ++ beBytes 2 (t / 2 ^ 32) ++ zeros 2 ++ beBytes 4 (t % 2 ^ 32)

/-- HEARTBEAT_SEND (R446, R448): to each associated peer, the index's offset after the Thyme second; a claim renews the
role's lease. -/
def doHeartbeatSend (d : Dev) : Dev :=
  if !d.fleetOn then d
  else
    let d := d.advance (d.netReach ((d.tim.lastSecNet + d.fleet.member * 244140) % twrap))
    let d := if d.fleet.claim then
        { d with fleet := { d.fleet with ks := d.fleet.ks.map (fun k => (k.1, k.2.1, k.2.2.1, d.tim.clk + sec d.ksLeaseS)) } }
      else d
    d.peersUp.foldl (fun d m => d.fleetSend m 0x10 d.heartbeat) d

/-! Associations (R434-R437). -/

/-- A value the core draws for an ephemeral key: the spec names no source for it (log entry 2). -/
def Dev.drawSeed (d : Dev) : Dev × Bytes := (d.freeNext, beBytes 64 d.freeVal)

/-- A hello body with its signatures (R435): `prefix_` is what M begins with. -/
def Dev.helloBody (d : Dev) (msg m : Nat) (prefix_ nonce ecPub kem : Bytes) : Bytes :=
  let id := Config.identityPub 0
  let b := nonce ++ beBytes 4 (d.num R.SAGE_CFG_VERSION) ++ (d.fleet.digest ++ zeros 48).take 48 ++ ecPub ++ kem ++ id.1 ++ id.2
  let s := Config.signHybrid 0 (prefix_ ++ (d.fleetHdr msg 0 m 9161).drop 8 ++ b)
  b ++ s.1 ++ s.2

/-- Send HELLO_INIT to a member (R435): the nonce comes from Mint, without which the core waits. -/
def Dev.sendHello (d : Dev) (m : Nat) : Dev :=
  match d.takeRandWords 8 with
  | none => d
  | some (d, ws) =>
    let (d, s1) := d.drawSeed
    let (d, s2) := d.drawSeed
    let ec := Config.ecKeyPair s1
    let kem := Config.kemKeyPair s2
    let b := d.helloBody 1 m (ascii "SQ2HELO1") (wordsToBytes ws) ec.2 kem.2
    let d := d.updPeer m (fun p => { p with hs := 1, hsClk := d.tim.clk, h1 := sha384 b, ecPriv := ec.1, kemPriv := kem.1 })
    (if d.assoc m = 2 then d else d.setTf 0xF8 m 0 31 29 1).fleetSend m 1 b

/-- Does a hello pass the checks of R435? -/
def Dev.helloOk (d : Dev) (m msg : Nat) (prefix_ b : Bytes) : Bool :=
  let ec := slice b 1749 97
  let ml := slice b 1846 2592
  let hdr := beBytes 4 d.fleet.domain ++ beBytes 2 m ++ beBytes 2 d.fleet.member ++ beBytes 2 9161 ++ zeros 2
  b.length = 9161 && sha384 (ec ++ ml) == d.entryBytes 0xF0 m 3 15 &&
    Config.verifyHybrid ec ml (prefix_ ++ hdr ++ b.take 4438) (slice b 4438 96) (slice b 4534 4627) &&
    Config.keysValid (slice b 84 97) (if msg = 1 then slice b 181 1568 else []) 

/-- The 160 bytes of keys of an association (R436). -/
def Dev.assocKeys (d : Dev) (z : Bytes) (initiator responder : Nat) (th : Bytes) : Bytes :=
  kdf z (ascii "SQ2FLEET" ++ beBytes 4 d.fleet.domain ++ beBytes 2 initiator ++ beBytes 2 responder ++ th) 160

/-- The confirmation tag of R436. -/
def confirmTag (keys th : Bytes) : Bytes := (gcmSeal (slice keys 128 32) 0 th []).2

/-- A handshake fails: its secrets are erased and the retry interval begins (R436, R437). -/
def Dev.hsFail (d : Dev) (m : Nat) : Dev :=
  let d := d.updPeer m (fun p => { p with hs := 0, hsClk := d.tim.clk, retry := max 1 p.retry, h1 := [], th := [], ecPriv := [],
                                          kemPriv := [], newKeys := [] })
  (if d.assoc m = 1 then d.setTf 0xF8 m 0 31 29 0 else d).fwRaise 5

/-- HELLO_INIT (R435): checked and answered by the higher-indexed member. -/
def doHelloInit (at_ : FleetAt) (d : Dev) : Dev :=
  d.message at_ 1 (fun d m b =>
    if d.fleet.member ≤ m ∨ !d.helloOk m 1 (ascii "SQ2HELO1") b then (d.fleetDiscard m).fwRaise 5
    else match d.takeRandWords 8 with
    | none => d
    | some (d, ws) =>
      let (d, s1) := d.drawSeed
      let (d, s2) := d.drawSeed
      let ec := Config.ecKeyPair s1
      let k := Config.kemEncaps (slice b 181 1568) s2
      let h1 := sha384 b
      let r := d.helloBody 2 m (ascii "SQ2HELO2" ++ h1) (wordsToBytes ws) ec.2 k.1
      let th := sha384 (h1 ++ sha384 r)
      let keys := d.assocKeys (Config.ecdh ec.1 (slice b 84 97) ++ k.2) m d.fleet.member th
      let d := d.updPeer m (fun p => { p with hs := 2, hsClk := d.tim.clk, th := th, newKeys := keys })
      (if d.assoc m = 2 then d else d.setTf 0xF8 m 0 31 29 1).fleetSend m 2 r)

/-- HELLO_RESP (R435, R436): checked, keys derived, HELLO_CONFIRM sent. -/
def doHelloResp (at_ : FleetAt) (d : Dev) : Dev :=
  d.message at_ 2 (fun d m b =>
    let p := d.peer m
    if p.hs ≠ 1 then d.fleetDiscard m
    else if !d.helloOk m 2 (ascii "SQ2HELO2" ++ p.h1) b then (d.fleetDiscard m).hsFail m
    else
      let th := sha384 (p.h1 ++ sha384 b)
      let z := Config.ecdh p.ecPriv (slice b 84 97) ++ Config.kemDecaps p.kemPriv (slice b 181 1568)
      let keys := d.assocKeys z d.fleet.member m th
      let d := d.setPeer m { p with hs := 3, hsClk := d.tim.clk, th := th, newKeys := keys, ecPriv := [], kemPriv := [] }
      d.fleetSend m 3 (confirmTag keys th))

/-- HELLO_CONFIRM (R436): the responder holds the association up, and sends the first sealed message at once. -/
def doHelloConfirm (at_ : FleetAt) (d : Dev) : Dev :=
  d.message at_ 3 (fun d m b =>
    let p := d.peer m
    if p.hs ≠ 2 then d.fleetDiscard m
    else if b ≠ confirmTag p.newKeys p.th then (d.fleetDiscard m).hsFail m
    else
      let d := d.assocUp m false
      d.fleetSend m 0x10 d.heartbeat)

/-- NUDGE (R434, R437): answered with HELLO_INIT, at most once per second for a member. -/
def doNudge (at_ : FleetAt) (d : Dev) : Dev :=
  d.message at_ 4 (fun d m _ =>
    let soon : Bool := match (d.peer m).nudgeClk with
      | some c => decide (d.tim.clk < c + sec 1)
      | none => false
    if m ≤ d.fleet.member ∨ d.assoc m = 2 ∨ soon then d
    else (d.updPeer m (fun p => { p with nudgeClk := some d.tim.clk, retry := 1 })).sendHello m)

/-- The members a module associates with (R434): those it shares a service or a line link with, and the KS_CAPABLE
ones; a line link's far end is the member its port expects. -/
def Dev.associates (d : Dev) (m : Nat) : Bool :=
  d.memberValid m && m ≠ d.fleet.member &&
    (d.tf 0xF0 m 0 30 30 = 1 || !(d.shared m).isEmpty ||
      (List.range 32).any (fun p => d.portOpen p && d.get F.ENV_TRAIL_EXP_MEMBER p = m && !d.fMode p))

/-- NUDGE_TIMER (R434): once per second, to each lower-indexed member without an association. -/
def doNudgeTimer (d : Dev) : Dev :=
  if !d.fleetOn then d
  else (List.range d.fleet.member).foldl (fun d m => if d.associates m && d.assoc m ≠ 2 then d.fleetSend m 4 [] else d) d

/-- HELLO_WAIT_TIMEOUT (R437): the wait of 2 s for an answer ends in a failure; a retry interval ends in a HELLO_INIT. -/
def doHelloWaitTimeout (member : Nat) (d : Dev) : Dev :=
  let m := member % 4096
  let p := d.peer m
  if !d.fleetOn ∨ m ≤ d.fleet.member ∨ !d.memberValid m then d
  else if p.hs = 1 ∨ p.hs = 3 then (d.advance (p.hsClk + sec 2)).hsFail m
  else if d.assoc m = 2 then d
  else
    let d := d.advance (p.hsClk + sec p.retry)
    (d.updPeer m (fun p => { p with retry := if p.retry = 0 then 1 else min 32 (2 * p.retry) })).sendHello m

/-- ASSOC_RENEWAL (R437): at 90% of ASSOC_LIFE_H the initiator runs a new handshake. -/
def doAssocRenewal (member : Nat) (d : Dev) : Dev :=
  let m := member % 4096
  let p := d.peer m
  if !d.fleetOn ∨ d.assoc m ≠ 2 ∨ m ≤ d.fleet.member ∨ p.hs ≠ 0 then d
  else (d.advance (p.upClk + sec (d.fleetConst 7 7 0 * 3240))).sendHello m

/-- OLD_KEYS_EXPIRY (R437). -/
def doOldKeysExpiry (member : Nat) (d : Dev) : Dev :=
  let m := member % 4096
  if (d.peer m).old = [] then d
  else (d.advance ((d.peer m).oldClk + sec 60)).updPeer m (fun p => { p with old := [], oldHigh := 0, oldMap := 0 })

/-! Consensus (R453). -/

/-- A change of consensus state is logged and raised (R453). -/
def Dev.setConsensus (d : Dev) (m c : Nat) : Dev :=
  if d.consensus m = c then d else ((d.setTf 0xF8 m 0 28 26 c).fleetLog m c).fwRaise 1

/-- Pieces of a list of at most `n` members. -/
def chunks {α : Type} (n : Nat) : Nat → List α → List (List α)
  | 0, _ => []
  | k + 1, l => if l = [] then [] else l.take n :: chunks n k (l.drop n)

/-- Ask a peer for the digests of every shared service (R454). -/
def Dev.askDigests (d : Dev) (m : Nat) : Dev :=
  let ss := d.shared m
  let d := d.updPeer m (fun p => { p with asked := ss, askClk := d.tim.clk })
  (chunks 1024 16 ss).foldl (fun d l => d.fleetSend m 0x11 (beBytes 2 l.length ++ l.flatMap (beBytes 2))) d

/-- Services gated with a peer, as the status table shows them (R458). -/
def Dev.showGated (d : Dev) (m : Nat) : Dev := d.setTf 0xF8 m 0 23 16 (min 255 (d.peer m).gated.length)

/-- Gate a service with a peer according to GATE (R454): REPORT only records it. -/
def Dev.gate (d : Dev) (m s : Nat) : Dev :=
  let d := (d.updPeer m (fun p => { p with asked := p.asked.erase s })).fleetLog m 0x80
  if d.svcGate s = 0 then d
  else ((d.updPeer m (fun p => { p with gated := SMap.ins p.gated s d.tim.clk })).showGated m).fwRaise 3

/-- Lift a gate (R454). -/
def Dev.ungate (d : Dev) (m s : Nat) : Dev :=
  (d.updPeer m (fun p => { p with asked := p.asked.erase s, gated := p.gated.filter (fun e => e.1 ≠ s) })).showGated m

/-- Is offering keys of a service to a member stopped by a gate (R454)? -/
def Dev.isGated (d : Dev) (m s : Nat) : Bool := (d.peer m).gated.any (fun e => e.1 = s)

/-- The consensus state for a peer whose heartbeat says so (R453). -/
def Dev.judge (d : Dev) (m ver : Nat) (dig mem sched : Bytes) : Nat :=
  let own := d.num R.SAGE_CFG_VERSION
  let p := d.peer m
  let tv : Option Nat :=
    if own < ver then
      (if p.staged.1 = ver then some p.staged.2
       else if d.sage.cs.ver = ver then some d.sage.cs.at_ else none)
    else (if d.fleet.commit.1 = own then some d.fleet.commit.2 else none)
  let skew : Bool := match tv with
    | some t => decide (d.netDist t ≤ 0 ∧ -(d.netDist t) ≤ (sec d.versionGraceS : Int))
    | none => false
  let late : Bool := match p.schedClk with
    | some c => decide (c + sec d.versionGraceS < d.tim.clk)
    | none => false
  if ver ≠ own ∧ skew then 1
  else if ver < own then 2
  else if own < ver then 3
  else if dig ≠ d.fleet.digest ∨ mem ≠ d.entryBytes 0xF1 m 0 12 then 4
  else if sched ≠ d.schedDigest ∧ late then 5
  else 0

/-! The key server (R446). -/

/-- Does (priority, index) rank higher? -/
def ranksAbove (p i q j : Nat) : Bool := decide (q < p) || (p = q && decide (i < j))

/-- The recognised key server changes: IS_KS and the event (R446, R458). -/
def Dev.setKs (d : Dev) (m term prio : Nat) : Dev :=
  let was := d.fleet.ks.map (·.1)
  let d := { d with fleet := { d.fleet with ks := some (m, term, prio, d.tim.clk + sec d.ksLeaseS), term := max d.fleet.term term } }
  let d := match was with
    | some w => if w = d.fleet.member then d else d.setTf 0xF8 w 0 24 24 0
    | none => d
  let d := if m = d.fleet.member then d else d.setTf 0xF8 m 0 24 24 1
  if was = some m then d else d.fwRaise 4

/-- A claim received (R446, R457). -/
def Dev.claimSeen (d : Dev) (m term prio : Nat) : Dev :=
  let take := match d.fleet.ks with
    | some k => d.ksKnown.isNone || decide (k.2.1 < term) || (k.2.1 = term && (k.1 = m || ranksAbove prio m k.2.2.1 k.1))
    | none => true
  let d := { d with fleet := { d.fleet with term := max d.fleet.term term } }
  if take then ({ d with fleet := { d.fleet with claim := false } }).setKs m term prio else d

/-- Take the role with a term (R446): every multipoint service of the module is to be rekeyed. -/
def Dev.takeRole (d : Dev) (term : Nat) : Dev :=
  let ss := ((d.entries 0xF3).map (·.1)).filter (fun s => d.tf 0xF3 s 0 31 31 = 1 && d.svcMode s ≠ 0 && d.mpiMember (d.svcMpi s) d.fleet.member)
  ({ d with fleet := { d.fleet with claim := true, rekey := ss } }).setKs d.fleet.member term d.ownPriority

/-- HEARTBEAT (R446, R453, R454). -/
def doHeartbeat (at_ : FleetAt) (d : Dev) : Dev :=
  d.message at_ 0x10 (fun d m b =>
    if b.length ≠ 184 then d
    else
      let ver := numAt b 0 4
      let dig := slice b 4 48
      let sched := slice b 100 48
      let flags := numAt b 151 1
      let p := d.peer m
      let d := d.setPeer m
        { p with staged := if numAt b 172 4 = 0 then p.staged else (numAt b 172 4, numAt b 176 2 * 2 ^ 32 + numAt b 180 4),
                 schedClk := if sched = d.schedDigest then none else some (p.schedClk.getD d.tim.clk),
                 capClk := if bit flags 7 then some (p.capClk.getD d.tim.clk) else none }
      let d := (d.setTf 0xF8 m 0 25 25 (nbits (numAt b 150 1) 7 7)).setTf 0xF8 m 1 31 0 ver
      let d := (bytesToWords dig).zipIdx.foldl (fun d w => d.setTf 0xF8 m (2 + w.2) 31 0 w.1) d
      let d := if bit flags 6 then d.claimSeen m (numAt b 164 4) (numAt b 170 1) else d
      let was := d.consensus m
      let c := d.judge m ver dig (slice b 52 48) sched
      let d := d.setConsensus m c
      if c ≠ was ∧ 2 ≤ c ∧ c ≤ 4 then d.askDigests m
      else if c = 0 then ((d.peer m).gated.map (·.1)).foldl (fun d s => d.ungate m s) d
      else d)

/-- DIGEST_REQ (R433, R454). -/
def doDigestReq (at_ : FleetAt) (d : Dev) : Dev :=
  d.message at_ 0x11 (fun d m b =>
    let n := numAt b 0 2
    if 1024 < n ∨ b.length ≠ 2 + 2 * n then d
    else (chunks 300 4 ((List.range n).map (fun k => numAt b (2 + 2 * k) 2))).foldl (fun d l =>
      d.fleetSend m 0x12 (beBytes 2 l.length ++ l.flatMap (fun s => beBytes 2 s ++ d.svcDigest s))) d)

/-- DIGEST_RESP (R454). -/
def doDigestResp (at_ : FleetAt) (d : Dev) : Dev :=
  d.message at_ 0x12 (fun d m b =>
    let n := numAt b 0 2
    if 300 < n ∨ b.length ≠ 2 + 50 * n then d
    else (List.range n).foldl (fun d k =>
      let s := numAt b (2 + 50 * k) 2
      if !d.shares s m then d
      else if slice b (4 + 50 * k) 48 = d.svcDigest s then d.ungate m s
      else if d.isGated m s then d.updPeer m (fun p => { p with asked := p.asked.erase s }) else d.gate m s) d)

/-- DIGEST_RESP_TIMEOUT (R454): services without an answer within 2 s are gated. -/
def doDigestRespTimeout (member : Nat) (d : Dev) : Dev :=
  let m := member % 4096
  let p := d.peer m
  if !d.fleetOn ∨ p.asked = [] then d
  else p.asked.foldl (fun d s => if d.isGated m s then d.updPeer m (fun q => { q with asked := q.asked.erase s }) else d.gate m s)
    (d.advance (p.askClk + sec 2))

/-- GATE_GRACE_EXPIRY (R454): under STOP, the transmit entries of the service towards the peer are zeroized. -/
def doGateGraceExpiry (member service : Nat) (d : Dev) : Dev :=
  let m := member % 4096
  let s := service % 16384
  if !d.fleetOn ∨ !d.isGated m s ∨ d.svcGate s ≠ 2 then d
  else
    let d := d.advance (SMap.get 0 (d.peer m).gated s + sec (d.fleetConst 7 23 12))
    (d.fleet.chans.filter (fun c => c.member = m && c.svc = s && (c.role = 2 || c.role = 3 || c.role = 5))).foldl (fun d c =>
      (d.satNow c.slice 7 0 c.entry).1) d

/-- Drop an offer. -/
def Dev.dropOffer (d : Dev) (o : Offer) : Dev :=
  { d with fleet := { d.fleet with offers := d.fleet.offers.filter (fun x => !(x.member = o.member && x.id = o.id)) } }

/-- An offer fails (R443): KEY_CANCEL, and the KEY_SWITCH entry of a timed change is aborted. -/
def Dev.offerFail (d : Dev) (o : Offer) : Dev :=
  let d := (d.dropOffer o).fleetSend o.member 0x22 (beBytes 4 o.id)
  match o.ticket with
  | some t => (d.thyDrop t).1
  | none => d

/-- PEER_LOST (R448, R457): no message for PEER_LOST_S; offers still unanswered fail. -/
def doPeerLost (member : Nat) (d : Dev) : Dev :=
  let m := member % 4096
  if !d.fleetOn ∨ d.assoc m ≠ 2 then d
  else
    let d := d.advance ((d.peer m).lastClk + sec d.peerLostS)
    let d := (d.fleet.offers.filter (fun o => o.member = m && !o.acked)).foldl Dev.offerFail d
    let p := d.peer m
    let d := d.setPeer m { p with keys := [], old := [], newKeys := [], hs := 0, hsClk := d.tim.clk, retry := 0, asked := [], capClk := none }
    let d := { d with fleet := { d.fleet with offers := d.fleet.offers.filter (fun o => o.member ≠ m) } }
    let d := ((d.setTf 0xF8 m 0 31 29 3).setTf 0xF8 m 0 24 24 0).setConsensus m 6
    let d := (List.range 8).foldl (fun d s => doLrnFlush s (2 ^ 31 + 2 ^ 28 + m * 2 ^ 10) d) d
    (d.fleetLog m 6).fwRaise 2

/-- KS_LEASE_EXPIRY (R446): no claim for KS_LEASE_S; the top-ranked capable member among itself and its live peers claims. -/
def doKsLeaseExpiry (d : Dev) : Dev :=
  if !d.fleetOn ∨ d.fleet.claim then d
  else
    let d := d.advance (match d.fleet.ks with | some k => k.2.2.2 | none => d.fleet.ksSince + sec d.ksLeaseS)
    let d := match d.fleet.ks with
      | some x => if x.1 = d.fleet.member then d else d.setTf 0xF8 x.1 0 24 24 0
      | none => d
    let d := { d with fleet := { d.fleet with ks := none, ksSince := d.tim.clk } }
    let rivals := d.peersUp.filter (fun m => (d.peer m).capClk.isSome)
    let first := rivals.all (fun m => ranksAbove d.ownPriority d.fleet.member (d.tf 0xF0 m 0 7 0) m)
    if d.ksCapable && first then d.takeRole (d.fleet.term + 1) else d

/-- KS_HOLDOFF_MET (R446): a higher-ranked member has been capable for KS_HOLDOFF_S; with no group offer pending, the
holder hands over. -/
def doKsHoldoffMet (member : Nat) (d : Dev) : Dev :=
  let m := member % 4096
  match (d.peer m).capClk with
  | some c =>
    if !d.fleetOn ∨ !d.fleet.claim ∨ d.assoc m ≠ 2 ∨ !ranksAbove (d.tf 0xF0 m 0 7 0) m d.ownPriority d.fleet.member then d
    else if d.fleet.offers.any (fun o => o.role = 5) then d
    else
      let d := d.advance (c + sec (d.fleetConst 3 15 0))
      let d := d.fleetSend m 0x30 (beBytes 4 (d.fleet.term + 1))
      { d with fleet := { d.fleet with claim := false, rekey := [] } }
  | none => d

/-- KS_HANDOVER (R446): the successor claims with the term given. -/
def doKsHandover (at_ : FleetAt) (d : Dev) : Dev :=
  d.message at_ 0x30 (fun d m b =>
    if d.ksCapable ∧ d.ksKnown = some m ∧ d.fleet.term < numAt b 0 4 then d.takeRole (numAt b 0 4) else d)

/-- REKEY_REQ (R445, R457): ignored unless this module is the key server and no change for the service is pending. -/
def doRekeyReq (at_ : FleetAt) (d : Dev) : Dev :=
  d.message at_ 0x24 (fun d _ b =>
    let s := numAt b 0 2 % 16384
    if !d.fleet.claim ∨ d.svcMode s = 0 ∨ d.fleet.offers.any (fun o => o.role = 5 && o.svc = s) ∨ d.fleet.rekey.contains s then d
    else { d with fleet := { d.fleet with rekey := d.fleet.rekey ++ [s] } })

/-- Start fleet keying where the checks of R426 hold, and the lifecycle state allows it (R558). -/
def Dev.fleetStart (d : Dev) : Dev :=
  let m := d.fleet.member
  let ok := d.memberValid m && d.tw 0xF0 m 1 = d.fuse.serial / 2 ^ 32 && d.tw 0xF0 m 2 = d.fuse.serial % 2 ^ 32 &&
    d.entryBytes 0xF0 m 3 15 == d.ownIdh && d.tw 0xF5 0 0 = d.fleet.domain
  if d.fuse.lcs ≠ 1 ∧ d.fuse.lcs ≠ 2 then d
  else if ok then { d with fleet := { d.fleet with on := true, ksSince := d.tim.clk } }
  else (d.fleetLog m 0xFF).fwRaise 0

end Sys2Proof.Machine
end

