-- ==== Sys2Proof/Machine/Down.lean ====
section
/-! DEFINITION. What a reset takes away (R20, R44, R503-R513): the units of a half, the client shell and a Sage core, and
the assertion of a power-on, system, domain or core reset. -/

namespace Sys2Proof.Machine

/-! Units (R44, R507). -/

/-- Is a mask generator one of half `h` (R469)? -/
def genOfHalf (h g : Nat) : Bool :=
  (if g < 128 then g / 64 else if g < 240 then (g - 128) / 56 else (g - 240) / 72) = h

/-- The requests that the generators, slices and bays of a half have made of Mint are withdrawn (R472). -/
def Dev.withdrawHalf (d : Dev) (h : Nat) : Dev :=
  d.mintWithdraw fun r => match r.kind with
    | 0 => genOfHalf h r.idx
    | 1 => decide (r.idx / 4 = h)
    | 2 => decide (r.idx / 2 = h)
    | _ => false

/-- A slice loses its keys, its frames and its running command (R44, R491). -/
def Dev.sliceDown (d : Dev) (s : Nat) : Dev :=
  let d := (d.engineDrop s).satErase s
  let l := d.sl s
  let d := match l.cmd with
    | some c => d.satEnd s c.op 14 c.ticket 0
    | none => d
  let d := d.setSl s { d.sl s with words := [], mask := [], fifo := [] }
  let d := (d.set F.SAT_STATUS_READY 0 s).set F.SAT_STATUS_KEY_WORDS 0 s
  { d with lrn := { d.lrn with queue := SMap.set [] d.lrn.queue s [], sweepClk := SMap.set none d.lrn.sweepClk s none },
           cip := { d.cip with kat := SMap.set none (SMap.set none d.cip.kat s none) (s + 8) none } }.set F.CIP_STATUS_KAT_BUSY 0 s

/-- A line port stops with its half: its keys, its framing and what waits in it (R44, R273). -/
def Dev.linePortDown (d : Dev) (p : Nat) : Dev :=
  let d := (d.envTamper p).flushPort p
  let e := d.ep p
  let d := d.setEp p { ticket := e.ticket, done := e.done }
  ({ d with env := { d.env with be := SMap.set [] d.env.be p [] } }).set F.ENV_STATUS_ALIGN 0 p

/-- A client front end stops: its tables are empty until FE_RESYNC (R80), and the frames it holds are discarded. -/
def Dev.feDown (d : Dev) (n : Nat) : Dev :=
  let lost := SMap.get [] d.fe.hold n
  let d := { d with fe := { d.fe with hold := SMap.set [] d.fe.hold n [], bad := d.fe.bad.filter (fun b => b.1 ≠ n) } }
  let d := d.dropEntries (fun sel _ => sel / 2 ^ 16 = n && 0x10 ≤ sel % 2 ^ 16 && sel % 2 ^ 16 ≤ 0x14)
  let d := (d.set F.FE_STATUS_RUNNING 0 n).set F.FE_STATUS_IN_SYNC 0 n
  ((d.set F.FE_STATUS_RESYNC_BUSY 0 n).set F.FE_STATUS_STAGE_BUSY 0 n).flushed lost.length

/-- A bay stops with its half (R339). -/
def Dev.bayDown (d : Dev) (b : Nat) : Dev :=
  let d := ((d.bayErase b).set F.BAY_STATUS_TRAINING 0 b).set F.BAY_STATUS_FAILED 0 b
  { d with bay := { d.bay with patrolClk := SMap.set none d.bay.patrolClk b none } }

/-- The counters of a unit in reset: their values go to zero, their entries stay (R570). -/
def Dev.unitsDown (d : Dev) (p : Nat → Bool) : Dev :=
  { d with mon := { d.mon with cnt := d.mon.cnt.map (fun e =>
      if p (e.1 / 16) then (e.1, { e.2 with value := 0, restarted := true }) else e) } }

/-- The counter units whose hardware lies in half `h` (R567). -/
def unitOfHalf (h u : Nat) : Bool :=
  (decide (u < 8) && u % 4 / 2 = h) || (decide (8 ≤ u) && decide (u < 16) && (u - 8) / 4 = h) ||
    (decide (19 ≤ u) && decide (u < 23) && (u - 19) / 2 = h) || u = 23 + h

/-- Half `h` loses what a reset of its domain clears (R20, R80, R312, R339, R362, R507); its registers and the tables that
configure its queues, streams and learning keep their contents (log entry 21). -/
def Dev.halfDown (d : Dev) (h : Nat) : Dev :=
  let d := (d.mrg.held.filter (fun c => c.f.slice / 4 = h)).foldl Dev.holdLost d
  let d := (List.range 4).foldl (fun d k => d.sliceDown (h * 4 + k)) d
  let d := (List.range 16).foldl (fun d k => d.linePortDown (h * 16 + k)) d
  let d := (List.range 2).foldl (fun d k => (d.feDown (h * 2 + k)).bayDown (h * 2 + k)) d
  let d := { d with cip := { d.cip with gen := d.cip.gen.filter (fun e => !genOfHalf h e.1) } }
  ((((d.withdrawHalf h).lanesDown h).maskShow).engineShow).unitsDown (unitOfHalf h)

/-- Lanes of the client side squelch with the client shell (R508). -/
def Dev.clientLanesDown (d : Dev) : Dev :=
  let d := (List.range 32).foldl (fun d p => (d.unalign false p false).set (pfTx false) 0 p) d
  (List.range 32).foldl (fun d l => (d.set F.LANE_STATUS_PLL_LOCK 0 l).set F.LANE_STATUS_TX_ACTIVE 0 l) d

/-- The client shell loses its state: the merge and sequence-generator pairs are idle without sequence state, and the
client egress is empty (R44, R507). -/
def Dev.shellDown (d : Dev) : Dev :=
  let d := d.mrg.held.foldl Dev.holdLost d
  let n := (d.sch.egr.map (fun e => e.2.length)).foldl (· + ·) 0
  let d := { d with sch := { d.sch with egr := [], egrNode := [] },
                    mrg := { d.mrg with stream := [], held := [], run := 0, lastClk := 0, lastMsn := 0 } }
  let d := (d.dropEntries (fun sel _ => sel = 0xC1)).set F.MRG_STATUS_CMD_BUSY 0
  ((d.clientLanesDown).flushed n).unitsDown (· = 18)

/-! Domains (R503, R508, R512). -/

def Dev.dom (d : Dev) (k : Nat) : DomSt := SMap.get {} d.rst.dom k

def Dev.setDom (d : Dev) (k : Nat) (x : DomSt) : Dev := { d with rst := { d.rst with dom := SMap.set {} d.rst.dom k x } }

/-- What RST_DOMAIN_STATUS shows of a domain: with several causes a clock comes first, then a rail, then a mute
(R530, R531). -/
def Dev.domCode (d : Dev) (k : Nat) : Nat :=
  let c := (d.dom k).causes
  if d.rst.step < 6 ∨ (2 < k ∧ d.rst.step < 8) then 1
  else if c = 0 then 0 else if bit c 0 then 2 else if bit c 1 then 3 else if bit c 2 then 4 else if bit c 5 then 5 else 1

/-- RST_DOMAIN_STATUS follows the domains. -/
def Dev.domShow (d : Dev) : Dev :=
  let d := ((d.set F.RST_DOMAIN_STATUS_HALF_A (d.domCode 0)).set F.RST_DOMAIN_STATUS_HALF_B (d.domCode 1)).set
    F.RST_DOMAIN_STATUS_SHELL (d.domCode 2)
  (d.set F.RST_DOMAIN_STATUS_CORE_A (d.domCode 3)).set F.RST_DOMAIN_STATUS_CORE_B (d.domCode 4)

/-- The place of a domain in RST_CNT_DOMAIN (R531): shell, half A, half B, cores. -/
def domCounter (k : Nat) : Nat := if k = 2 then 0 else if k = 0 then 1 else if k = 1 then 2 else 3

/-- Cause `c` holds domain `k` (0 half A, 1 half B, 2 client shell) in reset; a domain already held only gains the cause, and
its zeroization is to start again (R508, R511, R512). -/
def Dev.domAssert (d : Dev) (k c : Nat) : Dev :=
  let x := d.dom k
  let was := x.causes % 32
  let d := if bit x.causes 5 then (d.set F.RST_ZERO_STATUS_RESTARTED 1).raise E.RST_ZERO_RESTARTED else d
  let d := d.setDom k { x with causes := if bit was c then was else was + 2 ^ c, endClk := d.tim.clk }
  let d := if x.causes ≠ 0 then d
    else ((if k = 2 then d.shellDown else d.halfDown k).bump R.RST_CNT_DOMAIN (domCounter k)).raise E.RST_DOMAIN_RESET
  d.domShow

/-- Cause `c` no longer holds domain `k`; with the last one the domain's zeroization begins (R512). -/
def Dev.domCauseEnd (d : Dev) (k c : Nat) : Dev :=
  let x := d.dom k
  let left := x.causes - 2 ^ c
  (if bit x.causes c then d.setDom k { x with causes := if left = 0 then 32 else left, endClk := d.tim.clk } else d).domShow

/-- The 512 KiB and more that hold keys of a core: its private memory is erased; it restarts from firmware memory and
returns as standby (R398, R513).  The lease of the other core is not touched, and the reset core's own runs out (R421). -/
def Dev.coreReset (d : Dev) (c : Nat) : Dev :=
  let st := if c = 0 then F.SAGE_A_STATE_STATE else F.SAGE_B_STATE_STATE
  let n := if c = 0 then F.SAGE_A_STATE_RESETS else F.SAGE_B_STATE_RESETS
  let hl := if c = 0 then F.SAGE_A_STATE_HEALTHY else F.SAGE_B_STATE_HEALTHY
  let el := if c = 0 then F.SAGE_STATUS_A_ELIGIBLE else F.SAGE_STATUS_B_ELIGIBLE
  let d := ((d.set st 0).set hl 0).set n (min 0xFFFF (d.get n + 1))
  let d := if d.get F.SAGE_STATUS_HOLDER = c + 1 then { d with sage := { d.sage with lapsed := SMap.set false d.sage.lapsed c true } } else d
  let d := { d with sage := { d.sage with alive := SMap.set none d.sage.alive c none, out := SMap.set false d.sage.out c true,
                                          kick := SMap.set 0 d.sage.kick c d.tim.clk,
                                          eligClk := if c = 0 then none else d.sage.eligClk } }
  let x := d.dom (3 + c)
  let d := (d.set el 0).setDom (3 + c) { x with causes := 8, swUntil := d.tim.clk + us 1, endClk := d.tim.clk }
  ((d.bump R.RST_CNT_DOMAIN 3).raise E.RST_CORE_RESET).domShow

/-! Power-on and system resets (R504-R508). -/

/-- Does a register lie in the always-on island? -/
def alwaysOn (a : Nat) : Bool :=
  alwaysOnRegs.any fun r => (List.range r.n1).any fun i => r.addr i 0 = a

/-- Record a source of a power-on or system reset (R506): while the reset lasts SEEN gathers the sources, and PRIMARY is
the lowest of the cycle of assertion. -/
def Dev.rstCause (d : Dev) (src : Nat) (fresh : Bool) : Dev :=
  let d := d.bump R.RST_CNT src
  if fresh then
    let hist := d.num R.RST_CAUSE_HIST * 16 % 2 ^ 32 + d.get F.RST_CAUSE_PRIMARY
    ((d.putNum R.RST_CAUSE_HIST hist).set F.RST_CAUSE_SEEN (2 ^ src)).set F.RST_CAUSE_PRIMARY src
  else
    let d := d.set F.RST_CAUSE_SEEN (d.get F.RST_CAUSE_SEEN ||| 2 ^ src)
    if d.tim.clk = d.rst.atClk then d.set F.RST_CAUSE_PRIMARY (min src (d.get F.RST_CAUSE_PRIMARY)) else d

/-- Rosemary after a system reset: flash and the token bucket stay, records not durable are lost, and the writer goes on
from the highest durable LSEQ (R496, R498, R507). -/
def rsmAfter (r : RsmSt) : RsmSt :=
  { lseq := r.durable, durable := r.durable, last := (r.general.getLast?).getD [], general := r.general, kept := r.kept,
    segPages := r.segPages, segNo := r.segNo, level := r.level, levelClk := r.levelClk, flashOk := r.flashOk, boots := r.boots }

/-- Every domain but the always-on island is in reset (R504, R507): each register and table is at its reset value. -/
def Dev.allDown (d : Dev) (step : Nat) : Dev :=
  { regs := d.regs.filter (fun e => alwaysOn e.1),
    tim := { clk := d.tim.clk },
    tamp := { light := d.tamp.light, env := d.tamp.env, hold := d.tamp.hold, disagree := d.tamp.disagree },
    rsm := rsmAfter d.rsm,
    rst := { step := step, atClk := d.rst.atClk, endClk := d.tim.clk, zeroDead := d.rst.zeroDead,
             zeroBusy := d.rst.zeroBusy },
    pwr := { up := d.pwr.up, vin := d.pwr.vin, vaux := d.pwr.vaux, fault := d.pwr.fault },
    fuse := d.fuse,
    flash := { size0 := d.flash.size0, size1 := d.flash.size1, recs := d.flash.recs, slot := d.flash.slot, jrnl := d.flash.jrnl, wear := d.flash.wear },
    out := d.out, free := d.free }

/-- A system reset by source `src` (R505-R508); `rails` says that it takes the rails down too, `anew` that it ends a class 3
hold, which is no system reset of its own (R506, R514).  After a zeroization that
failed twice only a power cycle releases the module (R511). -/
def Dev.sysReset (d : Dev) (src : Nat) (rails : Bool := false) (anew : Bool := false) : Dev :=
  let fresh := anew || decide (6 ≤ d.rst.step)
  let zero := d.rst.zeroBusy || (!fresh && decide (d.rst.step = 4))
  let d := if fresh then { d with rst := { d.rst with atClk := d.tim.clk } } else d
  let d := if rails then { d with pwr := { d.pwr with up := false } } else d
  let d := (d.allDown (if d.pwr.up then 2 else 1)).rstCause src fresh
  { d with rst := { d.rst with zeroBusy := zero } }

/-- The hold of a class 3 response (R505, R514): every domain is in reset, the rails stay up, and RST_CNT counts it. -/
def Dev.holdReset (d : Dev) : Dev := (d.allDown (if d.pwr.up then 2 else 1)).bump R.RST_CNT 13

end Sys2Proof.Machine
end

