-- ==== Sys2Proof/Machine/Evt.lean ====
section
/-! DEFINITION. The event arbiter (R478-R483): ordering, the latches, the event FIFO, the pins and the records of the log
that an ordered occurrence leaves. -/

namespace Sys2Proof.Machine

/-! Sources (R479, R489). -/

/-- Is a source an alarm source (R479)? -/
def isAlarm (src : Nat) : Bool := bit (alarmMask (src / 32)) (src % 32)

/-- Does a source exist (R479)? -/
def sourceExists (src : Nat) : Bool :=
  decide (src ≤ 24) || (32 ≤ src && src < 352) || (352 ≤ src && src < 364) || (384 ≤ src && src < 406) || (416 ≤ src && src < 424)

/-- The response class of an alarm source (R489). -/
def Dev.alarmClass (d : Dev) (src : Nat) : Nat :=
  if src = 7 then d.get F.TAMP_CLASS_MISC_MINT_FATAL
  else if src = 15 then d.get F.TAMP_CLASS_MISC_FENCE
  else if src < 32 then d.get F.TAMP_CLASS_MISC_TAG_FAIL
  else if src < 352 then d.get F.TAMP_REG_CTRL_CLASS ((src - 256) / 8)
  else if src < 384 then d.get F.TAMP_CLASS_MISC_DET_FAULT
  else if src < 400 then nbits (d.get F.TAMP_CLASS_ENV_LO_CLASS) (2 * (src - 384) + 1) (2 * (src - 384))
  else nbits (d.get F.TAMP_CLASS_ENV_HI_CLASS) (2 * (src - 400) + 1) (2 * (src - 400))

/-- The scope of a tamper region (R484): 0 half A, 1 half B, 2 module. -/
def regionScope (r : Nat) : Nat := if r < 5 then 0 else if r < 10 then 1 else 2

/-- The scope of an alarm source (R484, R488, R489); a bay's tag failure has the scope of its half (log entry 22). -/
def alarmScope (src : Nat) : Nat :=
  if src < 20 then 2
  else if src < 24 then (src - 20) / 2
  else if src < 352 then regionScope ((src - 256) / 8)
  else if src < 384 then regionScope (src - 352)
  else if src = 388 ∨ src = 392 ∨ src = 396 then 0
  else if src = 389 ∨ src = 393 ∨ src = 397 then 1
  else 2

/-- The detector states of a TAMPER record (R495): those of the source's region. -/
def Dev.detStates (d : Dev) (src : Nat) : Nat :=
  if 256 ≤ src ∧ src < 352 then SMap.get 0 d.tamp.light ((src - 256) / 8)
  else if 352 ≤ src ∧ src < 364 then SMap.get 0 d.tamp.light (src - 352)
  else 0

/-- The scopes muted now: bit 0 half A, bit 1 half B, bit 2 client shell. -/
def Dev.muted (d : Dev) : Nat :=
  d.get F.TAMP_STATUS_MUTE_A + d.get F.TAMP_STATUS_MUTE_B * 2 + d.get F.TAMP_STATUS_MUTE_SHELL * 4

/-! Pins (R45, R482). -/

/-- The groups that hold a latched bit enabled in a register (R500). -/
def Dev.groupsOn (d : Dev) (en : Reg) : Nat :=
  (List.range 48).foldl (fun n g => if d.num R.EVT_GRP_LATCH g &&& d.num en g ≠ 0 then n + 2 ^ g else n) 0

/-- ALARM_N is held low by the always-on island (R482, R514, R515). -/
def Dev.alarmForced (d : Dev) : Bool := d.on F.TAMP_STATUS_HALTED || d.tamp.hold || d.rst.zeroDead

/-- The summaries and the pins follow the latches (R482); in a takeover gap the pins keep their levels, but for a response
of class 2 or 3 (R395). -/
def Dev.pins (d : Dev) : Dev :=
  let irq := d.groupsOn R.EVT_GRP_IRQ_EN
  let alarm := d.groupsOn R.EVT_GRP_ALARM_EN
  let d := (d.putNum R.EVT_IRQ_SUM_LO (irq % 2 ^ 32)).putNum R.EVT_IRQ_SUM_HI (irq / 2 ^ 32)
  let d := (d.putNum R.EVT_ALARM_SUM_LO (alarm % 2 ^ 32)).putNum R.EVT_ALARM_SUM_HI (alarm / 2 ^ 32)
  if d.alarmForced then
    let d := d.set F.EVT_STATUS_ALARM 1
    if d.gap then d else d.flag F.EVT_STATUS_IRQ (d.rst.pinsOn && decide (irq ≠ 0))
  else if d.gap && !d.rst.noImage then d
  else
    (d.flag F.EVT_STATUS_IRQ (d.rst.pinsOn && decide (irq ≠ 0))).flag F.EVT_STATUS_ALARM
      (d.rst.pinsOn && (decide (alarm ≠ 0) || decide (d.muted ≠ 0) || d.rst.noImage))

/-! Ordering (R480-R483). -/

/-- An ordered occurrence enters the event FIFO (R483). -/
def Dev.fifoPut (d : Dev) (q : Nat) (o : Occ) : Dev :=
  if 1024 ≤ d.evt.fifo.length then
    (({ d with evt := { d.evt with lost := true } }).bump R.EVT_CNT_FIFO_DROP).raise E.EVT_FIFO_OVF
  else
    let r : EvtRec := { seq := q, net := o.net, src := o.src, bit := o.bit, forced := o.forced }
    ({ d with evt := { d.evt with fifo := d.evt.fifo ++ [r] } }).set F.EVT_FIFO_LEVEL_LEVEL (d.evt.fifo.length + 1)

/-- The last record appended is the copy of a sticky setting (R493). -/
def Dev.copyLast (d : Dev) : Dev := { d with tamp := { d.tamp with copies := d.tamp.copies ++ [d.rsm.lseq] } }

/-- The records of the log that an ordered occurrence leaves (R495, R499). -/
def Dev.orderLog (d : Dev) (q : Nat) (o : Occ) : Dev :=
  let flags := b2n o.forced * 128
  let src := o.bit * 2048 + o.src
  if isAlarm o.src then
    let cls := if o.took = 0 then d.alarmClass o.src else o.took - 1
    let d := d.rsmPut 0x10 flags q src o.net [BitVec.ofNat 8 cls, BitVec.ofNat 8 (alarmScope o.src), BitVec.ofNat 8 (d.detStates o.src)]
    let d := if o.forced then d else d.copyLast
    if o.acted then
      (d.rsmPut 0x11 0 q src o.net ([BitVec.ofNat 8 cls, BitVec.ofNat 8 d.muted, 0, 0] ++ beBytes 4 q)).copyLast
    else d
  else if bit (d.num R.EVT_GRP_LOG_EN (o.src / 32)) (o.src % 32) then
    d.rsmPut 0x01 flags q src o.net (beBytes 4 o.status)
  else d

/-- One occurrence takes the next sequence number (R480, R482, R483). -/
def Dev.orderOne (d : Dev) (o : Occ) : Dev :=
  let q := (d.num R.EVT_SEQ + 1) % 2 ^ 32
  let g := o.src / 32
  let b := o.src % 32
  let d := ((d.putNum R.EVT_SEQ q).count 28 0x58 {}).setBit R.EVT_GRP_LATCH b g
  let en := bit (d.num R.EVT_GRP_IRQ_EN g) b || bit (d.num R.EVT_GRP_ALARM_EN g) b || bit (d.num R.EVT_GRP_LOG_EN g) b
  let d := if en && d.on F.EVT_CTRL_FIFO_EN then d.fifoPut q o else d
  d.orderLog q o

/-- The place of an occurrence among those of its cycle (R480). -/
def Occ.rank (o : Occ) : Nat := o.kind * 2 ^ 20 + o.src * 32 + o.bit

/-- An occurrence at its place in an ordered list, after those of equal rank. -/
def insOcc (o : Occ) : List Occ → List Occ
  | [] => [o]
  | x :: xs => if o.rank < x.rank then o :: x :: xs else x :: insOcc o xs

/-- EVENT_ORDERING (R480-R483): the occurrences of the earliest cycle not yet ordered, 2 cycles after it. -/
def doEventOrdering (d : Dev) : Dev :=
  match d.evt.occ with
  | [] => d
  | o :: os =>
    let c := os.foldl (fun c x => min c x.clk) o.clk
    let now := (d.evt.occ.filter (fun x => x.clk = c)).foldl (fun l x => insOcc x l) []
    let d := ({ d with evt := { d.evt with occ := d.evt.occ.filter (fun x => x.clk ≠ c) } }).advance (c + 2)
    now.foldl Dev.orderOne d

/-! Registers (R483, R499, R500). -/

/-- A read of EVT_FIFO_INFO (R483): the record, removed; its sequence and time are latched. -/
def Dev.evtFifoRead (d : Dev) : Dev × Nat :=
  match d.evt.fifo with
  | [] => (d, 0)
  | r :: rest =>
    let d' := ({ d with evt := { d.evt with fifo := rest, lost := false } }).set F.EVT_FIFO_LEVEL_LEVEL rest.length
    let d' := ((d'.putNum R.EVT_FIFO_SEQ r.seq).putNum R.EVT_FIFO_WRAP (r.net / 2 ^ 32)).putNum R.EVT_FIFO_NS (r.net % 2 ^ 32)
    (d', 2 ^ 31 + b2n d.evt.lost * 2 ^ 30 + b2n r.forced * 2 ^ 29 + r.src * 2 ^ 16 + r.bit * 2 ^ 11)

/-- EVT_FIFO_READ (R483). -/
def doEvtFifoRead (d : Dev) : Dev :=
  let (d, w) := d.evtFifoRead
  d.answer w

/-- EVT_SW_RAISE (R479, R500): a firmware source, raised by the active Sage core alone. -/
def doEvtSwRaise (b : Nat) (m : Master) (d : Dev) : Dev :=
  if !d.isActive m then d.violate m (R.EVT_SW_RAISE.addr 0 0) true
  else if 8 ≤ b % 32 then d
  else d.fwRaise (b % 32)

/-- Who may write EVT_FORCE (R500): in FACTORY and FIELD_RETURN, principals 0 and 1 and the Sage cores. -/
def Dev.forceMay (d : Dev) (m : Master) : Bool :=
  (d.fuse.lcs = 0 || d.fuse.lcs = 3) &&
    (match d.principal m with
     | some p => decide (p ≤ 1)
     | none => m == .sageA || m == .sageB)

/-- EVT_FORCE (R499, R500): an occurrence without response; a reserved source never occurs. -/
def doEvtForce (source evBit : Nat) (m : Master) (d : Dev) : Dev :=
  if !d.forceMay m then d.violate m (R.EVT_FORCE.addr 0 0) true
  else
    let src := source % 2048
    if sourceExists src then (d.occur 1 src (evBit % 32) 0 true).bump R.EVT_CNT_FORCED else d

end Sys2Proof.Machine
end

