-- ==== Sys2Proof/Machine/Tamp.lean ====
section
/-! DEFINITION. Tamper and environment monitors, their responses, the mutes and the sticky flags (R484-R493). -/

namespace Sys2Proof.Machine

/-! Sticky flags (R493). -/

/-- The sticky flag of an alarm source is set; its copy in Rosemary is pending (R493). -/
def Dev.stick (d : Dev) (src : Nat) : Dev :=
  let d := d.set F.TAMP_STATUS_COPY_PENDING 1
  if src = 7 then d.set F.TAMP_STICKY_MISC_MINT_FATAL 1
  else if src = 15 then d.set F.TAMP_STICKY_MISC_FENCE 1
  else if src < 32 then d.setBit R.TAMP_STICKY_MISC (5 + (src - 20))
  else if src < 352 then d.setBit R.TAMP_REG_STICKY ((src - 256) % 8) ((src - 256) / 8)
  else if src < 384 then d.setBit R.TAMP_REG_STICKY 8 (src - 352)
  else d.setBit R.TAMP_STICKY_ENV (src - 384)

/-- Is any sticky flag set? -/
def Dev.anySticky (d : Dev) : Bool :=
  d.num R.TAMP_STICKY_ENV ≠ 0 || d.num R.TAMP_STICKY_MISC ≠ 0 || (List.range 12).any (fun r => d.num R.TAMP_REG_STICKY r ≠ 0)

/-! Responses (R489-R492). -/

/-- The field of TAMP_STATUS of scope 0 half A, 1 half B, 2 client shell. -/
def muteF (k : Nat) : Fld :=
  if k = 0 then F.TAMP_STATUS_MUTE_A else if k = 1 then F.TAMP_STATUS_MUTE_B else F.TAMP_STATUS_MUTE_SHELL

/-- The sources that muted a scope, and the clock at which one was last seen tripped. -/
def Dev.muters (d : Dev) (k : Nat) : List Nat := if k = 0 then d.tamp.muteA else if k = 1 then d.tamp.muteB else d.tamp.muteS

def Dev.clearClk (d : Dev) (k : Nat) : Nat := if k = 0 then d.tamp.clearA else if k = 1 then d.tamp.clearB else d.tamp.clearS

def Dev.setMuters (d : Dev) (k : Nat) (l : List Nat) (clk : Nat) : Dev :=
  if k = 0 then { d with tamp := { d.tamp with muteA := l, clearA := clk } }
  else if k = 1 then { d with tamp := { d.tamp with muteB := l, clearB := clk } }
  else { d with tamp := { d.tamp with muteS := l, clearS := clk } }

/-- One scope is muted by a source (R491): its domain is held in reset. -/
def Dev.muteOne (d : Dev) (src k : Nat) : Dev :=
  let d := ((d.domAssert k 2).set (muteF k) 1).setMuters k [src] d.tim.clk
  if k = 0 then d.set F.TAMP_STICKY_MISC_RESP1_A 1 else if k = 1 then d.set F.TAMP_STICKY_MISC_RESP1_B 1 else d

/-- A class 1 response (R490, R491): every scope named that is not muted already. -/
def Dev.mute (d : Dev) (src scope : Nat) : Dev × Bool :=
  let ks := (if scope = 2 then [0, 1, 2] else [scope]).filter (fun k => !d.on (muteF k))
  if ks.isEmpty then (d, false) else ((ks.foldl (fun d k => d.muteOne src k) d).bump R.RST_CNT 12, true)

/-- The Sage state, fleet keys and mailbox in state and private memory are erased, and the cores restart into the halted
service (R392, R492); a running change set or update ends ABORTED, with a REASON that its register gives no code. -/
def Dev.sageHalt (d : Dev) : Dev :=
  let cs := d.get F.SAGE_CS_STATUS_STATE
  let up := d.get F.NVL_UPD_STATUS_STATE
  let v := d.freeVal
  let d := d.freeNext
  let d := if cs = 1 ∨ cs = 2 ∨ cs = 3 then (d.set F.SAGE_CS_STATUS_STATE 5).set F.SAGE_CS_STATUS_REASON v else d
  let d := if up ≠ 0 ∧ up < 6 then (d.set F.NVL_UPD_STATUS_STATE 7).set F.NVL_UPD_STATUS_REASON v else d
  let d := { d with fleet := { domain := d.fleet.domain, member := d.fleet.member },
                    flash := { d.flash with owner := none, page := [] },
                    sage := { d.sage with mbox := [], cs := {}, fleetSec := [], secrets := [], erased := true } }
  let d := ((d.sessDrop (fun _ => true)).set F.SAGE_MBOX_STATUS_WORDS 0).set F.SAGE_MBOX_STATUS_FULL 0
  (d.set F.SAGE_A_STATE_STATE 4).set F.SAGE_B_STATE_STATE 4

/-- What a response of class 2 erases and stops (R120, R162, R273, R339, R472, R492). -/
def Dev.zeroizeHalt (d : Dev) : Dev :=
  let d := d.mrg.held.foldl Dev.holdLost d
  let d := (List.range 8).foldl Dev.sliceDown d
  let d := (List.range 32).foldl Dev.linePortDown d
  let d := (List.range 4).foldl Dev.bayErase d
  let d := ((d.lanesDown 0).lanesDown 1).mintErase
  let d := (List.range 32).foldl (fun d p => (d.set F.CPORT_CTRL_ENABLE 0 p).set F.LPORT_CTRL_ENABLE 0 p) d
  let d := (d.maskShow).sageHalt
  (d.set F.TAMP_STATUS_HALTED 1).set F.TAMP_STICKY_MISC_RESP2 1

/-- A response of class 2 or 3 (R490, R492); one already in effect is never weakened or repeated. -/
def Dev.halt (d : Dev) (cls : Nat) : Dev × Bool :=
  let first := !d.on F.TAMP_STATUS_HALTED
  let up := decide (cls = 3) && d.tamp.class3.isNone
  let d := if first then d.zeroizeHalt else d
  (if up then { d with tamp := { d.tamp with class3 := some d.tim.clk } } else d, first || up)

/-- The response of an alarm (R489, R490). -/
def Dev.respond (d : Dev) (src : Nat) : Dev × Bool :=
  let cls := d.alarmClass src
  let d := if d.get F.TAMP_RESPONSE_MAX_CLASS < cls then (d.set F.TAMP_RESPONSE_MAX_CLASS cls).set F.TAMP_RESPONSE_SOURCE src else d
  if cls = 0 then (d, false) else if cls = 1 then d.mute src (alarmScope src) else d.halt cls

/-- An alarm that has just occurred takes its response and sets its sticky flag (R489, R493); a forced one does neither
(R499).  The records follow when it is ordered. -/
def Dev.alarmOne (d : Dev) (o : Occ) : Dev × Occ :=
  if !isAlarm o.src || o.forced || o.took ≠ 0 then (d, o)
  else
    let cls := d.alarmClass o.src
    let (d, acted) := (d.stick o.src).respond o.src
    (d, { o with took := cls + 1, acted := acted })

/-- Every alarm not yet acted on takes its response, in the order of their sources (R490, R499). -/
def Dev.alarms (d : Dev) : Dev :=
  let new := d.evt.occ.filter (fun o => isAlarm o.src && !o.forced && o.took = 0)
  if new.isEmpty then d
  else
    let old := d.evt.occ.filter (fun o => !(isAlarm o.src && !o.forced && o.took = 0))
    let d := { d with evt := { d.evt with occ := [] } }
    let x := (new.foldl (fun l o => insOcc o l) []).foldl (fun (x : Dev × List Occ) o =>
      let y := x.1.alarmOne o
      (y.1, x.2 ++ [y.2])) (d, old)
    { x.1 with evt := { x.1.evt with occ := x.2 ++ x.1.evt.occ } }

/-! Detectors (R485, R486). -/

/-- Is a region fused (R1, R487)? -/
def Dev.fused (d : Dev) (r : Nat) : Bool := d.fuse.variantN || bit d.fuse.light r

/-- Do the two designs of a region differ: one has a tripped detector and the other none (R486)? -/
def designsDiffer (l : Nat) : Bool := (l % 16 ≠ 0) != (l / 16 ≠ 0)

/-- The live detectors of a region change: the status, the clock of the disagreement and its end (R485, R486). -/
def Dev.setLight (d : Dev) (r l : Nat) : Dev :=
  let d := { d with tamp := { d.tamp with light := SMap.set 0 d.tamp.light r l } }
  let d := (d.set F.TAMP_REG_STATUS_TRIP l r).set F.TAMP_STATUS_TRIPPED (putNbits (d.get F.TAMP_STATUS_TRIPPED) r r (b2n (l ≠ 0)))
  if designsDiffer l then
    (if (SMap.get none d.tamp.disagree r).isSome then d
     else { d with tamp := { d.tamp with disagree := SMap.set none d.tamp.disagree r (some d.tim.clk) } })
  else
    ({ d with tamp := { d.tamp with disagree := SMap.set none d.tamp.disagree r none,
                                    detFault := putNbits d.tamp.detFault r r 0 } }).set F.TAMP_REG_STATUS_DISAGREE 0 r

/-- Is the control island running, so that its arbiter and monitors act (R509)? -/
def Dev.running (d : Dev) : Bool := decide (6 ≤ d.rst.step)

/-- LIGHT_DETECTOR_TRIP (R485, R489). -/
def doLightDetectorTrip (region det : Nat) (d : Dev) : Dev :=
  let r := region % 12
  let k := det % 8
  let l := SMap.get 0 d.tamp.light r
  if d.fused r || bit l k then d
  else if !d.running then { d with tamp := { d.tamp with light := SMap.set 0 d.tamp.light r (l + 2 ^ k) } }
  else
    let d := ((d.setLight r (l + 2 ^ k)).bump R.TAMP_REG_CNT r).count 29 0x61 {}
    (d.occur 1 (256 + 8 * r + k) 0 0).alarms

/-- DETECTOR_DISAGREE (R486): after DISAGREE_MS without a break. -/
def doDetectorDisagree (region : Nat) (d : Dev) : Dev :=
  let r := region % 12
  match SMap.get none d.tamp.disagree r with
  | none => d
  | some c =>
    if !d.running || d.fused r || bit d.tamp.detFault r then d
    else
      let d := d.advance (c + ms (d.get F.TAMP_REG_CTRL_DISAGREE_MS r))
      let d := ({ d with tamp := { d.tamp with detFault := d.tamp.detFault + 2 ^ r } }).set F.TAMP_REG_STATUS_DISAGREE 1 r
      (d.occur 1 (352 + r) 0 0).alarms

/-! Environment monitors (R488). -/

/-- The monitor's own state as an environment source trips or clears: the flash answers or not (R488, R496). -/
def Dev.envMark (d : Dev) (k : Nat) (on : Bool) : Dev :=
  let d := { d with tamp := { d.tamp with env := putNbits d.tamp.env k k (b2n on) } }
  if k = 21 then
    let d := { d with rsm := { d.rsm with flashOk := !on } }
    ((d.flag F.EVT_RSM_STATUS_FLASH_OK (!on)).flag F.NVL_STATUS_CS0_OK (!on)).flag F.NVL_STATUS_CS1_OK (!on)
  else d

/-- A trip of environment source `k` (R488). -/
def Dev.envTrip (d : Dev) (k : Nat) : Dev :=
  if bit d.tamp.env k then d
  else
    let d := d.envMark k true
    if d.running then ((d.count 29 0x61 {}).occur 1 (384 + k) 0 0).alarms else d

/-- The clock of a domain has failed (R505, R510): 0 half A, 1 half B, 2 client shell, 3 control island, 4 SYSCLK_IN.  Its
alarm is raised, and its reset follows whatever the class. -/
def Dev.clockFail (d : Dev) (k : Nat) : Dev :=
  let d := d.envTrip (12 + k)
  let b := if k = 3 then 0 else if k = 2 then 1 else if k = 0 then 2 else 3
  let d := if k = 4 then (d.set F.RST_CLK_STATUS_SYSCLK_OK 0).set F.RST_CLK_STATUS_GOOD 0
    else (d.set F.RST_CLK_STATUS_GOOD (putNbits (d.get F.RST_CLK_STATUS_GOOD) b b 0)).set F.RST_CLK_STATUS_FAILED
      (putNbits (d.get F.RST_CLK_STATUS_FAILED) b b 1)
  if d.tamp.hold then d
  else if k ≤ 2 then
    if bit (d.dom k).causes 0 || !d.running then d else (d.bump R.RST_CNT 8).domAssert k 0
  else d.sysReset 8

/-- ENVIRONMENT_TRIP (R488): a clock source also resets its domain. -/
def doEnvironmentTrip (source : Nat) (d : Dev) : Dev :=
  let k := source % 22
  if 12 ≤ k ∧ k ≤ 16 then d.clockFail (k - 12) else d.envTrip k

/-- The last of the sources that muted a scope is seen tripped until now. -/
def Dev.muteSeen (d : Dev) (src : Nat) : Dev :=
  [0, 1, 2].foldl (fun d k => if (d.muters k).contains src then d.setMuters k (d.muters k) d.tim.clk else d) d

/-- ALARM_CONDITION_END (R488): the condition of a tripped source ends; the three limits on the junction temperature
clear only with 3 °C of hysteresis. -/
def doAlarmConditionEnd (source : Nat) (temp : Int) (d : Dev) : Dev :=
  if 256 ≤ source ∧ source < 352 then
    let r := (source - 256) / 8
    let l := SMap.get 0 d.tamp.light r
    if bit l ((source - 256) % 8) then
      let d := d.muteSeen source
      let d := if bit d.tamp.detFault r then d.muteSeen (352 + r) else d
      d.setLight r (l - 2 ^ ((source - 256) % 8))
    else d
  else if 384 ≤ source ∧ source < 406 then
    let k := source - 384
    let stays := (k = 17 && decide ((d.get F.TAMP_TEMP_CFG_TEMP_HI : Int) - 3 < temp)) || (k = 18 && decide (112 < temp)) ||
      (k = 19 && decide (temp < signed 8 (d.get F.TAMP_TEMP_CFG_TEMP_LO) + 3))
    if !bit d.tamp.env k || stays then d else (d.muteSeen source).envMark k false
  else d

/-! The end of a mute (R491, R499). -/

/-- Is a source that muted tripped now? -/
def Dev.tripped (d : Dev) (src : Nat) : Bool :=
  if 256 ≤ src ∧ src < 352 then bit (SMap.get 0 d.tamp.light ((src - 256) / 8)) ((src - 256) % 8)
  else if 352 ≤ src ∧ src < 364 then bit d.tamp.detFault (src - 352)
  else if 384 ≤ src ∧ src < 406 then bit d.tamp.env (src - 384)
  else false

/-- No source that muted the scope has been tripped for MUTE_HOLD_MS (R491). -/
def Dev.muteQuiet (d : Dev) (k : Nat) : Bool :=
  (d.muters k).all (fun s => !d.tripped s) && decide (d.clearClk k + ms (d.get F.TAMP_CTRL_MUTE_HOLD_MS) ≤ d.tim.clk)

/-- A mute ends (R491): the domain is released once every cause has ended (R512). -/
def Dev.unmuteOne (d : Dev) (k : Nat) : Dev :=
  let d := (((d.set (muteF k) 0).setMuters k [] 0).domCauseEnd k 2).raise E.TAMP_UNMUTED
  d.rsmLog 0x11 [1, BitVec.ofNat 8 d.muted, 0, 0, 0, 0, 0, 0]

/-- TAMP_UNMUTE (R491): by the active Sage core; refused until every muted scope it names is quiet, and in a halt. -/
def doTampUnmute (scopes : Nat) (m : Master) (d : Dev) : Dev :=
  if !d.isActive m then d.violate m (R.TAMP_UNMUTE.addr 0 0) true
  else
    let ks := [0, 1, 2].filter (fun k => bit scopes k && d.on (muteF k))
    if ks.isEmpty then d
    else if ks.all (fun k => d.muteQuiet k) then ks.foldl Dev.unmuteOne d
    else d.raise E.TAMP_UNMUTE_REFUSED

/-- AUTO_UNMUTE (R491): with the field set, a scope's mute ends once no source of it has been tripped for MUTE_HOLD_MS. -/
def doAutoUnmute (scope : Nat) (d : Dev) : Dev :=
  let k := scope % 3
  if d.on F.TAMP_CTRL_AUTO_UNMUTE && d.on (muteF k) && !d.on F.TAMP_STATUS_HALTED && (d.muters k).all (fun s => !d.tripped s) then
    (d.advance (d.clearClk k + ms (d.get F.TAMP_CTRL_MUTE_HOLD_MS))).unmuteOne k
  else d

/-! The class 3 hold (R492, R514). -/

/-- CLASS3_HOLD (R492): once the pending retained records are durable, or 10 ms after the alarm, every domain is held in
reset; the Rosemary writer and the sticky flags stay powered. -/
def doClass3Hold (d : Dev) : Dev :=
  match d.tamp.class3 with
  | none => d
  | some c =>
    if d.tamp.hold then d
    else
      let waiting := d.rsm.wait.any (fun l => (SMap.get {} d.rsm.ring (l % 4096)).retained)
      let d := if waiting then d.advance (c + ms 10) else d
      let d := d.rsmLog 0x11 [3, BitVec.ofNat 8 d.muted, 0, 0, 0, 0, 0, 0]
      let log := d.rsm
      let d := { d with tamp := { d.tamp with hold := true } }
      let d := d.holdReset
      { d with rsm := log }

/-! Fuses (R487). -/

/-- May a master blow a region's fuse (R487)? -/
def Dev.fuseMay (d : Dev) (m : Master) : Bool :=
  match d.principal m with
  | some 0 => d.fuse.lcs = 0
  | some 1 => 1 ≤ d.fuse.lcs && d.fuse.lcs ≤ 3
  | some _ => false
  | none => d.isActive m && 1 ≤ d.fuse.lcs && d.fuse.lcs ≤ 3

/-- TAMP_FUSE_CONFIRM (R487): the right value arms a command for 1 ms. -/
def doTampFuseConfirm (value : Nat) (m : Master) (d : Dev) : Dev :=
  if !d.mayWrite m then d.violate m (R.TAMP_FUSE_CONFIRM.addr 0 0) true
  else { d with tamp := { d.tamp with fuseArmed := if value % 2 ^ 32 = 0x5E9F0C12 then some d.tim.clk else none } }

/-- TAMP_FUSE_CMD (R487): refused unless a permitted master sends it within 1 ms of the confirmation. -/
def doTampFuseCmd (regions : Nat) (m : Master) (d : Dev) : Dev :=
  let armed := match d.tamp.fuseArmed with
    | some c => decide (d.tim.clk ≤ c + ms 1)
    | none => false
  let d := { d with tamp := { d.tamp with fuseArmed := none } }
  if !d.fuseMay m || !armed || d.on F.TAMP_FUSE_STATUS_BUSY then d.raise E.TAMP_FUSE_REFUSED
  else ({ d with tamp := { d.tamp with fuseRun := regions % 4096 } }).set F.TAMP_FUSE_STATUS_BUSY 1

/-- FUSE_DONE (R487, R499): 10 ms after the command; `ok` says that the fuses read back as blown.  A live trip of a fused
region ends, its sticky flag and records stay. -/
def doFuseDone (ok : Bool) (d : Dev) : Dev :=
  if !d.on F.TAMP_FUSE_STATUS_BUSY then d
  else
    let run := d.tamp.fuseRun
    let d := ({ d with tamp := { d.tamp with fuseRun := 0 } }).set F.TAMP_FUSE_STATUS_BUSY 0
    let d := d.flag F.TAMP_FUSE_STATUS_LAST_OK ok
    let d := if ok then
        let d := { d with fuse := { d.fuse with light := d.fuse.light ||| run } }
        ((List.range 12).filter (bit run)).foldl (fun d r => (d.setLight r 0).set F.TAMP_REG_STATUS_FUSED 1 r) d
      else d
    ((d.set F.TAMP_FUSE_STATUS_BLOWN d.fuse.light).raise E.TAMP_FUSE_DONE).rsmLog 0x14 (beBytes 2 run ++ beBytes 1 (b2n ok))

/-- The sticky register that a number names: TAMP_STICKY_ENV, TAMP_STICKY_MISC, then TAMP_REG_STICKY by region. -/
def stickyReg (which : Nat) : Reg × Nat :=
  match which % 14 with
  | 0 => (R.TAMP_STICKY_ENV, 0)
  | 1 => (R.TAMP_STICKY_MISC, 0)
  | k + 2 => (R.TAMP_REG_STICKY, k)

/-- Its address. -/
def stickyAddr (which : Nat) : Nat := (stickyReg which).1.addr (stickyReg which).2 0

/-- STICKY_CLEAR (R493): a W1C write to TAMP_STICKY_ENV (0), TAMP_STICKY_MISC (1) or TAMP_REG_STICKY of region `which` - 2;
nothing clears while a copy is pending. -/
def doStickyClear (which mask : Nat) (m : Master) (d : Dev) : Dev :=
  let (r, i) := stickyReg which
  if !d.mayWrite m then d.violate m (stickyAddr which) true
  else if d.on F.TAMP_STATUS_COPY_PENDING then d
  else d.put r (d.word r i &&& ~~~ (BitVec.ofNat 32 mask)) i

end Sys2Proof.Machine
end

