-- ==== Sys2Proof/Machine/Rlog.lean ====
section
/-! DEFINITION. The Rosemary writer and the wear of its region (R402, R496, R497). -/

namespace Sys2Proof.Machine

/-- Pages of a segment: 64 sectors of 64 KiB, each of 256 pages of four records (R401, R497). -/
def segmentPages : Nat := 16384

/-- Sectors of the Rosemary region of a chip select (R401); the smaller of the two where the devices differ. -/
def Dev.rsmSectors (d : Dev) : Nat := if d.flash.size0 = 2 ∧ d.flash.size1 = 2 then 3568 else 1520

/-- Segments of the general ring over both chip selects: what 64 sectors of the retained area leave (log entry 23). -/
def Dev.rsmSegments (d : Dev) : Nat := (d.rsmSectors - 64) / 64 * 2

/-- The chip select and the first sector of segment `n` of the general ring: segments alternate between the chip selects
(R497). -/
def Dev.segmentAt (d : Dev) (n : Nat) : Nat × Nat := (n % 2, 64 + n % d.rsmSegments / 2 * 64)

/-- NVL_RSM_STATUS follows the write point. -/
def Dev.rsmPlace (d : Dev) : Dev :=
  let a := d.segmentAt d.rsm.segNo
  ((d.set F.NVL_RSM_STATUS_CS a.1).set F.NVL_RSM_STATUS_SECTOR (a.2 + d.rsm.segPages / 256)).set F.NVL_RSM_STATUS_FILL_PCT
    (d.rsm.segPages * 100 / segmentPages)

/-- The wear registers follow the erase counts (R402). -/
def Dev.wearShow (d : Dev) : Dev :=
  let n := d.rsmSectors * 2
  let top := d.flash.wear.foldl (fun m e => max m e.2) 0
  let sum := d.flash.wear.foldl (fun m e => m + e.2) 0
  (d.putNum R.NVL_WEAR_MAX top).putNum R.NVL_WEAR_MEAN (sum / n)

/-- A sector of the Rosemary region is erased (R402): counted, and WEAR_HIGH at 80,000. -/
def Dev.rsmErase (d : Dev) (cs sector : Nat) : Dev :=
  let k := cs * 4096 + sector
  let w := SMap.get 0 d.flash.wear k + 1
  let d := ({ d with flash := { d.flash with wear := SMap.set 0 d.flash.wear k w } }).bump R.NVL_ERASE_CNT
  if w = 80000 then d.raise E.NVL_WEAR_HIGH else d

/-- The bytes of a PAD record (R494, R495). -/
def padRecord : Bytes :=
  let body := beBytes 2 0x524D ++ zeros 58
  body ++ beBytes 4 (crc32 body)

/-- The record an LSEQ of the ring names. -/
def Dev.ringRec (d : Dev) (l : Nat) : RsmRec := SMap.get {} d.rsm.ring (l % 4096)

/-- The clock at which the page of these records is due (R496): at once when it is full, 10 ms after its oldest retained
record, EVENT_FLUSH_MS after its oldest. -/
def Dev.pageDue (d : Dev) (rs : List RsmRec) : Nat :=
  if 4 ≤ rs.length then d.tim.clk
  else
    let flush := match rs with
      | r :: _ => r.clk + ms (d.get F.EVT_RSM_CTRL_EVENT_FLUSH_MS)
      | [] => d.tim.clk
    match rs.find? (·.retained) with
    | some r => min flush (r.clk + ms 10)
    | none => flush

/-- One record becomes durable; a retained one goes to the retained area too, while it has room (R496, R497). -/
def Dev.recDurable (d : Dev) (r : RsmRec) : Dev :=
  let d := { d with rsm := { d.rsm with durable := max d.rsm.durable r.lseq, boots := d.rsm.boots + b2n (r.kind = 0x13) } }
  let d := d.putNum R.EVT_BOOT_COUNT (d.rsm.boots % 2 ^ 32)
  let d := if r.late then (d.bump R.EVT_CNT_RSM_LATE).raise E.EVT_RSM_LATE else d
  if !r.retained then d
  else if d.rsm.kept.length < 65536 then { d with rsm := { d.rsm with kept := d.rsm.kept ++ [r.bytes] } }
  else (d.set F.EVT_RSM_STATUS_RETAINED_FULL 1).raise E.EVT_RETAINED_FULL

/-- COPY_PENDING falls when every sticky setting has a durable record (R493). -/
def Dev.copiesDone (d : Dev) : Dev :=
  let left := d.tamp.copies.filter (fun l => d.rsm.durable < l)
  let waits := d.evt.occ.any (fun o => isAlarm o.src && !o.forced)
  ({ d with tamp := { d.tamp with copies := left } }).flag F.TAMP_STATUS_COPY_PENDING (!left.isEmpty || waits)

/-- The write point moves on by a page, to the next segment when this one is full; a segment not compacted in time is
erased as the write point enters it (log entry 23). -/
def Dev.pageAdvance (d : Dev) : Dev :=
  if d.rsm.segPages + 1 < segmentPages then { d with rsm := { d.rsm with segPages := d.rsm.segPages + 1 } }
  else
    let n := d.rsm.segNo + 1
    let full := decide (d.rsmSegments * segmentPages * 4 ≤ d.rsm.general.length)
    let a := d.segmentAt n
    let d := if full then
        (List.range 64).foldl (fun d k => d.rsmErase a.1 (a.2 + k)) { d with rsm := { d.rsm with general := d.rsm.general.drop (segmentPages * 4) } }
      else d
    { d with rsm := { d.rsm with segNo := n, segPages := 0 } }

/-- ROSEMARY_PAGE_PROGRAM (R496, R497): the next four waiting records, when they are due and the level allows. -/
def doRosemaryPageProgram (d : Dev) : Dev :=
  let ls := d.rsm.wait.take 4
  let rs := ls.map d.ringRec
  let keep := rs.any (·.retained)
  let d := (if ls.isEmpty || !d.rsm.flashOk then d else d.advance (d.pageDue rs)).rsmFill
  if ls.isEmpty || !d.rsm.flashOk then d.summary
  else if keep && decide (d.rsm.level < 256000000000) then d.bump R.EVT_CNT_RSM_WAIT
  else if !keep && decide (d.rsm.level < rsmThreshold) then d
  else
    let page := rs.map (·.bytes) ++ List.replicate (4 - rs.length) padRecord
    let d := { d with rsm := { d.rsm with level := d.rsm.level - 256000000000, wait := d.rsm.wait.drop 4,
                                          general := d.rsm.general ++ page } }
    let d := (rs.foldl Dev.recDurable d).pageAdvance
    let d := (d.put64 R.EVT_RSM_DURABLE_LO R.EVT_RSM_DURABLE_HI d.rsm.durable).set F.EVT_RSM_STATUS_RING_LEVEL d.rsm.wait.length
    let d := ((d.bump R.EVT_CNT_RSM_PAGES).count 28 0x5C {}).rsmFill
    ((d.rsmPlace).copiesDone).summary

/-- ROSEMARY_COMPACTION (R497): with the active segment more than 75% full, the active Sage core erases the oldest segment
of the general ring ahead of the write point. -/
def doRosemaryCompaction (d : Dev) : Dev :=
  if d.active.isNone || !d.rsm.flashOk || decide (d.rsm.segPages * 4 ≤ segmentPages * 3) then d
  else
    let held := d.rsm.general.length / 4
    if held + (segmentPages - d.rsm.segPages) ≤ (d.rsmSegments - 1) * segmentPages then d
    else
      let a := d.segmentAt (d.rsm.segNo + 1)
      let d := { d with rsm := { d.rsm with general := d.rsm.general.drop (segmentPages * 4) } }
      ((List.range 64).foldl (fun d k => d.rsmErase a.1 (a.2 + k)) d).wearShow

end Sys2Proof.Machine
end

