-- ==== Sys2Proof/Machine/Reset.lean ====
section
/-! DEFINITION. Resets, their release, and the integrated regulators (R503-R530). -/

namespace Sys2Proof.Machine

/-! Reset sources (R505). -/

/-- POWER_ON (R493, R507, R514, R525): VAUX crosses its power-on threshold, rising or falling; everything held in the
always-on island is lost. -/
def doPowerOn (up : Bool) (d : Dev) : Dev :=
  let d := { d with regs := [], rsm := { d.rsm with level := rsmThreshold, levelClk := d.tim.clk },
                    tamp := { d.tamp with hold := false },
                    pwr := { d.pwr with up := false, vaux := up },
                    rst := { d.rst with zeroDead := false, zeroBusy := false, atClk := d.tim.clk } }
  if up then (d.allDown 1).rstCause 0 true else d.allDown 1

/-- A brown-out (R505, R525): reset first, then the rails go down; it ends a class 3 hold (R514). -/
def Dev.brownOut (d : Dev) (src : Nat) : Dev := ({ d with tamp := { d.tamp with hold := false } }).sysReset src true d.tamp.hold

/-- BOR_VIN (R525): VIN below its falling threshold, or again above its rising one for 1 ms. -/
def doBorVin (below : Bool) (d : Dev) : Dev :=
  let d := { d with pwr := { d.pwr with vin := !below } }
  if below then d.brownOut 1 else d

/-- BOR_VAUX (R525). -/
def doBorVaux (below : Bool) (d : Dev) : Dev :=
  let d := { d with pwr := { d.pwr with vaux := !below } }
  if below then d.brownOut 2 else d

/-- RESET_PIN (R505, R514): RESET_N low for `ns`; between 100 ns and 1 µs the spec leaves open whether it acts (log
entry 2).  A class 3 hold ignores it. -/
def doResetPin (ns : Nat) (d : Dev) : Dev :=
  if d.tamp.hold || decide (ns < 100) then d
  else
    let acts := decide (1000 ≤ ns) || d.freeVal % 2 = 1
    let d := if ns < 1000 then d.freeNext else d
    if !acts then d
    else
      let d := d.sysReset 3
      let d := d.advance (d.tim.clk + ns)
      { d with rst := { d.rst with endClk := d.tim.clk } }

/-- SW_RESET (R505, R512, R513): RST_SW_CMD, from the active Sage core or principal 1. -/
def doSwReset (key scope : Nat) (m : Master) (d : Dev) : Dev :=
  if d.tamp.hold || !d.running then d
  else if !d.isActive m && d.principal m ≠ some 1 then d.violate m (R.RST_SW_CMD.addr 0 0) true
  else if key % 2 ^ 16 ≠ 0xA5C3 then d.raise E.RST_SW_REFUSED
  else
    let half (k : Nat) : Dev :=
      let x := d.dom k
      ((d.setDom k { x with swUntil := d.tim.clk + us 1 }).domAssert k 3).bump R.RST_CNT 6
    match scope % 8 with
    | 1 => d.sysReset 6
    | 2 => half 0
    | 3 => half 1
    | 4 => half 2
    | 5 => (d.coreReset 0).bump R.RST_CNT 6
    | 6 => (d.coreReset 1).bump R.RST_CNT 6
    | _ => d

/-- DEBUG_RESET (R505, R518, R530): in FACTORY and FIELD_RETURN with debug posture OPEN. -/
def doDebugReset (d : Dev) : Dev :=
  if d.tamp.hold || !(d.fuse.lcs = 0 || d.fuse.lcs = 3) || !d.on F.RST_STATUS_DEBUG_OPEN then d else d.sysReset 7

/-- CLOCK_FAILURE (R505, R510): half A, half B, client shell, control island or SYSCLK_IN. -/
def doClockFailure (domain : Nat) (d : Dev) : Dev := d.clockFail (domain % 5)

/-- RST_LOCKUP_STATUS records a lock-up (R531). -/
def Dev.lockup (d : Dev) (kind master target : Nat) : Dev :=
  (((d.set F.RST_LOCKUP_STATUS_VALID 1).set F.RST_LOCKUP_STATUS_KIND kind).set F.RST_LOCKUP_STATUS_MASTER master).set
    F.RST_LOCKUP_STATUS_TARGET target

/-- LOCKUP_CORE (R505): a core retires nothing with an access outstanding. -/
def doLockupCore (core target : Nat) (d : Dev) : Dev :=
  let c := core % 2
  if !d.on F.RST_CTRL_CORE_LOCKUP_EN || !d.running || (d.dom (3 + c)).causes ≠ 0 || d.rst.step < 8 then d
  else ((d.lockup 0 c target).bump R.RST_CNT 9).coreReset c

/-- LOCKUP_FABRIC (R505). -/
def doLockupFabric (master target : Nat) (d : Dev) : Dev :=
  if !d.on F.RST_CTRL_FABRIC_LOCKUP_EN || !d.running then d else (d.lockup 1 (master % 7) target).sysReset 10

/-! Rails (R524-R528). -/

/-- The domain a rail instance supplies (R524, R528): 0 half A, 1 half B, 2 client shell, 3 the module. -/
def railDomain (i : Nat) : Nat := if i = 2 then 2 else if i = 3 then 3 else if i = 0 then 0 else if i = 1 then 1 else i % 2

/-- Every instance within ±5% (R533). -/
def Dev.railShow (d : Dev) : Dev :=
  d.flag F.PWR_STATUS_ALL_PGOOD ((List.range 12).all (fun i => d.on F.PWR_RAIL_STATUS_PGOOD i))

/-- RAIL_FAULT (R488, R505, R528): outside ±10% for 10 µs; its domain is held in reset. -/
def doRailFault (rail : Nat) (d : Dev) : Dev :=
  let i := rail % 12
  let k := railDomain i
  if bit d.pwr.fault i || d.tamp.hold then d
  else
    let d := { d with pwr := { d.pwr with fault := d.pwr.fault + 2 ^ i } }
    let d := (((d.set F.PWR_RAIL_STATUS_PGOOD 0 i).set F.PWR_RAIL_STATUS_FAULT 1 i).set F.PWR_RAIL_STATUS_HELD 1 i).railShow
    let d := (d.bump R.PWR_CNT_RAIL_FAULT).count 29 0x62 {}
    let d := if d.on F.PWR_RAIL_CTRL_FAULT_EVT_EN i then d.raise E.PWR_RAIL_FAULT else d
    let d := d.envTrip (8 + k)
    if k = 3 then d.sysReset 14 else if !d.running then d else (d.bump R.RST_CNT 14).domAssert k 1

/-- RAIL_RECOVERED (R528): within ±5% for 1 ms; the domain may leave reset once all its rails have recovered. -/
def doRailRecovered (rail : Nat) (d : Dev) : Dev :=
  let i := rail % 12
  let k := railDomain i
  if !bit d.pwr.fault i then d
  else
    let d := { d with pwr := { d.pwr with fault := d.pwr.fault - 2 ^ i } }
    let d := (((d.set F.PWR_RAIL_STATUS_PGOOD 1 i).set F.PWR_RAIL_STATUS_FAULT 0 i).set F.PWR_RAIL_STATUS_HELD 0 i).railShow
    let clear := (List.range 12).all (fun j => railDomain j ≠ k || !bit d.pwr.fault j)
    let d := if clear ∧ k < 3 then d.domCauseEnd k 1 else d
    if d.on F.PWR_RAIL_CTRL_FAULT_EVT_EN i && d.running then d.raise E.PWR_RAIL_RECOVERED else d

/-- The instance that phase `p` belongs to, and the first phase of the instance (R524). -/
def phaseRail (p : Nat) : Nat × Nat :=
  ((List.range 12).foldl (fun (x : Nat × Nat × Nat) i =>
    let n := railPhases.getD i 0
    (if x.1 ≤ p then i else x.2.1, if x.1 ≤ p then x.1 else x.2.2) |> fun y => (x.1 + n, y.1, y.2)) (0, 0, 0)).2

/-- A phase is shed (R527): it stays shed until the next power-on or system reset, and the rated current falls by its
share (R524). -/
def Dev.shed (d : Dev) (p : Nat) : Dev :=
  let i := (phaseRail p).1
  let n := railPhases.getD i 1
  let act := d.get F.PWR_RAIL_STATUS_PHASES_ACTIVE i - 1
  let d := (d.setBit R.PWR_PHASE_SHED (p % 32) (p / 32)).set F.PWR_STATUS_PHASE_SHED 1
  let d := (d.set F.PWR_RAIL_STATUS_PHASES_ACTIVE act i).set F.PWR_RAIL_CURR_RATED_DA (railRatedDa.getD i 0 * act / n) i
  ((d.bump R.PWR_CNT_PHASE_FAULT).count 29 0x60 {}).raise E.PWR_PHASE_FAULT

/-- Is a phase shed? -/
def Dev.isShed (d : Dev) (p : Nat) : Bool := bit (d.num R.PWR_PHASE_SHED (p / 32)) (p % 32)

/-- PHASE_OCP (R527): more than 150% of its share for 1 µs. -/
def doPhaseOcp (phase : Nat) (d : Dev) : Dev :=
  let p := phase % 90
  if d.isShed p || !d.running then d else ((d.bump R.PWR_CNT_OCP).raise E.PWR_OCP).shed p

/-- REGULATOR_CALIBRATION (R37, R527): the phases named cannot be brought within 20% of the mean and are shed; the spread of
each instance is shown. -/
def doRegulatorCalibration (failed spreads : List Nat) (d : Dev) : Dev :=
  if !d.on F.PWR_CTRL_CAL_EN || !d.running then d
  else
    let d := { d with pwr := { d.pwr with calClk := d.tim.clk } }
    let bad := failed.filter (fun p => decide (p < 90) && !d.isShed p)
    let d := ((d.bump R.PWR_CNT_CAL).flag F.PWR_CAL_STATUS_LAST_OK bad.isEmpty).set F.PWR_CAL_STATUS_AGE_MS 0
    let d := (List.range 12).foldl (fun d i => d.set F.PWR_RAIL_TRIM_SPREAD_PCT (min 255 (spreads.getD i 0)) i) d
    bad.foldl (fun d p => if d.isShed p then d else (d.raise E.PWR_CAL_FAIL).shed p) d

/-! Release (R509-R513, R516-R521). -/

/-- Note an event to raise at the control island's release (R521). -/
def Dev.early (d : Dev) (b : Nat) : Dev := { d with rst := { d.rst with early := d.rst.early ||| 2 ^ b } }

def Dev.toStep (d : Dev) (n : Nat) : Dev := { d with rst := { d.rst with step := n } }

/-- RAIL_POWER_UP (R509, R526): step 1, with both inputs above their rising thresholds. -/
def doRailPowerUp (usec : Nat) (d : Dev) : Dev :=
  if d.rst.step ≠ 1 || !d.pwr.vin || !d.pwr.vaux || d.tamp.hold || d.rst.zeroDead then d
  else
    let d := (({ d with pwr := { d.pwr with up := true } }).toStep 2).advance (d.tim.clk + us usec)
    (d.set F.PWR_SEQ_STATUS_US (min 0xFFFF usec)).early 3

/-- The strap codes' nominal resistors in Ω (R517). -/
def strapNominal : List Nat := [0, 1000, 2210, 3650, 5360, 7500, 10000, 13300, 17400, 22600, 30100, 40200, 54900, 76800, 113000]

/-- The code of a measured resistance; none where it is out of band (R516). -/
def strapCode (ohms : Nat) : Option Nat :=
  if ohms < 100 then some 0
  else if 300000 < ohms then some 15
  else (List.range 15).find? (fun c =>
    let n := strapNominal.getD c 0
    decide (1 ≤ c) && decide (n * 95 ≤ ohms * 100) && decide (ohms * 100 ≤ n * 105))

/-- Bus width 16, slot B, I2C and posture OPEN of a code (R517). -/
def strapSettings (c : Nat) : Bool × Bool × Bool × Bool :=
  (([1, 2, 3, 8, 9, 10, 11] : List Nat).contains c, ([2, 4, 6, 8, 10, 12, 14] : List Nat).contains c,
    ([1, 4, 5, 8, 9, 12, 13] : List Nat).contains c, decide (1 ≤ c) && decide (c ≤ 7))

/-- The settings in force (R518): the debug posture is OPEN only in FACTORY and FIELD_RETURN. -/
def Dev.applySettings (d : Dev) (source : Nat) (x : Bool × Bool × Bool × Bool) : Dev :=
  let d := (((d.set F.RST_SETTINGS_SOURCE source).flag F.RST_SETTINGS_WIDTH16 x.1).flag F.RST_SETTINGS_SLOT_B x.2.1).flag
    F.RST_SETTINGS_MGMT_I2C x.2.2.1
  let d := (d.flag F.RST_SETTINGS_DEBUG_OPEN x.2.2.2).flag F.RST_STATUS_DEBUG_OPEN (x.2.2.2 && (d.fuse.lcs = 0 || d.fuse.lcs = 3))
  (d.set F.NVL_ID_WIDTH (if x.1 then 16 else 8)).flag F.GLB_MGMT_STATUS_STRAP_I2C x.2.2.1

/-- The analog trims from the copies in the fuses (R521). -/
def Dev.trimLoad (d : Dev) : Dev :=
  let a := d.fuse.trim0
  let b := d.fuse.trim1
  let d := (d.flag F.RST_TRIM_STATUS_COPY0_OK a.good).flag F.RST_TRIM_STATUS_COPY1_OK b.good
  if a.good || b.good then
    let t := if a.good then a else b
    let d := if a.good then d else d.early 0
    let d := ((d.set F.RST_TRIM_STATUS_DONE 1).set F.RST_TRIM_STATUS_TRIM_REV t.rev).set F.PWR_TRIM_VCORE_MV t.vcoreMv
    let d := [0, 1, 2].foldl (fun d i => d.set F.PWR_RAIL_VOLT_TARGET_MV t.vcoreMv i) d
    (List.range 12).foldl (fun d i => d.set F.PWR_RAIL_TRIM_FROM_FUSE 1 i) d
  else (d.early 1).set F.RST_STATUS_TRIM_DEFAULTS 1

/-- TRIM_LOAD (R509, R516, R521): step 2; the resistance is the average the strap converter read. -/
def doTrimLoad (ohms : Nat) (d : Dev) : Dev :=
  if d.rst.step ≠ 2 || !d.pwr.up || d.tamp.hold || d.rst.zeroDead then d
  else
    let d := (((d.trimLoad).set F.RST_STATUS_STRAP_DONE 1).set F.RST_STRAP_OHMS (min 0xFFFFF ohms)).toStep 3
    match strapCode ohms with
    | none => (((d.set F.RST_STRAP_OUT_OF_BAND 1).early 2).applySettings 3 (strapSettings 15))
    | some 0 => ((d.set F.RST_STRAP_VALID 1).set F.RST_STRAP_CODE 0).set F.RST_STATUS_SQ1_OPTIONS 1
    | some c => ((d.set F.RST_STRAP_VALID 1).set F.RST_STRAP_CODE c).applySettings 0 (strapSettings c)

/-- The domain of R531's order (control island, client shell, half A, half B) as a reset domain. -/
def relDomain (b : Nat) : Nat := if b = 1 then 2 else b - 2

/-- CLOCKS_GOOD (R509, R510, R512): the clocks of the domains named by `mask` are good (bit 0 control island, 1 client
shell, 2 half A, 3 half B).  In step 3 every PLL must be; afterwards a domain's clock cause ends. -/
def doClocksGood (mask : Nat) (d : Dev) : Dev :=
  if d.tamp.hold || d.rst.zeroDead then d
  else if d.rst.step = 3 then
    if mask % 16 = 15 && !bit d.pwr.fault 3 then ((d.set F.RST_CLK_STATUS_GOOD 15).set F.RST_CLK_STATUS_SYSCLK_OK 1).toStep 4 else d
  else if d.running then
    [1, 2, 3].foldl (fun d b =>
      if bit mask b then
        (d.set F.RST_CLK_STATUS_GOOD (putNbits (d.get F.RST_CLK_STATUS_GOOD) b b 1)).domCauseEnd (relDomain b) 0
      else d) d
  else d

/-- ZEROIZATION_DONE (R509, R511): step 4; `fails` counts the passes whose read-back failed. -/
def doZeroizationDone (usec fails : Nat) (d : Dev) : Dev :=
  if d.rst.step ≠ 4 || d.tamp.hold || d.rst.zeroDead then d
  else
    let d := (d.advance (d.tim.clk + us usec)).set F.RST_ZERO_STATUS_US (min 0xFFFF usec)
    let d := if d.rst.zeroBusy then (d.set F.RST_ZERO_STATUS_RESTARTED 1).early 4 else d
    let d := { d with rst := { d.rst with zeroBusy := false } }
    if fails < 2 then (d.set F.RST_ZERO_STATUS_DONE 1).toStep 5
    else { d with rst := { d.rst with zeroDead := true } }.set F.RST_ZERO_STATUS_FAIL 1

/-- The units of a half start (R44, R165, R339, R468, R512): its generators ask Mint for masks, its slices for key-storage
masks and its bays for keys while they train.  The front ends run; `fresh` says that they are in sync, because a
power-on or system reset leaves no version to copy (R80). -/
def Dev.halfUp (d : Dev) (h : Nat) (fresh : Bool) : Dev :=
  let d := ((List.range 384).filter (genOfHalf h)).foldl (fun d g =>
    (d.setMgen g { pending := true, askClk := d.tim.clk }).mintAsk 1 0 g 8) d
  let d := (List.range 4).foldl (fun d k => (d.mintAsk 2 1 (h * 4 + k) 8).set F.LRN_STATUS_READY 1 (h * 4 + k)) d
  let d := (List.range 2).foldl (fun d k =>
    let n := h * 2 + k
    let d := ((d.set F.BAY_STATUS_TRAINING 1 n).set F.BAY_TRAIN_STATUS_DONE 0 n).set F.BAY_TRAIN_STATUS_FAIL 0 n
    ((d.epochAsk n).set F.FE_STATUS_RUNNING 1 n).flag F.FE_STATUS_IN_SYNC fresh n) d
  d.maskShow

/-- The release of a domain (R512, R531): `e` counts shell, half A, half B. -/
def Dev.relTime (d : Dev) (i from_ : Nat) : Dev := d.set F.RST_REL_TIME_US (min 0xFFFFFF ((d.tim.clk - from_) / 1000)) i

/-- What the log says of the release of the control island (R495, R498): the layout of the sticky summary and the slot not
yet chosen are left open (log entry 2). -/
def Dev.bootRecord (d : Dev) : Dev :=
  let v := d.freeVal
  let d := d.freeNext
  d.rsmLog 0x13 (beBytes 1 (d.get F.RST_CAUSE_PRIMARY) ++ beBytes 1 (d.get F.GLB_STEPPING_STEP) ++ zeros 2 ++
    beBytes 4 (if d.anySticky then 1 + v % (2 ^ 32 - 1) else 0) ++ beBytes 1 (v / 2 ^ 32 % 256))

/-- The events found before the release (R521). -/
def Dev.earlyEvents (d : Dev) : Dev :=
  let e := d.rst.early
  let d := { d with rst := { d.rst with early := 0 } }
  let d := if bit e 0 then d.raise E.RST_TRIM_COPY_BAD else d
  let d := if bit e 1 then d.raise E.RST_TRIM_BAD else d
  let d := if bit e 2 then d.raise E.RST_STRAP_INVALID else d
  let d := if bit e 3 then d.raise E.PWR_SEQ_DONE else d
  if bit e 4 then d.raise E.RST_ZERO_RESTARTED else d

/-- The power manager and the flash controller run again, and show what is there (R533, R401, R424). -/
def Dev.powerShow (d : Dev) : Dev :=
  let d := (List.range 12).foldl (fun d i =>
    let d := (d.flag F.PWR_RAIL_STATUS_PGOOD (!bit d.pwr.fault i) i).flag F.PWR_RAIL_STATUS_FAULT (bit d.pwr.fault i) i
    (d.flag F.PWR_RAIL_STATUS_HELD (bit d.pwr.fault i) i).set F.PWR_RAIL_STATUS_PHASES_ACTIVE (railPhases.getD i 0) i) d
  let d := (((d.railShow).set F.PWR_STATUS_SEQ_DONE 1).set F.PWR_SEQ_STATUS_STEP 7).set F.PWR_STATUS_READY 1
  let d := (d.flag F.PWR_STATUS_VIN_OK d.pwr.vin).flag F.PWR_STATUS_VAUX_OK d.pwr.vaux
  let d := ((d.set F.NVL_STATUS_READY 1).flag F.NVL_STATUS_CS0_OK d.rsm.flashOk).flag F.NVL_STATUS_CS1_OK d.rsm.flashOk
  let d := ((d.set F.NVL_ID_CS0_SIZE d.flash.size0).set F.NVL_ID_CS1_SIZE d.flash.size1).flag F.EVT_RSM_STATUS_FLASH_OK d.rsm.flashOk
  ((d.wearShow).rsmPlace).set F.NVL_SVN_SVN d.fuse.svn

/-- The writer continues from the highest durable LSEQ (R498). -/
def Dev.rsmStart (d : Dev) : Dev :=
  let d := (d.put64 R.EVT_RSM_LSEQ_LO R.EVT_RSM_LSEQ_HI d.rsm.lseq).put64 R.EVT_RSM_DURABLE_LO R.EVT_RSM_DURABLE_HI d.rsm.durable
  let d := (d.putNum R.EVT_BOOT_COUNT (d.rsm.boots % 2 ^ 32)).flag F.EVT_RSM_STATUS_RETAINED_FULL (decide (65536 ≤ d.rsm.kept.length))
  d.rsmFill

/-- Sources still tripped after the release occur again and take their responses again (R492). -/
def Dev.retrip (d : Dev) : Dev :=
  let env := d.tamp.env
  let d := (List.range 12).foldl (fun d r =>
    let l := if d.fused r then 0 else SMap.get 0 d.tamp.light r
    let d := ({ d with tamp := { d.tamp with disagree := SMap.set none d.tamp.disagree r none } }).setLight r l
    let d := (d.flag F.TAMP_REG_STATUS_FUSED (d.fused r) r)
    ((List.range 8).filter (bit l)).foldl (fun d k => ((d.bump R.TAMP_REG_CNT r).count 29 0x61 {}).occur 1 (256 + 8 * r + k) 0 0) d) d
  let d := ((List.range 22).filter (bit env)).foldl (fun d k => (d.count 29 0x61 {}).occur 1 (384 + k) 0 0) d
  d.alarms

/-- DOMAIN_RELEASE (R44, R498, R509): step 5; the control island, then 2 µs later each of the client shell, half A and
half B. -/
def doDomainRelease (d : Dev) : Dev :=
  if d.rst.step ≠ 5 || d.tamp.hold || d.rst.zeroDead then d
  else
    let c := d.tim.clk
    let from_ := d.rst.endClk
    let d := { d with rst := { d.rst with step := 6, relClk := c }, tim := { clk := c, rawOrigin := c, baseClk := c, servoClk := c } }
    let d := (d.relTime 0 from_).set F.EVT_STATUS_READY 1
    let d := { d with sage := { d.sage with renewClk := c, noneClk := c }, rsm := { d.rsm with ring := [], wait := [] } }
    let d := (d.rsmStart).bootRecord
    let d := ((d.powerShow).set F.SCH_STATUS_READY 1).set F.MRG_STATUS_READY 1
    let d := (d.set F.POL_STATUS_READY 1).set F.TAMP_FUSE_STATUS_BLOWN (if d.fuse.variantN then 0xFFF else d.fuse.light)
    let d := if d.anySticky then d.raise E.TAMP_STICKY_PRESENT else d
    let d := (d.earlyEvents).retrip
    let d := (d.advance (c + us 2)).relTime 1 from_
    let d := ((d.advance (c + us 4)).relTime 2 from_).halfUp 0 true
    let d := ((d.advance (c + us 6)).relTime 3 from_).halfUp 1 true
    (d.flag F.GLB_STATUS_READY true).domShow

/-- DOMAIN_RESET_END (R511-R513): a half, the client shell (0-2) or a Sage core (3, 4), once every cause holding it has ended
and it has been zeroized. -/
def doDomainResetEnd (domain usec fails : Nat) (d : Dev) : Dev :=
  let k := domain % 5
  let x := d.dom k
  if !d.running || (x.causes ≠ 8 && x.causes ≠ 32) then d
  else
    let d := (d.advance x.swUntil).advance (max d.tim.clk x.swUntil + us usec)
    if k ≤ 2 then
      let d := d.set F.RST_ZERO_STATUS_US (min 0xFFFF usec)
      if 2 ≤ fails then ((d.setDom k { x with causes := 16 }).set F.RST_ZERO_STATUS_FAIL 1).domShow
      else
        let e := if k = 2 then 0 else k + 1
        let d := (d.setDom k {}).relTime (e + 1) x.endClk
        let d := (d.set F.RST_DOM_REL_WRAP_WRAP (d.net / 2 ^ 32) e).putNum R.RST_DOM_REL_NS (d.net % 2 ^ 32) e
        ((if k = 2 then d else d.halfUp k false).raise E.RST_DOMAIN_RELEASED).domShow
    else if 2 ≤ fails then (d.setDom k { x with causes := 16 }).domShow
    else
      let st := if d.on F.TAMP_STATUS_HALTED then 4 else 2
      ((d.setDom k {}).set (if k = 3 then F.SAGE_A_STATE_STATE else F.SAGE_B_STATE_STATE) st).domShow

end Sys2Proof.Machine
end

