-- ==== Sys2Proof/Machine/Sage.lean ====
section
/-! DEFINITION. The lease of the Sage cores, their watchdogs and handovers (R393-R398). -/

namespace Sys2Proof.Machine

/-- The Sage core a master is: 0 A, 1 B. -/
def Master.core : Master → Option Nat
  | .sageA => some 0
  | .sageB => some 1
  | _ => none

def eligF (c : Nat) : Fld := if c = 0 then F.SAGE_STATUS_A_ELIGIBLE else F.SAGE_STATUS_B_ELIGIBLE

def coreStF (c : Nat) : Fld := if c = 0 then F.SAGE_A_STATE_STATE else F.SAGE_B_STATE_STATE

def coreHealthF (c : Nat) : Fld := if c = 0 then F.SAGE_A_STATE_HEALTHY else F.SAGE_B_STATE_HEALTHY

/-- Is a core out of reset and running its firmware (R393, R513)? -/
def Dev.coreUp (d : Dev) (c : Nat) : Bool := 8 ≤ d.rst.step && (d.dom (3 + c)).causes = 0

/-- Is a core eligible (R393)?  It has written SAGE_ALIVE, ALIVE_TIMEOUT has not followed, and it was healthy; it is not
held out for a lease that it has lost (R394). -/
def Dev.eligible (d : Dev) (c : Nat) : Bool :=
  d.coreUp c && (SMap.get none d.sage.alive c).isSome && !SMap.get false d.sage.out c && d.on (coreHealthF c) && !d.on F.TAMP_STATUS_HALTED

/-- SAGE_STATUS shows who is eligible; a break in Sage A's eligibility starts the hold-off again (R397). -/
def Dev.eligShow (d : Dev) : Dev :=
  let a := d.eligible 0
  let d := (d.flag F.SAGE_STATUS_A_ELIGIBLE a).flag F.SAGE_STATUS_B_ELIGIBLE (d.eligible 1)
  let d := { d with sage := { d.sage with eligClk := if a then some (d.sage.eligClk.getD d.tim.clk) else none } }
  if a then d else d.set F.SAGE_STATUS_REVERT_PENDING 0

/-- The core that holds the lease. -/
def Dev.holder (d : Dev) : Option Nat :=
  match d.get F.SAGE_STATUS_HOLDER with
  | 1 => some 0
  | 2 => some 1
  | _ => none

/-- The holder, none where `h` is none (R393). -/
def Dev.setHolder (d : Dev) (h : Option Nat) : Dev :=
  let v := match h with
    | some c => c + 1
    | none => 0
  (d.set F.SAGE_STATUS_HOLDER v).set F.SAGE_LEASE_HOLDER v

/-- Nobody holds the lease from now on: the takeover gap goes on until the next grant (R395). -/
def Dev.gapBegin (d : Dev) (expired : Bool) (next : Option Nat) : Dev :=
  let d := match d.holder with
    | some c =>
      let d := if d.coreUp c then d.set (coreStF c) (if d.on F.TAMP_STATUS_HALTED then 4 else 2) else d
      if expired then ({ d with sage := { d.sage with out := SMap.set false d.sage.out c true } }).eligShow else d
    | none => d
  let d := { d with sage := { d.sage with noneClk := d.tim.clk, expired := expired, next := next } }
  d.setHolder none

/-- A handover to the other core (R397). -/
def Dev.handover (d : Dev) (dest : Nat) (revert : Bool) : Dev :=
  let d := (d.raise E.SAGE_HANDOVER).gapBegin false (some dest)
  if revert then (d.set F.SAGE_STATUS_REVERT_PENDING 0).raise E.SAGE_REVERT else d

/-- Is an SA, envelope, flash or change-set command busy (R397)?  Thyme commands end as they are written. -/
def Dev.cmdsBusy (d : Dev) : Bool :=
  (List.range 8).any (fun s => (d.sl s).cmd.isSome) || (List.range 32).any (fun p => (d.ep p).cmd.isSome) ||
    (decide (1 ≤ d.get F.NVL_UPD_STATUS_STATE) && decide (d.get F.NVL_UPD_STATUS_STATE ≤ 5)) || d.on F.NVL_STATUS_SVN_BUSY ||
    d.get F.SAGE_CS_STATUS_STATE = 1 || d.get F.SAGE_CS_STATUS_STATE = 2

/-- SAGE_RENEW (R393, R397, R421): by the holder, before the lease expires; Sage B hands back at a renewal with a revert
pending and no command busy. -/
def doSageRenew (value : Nat) (m : Master) (d : Dev) : Dev :=
  match m.core with
  | none => d.violate m (R.SAGE_RENEW.addr 0 0) true
  | some c =>
    if d.holder ≠ some c then d.violate m (R.SAGE_RENEW.addr 0 0) true
    else if value % 2 = 0 || !d.coreUp c || SMap.get false d.sage.lapsed c || d.on F.TAMP_STATUS_HALTED ||
        decide (d.sage.renewClk + ms (d.get F.SAGE_LEASE_CFG_LEASE_MS) ≤ d.tim.clk) then d
    else
      let d := { d with sage := { d.sage with renewClk := d.tim.clk } }
      if c = 1 && d.on F.SAGE_CTRL_REVERT_EN && d.on F.SAGE_STATUS_REVERT_PENDING && !d.cmdsBusy then d.handover 0 true else d

/-- SAGE_ALIVE (R393, R394, R422): a core records that it is alive and how it is. -/
def doSageAlive (value : Nat) (m : Master) (d : Dev) : Dev :=
  match m.core with
  | none => d.violate m (R.SAGE_ALIVE.addr 0 0) true
  | some c =>
    if value % 2 = 0 || !d.coreUp c then d
    else
      let ok := bit value 1
      let d := { d with sage := { d.sage with alive := SMap.set none d.sage.alive c (some d.tim.clk),
                                              out := if ok then SMap.set false d.sage.out c false else d.sage.out } }
      let d := if d.get (coreStF c) = 3 then d.set (coreStF c) (if d.holder = some c && !SMap.get false d.sage.lapsed c then 1 else 2) else d
      (d.flag (coreHealthF c) ok).eligShow

/-- ALIVE_TIMEOUT (R393): 4 ms have passed since a core's last SAGE_ALIVE. -/
def doAliveTimeout (core : Nat) (d : Dev) : Dev :=
  let c := core % 2
  match SMap.get none d.sage.alive c with
  | none => d
  | some t =>
    let d := d.advance (t + ms 4)
    ({ d with sage := { d.sage with alive := SMap.set none d.sage.alive c none } }).eligShow

/-- LEASE_EXPIRY (R393, R394): LEASE_MS after the last accepted renewal nobody holds the lease; NO_HOLDER where no other
core is eligible. -/
def doLeaseExpiry (d : Dev) : Dev :=
  match d.holder with
  | none => d
  | some c =>
    if d.rst.step < 8 then d
    else
      let d := d.advance (d.sage.renewClk + ms (d.get F.SAGE_LEASE_CFG_LEASE_MS))
      let d := d.gapBegin true (if d.eligible (1 - c) then some (1 - c) else none)
      if d.eligible (1 - c) then d else d.raise E.SAGE_NO_HOLDER

/-- SAGE_HANDOVER (R397): from the holder, while the other core is eligible. -/
def doSageHandover (value : Nat) (m : Master) (d : Dev) : Dev :=
  match m.core with
  | none => d.violate m (R.SAGE_HANDOVER.addr 0 0) true
  | some c =>
    if d.holder ≠ some c then d.violate m (R.SAGE_HANDOVER.addr 0 0) true
    else if value % 2 = 0 || !d.eligible (1 - c) then d else d.handover (1 - c) false

/-- REVERT_HOLDOFF_MET (R397): Sage A has been eligible for HOLDOFF_S while Sage B holds the lease. -/
def doRevertHoldoffMet (d : Dev) : Dev :=
  match d.sage.eligClk with
  | none => d
  | some c =>
    if d.holder = some 1 && d.on F.SAGE_CTRL_REVERT_EN then
      (d.advance (c + sec (d.get F.SAGE_LEASE_CFG_HOLDOFF_S))).set F.SAGE_STATUS_REVERT_PENDING 1
    else d

/-- SAGE_WDT_KICK (R398): a core kicks its own watchdog. -/
def doSageWdtKick (value : Nat) (m : Master) (d : Dev) : Dev :=
  match m.core with
  | none => d.violate m (R.SAGE_WDT_KICK.addr 0 0) true
  | some c =>
    if value % 2 = 0 || !d.coreUp c then d else { d with sage := { d.sage with kick := SMap.set 0 d.sage.kick c d.tim.clk } }

/-- CORE_WATCHDOG_EXPIRY (R398, R513): WDT_MS without a kick resets that core alone. -/
def doCoreWatchdogExpiry (core : Nat) (d : Dev) : Dev :=
  let c := core % 2
  if !d.coreUp c then d
  else
    let d := d.advance (SMap.get 0 d.sage.kick c + ms (d.get F.SAGE_WDT_CFG_WDT_MS))
    let d := (((d.bump R.SAGE_CNT_WDT).bump R.RST_CNT 5).coreReset c).eligShow
    d.raise (if c = 0 then E.SAGE_WDT_A else E.SAGE_WDT_B)

/-- GLOBAL_WATCHDOG_EXPIRY (R398, R505): nobody has held the lease for GLOBAL_S. -/
def doGlobalWatchdogExpiry (d : Dev) : Dev :=
  if !d.running || !d.noHolder || !d.on F.RST_CTRL_GLOBAL_WDT_EN then d
  else (d.advance (d.sage.noneClk + sec (d.get F.SAGE_LEASE_CFG_GLOBAL_S))).sysReset 4

/-- Milliseconds since the control island's release, as RST_BOOT_STAGE and SAGE_BOOT_TIME count them. -/
def Dev.bootMs (d : Dev) : Nat := min 0xFFFF ((d.tim.clk - d.rst.relClk) / 1000000)

/-- IMAGE_COMMIT (R412): once per reset of the control island, from the lease holder: RWL fields lock, the targets leave the
restricted state, and fleet keying starts (R426). -/
def doImageCommit (m : Master) (d : Dev) : Dev :=
  if !d.isActive m then d.violate m (R.SAGE_CTRL.addr 0 0) true
  else if d.locked || d.rst.step ≠ 8 || d.rst.noImage then d
  else
    let d := ((d.set F.SAGE_STATUS_IMAGE_COMMITTED 1).set F.TAMP_STATUS_CLASSES_LOCKED 1).toStep 9
    let d := ((d.set F.GLB_STATUS_RESTRICTED 0).set F.SAGE_BOOT_TIME_BOOT_MS d.bootMs).set F.RST_BOOT_STAGE_MS d.bootMs
    let d := (d.set F.RST_BOOT_STAGE_STAGE 5).raise E.SAGE_IMAGE_COMMIT
    let d := d.rsmLog 0x14 (beBytes 4 (d.get F.SAGE_CFG_VERSION_VERSION) ++ beBytes 4 (d.get F.SAGE_FW_VERSION_VERSION) ++ beBytes 1 0)
    d.fleetStart

end Sys2Proof.Machine
end

