-- ==== Sys2Proof/Machine/Flash.lean ====
section
/-! DEFINITION. Flash: images and their verification, the choice of a slot, updates, the SVN and the change-set mailbox
(R401-R409, R413-R416, R519, R520). -/

namespace Sys2Proof.Machine

/-! Signature blocks and images (R403, R405, R406). -/

/-- A signature block verifies over `msg` (R405): its key's hash is fused in its slot, not revoked, and both signatures
hold. -/
def Dev.blockOk (d : Dev) (vendor : Bool) (blk msg : Bytes) : Bool :=
  let slot := numAt blk 4 1
  let magic := if vendor then 0x53494756 else 0x5349474F
  let fused := if vendor then d.fuse.venFused else d.fuse.opFused
  let revoked := if vendor then d.fuse.venRevoked else d.fuse.opRevoked
  let hash := SMap.get [] (if vendor then d.fuse.venHash else d.fuse.opHash) slot
  let ec := slice blk 8 97
  let ml := slice blk 105 2592
  decide (blk.length = 7424) && decide (numAt blk 0 4 = magic) && decide (slot < if vendor then 2 else 4) &&
    decide (numAt blk 5 3 = 0) && decide (numAt blk 7420 4 = 0) && bit fused slot && !bit revoked slot &&
    decide (sha384 (ec ++ ml) = hash) && Config.verifyHybrid ec ml msg (slice blk 2697 96) (slice blk 2793 4627)

/-- The section table of an image: type, flags, offset, length, digest (R403). -/
def sections (img : Bytes) : List (Nat × Nat × Nat × Nat × Bytes) :=
  (List.range (numAt img 34 2)).map (fun k =>
    let o := 128 + 64 * k
    (numAt img o 2, numAt img (o + 2) 2, numAt img (o + 4) 4, numAt img (o + 8) 4, slice img (o + 16) 48))

/-- The bytes of the section of a type, none where the image has none. -/
def sectOf (img : Bytes) (type : Nat) : Option Bytes :=
  ((sections img).find? (fun s => s.1 = type)).map (fun s => slice img s.2.2.1 s.2.2.2.1)

/-- Do two runs of bytes share one? -/
def overlap (a la b lb : Nat) : Bool := decide (a < b + lb) && decide (b < a + la)

/-- The form of an image (R403, R406). -/
def imageForm (img : Bytes) : Bool :=
  let n := numAt img 34 2
  let len := numAt img 8 4
  let ss := sections img
  let end_ := len - 14848
  decide (numAt img 0 4 = 0x56595332) && decide (numAt img 4 2 = 1) && decide (1 ≤ n) && decide (n ≤ 32) &&
    decide (numAt img 6 2 = 128 + 64 * n) && decide (1572864 ≤ len) && decide (len ≤ 16777216) && decide (len % 256 = 0) &&
    decide (len ≤ img.length) && decide (numAt img 12 4 ≠ 0) && decide (numAt img 26 2 ≠ 0) && decide (numAt img 20 1 < 64) &&
    decide (numAt img 24 2 < 4) && decide (numAt img 32 2 < 4096) && decide (numAt img 36 4 = 0) && decide (numAt img 96 32 = 0) &&
    decide ((ss.filter (fun s => s.1 = 1)).length = 1) &&
    ss.zipIdx.all (fun x =>
      let s := x.1
      decide (1 ≤ s.1) && decide (s.1 ≤ 6) && decide (s.2.1 = b2n (s.1 = 6)) && decide (s.2.2.1 % 256 = 0) &&
        decide (s.2.2.1 + s.2.2.2.1 ≤ end_) && decide (numAt img (128 + 64 * x.2 + 12) 4 = 0) &&
        (ss.take x.2).all (fun t => decide (t.1 ≠ s.1) && !overlap s.2.2.1 s.2.2.2.1 t.2.2.1 t.2.2.2.1))

/-- The header digest of an image (R407). -/
def hdrDigest (img : Bytes) : Bytes := sha384 (img.take (numAt img 6 2))

/-- M of the vendor block (R405). -/
def vendorMsg (img : Bytes) : Bytes :=
  ascii "SQ2FWSIG" ++ slice img 16 4 ++ slice img 20 1 ++ slice img 21 1 ++ slice img 22 2 ++
    ((sections img).find? (fun s => s.1 = 1)).elim [] (fun s => s.2.2.2.2)

/-- Verification of an image (R406, R409): 0, or the reason of NVL_BOOT_INFO.REJECT; `readErr` is a flash read error. -/
def Dev.verifyImage (d : Dev) (img : Bytes) (readErr : Bool) : Nat :=
  let len := numAt img 8 4
  if !imageForm img then 1
  else if !d.blockOk true (slice img (len - 14848) 7424) (vendorMsg img) then 2
  else if (d.fuse.lcs = 1 || d.fuse.lcs = 2) &&
      !d.blockOk false (slice img (len - 7424) 7424) (ascii "SQ2IMSIG" ++ img.take (numAt img 6 2)) then 3
  else if numAt img 22 2 ≠ 0x6400 then 4
  else if 0xB0 < numAt img 21 1 then 5
  else if numAt img 20 1 < d.fuse.svn then 6
  else if numAt img 40 8 ≠ 0 ∧ numAt img 40 8 ≠ d.fuse.serial then 7
  else if (sections img).any (fun s => sha384 (slice img s.2.2.1 s.2.2.2.1) != s.2.2.2.2) then 8
  else if readErr then 9
  else 0

/-! Commit records (R402, R407). -/

def Dev.recs (d : Dev) (cs : Nat) : List Bytes := SMap.get [] d.flash.recs (cs % 2)

/-- Is a commit record valid (R407)? -/
def recValid (r : Bytes) : Bool :=
  decide (r.length = 256) && decide (numAt r 0 4 = 0x53514352) && decide (numAt r 248 4 = crc32 (r.take 248)) &&
    decide (numAt r 252 1 = 0x5A) && decide (numAt r 253 1 = 0xFF)

/-- The valid commit records of both chip selects. -/
def Dev.validRecs (d : Dev) : List Bytes := ((d.recs 0) ++ (d.recs 1)).filter recValid

/-- The valid commit record with the highest SEQ (R408). -/
def Dev.topRec (d : Dev) : Option Bytes :=
  d.validRecs.foldl (fun (b : Option Bytes) r =>
    match b with
    | some x => if numAt x 4 8 < numAt r 4 8 then some r else b
    | none => some r) none

/-- NVL_COMMIT_SEQ follows the records. -/
def Dev.seqShow (d : Dev) : Dev := d.putNum R.NVL_COMMIT_SEQ (d.topRec.elim 0 (fun r => numAt r 4 8 % 2 ^ 32))

/-- Bytes with the one at offset `o` programmed to `v`. -/
def programByte (bs : Bytes) (o : Nat) (v : Byte) : Bytes := bs.take o ++ v :: bs.drop (o + 1)

/-- KILL is programmed in every valid record that `p` names. -/
def Dev.killRecs (d : Dev) (p : Bytes → Bool) : Dev :=
  let f (l : List Bytes) := l.map (fun r => if recValid r && p r then programByte r 253 0 else r)
  ({ d with flash := { d.flash with recs := SMap.set [] (SMap.set [] d.flash.recs 0 (f (d.recs 0))) 1 (f (d.recs 1)) } }).seqShow

/-- A commit record for an image slot (R407). -/
def Dev.newRec (d : Dev) (slot : Nat) (img : Bytes) : Bytes :=
  let top := ((d.recs 0) ++ (d.recs 1)).foldl (fun m r => max m (numAt r 4 8)) 0
  let body := beBytes 4 0x53514352 ++ beBytes 8 (top + 1) ++ beBytes 1 slot ++ zeros 3 ++ slice img 12 4 ++ slice img 8 4 ++
    hdrDigest img ++ zeros 176
  body ++ beBytes 4 (crc32 body) ++ [0x5A, 0xFF, 0xFF, 0xFF]

/-- A record is appended to the commit area of a chip select: a ring of four sectors of 256 records, the next sector erased
just before the ring enters it (R402). -/
def Dev.addRec (d : Dev) (cs : Nat) (r : Bytes) : Dev :=
  let l := d.recs cs
  let d := if l.length % 256 = 0 then d.bump R.NVL_ERASE_CNT else d
  let l := if 1024 ≤ l.length then l.drop 256 else l
  ({ d with flash := { d.flash with recs := SMap.set [] d.flash.recs (cs % 2) (l ++ [r]) } }).seqShow

/-! The choice of a slot (R45, R408, R519, R520). -/

def Dev.slotImg (d : Dev) (slot : Nat) : Bytes := SMap.get [] d.flash.slot (slot % 2)

/-- NVL_SLOT_A_VER and NVL_SLOT_B_VER: the version of a slot at its last passing verification. -/
def Dev.slotVer (d : Dev) (slot v : Nat) : Dev := d.putNum (if slot % 2 = 0 then R.NVL_SLOT_A_VER else R.NVL_SLOT_B_VER) v

/-- RST_BOOT_STAGE (R531): MS counts from the release and freezes with stages 5 and 6. -/
def Dev.bootStage (d : Dev) (s : Nat) : Dev := (d.set F.RST_BOOT_STAGE_STAGE s).set F.RST_BOOT_STAGE_MS d.bootMs

/-- The strap-default pin configuration and the state of R45. -/
def Dev.noImage (d : Dev) : Dev :=
  let d := { d with rst := { d.rst with noImage := true, pinsOn := true, bootTry := 0 } }
  (d.set F.GLB_STATUS_NO_IMAGE 1).bootStage 6

/-- The four settings of a good SQ1 copy: width 16, slot B, I2C, debug open (R519); none where the copy is not good
(R520). -/
def optionCopy (c : Bytes) : Option (Bool × Bool × Bool × Bool) :=
  let ob (k : Nat) := numAt c (2 + 2 * k) 1
  let pairs := (List.range 9).all (fun k => (numAt c (2 * k) 1 ^^^ numAt c (2 * k + 1) 1) == 0xFF)
  let values := (ob 0 == 8 || ob 0 == 16) && Nat.ble (ob 1) 1 && Nat.ble (ob 2) 1 && Nat.ble (ob 3) 1
  if c.length == 18 && pairs && numAt c 0 1 == 0x51 && values then some (ob 0 == 16, ob 1 == 1, ob 2 == 1, ob 3 == 1)
  else none

/-- The option bytes of a copy, as RST_OPT_LO and RST_OPT_HI show them. -/
def Dev.optShow (d : Dev) (c : Bytes) : Dev :=
  let ob (k : Nat) := numAt c (2 + 2 * k) 1
  let w (k : Nat) := ob k + ob (k + 1) * 2 ^ 8 + ob (k + 2) * 2 ^ 16 + ob (k + 3) * 2 ^ 24
  (d.putNum R.RST_OPT_LO (w 0)).putNum R.RST_OPT_HI (w 4)

/-- The option bytes with strap code 0 (R520): copy 0, else copy 1, else the strap defaults. -/
def Dev.readOptions (d : Dev) (c0 c1 : Bytes) : Dev :=
  match optionCopy c0, optionCopy c1 with
  | some x, _ => ((d.applySettings 1 x).optShow c0).set F.RST_STATUS_SQ1_OPTIONS 1
  | none, some x => (((d.applySettings 2 x).optShow c1).set F.RST_STATUS_SQ1_OPTIONS 1).raise E.RST_OPT_COPY_BAD
  | none, none => (d.applySettings 3 (strapSettings 15)).raise E.RST_OPT_BAD

/-- The devices on the chip selects are identified (R401, R424). -/
def Dev.flashFind (d : Dev) (size0 size1 : Nat) : Dev :=
  let s0 := if size0 = 2 then 2 else 1
  let s1 := if size1 = 2 then 2 else 1
  let d := { d with flash := { d.flash with size0 := s0, size1 := s1 } }
  (((d.set F.NVL_ID_CS0_SIZE s0).set F.NVL_ID_CS1_SIZE s1).wearShow).rsmPlace

/-- The option bytes, read with strap code 0 (R520). -/
def Dev.optionStage (d : Dev) (copy0 copy1 : Bytes) : Dev :=
  if d.on F.RST_STRAP_VALID && !d.on F.RST_STRAP_OUT_OF_BAND && d.get F.RST_STRAP_CODE == 0 then
    (d.bootStage 0).readOptions copy0 copy1
  else d

/-- The choice of the first slot (R408), none in DECOMMISSIONED (R409). -/
def Dev.chooseSlot (d : Dev) : Dev :=
  let r := d.rst
  let c := d.tim.clk
  if d.fuse.lcs = 4 then ({ d with rst := { r with step := 7 } }).noImage
  else match d.topRec with
  | some x =>
    ({ d with rst := { r with step := 7, bootTry := 1, bootSlot := numAt x 12 1 % 2, bootRec := some (slice x 24 48), bootClk := c } }).bootStage 2
  | none =>
    let slot := d.get F.RST_SETTINGS_SLOT_B
    ({ d with rst := { r with step := 7, bootTry := 1, bootSlot := slot, bootRec := none, bootClk := c } }).bootStage 2

/-- SLOT_CHOICE (R401, R408, R409): after the release the loader identifies the devices, reads the option bytes with code 0,
chooses the first slot and starts to verify it. -/
def doSlotChoice (size0 size1 : Nat) (copy0 copy1 : Bytes) (d : Dev) : Dev :=
  if d.rst.step = 6 then
    ((((d.flashFind size0 size1).optionStage copy0 copy1).seqShow).bootStage 1).chooseSlot
  else d

/-- The Rosemary record of a rejected version, with its reason (R35, R408, R412). -/
def Dev.rejectLog (d : Dev) (version reason : Nat) : Dev := d.rsmLog 0x14 (beBytes 4 version ++ beBytes 4 0 ++ beBytes 1 reason)

/-- The slot that verification has passed is loaded, and the cores are released (R392, R393, R406, R408). -/
def Dev.loadSlot (d : Dev) (img : Bytes) : Dev :=
  let slot := d.rst.bootSlot
  let src := if d.rst.bootTry = 2 then 2 else if d.rst.bootRec.isSome then 0 else 1
  let d := ((d.set F.NVL_BOOT_INFO_VALID 1).set F.NVL_BOOT_INFO_SLOT slot).set F.NVL_BOOT_INFO_SOURCE src
  let d := (d.putNum R.SAGE_FW_VERSION (numAt img 16 4)).bootStage 3
  let c := d.tim.clk
  let d := { d with
    rst := { d.rst with step := 8, bootTry := 0 },
    fleet := { d.fleet with domain := numAt img 28 4, member := numAt img 32 2 },
    sage := { d.sage with renewClk := c, kick := SMap.set 0 (SMap.set 0 d.sage.kick 0 c) 1 c,
                          firmware := (sectOf img 1).getD [] } }
  let d := (d.set F.SAGE_A_STATE_STATE 3).set F.SAGE_B_STATE_STATE 3
  let d := if src = 2 then (d.raise E.NVL_FALLBACK).rejectLog (numAt (d.slotImg (1 - slot)) 12 4) (d.get F.NVL_BOOT_INFO_REJECT) else d
  d.domShow

/-- IMAGE_VERIFY_DONE (R406, R408): verification of a slot ends `usec` µs after it began. -/
def doImageVerifyDone (readErr : Bool) (usec : Nat) (d : Dev) : Dev :=
  if d.rst.step ≠ 7 || d.rst.bootTry = 0 then d
  else
    let d := d.advance (d.tim.clk + us usec)
    let slot := d.rst.bootSlot
    let img := d.slotImg slot
    let d := d.set F.SAGE_BOOT_TIME_VERIFY_MS (min 0xFFFF ((d.tim.clk - d.rst.bootClk) / 1000000))
    let r := d.verifyImage img readErr
    let d := if r = 0 then d.slotVer slot (numAt img 12 4) else d
    let first := decide (d.rst.bootTry = 1)
    let r := if r = 0 && first && decide (d.rst.bootRec.isSome) && some (hdrDigest img) != d.rst.bootRec then 10 else r
    if r = 0 then d.loadSlot img
    else if first then
      { d.set F.NVL_BOOT_INFO_REJECT r with rst := { d.rst with bootTry := 2, bootSlot := 1 - slot } }
    else d.noImage

/-! Updating a slot (R413, R414). -/

/-- May a master use the update engine (R413): the lease holder, principal 1 over SPI or I2C, principal 0 in FACTORY? -/
def Dev.mayUpdate (d : Dev) (m : Master) : Bool :=
  match m with
  | .spi => true
  | .i2c => true
  | _ => d.isActive m

def Dev.updState (d : Dev) : Nat := d.get F.NVL_UPD_STATUS_STATE

/-- A refused update command: its reason, the update as it was. -/
def Dev.updRefuse (d : Dev) (reason : Nat) : Dev := d.set F.NVL_UPD_STATUS_REASON reason

/-- The update ends ABORTED; KILL is programmed in every commit record that it has written (R414). -/
def Dev.updAborted (d : Dev) (reason : Nat) : Dev :=
  let n := if d.flash.wrote.isEmpty then 0 else ((d.recs 0) ++ (d.recs 1)).foldl (fun m r => max m (numAt r 4 8)) 0
  let d := if n = 0 then d else d.killRecs (fun r => numAt r 4 8 = n)
  let d := ((d.set F.NVL_UPD_STATUS_STATE 7).set F.NVL_UPD_STATUS_REASON reason).set F.NVL_STATUS_UPD_BUSY 0
  ({ d with flash := { d.flash with owner := none, page := [], wrote := [] } }).raise E.NVL_UPD_ABORTED

/-- A program or an erase that the device reports as failed (R402). -/
def Dev.flashFail (d : Dev) (erase : Bool) (cs addr : Nat) : Dev :=
  let d := ((d.set F.NVL_ERR_ADDR_VALID 1).set F.NVL_ERR_ADDR_CS (cs % 2)).set F.NVL_ERR_ADDR_ADDR addr
  if erase then (d.bump R.NVL_CNT_ERASE_FAIL).raise E.NVL_ERASE_FAIL else (d.bump R.NVL_CNT_PROG_FAIL).raise E.NVL_PROG_FAIL

/-- Is a change set STAGED? -/
def Dev.csStaged (d : Dev) : Bool := d.get F.SAGE_CS_STATUS_STATE = 3

/-- UPD_START (R413): the target is the slot that is not running; where none runs, the one that NVL_BOOT_INFO does not
name. -/
def doUpdStart (m : Master) (d : Dev) : Dev :=
  if !d.mayUpdate m then d.violate m (R.NVL_UPD_CMD.addr 0 0) true
  else if decide (1 ≤ d.updState) && decide (d.updState ≤ 5) then
    d.updRefuse (if d.flash.owner = some m.code then 2 else 1)
  else if d.csStaged then d.updRefuse 1
  else
    let len := d.get F.NVL_UPD_LEN_BYTES
    if len < 1572864 ∨ 16777216 < len ∨ len % 256 ≠ 0 then d.updRefuse 3
    else
      let t := 1 - d.get F.NVL_BOOT_INFO_SLOT
      let d := d.killRecs (fun r => numAt r 12 1 = t)
      let k := (d.flash.ticket + 1) % 2 ^ 16
      let d := { d with flash := { d.flash with owner := some m.code, ticket := k, page := [], wrote := [] } }
      let d := d.putNum R.NVL_UPD_STATUS (1 * 2 ^ 29 + t * 2 ^ 26 + k)
      (d.putNum R.NVL_UPD_OFFSET 0).set F.NVL_STATUS_UPD_BUSY 1

/-- UPD_ERASE_DONE (R402, R413): `fail` is the address of a sector whose erase failed; what a failed erase has left is
free. -/
def doUpdEraseDone (fail : Option Nat) (d : Dev) : Dev :=
  if d.updState ≠ 1 then d
  else
    let t := d.get F.NVL_UPD_STATUS_SLOT
    match fail with
    | none =>
      let d := { d with flash := { d.flash with slot := SMap.set [] d.flash.slot t [], jrnl := SMap.set [] d.flash.jrnl t [] } }
      ((d.bump R.NVL_ERASE_CNT (n := 512)).slotVer t 0).set F.NVL_UPD_STATUS_STATE 2
    | some a =>
      let old := d.slotImg t
      let k := d.freeVal % 257
      let img := (List.replicate (k * 65536) (0xFF : Byte)).take old.length ++ old.drop (k * 65536)
      let d := { d with flash := { d.flash with slot := SMap.set [] d.flash.slot t img } }
      ((d.freeNext).flashFail true t (a % 2 ^ 28)).updAborted 7

/-- UPD_DATA (R413): the next word of the image; a full page is programmed, `fail` where the device reports failure. -/
def doUpdData (word : Nat) (fail : Bool) (m : Master) (d : Dev) : Dev :=
  if !d.mayUpdate m then d.violate m (R.NVL_UPD_DATA.addr 0 0) true
  else if d.updState ≠ 2 || d.flash.owner ≠ some m.code then d
  else
    let off := d.get F.NVL_UPD_OFFSET_BYTES
    let t := d.get F.NVL_UPD_STATUS_SLOT
    let page := d.flash.page ++ beBytes 4 word
    if d.get F.NVL_UPD_LEN_BYTES < off + page.length then d.updAborted 4
    else if page.length < 256 then { d with flash := { d.flash with page := page } }
    else if fail then (d.flashFail false t (0x100000 + off)).updAborted 6
    else
      let d := { d with flash := { d.flash with page := [], slot := SMap.set [] d.flash.slot t (d.slotImg t ++ page) } }
      d.set F.NVL_UPD_OFFSET_BYTES (off + 256)

/-- UPD_FINISH (R413): accepted with every byte programmed. -/
def doUpdFinish (m : Master) (d : Dev) : Dev :=
  if !d.mayUpdate m then d.violate m (R.NVL_UPD_CMD.addr 0 0) true
  else if d.updState ≠ 2 || d.flash.owner ≠ some m.code || d.get F.NVL_UPD_OFFSET_BYTES ≠ d.get F.NVL_UPD_LEN_BYTES then d.updRefuse 2
  else (d.set F.NVL_UPD_STATUS_STATE 3).set F.NVL_UPD_STATUS_REASON 0

/-- UPD_VERIFY_DONE (R413): the target slot by R406. -/
def doUpdVerifyDone (readErr : Bool) (d : Dev) : Dev :=
  if d.updState ≠ 3 then d
  else
    let t := d.get F.NVL_UPD_STATUS_SLOT
    let r := d.verifyImage (d.slotImg t) readErr
    if r = 0 then (d.slotVer t (numAt (d.slotImg t) 12 4)).set F.NVL_UPD_STATUS_STATE 4
    else (((d.set F.NVL_BOOT_INFO_REJECT r).bump R.NVL_CNT_VERIFY_FAIL).raise E.NVL_VERIFY_FAIL).updAborted 5

/-- UPD_COMMIT (R413, R421): the commit record on the target's chip select. -/
def doUpdCommit (m : Master) (d : Dev) : Dev :=
  if !d.mayUpdate m then d.violate m (R.NVL_UPD_CMD.addr 0 0) true
  else if d.updState ≠ 4 || d.flash.owner ≠ some m.code then d.updRefuse 2
  else if d.csStaged then d.updRefuse 1
  else
    let t := d.get F.NVL_UPD_STATUS_SLOT
    let d := d.addRec t (d.newRec t (d.slotImg t))
    let d := { d with flash := { d.flash with wrote := [t] } }
    (d.set F.NVL_UPD_STATUS_STATE 5).set F.NVL_UPD_STATUS_REASON 0

/-- UPD_COMPLETE (R413, R414): the record on the other chip select, and both read back valid; `fail` where a program was
reported as failed. -/
def doUpdComplete (fail : Option (Nat × Nat)) (d : Dev) : Dev :=
  if d.updState ≠ 5 then d
  else match fail with
  | some (cs, a) => (d.flashFail false cs (a % 2 ^ 28)).updAborted 6
  | none =>
    let t := d.get F.NVL_UPD_STATUS_SLOT
    let d := d.addRec (1 - t) (((d.recs t).getLast?).getD [])
    let d := (d.set F.NVL_UPD_STATUS_STATE 6).set F.NVL_STATUS_UPD_BUSY 0
    ({ d with flash := { d.flash with owner := none, wrote := [] } }).raise E.NVL_UPD_DONE

/-- UPD_ABORT (R413, R414). -/
def doUpdAbort (ticket : Nat) (m : Master) (d : Dev) : Dev :=
  if !d.mayUpdate m then d.violate m (R.NVL_UPD_CMD.addr 0 0) true
  else
    let d := d.abortReq E.NVL_UPD_ABORTED
    if d.updState = 0 || ticket % 2 ^ 16 ≠ d.get F.NVL_UPD_STATUS_TICKET then d.set F.NVL_UPD_STATUS_ABORT_RESULT 3
    else if 6 ≤ d.updState then d.set F.NVL_UPD_STATUS_ABORT_RESULT 2
    else (d.set F.NVL_UPD_STATUS_ABORT_RESULT 1).updAborted 8

/-- SVN_ADVANCE (R415): from the lease holder, to a value above the fused one that both slots meet. -/
def doSvnAdvance (value : Nat) (m : Master) (d : Dev) : Dev :=
  if !d.isActive m then d.violate m (R.NVL_SVN_CMD.addr 0 0) true
  else
    let v := value % 64
    let ok s := d.verifyImage (d.slotImg s) false = 0 && decide (v ≤ numAt (d.slotImg s) 20 1)
    if d.on F.NVL_STATUS_SVN_BUSY || decide (v ≤ d.fuse.svn) || !ok 0 || !ok 1 then d
    else ({ d with flash := { d.flash with svnNew := some v } }).set F.NVL_STATUS_SVN_BUSY 1

/-- SVN_DONE (R415). -/
def doSvnDone (d : Dev) : Dev :=
  match d.flash.svnNew with
  | none => d
  | some v =>
    let d := { d with flash := { d.flash with svnNew := none }, fuse := { d.fuse with svn := v } }
    (((d.set F.NVL_STATUS_SVN_BUSY 0).set F.NVL_SVN_SVN v).rsmLog 0x14 (beBytes 4 v ++ beBytes 4 0 ++ beBytes 1 0)).raise E.NVL_SVN_DONE

/-! The mailbox (R416). -/

/-- SAGE_MBOX_CLEAR (R416). -/
def doSageMboxClear (m : Master) (d : Dev) : Dev :=
  if !d.mayWrite m then d.violate m (R.SAGE_MBOX_CTRL.addr 0 0) true
  else ({ d with sage := { d.sage with mbox := [] } }).putNum R.SAGE_MBOX_STATUS 0

/-- SAGE_MBOX_DATA (R416, R422): the next word; with 1 MiB held further words are ignored. -/
def doSageMboxData (word : Nat) (m : Master) (d : Dev) : Dev :=
  if !d.mayWrite m then d.violate m (R.SAGE_MBOX_DATA.addr 0 0) true
  else if decide (262144 ≤ d.sage.mbox.length) then d
  else
    let d := { d with sage := { d.sage with mbox := d.sage.mbox ++ [word % 2 ^ 32] } }
    (d.set F.SAGE_MBOX_STATUS_WORDS d.sage.mbox.length).flag F.SAGE_MBOX_STATUS_FULL (decide (262144 ≤ d.sage.mbox.length))

/-- A change set enters VERIFYING with a ticket of its own (R417); BUSY while another is handled, or while an update is
COMMITTING (R421). -/
def Dev.csTake (d : Dev) (bytes : Bytes) : Dev :=
  let st := d.get F.SAGE_CS_STATUS_STATE
  if d.rst.step ≠ 9 || d.active.isNone then d
  else if (decide (1 ≤ st) && decide (st ≤ 3)) || d.updState = 5 then
    (d.set F.SAGE_CS_STATUS_REASON 1).bump R.SAGE_CNT_CS_ABORTED
  else
    let t := (d.sage.csTicket + 1) % 2 ^ 16
    let d := { d with sage := { d.sage with csTicket := t, cs := { bytes := bytes } } }
    d.putNum R.SAGE_CS_STATUS (2 ^ 29 + t)

/-- CS_LOAD (R416): the change set in the mailbox. -/
def doCsLoad (m : Master) (d : Dev) : Dev :=
  if !d.mayWrite m then d.violate m (R.SAGE_CS_CMD.addr 0 0) true
  else d.csTake (wordsToBytes d.sage.mbox)

end Sys2Proof.Machine
end

