-- ==== Sys2Proof/Machine/Lcs.lean ====
section
/-! DEFINITION. Lifecycle transitions, key slots and the provisioning buffer (R558-R561). -/

namespace Sys2Proof.Machine

/-- Bits 3:0 of a mask that are set. -/
def slotsOf (m : Nat) : List Nat := (List.range 4).filter (bit m)

/-- Operator slots fused and not revoked. -/
def Dev.opLive (d : Dev) : List Nat := (slotsOf d.fuse.opFused).filter (fun s => !bit d.fuse.opRevoked s)

/-- Vendor slots fused and not revoked. -/
def Dev.venLive (d : Dev) : List Nat := (slotsOf d.fuse.venFused).filter (fun s => !bit d.fuse.venRevoked s)

/-- GLB_LCS_CONFIRM (R559, R560): the right value arms one command for 1 ms. -/
def doGlbLcsConfirm (value : Nat) (m : Master) (d : Dev) : Dev :=
  if !d.mayWrite m then d.violate m (R.GLB_LCS_CONFIRM.addr 0 0) true
  else { d with mgmt := { d.mgmt with lcsArmed := if value % 2 ^ 32 = 0x4C435354 then some d.tim.clk else none } }

/-- Does a command follow the confirmation within 1 ms? -/
def Dev.lcsConfirmed (d : Dev) : Bool :=
  match d.mgmt.lcsArmed with
  | some c => decide (d.tim.clk ≤ c + ms 1)
  | none => false

/-- The confirmation is used up. -/
def Dev.lcsDisarm (d : Dev) : Dev := { d with mgmt := { d.mgmt with lcsArmed := none } }

/-- A transition or a key-slot command runs (R560, R562). -/
def Dev.lcsBusy (d : Dev) : Bool := d.mgmt.lcsOp ≠ 0 || d.mgmt.ksOp ≠ 0

/-! Key slots (R559). -/

/-- May a master send key-slot commands? -/
def Dev.keyslotMay (d : Dev) (m : Master) : Bool :=
  match d.principal m with
  | some 0 => d.fuse.lcs = 0
  | some 1 => 1 ≤ d.fuse.lcs && d.fuse.lcs ≤ 3
  | some _ => false
  | none => d.isActive m && 1 ≤ d.fuse.lcs && d.fuse.lcs ≤ 3

/-- Is a key-slot command allowed in this state and for this slot (R558, R559)?  1 FUSE_OPERATOR, 2 REVOKE_OPERATOR,
3 REVOKE_VENDOR. -/
def Dev.keyslotOk (d : Dev) (op slot : Nat) : Bool :=
  match op with
  | 1 => decide (d.fuse.lcs ≤ 1) && !bit d.fuse.opFused slot
  | 2 => decide (d.fuse.lcs ≤ 3) && d.opLive != [slot]
  | _ => decide (d.fuse.lcs = 0) && decide (slot < 2) && d.venLive != [slot]

/-- A key-slot command (R559). -/
def Dev.keyslot (d : Dev) (op slot : Nat) (m : Master) : Dev :=
  if !d.keyslotMay m then d.violate m (R.GLB_KEYSLOT_CMD.addr 0 0) true
  else if !d.lcsConfirmed || d.lcsBusy || !d.keyslotOk op (slot % 4) then d.lcsDisarm
  else
    let h := (SMap.get [] d.mgmt.prov 0 ++ zeros 48).take 48
    let d := d.lcsDisarm
    ({ d with mgmt := { d.mgmt with ksOp := op, ksSlot := slot % 4, ksHash := h } }).set F.GLB_KEYSLOT_STATUS_BUSY 1

/-- FUSE_OPERATOR (R559): the hash is in entry 0 of the provisioning buffer. -/
def doFuseOperator (slot : Nat) (m : Master) (d : Dev) : Dev := d.keyslot 1 slot m
/-- REVOKE_OPERATOR (R559). -/
def doRevokeOperator (slot : Nat) (m : Master) (d : Dev) : Dev := d.keyslot 2 slot m
/-- REVOKE_VENDOR (R559). -/
def doRevokeVendor (slot : Nat) (m : Master) (d : Dev) : Dev := d.keyslot 3 slot m

/-- The fuses after a key-slot command. -/
def Dev.keyslotFuse (d : Dev) : FuseSt :=
  let s := d.mgmt.ksSlot
  match d.mgmt.ksOp with
  | 1 => { d.fuse with opFused := d.fuse.opFused ||| 2 ^ s, opHash := SMap.set [] d.fuse.opHash s d.mgmt.ksHash }
  | 2 => { d.fuse with opRevoked := d.fuse.opRevoked ||| 2 ^ s }
  | _ => { d.fuse with venRevoked := d.fuse.venRevoked ||| 2 ^ s }

/-- KEYSLOT_DONE (R559): `ok` says that the fuses verified. -/
def doKeyslotDone (ok : Bool) (d : Dev) : Dev :=
  if d.mgmt.ksOp = 0 then d
  else
    let op := d.mgmt.ksOp
    let s := d.mgmt.ksSlot
    let d := if ok then { d with fuse := d.keyslotFuse } else d
    let d := { d with mgmt := { d.mgmt with ksOp := 0, ksSlot := 0, ksHash := [] } }
    let d := (d.set F.GLB_KEYSLOT_STATUS_BUSY 0).flag F.GLB_KEYSLOT_STATUS_LAST_OK ok
    (d.raise E.GLB_KEYSLOT_DONE).rsmLog 0x14 (beBytes 1 op ++ beBytes 1 s ++ beBytes 1 (b2n ok))

/-! Lifecycle transitions (R560, R561). -/

/-- A transition is refused with a reason. -/
def Dev.lcsRefuse (d : Dev) (reason : Nat) : Dev := (d.set F.GLB_LCS_STATUS_REASON reason).raise E.GLB_LCS_REFUSED

/-- May a master send a transition, in the present state?  1 PROVISION, 2 OPERATE, 3 FIELD_RETURN, 4 DECOMMISSION. -/
def Dev.lcsMay (d : Dev) (op : Nat) (m : Master) : Bool :=
  let p := d.principal m
  match op with
  | 1 => decide (d.fuse.lcs = 0) && p == some 0
  | 2 => decide (d.fuse.lcs = 1) && (p == some 1 || d.isActive m)
  | 3 => (d.fuse.lcs == 1 || d.fuse.lcs == 2) && (p == some 1 || d.isActive m)
  | _ => decide (1 ≤ d.fuse.lcs) && decide (d.fuse.lcs ≤ 3) && p == some 1

/-- The bytes of the provisioning buffer from byte 64 (R561). -/
def Dev.provBytes (d : Dev) : Bytes := (List.range 27).flatMap (fun k => (SMap.get [] d.mgmt.prov (k + 1) ++ zeros 64).take 64)

/-- Bytes into the provisioning buffer from byte 64; entries of zeros are not kept. -/
def Dev.provPut (d : Dev) (bs : Bytes) : Dev :=
  let p := (List.range 27).foldl (fun (m : SMap Bytes) k =>
    let e := (slice bs (64 * k) 64 ++ zeros 64).take 64
    SMap.set [] m (k + 1) (if e.all (· == 0) then [] else e)) d.mgmt.prov
  { d with mgmt := { d.mgmt with prov := p } }

/-- The export of the image key (R561), over the transport keys; the ephemeral keys are free. -/
def Dev.exportKey (d : Dev) : Dev :=
  let t := d.provBytes.take 1665
  let (d, s1) := d.drawSeed
  let (d, s2) := d.drawSeed
  let ec := Config.ecKeyPair s1
  let k := Config.kemEncaps (t.drop 97) s2
  let wrap := kdf (Config.ecdh ec.1 (t.take 97) ++ k.2) (ascii "SQ2IMGEX" ++ beBytes 8 d.fuse.serial ++ sha384 t) 32
  (d.provPut (ec.2 ++ k.1 ++ keyWrap wrap (Config.deviceSecret 1))).set F.GLB_LCS_STATUS_EXPORT_READY 1

/-- Step 2 of R560: the CONFIG record. -/
def Dev.lcsRecord (d : Dev) : Dev :=
  let d := d.rsmLog 0x14 (beBytes 1 d.mgmt.lcsOp ++ beBytes 1 d.fuse.lcs)
  { d with mgmt := { d.mgmt with lcsPhase := 2, lcsClk := d.tim.clk, lcsLseq := d.rsm.lseq } }

/-- The actions before the fuses (R560). -/
def Dev.lcsActions (d : Dev) (op : Nat) : Dev :=
  match op with
  | 1 => { d.exportKey with mgmt := { d.exportKey.mgmt with lcsPhase := 1, lcsClk := d.tim.clk } }
  | 2 => d.lcsRecord
  | 3 => ({ d with fuse := { d.fuse with imageKeyBlown := true } }).lcsRecord
  | _ =>
    let d := { d with flash := { d.flash with recs := [], slot := [], jrnl := [] }, fuse := { d.fuse with secretBlown := true } }
    (((d.bump R.NVL_ERASE_CNT (n := 1032)).seqShow).slotVer 0 0).slotVer 1 0 |>.lcsRecord

/-- A lifecycle transition (R560). -/
def Dev.lcsCommand (d : Dev) (op : Nat) (m : Master) : Dev :=
  let inject := d.get F.MNT_TEST_CTRL_INJECT ≠ 0
  let t := d.provBytes.take 1665
  let target := if op = 1 then 1 else if op = 2 then 2 else if op = 3 then 3 else 4
  let c := d.lcsConfirmed
  let d := d.lcsDisarm
  if d.lcsBusy then d.lcsRefuse 7
  else if !c then d.lcsRefuse 1
  else if !d.lcsMay op m then d.lcsRefuse 2
  else if op = 1 ∧ d.opLive = [] then d.lcsRefuse 3
  else if op = 1 ∧ inject then d.lcsRefuse 4
  else if op = 1 ∧ (t.all (· == 0) = true ∨ Config.keysValid (t.take 97) (t.drop 97) = false) then d.lcsRefuse 5
  else if op = 2 ∧ d.locked = false then d.lcsRefuse 6
  else
    let d := ((d.set F.GLB_LCS_STATUS_TARGET target).set F.GLB_LCS_STATUS_BUSY 1).set F.GLB_LCS_STATUS_REASON 0
    ({ d with mgmt := { d.mgmt with lcsOp := op } }).lcsActions op

/-- PROVISION (R560, R561). -/
def doProvision (m : Master) (d : Dev) : Dev := d.lcsCommand 1 m
/-- OPERATE (R560). -/
def doOperate (m : Master) (d : Dev) : Dev := d.lcsCommand 2 m
/-- FIELD_RETURN (R560). -/
def doFieldReturn (m : Master) (d : Dev) : Dev := d.lcsCommand 3 m
/-- DECOMMISSION (R560). -/
def doDecommission (m : Master) (d : Dev) : Dev := d.lcsCommand 4 m

/-- The running transition ends without a change of state. -/
def Dev.lcsStop (d : Dev) (reason : Nat) : Dev :=
  let d := { d with mgmt := { d.mgmt with lcsOp := 0, lcsPhase := 0, lcsLseq := 0 } }
  (((d.set F.GLB_LCS_STATUS_BUSY 0).set F.GLB_LCS_STATUS_TARGET 0).set F.GLB_LCS_STATUS_EXPORT_READY 0).lcsRefuse reason

/-- LCS_TRANSITION_COMPLETE (R560): with the record durable or 10 ms past, the state fuses are programmed, `ok` where they
verify; the LIFECYCLE reset follows. -/
def doLcsTransitionComplete (ok : Bool) (d : Dev) : Dev :=
  if d.mgmt.lcsPhase ≠ 2 then d
  else
    let d := if d.mgmt.lcsLseq ≤ d.rsm.durable then d else d.advance (d.mgmt.lcsClk + ms 10)
    if !ok then d.lcsStop 9
    else
      let d := { d with fuse := { d.fuse with lcs := d.get F.GLB_LCS_STATUS_TARGET } }
      (d.raise E.GLB_LCS_DONE).sysReset 15

/-- A read of an entry of the provisioning buffer (R561, R563): an entry of the export erases itself as principal 0 reads
it, and entry 27 lets the transition go on. -/
def Dev.provRead (d : Dev) (idx : Nat) (m : Master) : Dev × List Nat :=
  let e := SMap.get [] d.mgmt.prov idx
  let ws := bytesToWords e
  if d.principal m = some 0 ∧ d.mgmt.lcsPhase = 1 ∧ 1 ≤ idx ∧ idx ≤ 27 then
    let d := { d with mgmt := { d.mgmt with prov := SMap.set [] d.mgmt.prov idx [] } }
    (if idx = 27 then (d.set F.GLB_LCS_STATUS_EXPORT_READY 0).lcsRecord else d, ws)
  else (d, ws)

/-- May a master reach the provisioning buffer (R563)? -/
def Dev.provMay (d : Dev) (m : Master) : Bool :=
  (d.principal m == some 0 && d.fuse.lcs == 0) || m == .sageA || m == .sageB

/-- PROVISION_BUFFER_READ (R561): principal 0 reads an entry through the window. -/
def doProvisionBufferRead (index : Nat) (m : Master) (d : Dev) : Dev :=
  if !d.provMay m then d.violate m 0x01000050 true
  else
    let r := d.provRead (index % 256) m
    ((r.2 ++ List.replicate 16 0).take 16).foldl (fun d w => d.answer w) r.1

/-- EXPORT_TIMEOUT (R561): entry 27 has not been read within 60 s. -/
def doExportTimeout (d : Dev) : Dev :=
  if d.mgmt.lcsPhase ≠ 1 then d
  else
    let d := d.advance (d.mgmt.lcsClk + sec 60)
    ({ d with mgmt := { d.mgmt with prov := [] } }).lcsStop 8

end Sys2Proof.Machine
end

