-- ==== Sys2Proof/Machine/Second.lean ====
section
/-! DEFINITION. Steps of network time, Thyme seconds with every per-second latch and snapshot, and the periodic telemetry
(R37, R370-R372, R382, R556, R557, R573-R577). -/

namespace Sys2Proof.Machine

/-! Captures of a Thyme second (R556, R573, R577). -/

/-- The words of a counter's snapshot (R574). -/
def cntSnap (c : Cnt) : List Nat :=
  let rise := if c.restarted then c.value else (c.value + 2 ^ 48 - c.prev) % 2 ^ 48
  [cfgWord c.cfg 0 31 31 * 2 ^ 31 + b2n c.restarted * 2 ^ 30 + b2n c.wrappedIn * 2 ^ 29 + cfgWord c.cfg 0 23 16 * 2 ^ 16,
   rise / 2 ^ 32, rise % 2 ^ 32, c.value / 2 ^ 32, c.value % 2 ^ 32]

/-- A counter after its capture. -/
def cntAfter (c : Cnt) : Cnt := { c with prev := c.value, restarted := false, wrappedIn := false }

/-- A monitor after its capture: with INTERVAL = 1 it starts afresh (R573). -/
def monAfter (m : Mon) : Mon := if cfgWord m.cfg 0 30 30 = 1 then { cfg := m.cfg } else m

/-- The client front end whose replica shows the current service entries. -/
def Dev.shownFe (d : Dev) : Nat := d.feRunning.headD 0

/-- The current service entry of a service (R84). -/
def Dev.curService (d : Dev) (s : Nat) : List Nat :=
  match d.curTag with
  | some t => d.entry (feSel 0x12 d.shownFe) (s + t * 2 ^ 24)
  | none => []

/-- The services of a principal's grants, in rising order (R555). -/
def Dev.grantUnion (d : Dev) (p : Nat) : List Nat :=
  let m : SMap Bool := (List.range 16).foldl (fun m g =>
    if d.tf 0x108 (p * 16 + g) 0 31 31 = 1 then
      (List.range (d.tf 0x108 (p * 16 + g) 0 29 16 + 1)).foldl (fun m k => SMap.set false m (d.tf 0x108 (p * 16 + g) 0 13 0 + k) true) m
    else m) []
  m.map (·.1)

/-- The 16 words of a service block (R556). -/
def Dev.pageBlock (d : Dev) (s : Nat) : List Nat :=
  let w0 := (d.curService s).getD 0 0
  let gated := d.fleet.peers.any (fun e => e.2.gated.any (fun x => x.1 = s))
  let rise k := (SMap.get 0 d.mgmt.svcCount (s * 16 + k) + 2 ^ 32 - SMap.get 0 d.mgmt.svcPrev (s * 16 + k)) % 2 ^ 32
  [nbits w0 31 29 * 2 ^ 29 + b2n gated * 2 ^ 28 + s, nbits w0 23 20 * 2 ^ 20 + nbits w0 11 0] ++
    (List.range 11).map (fun k => rise (k + 2)) ++ [beNat ((d.svcDigest s).take 4)]

/-- The page of a tenant at a capture (R556), as (offset, word) pairs. -/
def Dev.pageOf (d : Dev) (p net sec : Nat) : List (Nat × Nat) :=
  let u := d.grantUnion p
  [(0, u.length * 2 ^ 16 + p), (4, net / 2 ^ 32), (8, net % 2 ^ 32), (0xC, sec % 2 ^ 32), (0x10, d.get F.SAGE_CFG_VERSION_VERSION)] ++
    (List.range 16).map (fun g => (0x100 + 4 * g, d.tf 0x108 (p * 16 + g) 0 31 31 * 2 ^ 31 + d.tf 0x108 (p * 16 + g) 0 29 0)) ++
    u.zipIdx.flatMap (fun x => (d.pageBlock x.1).zipIdx.map (fun w => (0x1000 + 0x40 * x.2 + 4 * w.2, w.1)))

/-- The pages of principals 2-15, by address from 0x4000_0000; those of 0 and 1 read as zero (R555). -/
def Dev.pagesOf (d : Dev) (net sec : Nat) : SMap Nat :=
  ((List.range 14).flatMap (fun k => (d.pageOf (k + 2) net sec).map (fun w => ((k + 2) * 0x100000 + w.1, w.2)))).foldl
    (fun m w => SMap.set 0 m w.1 w.2) []

/-- The captures of a Thyme second at network time `net`: latches of line and client ports, counters, monitors and pages,
with the values of the cycle before (R286, R363, R371-R373, R556, R573). -/
def Dev.captureSecond (d : Dev) (net sec : Nat) : Dev :=
  let d := ((List.range 32).foldl (fun d p => d.envSecond p net) d).portSecond net
  let m := d.mon
  let pages := d.pagesOf net sec
  { d with
    mon := { m with
      nextCnt := m.cnt.map (fun e => (e.1, cntSnap e.2)), nextMon := m.chan,
      cnt := m.cnt.foldl (fun t e => SMap.set {} t e.1 (cntAfter e.2)) [],
      chan := m.chan.foldl (fun t e => SMap.set {} t e.1 (monAfter e.2)) [],
      nextSec := sec, nextNet := net, nextClk := d.tim.clk, alerted := false },
    mgmt := { d.mgmt with pageNext := pages, svcPrev := d.mgmt.svcCount } }

/-- A Thyme second in the present cycle (R371, R372): the captures, THY_CNT_SECONDS and SECOND, and the samples of the
second (R576, source 0x13).  TIM_SEC has risen. -/
def Dev.thymeSecond (d : Dev) : Dev :=
  let d := d.captureSecond d.net d.tim.sec
  let d := ({ d with tim := { d.tim with lastSecNet := d.net } }).set F.MON_STATUS_READING 1
  let d := (d.bump R.THY_CNT_SECONDS).raise E.TIM_SECOND
  let d := (List.range 4).foldl (fun d s => d.sample 0x13 s (SMap.get ({} : NoiseSrc) d.mint.src s).sec) d
  { d with mint := { d.mint with src := (List.range 4).foldl (fun m s => SMap.upd {} m s (fun x => { x with sec := 0 })) d.mint.src } }

/-- THYME_SECOND (R371): network time reaches TIM_SEC_NEXT; an entry whose instant comes earlier fires first. -/
def doThymeSecond (d : Dev) : Dev :=
  let t := d.netReach d.secNext
  let first := match d.thyDue with
    | some k => decide (d.netReach (SMap.get ({} : ThyEnt) d.thy.ent k).at_ < t)
    | none => false
  if !d.running || first then d
  else
    let d := d.advance t
    let d := d.setSecNext ((d.secNext + 10 ^ 9) % twrap)
    ({ d with tim := { d.tim with sec := (d.tim.sec + 1) % 2 ^ 48 } }).thymeSecond

/-- SNAPSHOT_BANK_SWITCH (R557, R573): 100 µs after the Thyme second the filled bank and the pages become current.  The
length of the reader's pass, within those 100 µs, is free. -/
def doSnapshotBankSwitch (d : Dev) : Dev :=
  if !d.on F.MON_STATUS_READING then d
  else
    let d := d.advance (d.mon.nextClk + us 100)
    let m := d.mon
    let d := { d with
      mon := { m with snapCnt := m.nextCnt, snapMon := m.nextMon, nextCnt := [], nextMon := [] },
      mgmt := { d.mgmt with page := d.mgmt.pageNext, pageNext := [] } }
    let d := ((d.set F.MON_STATUS_READING 0).set F.MON_STATUS_VALID 1).set F.MON_STATUS_BANK (1 - d.get F.MON_STATUS_BANK)
    let d := ((d.putNum R.MON_SNAP_SEC_LO (m.nextSec % 2 ^ 32)).putNum R.MON_SNAP_SEC_HI (m.nextSec / 2 ^ 32)).putNum
      R.PAGE_SNAP_SEC (m.nextSec % 2 ^ 32)
    let d := (d.putNum R.MON_SNAP_WRAP (m.nextNet / 2 ^ 32)).putNum R.MON_SNAP_NS (m.nextNet % 2 ^ 32)
    let d := (d.set F.MON_READ_US_US (d.freeVal % 101)).freeNext
    (d.bump R.MON_CNT_SNAPSHOTS).raise E.MON_SNAPSHOT

/-! Steps of network time (R370-R372, R382, R388). -/

/-- Put an item at its place by its first two numbers. -/
def insertDue (x : Int × Nat × Bool) : List (Int × Nat × Bool) → List (Int × Nat × Bool)
  | [] => [x]
  | y :: l => if x.1 < y.1 || (x.1 = y.1 && x.2.1 < y.2.1) then x :: y :: l else y :: insertDue x l

/-- The entries that a forward step by `s` reaches, in instant order and then in entry order, each with whether its instant
lies after the time that the cycle would have had (R382). -/
def Dev.stepDue (d : Dev) (s : Int) : List (Int × Nat × Bool) :=
  if s ≤ 0 then []
  else (d.thy.ent.filter (fun e => e.2.st = 1)).foldl (fun l e =>
    let x := d.netDist e.2.at_
    if x ≤ s then insertDue (x, e.1, decide (0 < x)) l else l) []

/-- A step of network time (R370-R372, R382, R388): the step, the rate where it is loaded too, the Thyme second that it
makes, and the entries that it reaches.  The first alignment starts the acquisition (R373). -/
def Dev.stepNow (d : Dev) (op : Nat) (load rate : Bool) (m : Master) : Dev :=
  if !d.isActive m then d.adjNotSage op m
  else match d.stepStop load with
  | 0 =>
    let due := d.stepDue d.stageStep
    let (d, moved, second) := d.applyStep load
    let d := if rate then d.loadRate else d
    let d := (d.snapshot).adjEnd op 0 moved
    let d := if load && d.get F.TIM_SYNC_SYNC_STATE = 0 then d.syncState 1 else d
    let d := if second then d.thymeSecond else d
    due.foldl (fun d x => d.thyFire x.2.1 x.2.2) d
  | r => d.adjEnd op r 0

/-- STEP (R370). -/
def doStep (load : Bool) (m : Master) (d : Dev) : Dev := d.stepNow 1 load false m

/-- STEP_AND_RATE (R370): both, the step first. -/
def doStepAndRate (load : Bool) (m : Master) (d : Dev) : Dev := d.stepNow 3 load true m

/-! Telemetry (R37, R488, R533, R576, R582). -/

/-- TIM_SYNC.ERR_EST_NS now: in HOLDOVER it grows by 1 ns/s (R373). -/
def Dev.errEst (d : Dev) : Nat :=
  let e := d.get F.TIM_SYNC_ERR_EST_NS
  if d.get F.TIM_SYNC_SYNC_STATE = 3 then min 0xFFFFFF (e + (d.tim.clk - d.tim.servoClk) / 10 ^ 9) else e

/-- The magnitude of a number. -/
def mag (x : Int) : Nat := x.natAbs

/-- The value of a source that is sampled every 1 ms (R576); none where its unit is in reset or not in use. -/
def Dev.teleValue (d : Dev) (t : Telemetry) (src arg : Nat) : Option Nat :=
  let rail (i : Nat) := t.rails.getD i (0, 0)
  match src with
  | 0x02 =>
    let s := nbits arg 26 24
    let q := nbits arg 12 0
    if d.domHeld (s / 4) || !d.schValid (0x70 + s) q then none else some (d.depth s q)
  | 0x08 =>
    if arg < 12 then some (rail arg).1 else if arg = 12 then some t.vin else if arg = 13 then some t.vaux else none
  | 0x09 => if 90 ≤ arg || bit (d.num R.PWR_PHASE_SHED (arg / 32)) (arg % 32) then none else some (t.phases.getD arg 0)
  | 0x0A => some t.power
  | 0x0B => if arg < 16 then some (mag (t.temps.getD arg 0 + 256)) else none
  | 0x0C => if arg < 4 && !d.domHeld (arg / 2) then some (mag (t.bays.getD arg 0 + 256)) else none
  | 0x0D => if arg < 64 && d.laneUp arg && d.on F.LANE_STATUS_CDR_LOCK arg then some (t.snr.getD arg 0) else none
  | 0x0F => if arg < 4 && !d.domHeld (arg / 2) then some (SMap.get 0 d.bay.corr arg) else none
  | 0x10 => some d.errEst
  | _ => none

/-- The target of a rail instance in mV, the margin included (R533). -/
def Dev.railTarget (d : Dev) (i : Nat) : Nat :=
  ((d.get F.PWR_RAIL_VOLT_TARGET_MV i : Int) + signed 8 (d.get F.PWR_RAIL_CTRL_MARGIN_MV i)).toNat

/-- The power manager's measurements (R533). -/
def Dev.telePower (d : Dev) (t : Telemetry) : Dev :=
  let d := ((d.set F.PWR_VIN_MEAS_MV t.vin).set F.PWR_VAUX_MEAS_MV t.vaux).set F.PWR_IIN_MEAS_CA t.iin
  let d := (d.set F.PWR_PIN_MEAS_DW t.power).set F.PWR_PIN_MAX_DW (max t.power (d.get F.PWR_PIN_MAX_DW))
  let d := d.set F.PWR_VIN_MIN_MV (min t.vin (d.get F.PWR_VIN_MIN_MV))
  let e := d.pwr.energyFrac + t.power
  let d := { d with pwr := { d.pwr with energy := (d.pwr.energy + e / 10) % 2 ^ 64, energyFrac := e % 10 } }
  let above := decide (d.get F.PWR_PIN_WARN_DW < t.power)
  let rise := above && !d.on F.PWR_STATUS_PIN_WARN
  let d := d.flag F.PWR_STATUS_PIN_WARN above
  let d := if rise then (d.bump R.PWR_CNT_PIN_WARN).raise E.PWR_PIN_WARN else d
  let d := (List.range 12).foldl (fun d i =>
    let (mv, da) := t.rails.getD i (0, 0)
    let g := d.railTarget i
    let ok := !bit d.pwr.fault i && decide (g * 95 ≤ mv * 100) && decide (mv * 100 ≤ g * 105)
    let d := ((d.set F.PWR_RAIL_VOLT_MEAS_MV mv i).set F.PWR_RAIL_CURR_MEAS_DA da i).flag F.PWR_RAIL_STATUS_PGOOD ok i
    (d.set F.PWR_RAIL_PEAK_VMIN_MV (min mv (d.get F.PWR_RAIL_PEAK_VMIN_MV i)) i).set F.PWR_RAIL_PEAK_IMAX_DA
      (max da (d.get F.PWR_RAIL_PEAK_IMAX_DA i)) i) d
  d.flag F.PWR_STATUS_ALL_PGOOD ((List.range 12).all (fun i => d.on F.PWR_RAIL_STATUS_PGOOD i))

/-- The temperatures and the lanes' SNR as the registers show them (R341, R364, R582). -/
def Dev.teleTemps (d : Dev) (t : Telemetry) : Dev :=
  let qc (l : List Int) (k : Nat) : Nat := (l.getD k 0 % 2 ^ 16).toNat
  let d := (List.range 16).foldl (fun d k => d.set F.MON_TEMP_QC (qc t.temps k) k) d
  let hot := (List.range 16).foldl (fun h k => if t.temps.getD h 0 < t.temps.getD k 0 then k else h) 0
  let d := (d.set F.MON_TEMP_MAX_SENSOR hot).set F.MON_TEMP_MAX_QC (qc t.temps hot)
  let d := (List.range 4).foldl (fun d b =>
    if d.domHeld (b / 2) then d else d.set F.BAY_TRAIN_STATUS_TEMP_C ((t.bays.getD b 0 / 4) % 2 ^ 8).toNat b) d
  (List.range 64).foldl (fun d l => if d.laneUp l then d.set F.LANE_STATUS_SNR_QDB (t.snr.getD l 0) l else d) d

/-- TELEMETRY_SAMPLE (R37): at the next whole millisecond since release, the measurements, then a sample of every channel
whose source is sampled every 1 ms. -/
def doTelemetrySample (t : Telemetry) (d : Dev) : Dev :=
  if !d.running then d
  else
    let d := d.advance (d.rst.relClk + ms ((d.tim.clk - d.rst.relClk) / ms 1 + 1))
    let d := (d.telePower t).teleTemps t
    let d := d.mon.chan.foldl (fun d e =>
      if 8 ≤ e.1 ∧ cfgWord e.2.cfg 0 31 31 = 1 then
        match d.teleValue t (cfgWord e.2.cfg 0 23 16) (e.2.cfg.getD 1 0) with
        | some v => d.sampleCh e.1 v
        | none => d
      else d) d
    { d with bay := { d.bay with corr := [] } }

end Sys2Proof.Machine
end

