-- ==== Sys2Proof/Machine/Table.lean ====
section
/-! DEFINITION. The tables behind the indirect window: what a READ of an entry returns, and what a WRITE does under each
table's own rule (R541-R543 and the rules it names, R570, R574, R575, R577). -/

namespace Sys2Proof.Machine

/-! Reading. -/

/-- DATA0-DATA7 of a meter (R229). -/
def Dev.meterWords (d : Dev) (i : Nat) : List Nat :=
  let s := SMap.get ({} : MeterSt) d.fe.meter i
  [d.tw 0x60 i 0, d.tw 0x60 i 1, d.tw 0x60 i 2, d.tw 0x60 i 3, s.tc / 65536, s.tp / 65536, s.last / 2 ^ 32, s.last % 2 ^ 32]

/-- DATA0-DATA7 of a queue (R229). -/
def Dev.queueWords (d : Dev) (s q : Nat) : List Nat :=
  (List.range 5).map (d.tw (0x70 + s) q) ++
    [d.depth s q, (d.queue s q).length, SMap.get 0 d.sch.maxDelay (s * 2 ^ 13 + q)]

/-- DATA0-DATA7 of a merge stream (R319). -/
def Dev.streamWords (d : Dev) (m : Nat) : List Nat :=
  let s := d.stream m
  [d.tw 0xC0 m 0, d.tw 0xC0 m 1, d.tw 0xC0 m 2, b2n s.seeded * 2 ^ 31 + b2n s.capped * 2 ^ 30 + s.h0 % 2 ^ 25,
   s.highest, s.lastPass / 2 ^ 32 % 2 ^ 16, s.lastPass % 2 ^ 32, s.h1 % 2 ^ 25]

/-- DATA0-DATA6 of a programmable counter (R570). -/
def Dev.cntWords (d : Dev) (u i : Nat) : List Nat :=
  let c := SMap.get {} d.mon.cnt (u * 16 + i)
  (List.range 5).map (fun w => c.cfg.getD w 0) ++ [c.value / 2 ^ 32, c.value % 2 ^ 32]

/-- The configuration of a channel: channels 0-7 are fixed and always enabled, with SHIFT 0 and BASE 0 (R575). -/
def Dev.chanCfg (d : Dev) (c : Nat) : List Nat := if c < 8 then [2 ^ 31] else (SMap.get {} d.mon.chan c).cfg

/-- The words of a part of a channel's state (R577). -/
def monWords (cfg : List Nat) (m : Mon) (part : Nat) : List Nat :=
  if part = 0 then
    [cfgWord cfg 0 31 31 * 2 ^ 31 + b2n m.alert * 2 ^ 30 + cfgWord cfg 0 23 16 * 2 ^ 16, m.min, m.max, m.count, m.under,
     m.sum / 2 ^ 32, m.sum % 2 ^ 32]
  else (List.range 16).map (fun k => SMap.get 0 m.bins ((part - 1) * 16 + k))

/-- A word of the diagnostic test buffer: key words read as zero (R125, R126). -/
def Dev.diagWord (d : Dev) (sel idx w : Nat) : Nat := if idx = 0 ∧ w < 8 then 0 else d.tw sel idx w

/-- The words of a slice's tables (R126, R197, R229, R319). -/
def Dev.sliceWords (d : Dev) (sel idx : Nat) : List Nat :=
  let s := sel % 8
  match sel / 8 with
  | 5 => txWords (d.tx s (idx % 8192) (idx / 8192))
  | 6 => rxWords (d.rx s idx)
  | 7 => (List.range 16).map (d.diagWord sel idx)
  | 8 => lrnWords (d.lrnEnt s idx)
  | 10 => [nbits (d.tw sel idx 0) 31 16 * 2 ^ 16 + d.lrnCount s idx]
  | 14 => d.queueWords s idx
  | _ => d.entry sel idx

/-- What the window shows of an entry, its index in range (R542). -/
def Dev.tblWords (d : Dev) (sel idx : Nat) : List Nat :=
  if 0x20 ≤ sel ∧ sel < 0x28 then d.entry sel (idx % 2 ^ 26)
  else if sel = 0x10 ∨ sel = 0x11 then d.entry (feSel sel d.shownFe) (idx % 2 ^ 31)
  else if slottedSel sel then d.entry (feSel sel d.shownFe) (idx % 2 ^ 26)
  else if sel = 0x60 then d.meterWords idx
  else if sel = 0xA1 then (List.range 2).map (fun w => (d.tw sel idx w ^^^ boundReset (idx % 64) w) % 2 ^ 18)
  else if sel = 0xA3 then [d.fe.bank * 2 ^ 31 + b2n (d.thyPending 5) * 2 ^ 30 + b2n (d.fe.copyWait || d.fe.copyBusy) * 2 ^ 29]
  else if sel = 0xC0 then d.streamWords idx
  else if sel = 0xE0 then d.thyWords idx
  else if sel = 0x100 then bytesToWords (SMap.get ({} : RsmRec) d.rsm.ring idx).bytes
  else if 0x120 ≤ sel ∧ sel < 0x13E then d.cntWords (sel - 0x120) idx
  else if sel = 0x140 then SMap.get [] d.mon.snapCnt idx
  else if sel = 0x150 then d.chanCfg idx
  else if sel = 0x151 then
    let m := SMap.get {} d.mon.snapMon (idx / 4)
    monWords (if idx / 4 < 8 then [2 ^ 31] else m.cfg) m (idx % 4)
  else if sel = 0x152 then monWords (d.chanCfg (idx / 4)) (SMap.get {} d.mon.chan (idx / 4)) (idx % 4)
  else if sel < 0x98 then d.sliceWords sel idx
  else d.entry sel idx

/-- Sixteen words, zeros beyond those given (R542). -/
def pad16 (ws : List Nat) : List Nat := (List.range 16).map (fun w => ws.getD w 0)

/-- Why a command of the window does not reach an entry: 1 NO_TABLE, 2 BAD_INDEX, 0 where it does (R542). -/
def tblStop (sel idx : Nat) : Nat :=
  match tblShape sel with
  | none => 1
  | some _ => if tblIndexOk sel (if 0x10 ≤ sel ∧ sel < 0x15 then idx % 2 ^ 31 else idx) then 0 else 2

/-- A READ of an entry by a master (R542): its words and the reason it ends with.  The provisioning buffer is for
principal 0 in FACTORY and the Sage cores (R563); reading a queue's MAX_DELAY sets it to zero (R229). -/
def Dev.tblRead (d : Dev) (m : Master) (sel idx : Nat) : Dev × List Nat × Nat :=
  let stop := tblStop sel idx
  if stop ≠ 0 then (d, [], stop)
  else if sel = 0x110 then
    if d.provMay m then
      let r := d.provRead idx m
      (r.1, pad16 r.2, 0)
    else (d.violate m 0x01000050 true, pad16 [], 0)
  else
    let ws := pad16 (d.tblWords sel idx)
    if 0x70 ≤ sel ∧ sel < 0x78 then
      ({ d with sch := { d.sch with maxDelay := SMap.set 0 d.sch.maxDelay (sel % 8 * 2 ^ 13 + idx) 0 } }, ws, 0)
    else (d, ws, 0)

/-! Writing. -/

/-- Tables whose window writes are refused by their own rule: SA tables, bank status, latched counters, sequence numbers,
Thyme entries, peer status, the Rosemary ring and the snapshots (R126, R255, R292, R319, R363, R389, R458, R498, R574). -/
def tblReadOnly (sel : Nat) : Bool :=
  (0x28 ≤ sel && sel < 0x38) || sel = 0xA3 || sel = 0xB1 || sel = 0xC1 || sel = 0xD2 || sel = 0xD3 || sel = 0xE0 ||
    sel = 0xF8 || sel = 0x100 || sel = 0x140 || sel = 0x151 || sel = 0x152

/-- Does TBL_SEL name a table that only configuration records write (R427)? -/
def fleetSel (sel : Nat) : Bool := 0xF0 ≤ sel && sel ≤ 0xF5

/-- May a master write a table (R427, R536, R537, R563)?  `cfg`: it applies a configuration record. -/
def Dev.tblMay (d : Dev) (m : Master) (cfg : Bool) (sel : Nat) : Bool :=
  if cfg then sel ≠ 0x110
  else if fleetSel sel then false
  else if sel = 0x110 then d.provMay m && d.principal m ≠ some 1
  else if sel = 0x108 ∨ sel = 0x109 then d.principal m == some 1 || d.isActive m
  else d.mayWrite m

/-- Replace an entry's words, the entry's ECC mark in the tables of R229, R255 and R319 with them. -/
def Dev.schPut (d : Dev) (sel idx : Nat) (ws : List Nat) : Dev :=
  let d := d.setEntry sel idx ws
  let d := { d with sch := { d.sch with bad := d.sch.bad.filter (· ≠ (sel, idx)) } }
  let own := if 0xA0 ≤ sel then 7 else schTable sel
  let s := if sel < 0x88 ∨ (0x90 ≤ sel ∧ sel < 0x98) then sel % 8 else 0
  if d.get F.SCH_ECC_STATUS_TABLE = own ∧ d.get F.SCH_ECC_STATUS_SLICE = s ∧ d.get F.SCH_ECC_STATUS_INDEX = idx % 2 ^ 16
  then d.set F.SCH_ECC_STATUS_VALID 0 else d

/-- A meter's parameters (R205, R207): the rates are clamped, the tokens kept and clamped to the new buckets. -/
def Dev.meterPut (d : Dev) (i : Nat) (ws : List Nat) : Dev :=
  let k := tblKeep 0x60 i ws
  let cap w := min (ws.getD w 0) 1600000000
  let d := d.setEntry 0x60 i [cap 0, cap 1, k.getD 2 0, k.getD 3 0]
  let s := SMap.get ({} : MeterSt) d.fe.meter i
  let s' : MeterSt := { s with tc := min s.tc (nbits (k.getD 2 0) 23 0 * 65536), tp := min s.tp (k.getD 3 0 * 65536) }
  let d := { d with fe := { d.fe with meter := SMap.set {} d.fe.meter i s', meterBad := d.fe.meterBad.filter (· ≠ i) } }
  if d.get F.POL_ECC_STATUS_INDEX = i then d.set F.POL_ECC_STATUS_VALID 0 else d

/-- The window blocks of a valid stream entry: first and number (R307, R319). -/
def streamBlocks (w0 : Nat) : Nat × Nat :=
  if bit w0 31 then (nbits w0 13 0, 2 ^ (max 12 (min 24 (nbits w0 28 24)) - 12)) else (0, 0)

/-- A field brought into its range. -/
def clampN (v lo hi : Nat) : Nat := max lo (min v hi)

/-- Free window blocks of the pool (MRG_WIN_FREE, R320). -/
def Dev.winFree (d : Dev) : Nat :=
  16384 - ((d.entries 0xC0).map (fun e => (streamBlocks (e.2.getD 0 0)).2)).foldl (· + ·) 0

/-- A rewrite of an entry of the tables of R319 clears its ECC mark. -/
def Dev.mrgPut (d : Dev) (sel idx : Nat) (ws : List Nat) : Dev :=
  let d := d.setEntry sel idx ws
  let d := { d with mrg := { d.mrg with bad := d.mrg.bad.filter (· ≠ (sel, idx)) } }
  if d.get F.MRG_ECC_STATUS_TABLE = (if sel = 0xC0 then 0 else 2) ∧ d.get F.MRG_ECC_STATUS_INDEX = idx % 2 ^ 16 ∧
      d.get F.MRG_ECC_STATUS_SLICE = (if 0xC8 ≤ sel then sel % 8 else 0)
  then d.set F.MRG_ECC_STATUS_VALID 0 else d

/-- A stream write (R303, R319): fields are clamped; a window past the pool or over another stream's is refused; the
stream is unseeded. -/
def Dev.streamPut (d : Dev) (m : Nat) (ws : List Nat) : Option Dev :=
  let k := tblKeep 0xC0 m ws
  let w0 := putNbits (k.getD 0 0) 28 24 (clampN (nbits (k.getD 0 0) 28 24) 12 24)
  let w1 := clampN (k.getD 1 0) 1 1000
  let w2 := clampN (nbits (k.getD 2 0) 25 16) 1 1000 * 2 ^ 16 + min (nbits (k.getD 2 0) 14 0) 25000
  let b := streamBlocks w0
  if 16384 < b.1 + b.2 then none
  else if b.2 ≠ 0 && (d.entries 0xC0).any (fun e =>
      let o := streamBlocks (e.2.getD 0 0)
      e.1 ≠ m && o.2 ≠ 0 && b.1 < o.1 + o.2 && o.1 < b.1 + b.2) then none
  else some ((d.mrgPut 0xC0 m [w0, w1, w2]).setStream m {})

/-- A write of a receive channel table (R289, R292): refused where two valid entries would match one port and SCI, or two
would be the default of one port. -/
def Dev.channelPut (d : Dev) (sel i : Nat) (ws : List Nat) : Option Dev :=
  let k := tblKeep sel i ws
  let port (e : List Nat) := nbits (e.getD 0 0) 28 24
  let clash := bit (k.getD 0 0) 31 && (d.entries sel).any (fun e =>
    e.1 ≠ i && bit (e.2.getD 0 0) 31 && port e.2 = port k &&
      ((e.2.getD 1 0 = k.getD 1 0 && e.2.getD 2 0 = k.getD 2 0) || (bit (e.2.getD 0 0) 29 && bit (k.getD 0 0) 29)))
  if clash then none
  else
    let n := sel - 0xB4
    let d := d.setEntry sel i k
    let d := { d with env := { d.env with bad := d.env.bad.filter (· ≠ (n, i)) } }
    some (if d.get F.LFE_ECC_STATUS_INDEX n = i then d.set F.LFE_ECC_STATUS_VALID 0 n else d)

/-- A page grant (R555, R563): refused past service 16,383, or where the union of the principal's ranges would pass 4,096
services. -/
def Dev.grantPut (d : Dev) (i : Nat) (ws : List Nat) : Option Dev :=
  let k := tblKeep 0x108 i ws
  let w := k.getD 0 0
  if 16383 < nbits w 13 0 + nbits w 29 16 then none
  else
    let d' := d.setEntry 0x108 i k
    if 4096 < (d'.grantUnion (i / 16)).length then none else some d'

/-- A principal's entry (R563); its sessions end (R554). -/
def Dev.principalPut (d : Dev) (p : Nat) (ws : List Nat) : Option Dev :=
  let k := tblKeep 0x109 p ws
  let w := k.getD 0 0
  if bit w 30 ≠ decide (p = 1) then none
  else if nbits w 2 0 = 0 ∨ 4 < nbits w 2 0 then none
  else some ((d.setEntry 0x109 p k).sessDrop (fun s => s.st ≠ 0 && s.principal = p))

/-- What an event class carries (R568): S, C, T, R, Q, client P, line P, A, M and B as bits 0-9; none where the unit
does not count it. -/
def classFields (u code : Nat) : Option Nat :=
  let pick (l : List (Nat × Nat)) : Option Nat := (l.find? (fun x => x.1 = code)).map (·.2)
  if u < 4 then pick [(0x01, 0x223), (0x02, 0x220), (0x03, 0x220), (0x04, 0x223), (0x05, 0x021), (0x06, 0x221)]
  else if u < 8 then pick [(0x08, 0x248), (0x09, 0x240)]
  else if u < 16 then pick [(0x10, 0x247), (0x11, 0x24A), (0x12, 0x248), (0x13, 0x207), (0x14, 0x201), (0x15, 0x208),
    (0x16, 0x046), (0x17, 0x008), (0x18, 0x201), (0x19, 0x248)]
  else if u = 16 then pick [(0x20, 0x223), (0x21, 0x223), (0x22, 0x223), (0x23, 0x223)]
  else if u = 17 then pick [(0x28, 0x213), (0x29, 0x213), (0x2A, 0x257), (0x2B, 0x253), (0x2C, 0x22A), (0x2D, 0x22A),
    (0x2E, 0x022), (0x2F, 0x222)]
  else if u = 18 then pick [(0x30, 0x201), (0x31, 0x300), (0x32, 0x300), (0x33, 0x300), (0x34, 0x300)]
  else if u < 23 then pick [(0x38, 0), (0x39, 0), (0x3A, 0), (0x3B, 0)]
  else if u < 25 then pick [(0x40, 0x040), (0x41, 0x040), (0x42, 0x040), (0x43, 0x040), (0x44, 0x040)]
  else if u < 27 then
    let p := if u = 25 then 0x020 else 0x040
    pick [(0x48, p), (0x49, p), (0x4A, p), (0x4B, p), (0x4C, p)]
  else if u = 27 then pick [(0x50, 0x080), (0x51, 0x080), (0x52, 0x080), (0x53, 0x080)]
  else if u = 28 then pick [(0x58, 0), (0x59, 0), (0x5A, 0), (0x5B, 0), (0x5C, 0)]
  else if u = 29 then pick [(0x60, 0), (0x61, 0), (0x62, 0)]
  else none

/-- The bit of R568's fields that a RANGE_KIND needs (R569); 16 where there is none. -/
def rangeNeeds (k : Nat) : Nat := [16, 0, 2, 3, 4, 7, 8].getD k 16

/-- May a counter's entry be written (R569, R570)? -/
def cntOk (u : Nat) (c : List Nat) : Bool :=
  match classFields u (cfgWord c 0 23 16) with
  | none => false
  | some f =>
    let kind := cfgWord c 1 31 28
    let rk := cfgWord c 2 31 28
    (cfgWord c 0 30 30 = 0 || bit f 9) && (cfgWord c 0 27 24 = 0 || bit f 1) &&
      (cfgWord c 0 15 0 = 0 || bit f 0 || bit f 7) &&
      (kind = 0 || (kind = 1 && bit f 5) || (kind = 2 && bit f 6) || (kind = 3 && bit f 7)) && (rk = 0 || bit f (rangeNeeds rk))

/-- A counter WRITE (R569, R570): the entry, a value of zero and WRAPPED cleared.  An entry with EN 0 names no class. -/
def Dev.cntPut (d : Dev) (u i : Nat) (ws : List Nat) : Option Dev :=
  let k := [ws.getD 0 0 &&& 0xCFFFFFFF, ws.getD 1 0 &&& 0xF01F1F7F, ws.getD 2 0 &&& 0xF0000000, ws.getD 3 0, ws.getD 4 0]
  if bit (k.getD 0 0) 31 && !cntOk u k then none
  else
    let c : Cnt := { cfg := trimWords k, restarted := true }
    some ({ d with mon := { d.mon with cnt := SMap.set {} d.mon.cnt (u * 16 + i) c } }.clrBit R.MON_UNIT_WRAP i u)

/-- A channel WRITE restarts it (R575). -/
def Dev.chanPut (d : Dev) (c : Nat) (ws : List Nat) : Option Dev :=
  if c < 8 then none
  else
    let k := [ws.getD 0 0 &&& 0xDFFF0000, ws.getD 1 0, ws.getD 2 0, ws.getD 3 0]
    some { d with mon := { d.mon with chan := SMap.set {} d.mon.chan c { cfg := trimWords k } } }

/-- A write of the provisioning buffer (R563). -/
def Dev.provWrite (d : Dev) (i : Nat) (ws : List Nat) : Dev :=
  let bs := wordsToBytes (pad16 ws)
  { d with mgmt := { d.mgmt with prov := SMap.set [] d.mgmt.prov i (if bs.all (· == 0) then [] else bs) } }

/-- A write of the test buffer of an open diagnostic window (R125). -/
def Dev.diagPut (d : Dev) (sel idx : Nat) (ws : List Nat) : Dev :=
  if d.on F.SAT_STATUS_DIAG_OPEN (sel % 8) then
    d.setEntry sel idx (if idx = 0 then ((pad16 ws).take 11 ++ [ws.getD 11 0 % 2 ^ 11, ws.getD 12 0 % 2 ^ 11])
      else if idx = 1 then (pad16 ws).take 4 else pad16 ws)
  else d

/-- Writes of a slice's tables: the reason, 0 where done. -/
def Dev.slicePut (d : Dev) (sel idx : Nat) (ws : List Nat) : Dev × Nat :=
  let s := sel % 8
  match sel / 8 with
  | 4 =>
    (match d.feWriteStop with
     | some r => (d, r)
     | none =>
       (d.setEntry sel (idx % 2 ^ 24 + d.get F.FE_VER_STAGED_TAG * 2 ^ 24) (tblKeep sel idx ws), 0))
  | 7 => if d.on F.SAT_STATUS_DIAG_OPEN s then (d.diagPut sel idx ws, 0) else (d, 4)
  | 8 => (match d.lrnWrite s idx ws with
    | some d => (d, 0)
    | none => (d, 4))
  | 9 => (d.setEntry sel idx (tblKeep sel idx ws), 0)
  | 10 => (d.setEntry sel idx (tblKeep sel idx ws), 0)
  | _ => (d.schPut sel idx (tblKeep sel idx ws), 0)

/-- The outcome of a write that a table's own rule may refuse. -/
def Dev.orRefused (d : Dev) : Option Dev → Dev × Nat
  | some d => (d, 0)
  | none => (d, 4)

/-- A write of the bound tables: to the inactive bank only, and not from the write of a BOUND_SWITCH entry until the copy
has ended (R239). -/
def Dev.boundPut (d : Dev) (sel idx : Nat) (ws : List Nat) : Dev × Nat :=
  let b := if sel = 0xA0 then idx / 16384 else idx / 64
  let k := tblKeep sel idx ws
  if b = d.fe.bank ∨ d.boundLocked then (d, 4)
  else if sel = 0xA1 then (d.schPut sel idx (k.zipIdx.map (fun x => x.1 ^^^ boundReset (idx % 64) x.2)), 0)
  else (d.schPut sel idx k, 0)

/-- A write of raw counters: with bit 31 it clears WRAPPED; all others are ignored (R292, R363). -/
def Dev.rawPut (d : Dev) (sel idx : Nat) (ws : List Nat) : Dev × Nat :=
  if bit (ws.getD 0 0) 31 then (d.setTf sel idx 0 31 31 0, 0) else (d, 3)

/-- A write of an entry under its table's own rule, the index in range (R542): the reason, 0 where done. -/
def Dev.tblStore (d : Dev) (sel idx : Nat) (ws : List Nat) : Dev × Nat :=
  if 0x10 ≤ sel ∧ sel < 0x15 then
    let r := d.feWrite sel idx ws
    (r.1, r.2.getD 0)
  else if sel = 0x60 then (d.meterPut idx ws, 0)
  else if sel = 0xA0 ∨ sel = 0xA1 then d.boundPut sel idx ws
  else if sel = 0xB0 ∨ sel = 0xD0 ∨ sel = 0xD1 then d.rawPut sel idx ws
  else if 0xB4 ≤ sel ∧ sel < 0xB8 then d.orRefused (d.channelPut sel idx ws)
  else if sel = 0xC0 then d.orRefused (d.streamPut idx ws)
  else if 0xC8 ≤ sel ∧ sel < 0xD0 then (d.mrgPut sel idx (tblKeep sel idx ws), 0)
  else if sel = 0x108 then d.orRefused (d.grantPut idx ws)
  else if sel = 0x109 then d.orRefused (d.principalPut idx ws)
  else if sel = 0x110 then (d.provWrite idx ws, 0)
  else if 0x120 ≤ sel ∧ sel < 0x13E then
    (match d.cntPut (sel - 0x120) idx ws with
     | some d => (d, 0)
     | none => ((d.bump R.MON_CNT_CFG_REFUSED).raise E.MON_CFG_REFUSED, 4))
  else if sel = 0x150 then d.orRefused (d.chanPut idx ws)
  else if sel = 0xA2 ∨ sel = 0x88 ∨ sel = 0x89 then (d.schPut sel idx (tblKeep sel idx ws), 0)
  else if fleetSel sel then (d.setEntry sel idx (tblKeep sel idx ws), 0)
  else d.slicePut sel idx ws

/-- Was the staged bit of a versioned table's write index its delete flag (R84)? -/
def tblPlain (sel idx : Nat) : Nat := if 0x10 ≤ sel ∧ sel < 0x15 then idx % 2 ^ 31 else idx

/-- An exact-match insert or delete names its entry by the key, and its index is ignored (R84). -/
def tblWriteStop (sel idx : Nat) : Nat := if sel = 0x10 then 0 else tblStop sel (tblPlain sel idx)

/-- A WRITE of an entry by a master (R542): the reason it ends with.  `cfg`: it applies a configuration record. -/
def Dev.tblWrite (d : Dev) (m : Master) (cfg : Bool) (sel idx : Nat) (ws : List Nat) : Dev × Nat :=
  let stop := tblWriteStop sel idx
  if stop ≠ 0 then (d, stop)
  else if !d.tblMay m cfg sel then (d.violate m 0x01000050 true, 0)
  else if tblReadOnly sel then (d, 3)
  else d.tblStore sel idx ws

/-! The window's registers (R541). -/

/-- A master's window. -/
def Dev.win (d : Dev) (m : Master) : Win := SMap.get {} d.mgmt.wins m.code
def Dev.setWin (d : Dev) (m : Master) (w : Win) : Dev :=
  { d with mgmt := { d.mgmt with wins := SMap.set {} d.mgmt.wins m.code w } }

/-- READ: the entry's words reach DATA0-DATA15 (R542). -/
def Dev.winRead (d : Dev) (m : Master) : Dev :=
  let w := d.win m
  let r := d.tblRead m w.sel w.index
  if r.2.2 = 0 then r.1.setWin m { w with data := trimWords r.2.1, st := 2, reason := 0 }
  else r.1.setWin m { w with st := 3, reason := r.2.2 }

/-- WRITE: DATA0-DATA15 reach the entry (R542). -/
def Dev.winWrite (d : Dev) (m : Master) : Dev :=
  let w := d.win m
  let r := d.tblWrite m false w.sel w.index w.data
  r.1.setWin m { w with st := if r.2 = 0 then 2 else 3, reason := r.2 }

/-- TBL_CMD: 1 READ, 2 WRITE; other values are ignored (R541). -/
def Dev.winCmd (d : Dev) (m : Master) (op : Nat) : Dev :=
  if op = 1 then d.winRead m else if op = 2 then d.winWrite m else d

/-- A write of a window register (R541). -/
def Dev.winPut (d : Dev) (m : Master) (off v : Nat) : Dev :=
  let w := d.win m
  if off = 0 then d.setWin m { w with sel := v % 2 ^ 16 }
  else if off = 4 then d.setWin m { w with index := v }
  else if 0x10 ≤ off ∧ off < 0x50 then d.setWin m { w with data := trimWords (setWord w.data ((off - 0x10) / 4) v) }
  else if off = 0x50 then d.winCmd m (v / 2 ^ 28)
  else d

/-- A read of a window register (R541); TBL_CMD reads zero. -/
def Dev.winGet (d : Dev) (m : Master) (off : Nat) : Nat :=
  let w := d.win m
  if off = 0 then w.sel
  else if off = 4 then w.index
  else if 0x10 ≤ off ∧ off < 0x50 then w.data.getD ((off - 0x10) / 4) 0
  else if off = 0x54 then w.st * 2 ^ 30 + w.reason * 2 ^ 16
  else 0

/-- Is this an address of the window (R540)? -/
def isWin (addr : Nat) : Bool := 0x01000000 ≤ addr && addr < 0x01000058

/-- The register writes that a row of the window stands for: TBL_SEL, TBL_INDEX, the data words of a WRITE, TBL_CMD. -/
def winWrites (sel idx : Nat) (ws : List Nat) (op : Nat) : List (Nat × Nat) :=
  [(0x01000000, sel % 2 ^ 16), (0x01000004, idx % 2 ^ 32)] ++
    (if op = 2 then (pad16 ws).zipIdx.map (fun x => (0x01000010 + 4 * x.2, x.1 % 2 ^ 32)) else []) ++ [(0x01000050, op * 2 ^ 28)]

/-- One write of a window register by a master: tenants reach no window, and the standby core writes none (R536-R538). -/
def Dev.winOne (d : Dev) (m : Master) (x : Nat × Nat) : Dev :=
  d.gated m x.1 x.2 (fun d => if d.mayWrite m then d.winPut m (x.1 - 0x01000000) x.2 else d.violate m x.1 true)

/-- The command of one row: the window's registers are loaded, then the command is written (R541, R542). -/
def Dev.winRow (d : Dev) (m : Master) (sel idx : Nat) (ws : List Nat) (op : Nat) : Dev :=
  (winWrites sel idx ws op).foldl (fun d x => d.winOne m x) d

/-- TBL_READ (R542). -/
def doTblRead (sel index : Nat) (m : Master) (d : Dev) : Dev := d.winRow m sel index [] 1

/-- TBL_WRITE (R542). -/
def doTblWrite (sel index : Nat) (words : List Nat) (m : Master) (d : Dev) : Dev := d.winRow m sel index words 2

/-- EXACT_MATCH_INSERT (R71, R84). -/
def doExactMatchInsert (words : List Nat) (m : Master) (d : Dev) : Dev := d.winRow m 0x10 0 words 2

/-- EXACT_MATCH_DELETE (R71, R84). -/
def doExactMatchDelete (words : List Nat) (m : Master) (d : Dev) : Dev := d.winRow m 0x10 (2 ^ 31) words 2

/-- TERNARY_WRITE (R71, R84): part 0-2 of a rule. -/
def doTernaryWrite (rule part : Nat) (words : List Nat) (m : Master) (d : Dev) : Dev :=
  d.winRow m 0x11 (rule % 8192 * 4 + part % 4) words 2

/-- TERNARY_DELETE (R71, R84). -/
def doTernaryDelete (rule : Nat) (m : Master) (d : Dev) : Dev := d.winRow m 0x11 (2 ^ 31 + rule % 8192 * 4 + 2) [] 2

end Sys2Proof.Machine
end

