-- ==== Sys2Proof/Machine/View.lean ====
section
/-! DEFINITION. What a read of a register returns, and what it clears (R13, R14, R535-R540, and the rules of the registers
that show other state). -/

namespace Sys2Proof.Machine

/-- A register word with bits `hi` to `lo` replaced. -/
def withBits (w : Nat) (f : Fld) (v : Nat) : Nat := putNbits w f.hi f.lo v

/-- Bits `i` of a list of numbers that `p` names. -/
def maskOf (n : Nat) (p : Nat → Bool) : Nat := (List.range n).foldl (fun a i => if p i then a + 2 ^ i else a) 0

/-! Registers that show other state, block by block: none where the register holds its own word. -/

/-- Sessions open, and those of principal 1 (R564). -/
def Dev.sessOpen (d : Dev) (p : Sess → Bool) : Nat := (d.mgmt.sess.filter (fun e => e.2.st = 2 && p e.2)).length

def Dev.viewGlb (d : Dev) (b w : Nat) : Option Nat :=
  if b = R.GLB_ID.base then some (withBits w F.GLB_ID_VARIANT_N (b2n d.fuse.variantN))
  else if b = R.GLB_SERIAL_HI.base then some (d.fuse.serial / 2 ^ 32)
  else if b = R.GLB_SERIAL_LO.base then some (d.fuse.serial % 2 ^ 32)
  else if b = R.GLB_LCS_STATUS.base then some (withBits w F.GLB_LCS_STATUS_STATE d.fuse.lcs)
  else if b = R.GLB_KEYSLOT_STATUS.base then
    some (w % 2 ^ 20 + d.fuse.opFused % 16 * 2 ^ 28 + d.fuse.opRevoked % 16 * 2 ^ 24 + d.fuse.venFused % 4 * 2 ^ 22 +
      d.fuse.venRevoked % 4 * 2 ^ 20)
  else if b = R.GLB_ETH_STATUS.base then some (withBits w F.GLB_ETH_STATUS_ADDR_VALID (d.tf 0xF2 d.fleet.member 0 31 31))
  else if b = R.GLB_SESSION_STATUS.base then
    some (d.sessOpen (fun _ => true) * 2 ^ 28 + d.sessOpen (fun s => s.principal = 1) * 2 ^ 24 +
      min 255 (d.mgmt.blocked.filter (fun x => d.tim.clk < x.2)).length)
  else none

def Dev.viewIsland (d : Dev) (b i w : Nat) : Option Nat :=
  if b = R.RST_MGMT_KEY.base then some 0
  else if b = R.RST_BOOT_STAGE.base then
    if d.get F.RST_BOOT_STAGE_STAGE < 5 ∧ 6 ≤ d.rst.step then some (withBits w F.RST_BOOT_STAGE_MS d.bootMs) else none
  else if b = R.PWR_ENERGY_LO.base then some (d.pwr.energy % 2 ^ 32)
  else if b = R.PWR_CAL_STATUS.base then
    some (withBits w F.PWR_CAL_STATUS_AGE_MS (min 0xFFFF ((d.tim.clk - max d.pwr.calClk d.rst.relClk) / 1000000)))
  else if b = R.PWR_RAIL_VOLT.base then some (withBits w F.PWR_RAIL_VOLT_TARGET_MV (d.railTarget i))
  else if b = R.TAMP_FUSE_STATUS.base then some (withBits w F.TAMP_FUSE_STATUS_BLOWN (maskOf 12 d.fused))
  else if b = R.TAMP_REG_STATUS.base then some (withBits w F.TAMP_REG_STATUS_FUSED (b2n (d.fused i)))
  else if b = R.TIM_SYNC.base then some (withBits w F.TIM_SYNC_ERR_EST_NS d.errEst)
  else if b = R.MNT_DRBG_STATUS.base then
    some (withBits w F.MNT_DRBG_STATUS_MS_SINCE (if d.mint.drbg.isSome then min 2047 ((d.tim.clk - d.mint.reseedClk) / 1000000) else 0))
  else none

def Dev.viewThy (d : Dev) (b w : Nat) : Option Nat :=
  if b = R.THY_STATUS.base then some (withBits w F.THY_STATUS_FULL (b2n d.thyFree.isNone))
  else if b = R.THY_PENDING.base then
    some ((d.thy.ent.filter (fun e => e.2.st ≠ 0)).length * 2 ^ 16 + (d.thy.ent.filter (fun e => e.2.st = 1)).length)
  else if b = R.THY_NEXT_INFO.base then
    some (match d.thyNext with
      | some (k, e) => 2 ^ 31 + e.action * 2 ^ 20 + k
      | none => 0)
  else if b = R.THY_NEXT_WRAP.base then some (match d.thyNext with
      | some (_, e) => e.at_ / 2 ^ 32
      | none => 0)
  else if b = R.THY_NEXT_NS.base then some (match d.thyNext with
      | some (_, e) => e.at_ % 2 ^ 32
      | none => 0)
  else none

def Dev.viewSage (d : Dev) (b w : Nat) : Option Nat :=
  if b = R.SAGE_LEASE.base then
    some (withBits w F.SAGE_LEASE_REMAIN_US (if d.noHolder then 0
      else (d.sage.renewClk + ms (d.get F.SAGE_LEASE_CFG_LEASE_MS) - d.tim.clk) / 1000))
  else if b = R.SAGE_STATUS.base then some (withBits w F.SAGE_STATUS_DEFERRING (b2n d.gap))
  else if b = R.GLB_MGMT_STATUS.base then some (withBits w F.GLB_MGMT_STATUS_DEFERRING (b2n d.gap))
  else if b = R.EVT_RSM_BUCKET.base then some (withBits w F.EVT_RSM_BUCKET_LEVEL_KIB (d.rsmLevel / 1024000000000))
  else if b = R.EVT_RSM_STATUS.base then
    some (withBits w F.EVT_RSM_STATUS_SUPPRESSING (b2n (d.rsm.supCount ≠ 0 && decide (d.rsmLevel < rsmThreshold))))
  else if b = R.SAGE_DEFER_STATUS.base then some d.sage.defer.length
  else if b = R.SAGE_EXC_LEVEL.base then some ((d.excBytes + 63) / 64)
  else if b = R.NVL_SVN.base then some (d.fuse.svn % 64)
  else none

/-- The counter that a quick-view slot names (R582). -/
def Dev.quickView (d : Dev) (q : Nat) : Nat :=
  if d.on F.MON_QV_SEL_EN q then
    (SMap.get {} d.mon.cnt (d.get F.MON_QV_SEL_UNIT q * 16 + d.get F.MON_QV_SEL_COUNTER q)).value
  else 0

def Dev.viewMon (d : Dev) (b i : Nat) : Option Nat :=
  if b = R.MON_EXPORT_STATUS.base then some ((d.mgmt.sess.filter (fun e => e.2.sub.isSome)).length * 2 ^ 28)
  else if b = R.MON_WRAP_SUM.base then some (maskOf 30 (fun u => d.num R.MON_UNIT_WRAP u ≠ 0))
  else if b = R.MON_ALERT_SUM.base then some (maskOf 8 (fun w => d.num R.MON_CH_ALERT w ≠ 0))
  else if b = R.MON_CH_ACTIVE.base then some (maskOf 32 (fun c => cfgWord (d.chanCfg (32 * i + c)) 0 31 31 = 1))
  else if b = R.MON_QV_LO.base then some (d.quickView i % 2 ^ 32)
  else if b = R.PAGE_STATUS.base then some (maskOf 16 (fun p => d.num R.PAGE_VIOL_CNT p ≠ 0))
  else if b = R.PAGE_SESS_INFO.base then
    let s := SMap.get {} d.mgmt.sess i
    some (if s.st = 2 then 2 ^ 31 + s.principal % 16 * 2 ^ 27 + min 0xFFFF ((d.tim.clk - s.idleClk) / 10 ^ 9) else 0)
  else none

/-- The stream of MRG_SAMPLE_SEL while EN is 1 (R320). -/
def Dev.sampled (d : Dev) : Option Nat := if d.on F.MRG_SAMPLE_SEL_EN then some (d.get F.MRG_SAMPLE_SEL_STREAM) else none

/-- A word of the sampled stream; 0 while no stream is sampled. -/
def Dev.sampleWord (d : Dev) (f : Nat → StreamSt → Nat) : Option Nat :=
  some (match d.sampled with
    | some m => f m (d.stream m)
    | none => 0)

def Dev.viewMrg (d : Dev) (b i : Nat) : Option Nat :=
  if b = R.MRG_WIN_FREE.base then some d.winFree
  else if b = R.MRG_HOLD_USED.base then some (d.holdUsed i)
  else if b = R.MRG_SAMPLE_HIGHEST.base then d.sampleWord (fun _ s => s.highest)
  else if b = R.MRG_SAMPLE_DMIN.base then d.sampleWord (fun _ s => (s.lastMin % 2 ^ 32).toNat)
  else if b = R.MRG_SAMPLE_DMAX.base then d.sampleWord (fun _ s => (s.lastMax % 2 ^ 32).toNat)
  else if b = R.MRG_SAMPLE_HOLD0.base then d.sampleWord (fun _ s => s.h0 % 2 ^ 25)
  else if b = R.MRG_SAMPLE_HOLD1.base then d.sampleWord (fun _ s => s.h1 % 2 ^ 25)
  else if b = R.MRG_SAMPLE_IDLE.base then
    d.sampleWord (fun _ s => if s.seeded then min 0xFFFFFFFF (d.tim.clk - s.lastPass) else 0xFFFFFFFF)
  else if b = R.MRG_SAMPLE_STATUS.base then
    d.sampleWord (fun m s => b2n s.seeded * 2 ^ 31 + b2n s.capped * 2 ^ 30 + b2n (d.mAligned m) * 2 ^ 29 + min 0xFFFF s.lastN)
  else none

/-- The queue of SCH_SAMPLE_SEL (R232). -/
def Dev.sampledQueue (d : Dev) : List Frame :=
  if d.on F.SCH_SAMPLE_SEL_EN then d.queue (d.get F.SCH_SAMPLE_SEL_SLICE) (d.get F.SCH_SAMPLE_SEL_QUEUE) else []

def Dev.viewSch (d : Dev) (b i w : Nat) : Option Nat :=
  if b = R.SCH_STATUS.base then
    some (withBits (withBits w F.SCH_STATUS_EGR_BUF_LOW (b2n (decide (65536 - d.egrCells (fun _ => true) < 1024))))
      F.SCH_STATUS_CELLS_LOW (b2n (decide (d.halfFree 0 * 100 < 2 ^ 27) || decide (d.halfFree 1 * 100 < 2 ^ 27))))
  else if b = R.SCH_SAMPLE_DEPTH.base then some ((d.sampledQueue.map Frame.cellCount).foldl (· + ·) 0)
  else if b = R.SCH_SAMPLE_HEAD_AGE.base then
    some (match d.sampledQueue with
      | f :: _ => min 0xFFFFFFFF (d.tim.clk - f.arr)
      | [] => 0)
  else if b = R.SCH_EGR_BUF_STATUS.base then some (65536 - d.egrCells (fun _ => true))
  else if b = R.SCH_EGR_CLASS_LEVEL.base then some (d.egrCells (fun k => k % 4 = i))
  else if b = R.SCH_DESC_FREE.base then some (d.descFree i)
  else if b = R.SCH_CELLS_FREE.base then some (d.halfFree i)
  else none

def Dev.viewFe (d : Dev) (b i w : Nat) : Option Nat :=
  if b = R.FE_INFLIGHT.base then some (withBits w F.FE_INFLIGHT_DRAIN_COUNT d.drainCount)
  else if b = R.FE_EM_OCCUPANCY.base then
    some ((d.entries (feSel 0x10 i)).filter (fun e => e.2.getD 6 0 &&& d.liveTags ≠ 0)).length
  else if b = R.FE_TCAM_OCCUPANCY.base then
    some ((d.entries (feSel 0x11 i)).filter (fun e => e.1 % 4 = 2 && e.2.getD 2 0 &&& d.liveTags ≠ 0)).length
  else if b = R.LFE_STATUS.base then
    some (withBits (withBits w F.LFE_STATUS_RXC_COUNT ((d.entries (0xB4 + i)).filter (fun e => bit (e.2.getD 0 0) 31)).length)
      F.LFE_STATUS_RUNNING (b2n (!d.domHeld (i / 2))))
  else if b = R.FE_RESYNC.base then some (withBits w F.FE_RESYNC_START (d.get F.FE_STATUS_RESYNC_BUSY i))
  else none

def Dev.viewSlice (d : Dev) (b s w : Nat) : Option Nat :=
  if b = R.SAT_OCCUPANCY.base then some (d.satOccupancy s)
  else if b = R.CIP_MASK_RESERVE.base then some (d.maskReserve s)
  else if b = R.CIP_FAULT_STATUS.base then some (withBits w F.CIP_FAULT_STATUS_TRANSIENTS (min 4 (d.transients s).length))
  else if b = R.CIP_KAT_CTRL.base then
    some (withBits w F.CIP_KAT_CTRL_GO (b2n (d.katSoft s).isSome))
  else if b = R.LRN_FLUSH.base then some (withBits w F.LRN_FLUSH_START (d.get F.LRN_FLUSH_BUSY s))
  else if b = R.LRN_OCCUPANCY.base then
    some (((d.lrnAll s).filter (fun e => e.valid && e.static)).length * 2 ^ 16 + d.lrnOccupancy s % 2 ^ 16)
  else if b = R.BAY_CACHE_STATUS.base then
    some (((d.groups s).filter (fun e => e.2.cached && e.2.dirty)).length % 4096 * 2 ^ 16 +
      ((d.groups s).filter (fun e => e.2.cached)).length % 4096)
  else none

/-- The word a read of an instance shows. -/
def Dev.viewWord (d : Dev) (r : Reg) (i j : Nat) : Nat :=
  let b := r.base
  let w := d.num r i j
  ((((((((d.viewGlb b w).orElse (fun _ => d.viewIsland b i w)).orElse (fun _ => d.viewThy b w)).orElse
    (fun _ => d.viewSage b w)).orElse (fun _ => d.viewMon b i)).orElse (fun _ => d.viewMrg b i)).orElse
    (fun _ => d.viewSch b i w)).orElse (fun _ => (d.viewFe b i w).orElse (fun _ => d.viewSlice b i w))).getD w

/-! Values in two words: a read of the low word latches the high one (R173, R232, R320, R500, R533, R582). -/

/-- The low and high registers of the 64-bit values. -/
def loHi : List (Reg × Reg) :=
  [(R.CIP_CNT_SEALED_LO, R.CIP_CNT_SEALED_HI), (R.CIP_CNT_OPENED_LO, R.CIP_CNT_OPENED_HI),
   (R.SCH_CNT_DEQUEUED_LO, R.SCH_CNT_DEQUEUED_HI), (R.MRG_CNT_NUMBERED_LO, R.MRG_CNT_NUMBERED_HI),
   (R.MRG_CNT_PASSED_LO, R.MRG_CNT_PASSED_HI), (R.MRG_CNT_DUP_LO, R.MRG_CNT_DUP_HI), (R.MRG_CNT_HELD_LO, R.MRG_CNT_HELD_HI),
   (R.EVT_RSM_LSEQ_LO, R.EVT_RSM_LSEQ_HI), (R.EVT_RSM_DURABLE_LO, R.EVT_RSM_DURABLE_HI),
   (R.PWR_ENERGY_LO, R.PWR_ENERGY_HI), (R.MON_QV_LO, R.MON_QV_HI)]

/-- The high word of such a value now. -/
def Dev.hiNow (d : Dev) (lo hi : Reg) (i : Nat) : Nat :=
  if lo.base = R.PWR_ENERGY_LO.base then d.pwr.energy / 2 ^ 32 % 2 ^ 32
  else if lo.base = R.MON_QV_LO.base then d.quickView i / 2 ^ 32
  else d.num hi i

/-- A read of the low word latches the high word; a read of the high word returns what was latched. -/
def Dev.latchRead (d : Dev) (r : Reg) (i j : Nat) : Option (Dev × Nat) :=
  match loHi.find? (fun p => p.1.base = r.base || p.2.base = r.base) with
  | none => none
  | some (lo, hi) =>
    let a := lo.addr i j
    if lo.base = r.base then
      some ({ d with mgmt := { d.mgmt with hiLatch := SMap.set 0 d.mgmt.hiLatch a (d.hiNow lo hi i) } }, d.viewWord lo i j)
    else some (d, SMap.get 0 d.mgmt.hiLatch a)

/-- Registers whose read takes a queued record or captures others (R123, R374, R375, R378, R384, R390, R471, R474, R483). -/
def Dev.queueRead (d : Dev) (m : Master) (r : Reg) (i : Nat) : Option (Dev × Nat) :=
  let b := r.base
  if b = R.TIM_SNAP_RAW_NS.base then some d.snapRead
  else if b = R.TIM_TXS_INFO.base then some d.txsRead
  else if b = R.TIM_PPS_IN_STATUS.base then some d.ppsRead
  else if b = R.TIM_TOD_STATUS.base then some d.todRead
  else if b = R.THY_DONE_FIFO.base then some d.thyRead
  else if b = R.SAT_TRIGGER_FIFO.base then some (d.triggerRead i)
  else if b = R.MNT_KEY_OUT.base then some (d.keyOutRead m)
  else if b = R.MNT_RAND_OUT.base then some (d.randOutRead m)
  else if b = R.MNT_TEST_OUT.base then some (d.testOutRead m)
  else if b = R.MNT_RAW_CAPTURE.base then some (d.captureRead m)
  else if b = R.EVT_FIFO_INFO.base then some d.evtFifoRead
  else none

/-- What a read of an ordinary register clears (R13, R14): its RC fields return to their reset values; CIP_HOLD_STATUS.HWM
returns to LEVEL (R173), and LRN_STATUS.NO_BIND_VALID goes with a read of LRN_CNT_NO_BIND (R198). -/
def Dev.readClears (d : Dev) (r : Reg) (i j : Nat) : Dev :=
  let k := regReadClear r
  if k = 0 then d
  else
    let w := d.word r i j
    let km := BitVec.ofNat 32 k
    let d := d.put r ((w &&& ~~~ km) ||| (r.reset i j &&& km)) i j
    if r.base = R.CIP_HOLD_STATUS.base then d.set F.CIP_HOLD_STATUS_HWM (d.get F.CIP_HOLD_STATUS_LEVEL i) i
    else if r.base = R.LRN_CNT_NO_BIND.base then d.set F.LRN_STATUS_NO_BIND_VALID 0 i
    else d

/-- A read of an instance of a register by a master. -/
def Dev.readInst (d : Dev) (m : Master) (r : Reg) (i j : Nat) : Dev × Nat :=
  match d.queueRead m r i with
  | some x => x
  | none =>
    match d.latchRead r i j with
    | some x => x
    | none => (d.readClears r i j, d.viewWord r i j)

/-- Is this the address of a word of a page (R540)? -/
def isPage (addr : Nat) : Bool := 0x40000000 ≤ addr && addr < 0x41000000

/-- A read of a 32-bit word of the address map (R11, R535-R540): tenants read their own page, and everything else they
read is a violation that returns zero. -/
def Dev.readWord (d : Dev) (m : Master) (addr : Nat) : Dev × Nat :=
  let tenant := match d.principal m with
    | some p => decide (2 ≤ p)
    | none => false
  let own := match d.principal m with
    | some p => isPage addr && decide (addr / 0x100000 % 16 = p)
    | none => false
  if tenant && !own then (d.violate m addr false, 0)
  else if addr % 4 ≠ 0 then (d, 0)
  else if isPage addr then (d, SMap.get 0 d.mgmt.page (addr - 0x40000000))
  else if isWin addr then (d, d.winGet m (addr - 0x01000000))
  else match regAt addr with
  | some (r, i, j) => d.readInst m r i j
  | none => (d, 0)

/-- A read on the bus, as unit 27 counts it (R568). -/
def Dev.busRead (d : Dev) (m : Master) (addr : Nat) : Dev × Nat := (d.access m addr false).readWord m addr

/-- A read that a command stands for: SPI or I2C answer only where the interface answers (R548). -/
def Dev.readCmd (d : Dev) (m : Master) (addr : Nat) : Dev :=
  if !d.answers m then d
  else
    let r := d.busRead m addr
    r.1.answer r.2

/-- READ_CLEAR (R13, R14). -/
def doReadClear (addr : Nat) (m : Master) (d : Dev) : Dev := d.readCmd m (addr % 2 ^ 32)

/-- LO_LATCH_READ (R173, R232, R320, R500, R533, R582). -/
def doLoLatchRead (addr : Nat) (m : Master) (d : Dev) : Dev := d.readCmd m (addr % 2 ^ 32)

end Sys2Proof.Machine
end

