-- ==== Sys2Proof/Machine/Bus.lean ====
section
/-! DEFINITION. Writes of registers over the address map: the access codes, the values that a field refuses or clamps, the
rights of masters and lifecycle states, and the registers whose write is a command (R11-R14, R412, R535-R540, and the
register tables). -/

namespace Sys2Proof.Machine

/-- A word with the bits of `m` cleared. -/
def clrMask (w m : Nat) : Nat := w ^^^ (w &&& m)

/-- `old` with the bits of `m` taken from `new`. -/
def mergeMask (old new m : Nat) : Nat := clrMask old m ||| (new &&& m)

/-- The bits of a field. -/
def fldMask (f : Fld) : Nat := (2 ^ (f.hi + 1 - f.lo) - 1) * 2 ^ f.lo

/-- The masks of the fields that belong to a register. -/
def masks (fs : List Fld) (r : Reg) : Nat :=
  (fs.map (fun f => if f.reg.base = r.base then fldMask f else 0)).foldl (· ||| ·) 0

/-! Fields that clamp the value written. -/

/-- The unsigned fields with a range: values outside it are clamped. -/
def clampList : List (Fld × Nat × Nat) :=
  [(⟨R.FE_EXC_RATE_FPS, 27, 18⟩, 1, 1023), (⟨R.FE_EXC_RATE_FPS, 17, 0⟩, 1000, 200000), (⟨R.FE_EXC_RATE_BPS, 25, 16⟩, 1, 1023),
   (⟨R.FE_EXC_RATE_BPS, 9, 0⟩, 10, 1000), (⟨R.FE_EXC_CTRL_SHARE, 6, 0⟩, 0, 100), (⟨R.CIP_SEG_TIMEOUT, 15, 0⟩, 10, 500), (⟨R.LRN_SWEEP_INTERVAL, 19, 0⟩, 50, 600000),
   (⟨R.MRG_QUIET, 9, 0⟩, 10, 1000), (⟨R.MRG_HOLD_RESERVE, 26, 0⟩, 0, 100663296), (⟨R.THY_CTRL, 31, 16⟩, 1, 60000),
   (⟨R.TIM_PPS_OUT_PERIOD, 31, 0⟩, 1000, 0xFFFFFFFF), (⟨R.SAGE_LEASE_CFG, 31, 16⟩, 1, 3600), (⟨R.SAGE_LEASE_CFG, 15, 8⟩, 1, 60),
   (⟨R.SAGE_LEASE_CFG, 7, 0⟩, 4, 100), (⟨R.SAGE_WDT_CFG, 15, 0⟩, 10, 10000), (⟨R.MNT_RESEED_CFG, 25, 21⟩, 10, 19),
   (⟨R.MNT_RESEED_CFG, 9, 0⟩, 1, 1000), (⟨R.EVT_RSM_CTRL, 15, 0⟩, 10, 60000), (⟨R.TAMP_CTRL, 15, 0⟩, 10, 60000),
   (⟨R.TAMP_REG_CTRL, 15, 0⟩, 10, 10000), (⟨R.TAMP_TEMP_CFG, 15, 8⟩, 80, 110), (⟨R.CPORT_PREEMPT, 23, 16⟩, 1, 128)]

/-- A signed 8-bit value held between two bounds. -/
def clampInt8 (v : Nat) (lo hi : Int) : Nat := ((max lo (min hi (signed 8 v))) % 256).toNat

/-- The word of a register with every field inside its range: TEMP_LO and a rail's margin are signed (R489, R526, R533). -/
def Dev.clampWord (d : Dev) (r : Reg) (i : Nat) (w : Nat) : Nat :=
  let w := clampList.foldl (fun w c =>
    if c.1.reg.base = r.base then withBits w c.1 (max c.2.1 (min c.2.2 (nbits w c.1.hi c.1.lo))) else w) w
  if r.base = R.TAMP_TEMP_CFG.base then withBits w ⟨R.TAMP_TEMP_CFG, 7, 0⟩ (clampInt8 (nbits w 7 0) (-40) 20)
  else if r.base = R.PWR_RAIL_CTRL.base then
    let b : Int := (d.get F.PWR_RAIL_VOLT_TARGET_MV i : Int) / 20
    withBits w F.PWR_RAIL_CTRL_MARGIN_MV (clampInt8 (nbits w 7 0) (-b) b)
  else w

/-! Fields that keep their value: reserved values, and the state of a port or a source. -/

/-- Does a lane belong to an enabled port? -/
def Dev.laneEnabled (d : Dev) (l : Nat) : Bool :=
  match d.portOfLane l with
  | some (line, p) => d.on (pfEnable line) p
  | none => false

/-- Keep the mask where the condition holds. -/
def keepIf (c : Bool) (fs : List Fld) (r : Reg) : Nat := if c then masks fs r else 0

/-- The bits of a lane's register that a write leaves (R347, R348, R360, R361). -/
def Dev.keepLane (d : Dev) (r : Reg) (l w : Nat) : Nat :=
  if r.base = R.LANE_CTRL.base then
    keepIf (d.laneEnabled l) [F.LANE_CTRL_LOOPBACK, F.LANE_CTRL_RX_INVERT, F.LANE_CTRL_TX_INVERT] r |||
      keepIf (decide (nbits w 6 5 = 3)) [F.LANE_CTRL_LOOPBACK] r
  else if r.base = R.LANE_TX_EQ.base then
    if 64 < nbits w 31 24 + nbits w 23 16 + nbits w 15 8 + nbits w 7 0 then 0xFFFFFFFF else 0
  else if r.base = R.LANE_PRBS_CTRL.base then
    keepIf (d.laneEnabled l) [F.LANE_PRBS_CTRL_GEN_EN, F.LANE_PRBS_CTRL_CHK_EN] r |||
      keepIf (decide (2 ≤ nbits w 29 28)) [F.LANE_PRBS_CTRL_PATTERN] r
  else 0

/-- The bits of a register that a write leaves by the register's own rule. -/
def Dev.keepMask (d : Dev) (r : Reg) (i w : Nat) : Nat :=
  if r.base = R.CPORT_PREEMPT.base then
    keepIf (d.on F.CPORT_CTRL_ENABLE i) [F.CPORT_PREEMPT_EN, F.CPORT_PREEMPT_VERIFY_DIS] r
  else if r.base = R.ENV_CTRL.base then
    keepIf (decide (2 ≤ nbits w 31 30) || d.on F.LPORT_CTRL_ENABLE i || d.on F.LPORT_STATUS_TX_ACTIVE i) [F.ENV_CTRL_MODE] r
  else if r.base = R.TIM_CTRL.base then keepIf (decide (nbits w 31 30 = 3)) [F.TIM_CTRL_SOURCE] r
  else if r.base = R.EVT_GRP_LOG_EN.base then alarmMask i
  else d.keepLane r i w

/-- The RWL bits that the image's commit locks: all of them but those of the deferred-lock list that no change set has
locked since (R412). -/
def Dev.lockBits (d : Dev) (r : Reg) (a : Nat) : Nat :=
  clrMask (regLockable r) (clrMask (SMap.get 0 d.sage.deferLock a) (SMap.get 0 d.sage.lockedBits a))

/-- The RWL bits that are locked now (R13, R412). -/
def Dev.lockMask (d : Dev) (r : Reg) (a : Nat) : Nat := if d.locked then d.lockBits r a else 0

/-! Fields that only some lifecycle states let a write change. -/

/-- The bits that a write may not clear outside FACTORY, and those that it may not change in this state. -/
def Dev.stateMasks (d : Dev) (r : Reg) : Nat × Nat :=
  let fac := decide (d.fuse.lcs = 0)
  let ret := fac || decide (d.fuse.lcs = 3)
  (keepIf (!fac) [F.SAT_CTRL_SCRUB_EN, F.BAY_CTRL_RECLAIM_EN, F.BAY_CTRL_PATROL_EN, F.RST_CTRL_GLOBAL_WDT_EN, F.PWR_CTRL_CAL_EN] r,
   keepIf (!ret) [F.LANE_CTRL_ADAPT_FREEZE, F.PWR_RAIL_CTRL_MARGIN_MV] r ||| keepIf (!fac) [F.MNT_SRC_CTRL_EN] r)

/-- Would the write change a field that the lifecycle state guards? -/
def Dev.stateBars (d : Dev) (r : Reg) (i j w : Nat) : Bool :=
  let old := d.num r i j
  let m := d.stateMasks r
  let lk := d.lockMask r (r.addr i j)
  decide (clrMask old w &&& clrMask m.1 lk ≠ 0) || decide ((old ^^^ w) &&& clrMask m.2 lk ≠ 0)

/-! An ordinary register. -/

/-- A lane's TX_ACTIVE, after a write to its registers: the transmitter is squelched where FORCE_SQUELCH or near-end
loopback says so, and drives where a pattern, far-end loopback or its port does (R360, R361, R364). -/
def Dev.laneShow (d : Dev) (l : Nat) : Dev :=
  let port := match d.portOfLane l with
    | some (line, p) => d.on (pfEnable line) p && d.on (pfTx line) p
    | none => false
  d.flag F.LANE_STATUS_TX_ACTIVE
    (!d.on F.LANE_CTRL_TX_FORCE_SQUELCH l && decide (d.get F.LANE_CTRL_LOOPBACK l ≠ 1) && !d.domHeld (l / 16 % 2) &&
      (d.on F.LANE_PRBS_CTRL_GEN_EN l || decide (d.get F.LANE_CTRL_LOOPBACK l = 2) || port)) l

/-- What follows a write: a lane's transmitter and checker, and an envelope that starts again with a change of MODE (R256). -/
def Dev.writeEffects (d : Dev) (r : Reg) (i old : Nat) : Dev :=
  if r.base = R.LANE_CTRL.base then d.laneShow i
  else if r.base = R.LANE_PRBS_CTRL.base then
    (if d.on F.LANE_PRBS_CTRL_CHK_EN i then d else d.set F.LANE_STATUS_PRBS_LOCK 0 i).laneShow i
  else if r.base = R.ENV_CTRL.base && decide (d.get F.ENV_CTRL_MODE i ≠ nbits old 31 30) then
    let d := d.envErase i
    d.setEp i { d.ep i with efn := 0x100 }
  else d

/-- A write of an ordinary register: RW and unlocked RWL fields take the word's bits, W1C bits written as 1 clear; no other
field changes. -/
def Dev.plainWrite (d : Dev) (r : Reg) (i j w : Nat) : Dev :=
  let old := d.num r i j
  let m := clrMask (clrMask (regWritable r) (d.lockMask r (r.addr i j))) (d.keepMask r i w)
  let new := clrMask (d.clampWord r i (mergeMask old w m)) (regOnesClear r &&& w)
  (d.putNum r new i j).writeEffects r i old

/-! Registers whose write is a command, block by block: none for the others. -/

def Dev.cmdGlb (d : Dev) (m : Master) (b w : Nat) : Option Dev :=
  if b = R.GLB_LCS_CONFIRM.base then some (doGlbLcsConfirm w m d)
  else if b = R.GLB_LCS_CMD.base then
    some (match w / 2 ^ 28 with
      | 1 => doProvision m d
      | 2 => doOperate m d
      | 3 => doFieldReturn m d
      | 4 => doDecommission m d
      | _ => d)
  else if b = R.GLB_KEYSLOT_CMD.base then
    some (match w / 2 ^ 28 with
      | 1 => doFuseOperator (w % 4) m d
      | 2 => doRevokeOperator (w % 4) m d
      | 3 => doRevokeVendor (w % 4) m d
      | _ => d)
  else if b = R.RST_SW_CMD.base then some (doSwReset (w / 2 ^ 16) (w % 2 ^ 16) m d)
  else if b = R.EVT_SW_RAISE.base then some (doEvtSwRaise w m d)
  else if b = R.EVT_FORCE.base then some (doEvtForce (nbits w 26 16) (nbits w 15 11) m d)
  else none

def Dev.cmdTim (d : Dev) (m : Master) (b i w : Nat) : Option Dev :=
  if b = R.TIM_ADJ_CMD.base then
    some (match w / 2 ^ 28 with
      | 1 => doStep (bit w 27) m d
      | 2 => doRate m d
      | 3 => doStepAndRate (bit w 27) m d
      | _ => d)
  else if b = R.TIM_SYNC.base then
    some (if d.isActive m then d.plainWrite R.TIM_SYNC 0 0 w else d.violate m (R.TIM_SYNC.addr 0 0) true)
  else if b = R.TIM_PPS_OUT_CTRL.base then some (doPpsOutCtrlWrite i w d)
  else if b = R.THY_CMD.base then
    some (match w / 2 ^ 28 with
      | 1 => doThyWrite m d
      | 2 => doThyAbort (w % 2 ^ 16) m d
      | 3 => doThyRelease (nbits w 27 16) m d
      | _ => d)
  else none

def Dev.cmdMnt (d : Dev) (m : Master) (b w : Nat) : Option Dev :=
  if b = R.MNT_CMD.base then
    some (match w / 2 ^ 28 with
      | 1 => doMntCmdKey (w % 32) m d
      | 2 => doMntCmdRand (w % 32) m d
      | 3 => doMntCmdReseed m d
      | 4 => doMntCmdKat m d
      | _ => d)
  else if b = R.MNT_SRC_CTRL.base then
    let d := if w / 16 % 16 = 0 then d else doSourceRestart (w / 16 % 16) m d
    some (if w % 16 = d.get F.MNT_SRC_CTRL_EN then d else doSourceEnable (w % 16) d)
  else if b = R.MNT_TEST_CTRL.base then some (doTestCtrlWrite w m d)
  else if b = R.MNT_TEST_DATA.base then some (doMntTestData w m d)
  else none

def Dev.cmdTamp (d : Dev) (m : Master) (b i w : Nat) : Option Dev :=
  if b = R.TAMP_UNMUTE.base then some (doTampUnmute (w % 8) m d)
  else if b = R.TAMP_FUSE_CONFIRM.base then some (doTampFuseConfirm w m d)
  else if b = R.TAMP_FUSE_CMD.base then some (doTampFuseCmd (w % 4096) m d)
  else if b = R.TAMP_STICKY_ENV.base then some (doStickyClear 0 w m d)
  else if b = R.TAMP_STICKY_MISC.base then some (doStickyClear 1 w m d)
  else if b = R.TAMP_REG_STICKY.base then some (doStickyClear (i + 2) w m d)
  else none

/-- SAGE_CTRL takes its fields, then commits the image where bit 3 is written as 1 (R412, R422). -/
def Dev.sageCtrl (d : Dev) (m : Master) (w : Nat) : Dev :=
  let d := d.plainWrite R.SAGE_CTRL 0 0 w
  if bit w 3 then doImageCommit m d else d

def Dev.cmdSage (d : Dev) (m : Master) (b w : Nat) : Option Dev :=
  if b = R.SAGE_RENEW.base then some (doSageRenew w m d)
  else if b = R.SAGE_ALIVE.base then some (doSageAlive w m d)
  else if b = R.SAGE_HANDOVER.base then some (doSageHandover w m d)
  else if b = R.SAGE_WDT_KICK.base then some (doSageWdtKick w m d)
  else if b = R.SAGE_CTRL.base then some (d.sageCtrl m w)
  else if b = R.SAGE_MBOX_CTRL.base then some (if bit w 31 then doSageMboxClear m d else d)
  else if b = R.SAGE_MBOX_DATA.base then some (doSageMboxData w m d)
  else none

def Dev.cmdNvl (d : Dev) (m : Master) (b w : Nat) : Option Dev :=
  if b = R.NVL_UPD_CMD.base then
    some (match w / 2 ^ 28 with
      | 1 => doUpdStart m d
      | 2 => doUpdFinish m d
      | 3 => doUpdCommit m d
      | 4 => doUpdAbort (w % 2 ^ 16) m d
      | _ => d)
  else if b = R.NVL_UPD_DATA.base then some (doUpdData w false m d)
  else if b = R.NVL_SVN_CMD.base then some (if w / 2 ^ 28 = 1 then doSvnAdvance (w % 64) m d else d)
  else none

/-- LANE_RATE and WIDTH form the port, ENABLE brings it up or down, LINK_EVT_EN is set (R345, R356, R358, R365). -/
def Dev.portCtrl (d : Dev) (line : Bool) (p w : Nat) : Dev :=
  let d := d.flag (if line then F.LPORT_CTRL_LINK_EVT_EN else F.CPORT_CTRL_LINK_EVT_EN) (bit w 2) p
  let d := doPortForm line p (nbits w 27 26) (nbits w 23 20) d
  if bit w 31 then doPortEnable line p d else doPortDisable line p false d

/-- ENV_KEY_CMD (R273, R295). -/
def Dev.envCmdWord (d : Dev) (m : Master) (p w : Nat) : Dev :=
  let dir := nbits w 27 27
  let pos := nbits w 26 26
  match w / 2 ^ 28 with
  | 1 => doEnvInstallTx p pos (nbits w 25 16) m d
  | 2 => doEnvInstallRx p pos m d
  | 3 => doEnvSwitchNowTx p m d
  | 4 => doEnvZeroize p dir pos m d
  | 5 => doEnvZeroizeAll p m d
  | 6 => doEnvKeyAbort p (w % 2 ^ 16) m d
  | _ => d

def Dev.cmdPort (d : Dev) (m : Master) (b i w : Nat) : Option Dev :=
  if b = R.CPORT_CTRL.base then some (d.portCtrl false i w)
  else if b = R.LPORT_CTRL.base then some (d.portCtrl true i w)
  else if b = R.LANE_PRBS_CTRL.base then
    let d := d.plainWrite R.LANE_PRBS_CTRL i 0 w
    some (if bit w 0 then doPrbsClear i d else d)
  else if b = R.ENV_KEY_CMD.base then some (d.envCmdWord m i w)
  else if b = R.ENV_KEY_STAGE.base then some (doEnvKeyStage i w m d)
  else none

def Dev.cmdFe (d : Dev) (m : Master) (b i w : Nat) : Option Dev :=
  if b = R.FE_VER_CMD.base then
    some (match w / 2 ^ 28 with
      | 1 => doOpenVersion (w % 2 ^ 16) d
      | 2 => doCloseVersion d
      | 3 => doDiscardVersion d
      | 4 => doCommitNow d
      | _ => d)
  else if b = R.FE_RESYNC.base then some (if bit w 31 then doFeResync i (w % 4) d else d.set F.FE_RESYNC_SOURCE w i)
  else if b = R.POL_CMD.base then some (if w / 2 ^ 28 = 1 then doFill (nbits w 14 0) d else d)
  else if b = R.SCH_CMD.base then some (if w / 2 ^ 28 = 1 then doFlushQueue (nbits w 26 24) (nbits w 12 0) d else d)
  else if b = R.BAY_CMD.base then some (if w / 2 ^ 28 = 1 then doNewEpoch i m d else d)
  else if b = R.MRG_CMD.base then
    some (match w / 2 ^ 28 with
      | 1 => doRestartSeq m d
      | 2 => doRestartMerge m d
      | _ => d)
  else none

/-- SAT_CMD (R115, R127). -/
def Dev.satCmdWord (d : Dev) (m : Master) (s w : Nat) : Dev :=
  let e := nbits w 12 0
  match w / 2 ^ 28 with
  | 1 => doInstallTx s e m d
  | 2 => doInstallRx s e m d
  | 3 => doSwitchNowTx s e m d
  | 4 => doOpenNowRx s e m d
  | 5 => doRetireRx s e m d
  | 6 => doSetLimits s e m d
  | 7 => doZeroize s (nbits w 27 27) e m d
  | 8 => doZeroizeAll s m d
  | _ => d

/-- SAT_DIAG_CTRL: OPEN opens or closes the test window, OP and PIPE are set, GO runs one operation (R124, R125). -/
def Dev.diagCtrl (d : Dev) (m : Master) (s w : Nat) : Dev :=
  if d.diagMay s m = 1 then d.violate m (R.SAT_DIAG_CTRL.addr s 0) true
  else
    let d := if bit w 31 then doDiagOpen s m d else doDiagClose s m d
    let d := (d.set F.SAT_DIAG_CTRL_OP (nbits w 29 29) s).set F.SAT_DIAG_CTRL_PIPE (nbits w 28 26) s
    if bit w 30 then doDiagGo s (nbits w 29 29) (nbits w 28 26) d else d

/-- CIP_KAT_CTRL (R173). -/
def Dev.katWord (d : Dev) (s w : Nat) : Dev :=
  if bit w 31 then doKatGo s (nbits w 30 30) (nbits w 29 27) (bit w 26) d
  else ((d.set F.CIP_KAT_CTRL_DIR (nbits w 30 30) s).set F.CIP_KAT_CTRL_PIPE (nbits w 29 27) s).flag F.CIP_KAT_CTRL_ALL (bit w 26) s

def Dev.cmdSlice (d : Dev) (m : Master) (b s w : Nat) : Option Dev :=
  if b = R.SAT_CMD.base then some (d.satCmdWord m s w)
  else if b = R.SAT_CMD_ABORT.base then some (doSatCmdAbort s (w % 2 ^ 16) m d)
  else if b = R.SAT_KEY_STAGE.base then some (doSatKeyStage s w m d)
  else if b = R.SAT_DIAG_CTRL.base then some (d.diagCtrl m s w)
  else if b = R.CIP_KAT_CTRL.base then some (d.katWord s w)
  else if b = R.LRN_FLUSH.base then some (doLrnFlush s w d)
  else none

/-- The command that a write of a register stands for. -/
def Dev.cmdWord (d : Dev) (m : Master) (r : Reg) (i w : Nat) : Option Dev :=
  let b := r.base
  (((((d.cmdGlb m b w).orElse (fun _ => d.cmdTim m b i w)).orElse (fun _ => d.cmdMnt m b w)).orElse
    (fun _ => d.cmdTamp m b i w)).orElse (fun _ => (d.cmdSage m b w).orElse (fun _ => d.cmdNvl m b w))).orElse
    (fun _ => ((d.cmdPort m b i w).orElse (fun _ => d.cmdFe m b i w)).orElse (fun _ => d.cmdSlice m b i w))

/-- A write of an instance of a register, by a master that may write it. -/
def Dev.instWrite (d : Dev) (m : Master) (r : Reg) (i j w : Nat) : Dev :=
  if d.stateBars r i j w then d.violate m (r.addr i j) true
  else match d.cmdWord m r i w with
  | some x => x
  | none => d.plainWrite r i j w

/-- May a core that does not hold the lease write this register: SAGE_ALIVE and SAGE_WDT_KICK (R537)? -/
def standbyWrites (addr : Nat) : Bool := addr = R.SAGE_ALIVE.addr 0 0 || addr = R.SAGE_WDT_KICK.addr 0 0

/-- A write of a 32-bit word of the address map by a master that its target has let through (R11, R535-R540). -/
def Dev.writeWord (d : Dev) (m : Master) (addr w : Nat) : Dev :=
  if !(d.mayWrite m || (m.sage && standbyWrites addr)) then d.violate m addr true
  else if addr % 4 ≠ 0 || isPage addr then d
  else if isWin addr then d.winPut m (addr - 0x01000000) w
  else match regAt addr with
  | some (r, i, j) => d.instWrite m r i j w
  | none => d

end Sys2Proof.Machine
end

