-- ==== Sys2Proof/Machine/Apply.lean ====
section
/-! DEFINITION. Configuration records, their checks, and change sets (R35, R404, R412, R416-R421, R449-R451). -/

namespace Sys2Proof.Machine

/-- A configuration record (R404). -/
structure CfgRec where
  kind : Nat
  phase : Nat
  target : Nat
  index : Nat
  data : List Nat
  deriving DecidableEq, Repr

/-- Does a record name a table whose entries have tag slots? -/
def slotTable (sel : Nat) : Bool := slottedSel sel || (decide (0x20 ≤ sel) && decide (sel < 0x28))

/-- Does a record name a bound table (R239)? -/
def boundTable (sel : Nat) : Bool := sel = 0xA0 || sel = 0xA1

/-- Does a record name a table of R68? -/
def versionTable (sel : Nat) : Bool := (decide (0x10 ≤ sel) && decide (sel < 0x15)) || (decide (0x20 ≤ sel) && decide (sel < 0x28))

/-- The form of a record (R404): its tag-slot and bank bits are zero, a register record has one word. -/
def recForm (r : CfgRec) : Bool :=
  decide (1 ≤ r.kind) && decide (r.kind ≤ 4) && decide (r.phase ≤ 2) && decide (r.data.length ≤ 16) &&
    (match r.kind with
     | 1 => r.data.length = 1
     | 2 => (!slotTable r.target || nbits r.index 25 24 = 0) && (r.target ≠ 0xA0 || decide (r.index < 16384)) &&
        (r.target ≠ 0xA1 || decide (r.index < 64))
     | 3 => true
     | _ => r.data.length = 1 && r.index = 0)

/-- The records of a section or a body, none where they are malformed (R404). -/
def parseRecs : Nat → Bytes → Option (List CfgRec)
  | 0, bs => if bs.isEmpty then some [] else none
  | n + 1, bs =>
    if bs.isEmpty then some []
    else
      let k := numAt bs 2 2
      let r : CfgRec := ⟨numAt bs 0 1, numAt bs 1 1, numAt bs 4 4, numAt bs 8 4, bytesToWords (slice bs 12 (4 * k))⟩
      if bs.length < 12 + 4 * k || !recForm r then none
      else (parseRecs n (bs.drop (12 + 4 * k))).map (r :: ·)

/-- All the records of a run of bytes. -/
def recsOf (bs : Bytes) : Option (List CfgRec) := parseRecs bs.length bs

/-! Applying records. -/

/-- The index of a table record with the tag slot or the bank filled in (R404). -/
def Dev.recIndex (d : Dev) (r : CfgRec) : Nat :=
  if slotTable r.target then r.index + d.get F.FE_VER_STAGED_TAG * 2 ^ 24
  else if r.target = 0xA0 then r.index + (1 - d.fe.bank) * 16384
  else if r.target = 0xA1 then r.index + (1 - d.fe.bank) * 64
  else r.index

/-- A record is applied by the active core; the reason where the unit refuses it.  `hold`: a client port's ENABLE is held
back (R411). -/
def Dev.applyRec (d : Dev) (hold : Bool) (r : CfgRec) : Dev × Nat :=
  match r.kind with
  | 1 => match regAt r.target with
    | some (reg, i, j) =>
      let w := r.data.headD 0
      (d.instWrite d.sageNow reg i j (if hold && reg.base = R.CPORT_CTRL.base then w % 2 ^ 31 else w), 0)
    | none => (d, 0)
  | 2 => d.tblWrite d.sageNow true (r.target % 2 ^ 16) (d.recIndex r) r.data
  | 3 => d.tblWrite d.sageNow true (r.target % 2 ^ 16) (2 ^ 31) r.data
  | _ => (d, 0)

/-- Records in order; the reason of the first that a unit refuses, after which none is applied. -/
def Dev.applyRecs (d : Dev) (hold : Bool) (rs : List CfgRec) : Dev × Nat :=
  rs.foldl (fun x r => if x.2 ≠ 0 then x else x.1.applyRec hold r) (d, 0)

/-- Records in order, whatever a unit refuses. -/
def Dev.applyAll (d : Dev) (hold : Bool) (rs : List CfgRec) : Dev := rs.foldl (fun d r => (d.applyRec hold r).1) d

/-- The registers and entries that records have written belong to the local part (R449). -/
def Dev.noteRecs (d : Dev) (rs : List CfgRec) : Dev :=
  rs.foldl (fun d r =>
    let f := d.fleet
    if r.kind = 1 then
      (if f.cfgRegs.contains (foldAddr r.target) then d else { d with fleet := { f with cfgRegs := f.cfgRegs ++ [foldAddr r.target] } })
    else if r.kind = 2 && r.target ≠ 0x10 && !f.cfgEnts.contains (r.target % 2 ^ 16, r.index) then
      { d with fleet := { f with cfgEnts := f.cfgEnts ++ [(r.target % 2 ^ 16, r.index)] } }
    else d) d

/-! Deferred locks (R412). -/

/-- A deferred-lock record names a register that holds RWL fields, and only bits of them. -/
def deferOk (r : CfgRec) : Bool :=
  match regAt r.target with
  | some (reg, _, _) => decide (regLockable reg ≠ 0) && decide (clrMask (r.data.headD 0) (regLockable reg) = 0)
  | none => false

/-- The whole RWL fields of which a mask sets any bit. -/
def wholeFields (r : Reg) (m : Nat) : Nat :=
  (r.fields.map (fun f =>
    let k := (2 ^ (f.hi + 1 - f.lo) - 1) * 2 ^ f.lo
    if f.acc == .rwl && decide (k &&& m ≠ 0) then k else 0)).foldl (· ||| ·) 0

/-- The deferred-lock list takes a record's fields. -/
def Dev.deferPut (d : Dev) (r : CfgRec) : Dev :=
  match regAt r.target with
  | some (reg, i, j) =>
    let a := reg.addr i j
    { d with sage := { d.sage with deferLock := SMap.set 0 d.sage.deferLock a (SMap.get 0 d.sage.deferLock a ||| wholeFields reg (r.data.headD 0)) } }
  | none => d

/-- The fields of the deferred-lock list that records have written lock with their change set. -/
def Dev.lockRecs (d : Dev) (rs : List CfgRec) : Dev :=
  rs.foldl (fun d r =>
    match (if r.kind = 1 then regAt r.target else none) with
    | some (reg, i, j) =>
      let a := reg.addr i j
      { d with sage := { d.sage with lockedBits := SMap.set 0 d.sage.lockedBits a (SMap.get 0 d.sage.deferLock a) } }
    | none => d) d

/-! The checks of a configuration (R35, R73, R450, R451). -/

/-- Does a record name, for a slice, a line port of the other half (R35): a queue or a subscriber node in use? -/
def otherHalf (r : CfgRec) : Bool :=
  let sel := r.target % 2 ^ 16
  r.kind = 2 && ((decide (0x70 ≤ sel) && decide (sel < 0x78)) || (decide (0x80 ≤ sel) && decide (sel < 0x88))) &&
    bit (r.data.headD 0) 31 && decide (nbits (r.data.headD 0) 28 24 / 16 ≠ sel % 8 / 4)

/-- The fleet constants and the service keying entries agree with the configuration (R451). -/
def Dev.constantsOk (d : Dev) : Bool :=
  let n := d.feRunning.headD 0
  let t := if d.staged then some (d.get F.FE_VER_STAGED_TAG) else d.curTag
  (decide (d.entry 0xF5 0 = []) ||
    (decide (d.num R.FE_HASH_SEED = d.tw 0xF5 0 1) && decide (d.get F.MRG_QUIET_QUIET_MS = d.tf 0xF5 0 2 31 22))) &&
  (match t with
   | none => true
   | some t => (d.entries (feSel 0x12 n)).all (fun e =>
      !(e.1 / 2 ^ 24 % 4 = t && bit (e.2.getD 0 0) 31 && d.tf 0xF3 (e.1 % 2 ^ 24) 0 31 31 = 1) ||
        d.tf 0xF3 (e.1 % 2 ^ 24) 0 28 28 = nbits (e.2.getD 0 0) 28 28))

/-- Would CLOSE pass (R73)? -/
def Dev.closeOk (d : Dev) : Bool := d.feRunning.all (fun n => d.stagedOk n (d.get F.FE_VER_STAGED_TAG))

/-- The configuration that would follow: the staged version current, and the edited bank active where `flip`. -/
def Dev.asCommitted (d : Dev) (flip : Bool) : Dev :=
  let d := if d.staged then d.makeCurrent false else d
  if flip then { d with fe := { d.fe with bank := 1 - d.fe.bank } } else d

/-- The version that follows the current one, opened on a copy for the check of a change set. -/
def Dev.openCopy (d : Dev) : Dev :=
  let cur := d.get F.FE_VER_CURRENT_VERSION
  let v := if cur = 0xFFFF then 1 else cur + 1
  let d := (d.putNum R.FE_VER_DRAINING 0).set F.FE_VER_STAGED_CLOSED 0
  let d := ((d.set F.FE_VER_STAGED_VALID 1).set F.FE_VER_STAGED_TAG (v % 4)).set F.FE_VER_STAGED_VERSION v
  doOpenPassDone { d with fe := { d.fe with pass := 1 } }

/-! Change sets (R416, R417). -/

def csLen (bs : Bytes) : Nat := numAt bs 16 4
def csBody (bs : Bytes) : Bytes := slice bs 256 (csLen bs)
def csVer (bs : Bytes) : Nat := numAt bs 12 4
def csRule (bs : Bytes) : Nat := numAt bs 20 2
def csBounds (bs : Bytes) : Bool := bit (numAt bs 22 2) 0
def csAt (bs : Bytes) : Nat := numAt bs 24 2 * 2 ^ 32 + numAt bs 28 4
def csRecs (bs : Bytes) : List CfgRec := (recsOf (csBody bs)).getD []

/-- The form of a change set (R416, R404): no deferred-lock record. -/
def csForm (bs : Bytes) : Bool :=
  decide (256 + 7424 ≤ bs.length) && decide (bs.length ≤ 1048576) && decide (numAt bs 0 4 = 0x56594353) && decide (numAt bs 4 2 = 1) &&
    decide (numAt bs 6 2 = 0) && decide (csVer bs = (numAt bs 8 4 + 1) % 2 ^ 32) && decide (bs.length = 256 + csLen bs + 7424) &&
    decide (numAt bs 22 2 < 2) && decide (numAt bs 26 2 = 0) && decide (numAt bs 36 4 = 0) && decide (numAt bs 144 112 = 0) &&
    (match recsOf (csBody bs) with
     | some rs => rs.all (fun r => r.kind ≠ 4)
     | none => false)

/-- The operator's signature over the header, and the body's digest (R405, R416). -/
def Dev.csSigned (d : Dev) (bs : Bytes) : Bool :=
  d.blockOk false (bs.drop (256 + csLen bs)) (ascii "SQ2CSSIG" ++ bs.take 256) && sha384 (csBody bs) == slice bs 48 48

/-- DOMAIN and TARGET_ID (R416). -/
def Dev.csMeant (d : Dev) (bs : Bytes) : Bool :=
  decide (numAt bs 32 4 = d.fleet.domain) && (decide (numAt bs 40 8 = 0) || decide (numAt bs 40 8 = d.fuse.serial))

/-- The records as R417 validates them: PHASE 0 names only versioned and bound tables, as RULE_VERSION and BOUNDS say, and no
record changes an RWL field that is locked. -/
def Dev.csValid (d : Dev) (bs : Bytes) : Bool :=
  (csRecs bs).all (fun r =>
    (if r.phase = 0 then
      (r.kind = 2 && versionTable r.target && csRule bs ≠ 0) || (r.kind = 2 && boundTable r.target && csBounds bs) ||
        (r.kind = 3 && r.target = 0x10 && csRule bs ≠ 0)
     else !(decide (0xF0 ≤ r.target) && decide (r.target ≤ 0xF5) && r.kind = 3)) &&
    !otherHalf r &&
    (match (if r.kind = 1 then regAt r.target else none) with
     | some (reg, i, j) => decide ((d.num reg i j ^^^ r.data.headD 0) &&& d.lockBits reg (reg.addr i j) = 0)
     | none => true))

/-- Records of a phase. -/
def phaseRecs (rs : List CfgRec) (p : Nat) : List CfgRec := rs.filter (fun r => r.phase = p)

/-- The change set on a copy of the module: PRE, PHASE 0 into an open version, POST. -/
def Dev.csTry (d : Dev) (bs : Bytes) (open_ : Bool) : Dev :=
  let rs := csRecs bs
  let d := d.applyAll false (phaseRecs rs 1)
  let d := if open_ && decide (csRule bs ≠ 0) then d.openCopy else d
  let d := (d.applyAll false (phaseRecs rs 0)).applyAll false (phaseRecs rs 2)
  d.noteRecs rs

/-- VERIFYING (R417): 0, or the reason it is refused.  `ver` is the version it must apply to, `boot` that it is replayed into
the version that boot has open. -/
def Dev.csCheck (d : Dev) (bs : Bytes) (ver : Nat) (boot : Bool) : Nat :=
  if !csForm bs then 2
  else if !d.csSigned bs then 3
  else if !d.csMeant bs then 4
  else if numAt bs 8 4 ≠ ver then 5
  else if !d.csValid bs then 7
  else
    let t := d.csTry bs (!boot)
    if !t.constantsOk then 7
    else if (t.asCommitted (boot || csBounds bs)).cfgDigest (csVer bs) ≠ slice bs 96 48 then 6
    else 0

/-! The journal (R418). -/

def Dev.bootedSlot (d : Dev) : Nat := d.get F.NVL_BOOT_INFO_SLOT
def Dev.jrnl (d : Dev) (slot : Nat) : List Bytes := SMap.get [] d.flash.jrnl (slot % 2)
def Dev.setJrnl (d : Dev) (slot : Nat) (l : List Bytes) : Dev :=
  { d with flash := { d.flash with jrnl := SMap.set [] d.flash.jrnl (slot % 2) l } }

/-- Bytes used in a journal. -/
def jrnlUsed (l : List Bytes) : Nat := (l.map List.length).foldl (· + ·) 0

/-- NVL_JRNL_STATUS follows the journal of the booted slot. -/
def Dev.jrnlShow (d : Dev) : Dev :=
  let l := d.jrnl d.bootedSlot
  (d.set F.NVL_JRNL_STATUS_RECORDS (min 0xFFFF l.length)).set F.NVL_JRNL_STATUS_USED_KIB (min 0xFFFF (jrnlUsed l / 1024))

/-- A journal record, unmarked: its page, the change set as delivered, padding to whole pages (R418). -/
def jrnlRec (seq : Nat) (cs : Bytes) : Bytes :=
  let h := beBytes 4 0x53514A52 ++ beBytes 8 seq ++ beBytes 4 cs.length ++ zeros 232
  h ++ beBytes 4 (crc32 h) ++ [0xFF, 0xFF, 0xFF, 0xFF] ++ cs ++ List.replicate ((256 - cs.length % 256) % 256) 0xFF

/-- The change set is appended to the journal, none where it does not fit (R418). -/
def Dev.jrnlPut (d : Dev) (cs : Bytes) : Option Dev :=
  let l := d.jrnl d.bootedSlot
  let r := jrnlRec (l.length + 1) cs
  let used := jrnlUsed l
  if 16777216 < used + r.length then none
  else
    let d := (d.setJrnl d.bootedSlot (l ++ [r])).jrnlShow
    some (if used * 4 ≤ 50331648 ∧ 50331648 < (used + r.length) * 4 then d.raise E.NVL_JOURNAL_HIGH else d)

/-- A byte of the page of the journal's last record is programmed: 252 MARK, 253 KILL. -/
def Dev.jrnlProgram (d : Dev) (o : Nat) (v : Byte) : Dev :=
  let l := d.jrnl d.bootedSlot
  match l.getLast? with
  | some r => d.setJrnl d.bootedSlot (l.dropLast ++ [programByte r o v])
  | none => d

/-! The states of R417. -/

def Dev.csState (d : Dev) : Nat := d.get F.SAGE_CS_STATUS_STATE
def Dev.setCs (d : Dev) (f : CsSt → CsSt) : Dev := { d with sage := { d.sage with cs := f d.sage.cs } }

/-- The Rosemary record of a change set's end (R495). -/
def Dev.csLog (d : Dev) (reason : Nat) : Dev :=
  d.rsmLog 0x14 (beBytes 4 d.sage.cs.ver ++ beBytes 4 (d.num R.SAGE_CFG_VERSION) ++ beBytes 1 reason)

/-- What staging has done is undone (R419): the Thyme entries aborted, the version discarded, PRE reversed in reverse order
from the shadow copy, KILL programmed. -/
def Dev.csUndo (d : Dev) : Dev :=
  let c := d.sage.cs
  let d := c.tickets.foldl (fun d t => (d.thyDrop t).1) d
  let d := if c.opened then doDiscardVersion d else d
  let d := c.shadow.foldl (fun d s =>
    match s with
    | (1, target, _, ws) => (match regAt target with
      | some (reg, i, j) => d.instWrite d.sageNow reg i j (ws.headD 0)
      | none => d)
    | (_, sel, idx, ws) => (d.tblWrite d.sageNow true sel idx ws).1) d
  if c.filed then d.jrnlProgram 253 0 else d

/-- The change set ends ABORTED, CS_REFUSED where it was still in VERIFYING (R417, R422). -/
def Dev.csEnd (d : Dev) (reason : Nat) : Dev :=
  let e := if d.csState = 1 then E.SAGE_CS_REFUSED else E.SAGE_CS_ABORTED
  let d := (d.csUndo).csLog reason
  let d := ((d.set F.SAGE_CS_STATUS_STATE 5).set F.SAGE_CS_STATUS_REASON reason).bump R.SAGE_CNT_CS_ABORTED
  (d.setCs (fun c => { ver := c.ver, at_ := c.at_ })).raise e

/-- The cut-off, T - 1 ms (R417). -/
def Dev.csCutNet (d : Dev) : Nat := (d.sage.cs.at_ + twrap - 1000000) % twrap

/-- Has the cut-off been reached? -/
def Dev.csLate (d : Dev) : Bool := d.sage.cs.cut || d.netReached d.csCutNet

/-- CS_VERIFY_DONE (R417): the verification of the change set ends. -/
def doCsVerifyDone (d : Dev) : Dev :=
  if d.csState ≠ 1 || d.active.isNone then d
  else
    let bs := d.sage.cs.bytes
    let d := if csForm bs then
        ((d.setCs (fun c => { c with ver := csVer bs, at_ := csAt bs })).putNum R.SAGE_CS_AT_WRAP (csAt bs / 2 ^ 32)).putNum
          R.SAGE_CS_AT_NS (csAt bs % 2 ^ 32)
      else d
    let r := d.csCheck bs (d.num R.SAGE_CFG_VERSION) false
    if r = 0 then d.set F.SAGE_CS_STATUS_STATE 2
    else (if r = 7 then d.rejectLog (csVer bs) 7 else d).csEnd r

/-- PRE records, each with its shadow copy (R417, R419); the reason of the first refused. -/
def Dev.csPre (d : Dev) (rs : List CfgRec) : Dev × Nat :=
  rs.foldl (fun x r =>
    if x.2 ≠ 0 then x
    else
      let old := match r.kind with
        | 1 => (match regAt r.target with
          | some (reg, i, j) => [x.1.num reg i j]
          | none => [])
        | _ => (x.1.tblRead x.1.sageNow (r.target % 2 ^ 16) (x.1.recIndex r)).2.1
      let y := x.1.applyRec false r
      if y.2 = 0 then (y.1.setCs (fun c => { c with shadow := (r.kind, r.target, x.1.recIndex r, old) :: c.shadow }), 0) else (x.1, y.2))
    (d, 0)

/-- OPEN, the PHASE 0 records and CLOSE (R72, R73, R417): 0, or the reason. -/
def Dev.csVersion (d : Dev) (v : Nat) (rs : List CfgRec) : Dev × Nat :=
  if v = 0 then (d, 0)
  else
    let d := doOpenPassDone (doOpenVersion v d)
    if d.get F.FE_VER_CMD_STATUS_STATE ≠ 2 then (d, 11)
    else
      let x := (d.setCs (fun c => { c with opened := true })).applyRecs false rs
      if x.2 ≠ 0 then (x.1, 11)
      else
        let d := doClosePassDone (doCloseVersion x.1)
        (d, if d.stagedClosed then 0 else 7)

/-- A Thyme entry of the change set (R417): 0, or REFUSED. -/
def Dev.csThyme (x : Dev × Nat) (action arg : Nat) : Dev × Nat :=
  if x.2 ≠ 0 then x
  else match x.1.thyNow action arg x.1.sage.cs.at_ with
  | (d, some t) => (d.setCs (fun c => { c with tickets := c.tickets ++ [t] }), 0)
  | (d, none) => (d, 11)

/-- The units take the change set, its journal record appended: 0, or the reason (R417). -/
def Dev.csUnits (d : Dev) (bs : Bytes) : Dev × Nat :=
  let rs := csRecs bs
  let x := d.csPre (phaseRecs rs 1)
  if x.2 ≠ 0 then (x.1, 11)
  else
    let zero := phaseRecs rs 0
    let y := x.1.csVersion (csRule bs) (zero.filter (fun r => !boundTable r.target))
    if y.2 ≠ 0 then y
    else
      let z := y.1.applyRecs false (zero.filter (fun r => boundTable r.target))
      if z.2 ≠ 0 then (z.1, 11)
      else
        let w := if csRule bs ≠ 0 then Dev.csThyme z 1 (csRule bs) else z
        let w := if csBounds bs then Dev.csThyme w 5 0 else w
        Dev.csThyme w 9 (csVer bs)

/-- CS_STAGING_DONE (R417, R418): `fail` is the address of a journal program that the device reports as failed. -/
def doCsStagingDone (fail : Option Nat) (d : Dev) : Dev :=
  if d.csState ≠ 2 || d.active.isNone then d
  else
    let bs := d.sage.cs.bytes
    if d.csLate then d.csEnd 9
    else match d.jrnlPut bs with
    | none => d.csEnd 8
    | some d =>
      let d := d.setCs (fun c => { c with filed := true })
      match fail with
      | some a => (d.flashFail false d.bootedSlot (a % 2 ^ 28)).csEnd 13
      | none =>
        let x := d.csUnits bs
        if x.2 = 0 then x.1.set F.SAGE_CS_STATUS_STATE 3 else x.1.csEnd x.2

/-- CS_CUTOFF (R417): network time reaches T - 1 ms; a change set still in staging is late. -/
def doCsCutoff (d : Dev) : Dev :=
  if (d.csState ≠ 2 && d.csState ≠ 3) || d.sage.cs.cut then d
  else
    let d := (d.advance (d.netReach d.csCutNet)).setCs (fun c => { c with cut := true })
    if d.csState = 2 && d.active.isSome then d.csEnd 9 else d

/-- CS_ABORT (R419, R421): SAGE_CS_CMD ABORT. -/
def doCsAbort (ticket : Nat) (m : Master) (d : Dev) : Dev :=
  if !d.mayWrite m then d.violate m (R.SAGE_CS_CMD.addr 0 0) true
  else
    let d := d.abortReq E.SAGE_CS_ABORTED
    let st := d.csState
    if st = 0 || ticket % 2 ^ 16 ≠ d.get F.SAGE_CS_STATUS_TICKET then d.set F.SAGE_CS_STATUS_ABORT_RESULT 3
    else if 4 ≤ st || (st ≠ 1 && d.csLate) then d.set F.SAGE_CS_STATUS_ABORT_RESULT 2
    else (d.set F.SAGE_CS_STATUS_ABORT_RESULT 1).csEnd 10

/-- SAGE_CFG_VERSION, the digest and the last commit instant take new values (R417, R450). -/
def Dev.setVersion (d : Dev) (ver at_ : Nat) : Dev :=
  let g := d.cfgDigest ver
  let d := ((d.putNum R.SAGE_CFG_VERSION ver).putNum R.SAGE_DIGEST_HI (numAt g 0 4)).putNum R.SAGE_DIGEST_LO (numAt g 4 4)
  { d with fleet := { d.fleet with digest := g, commit := (ver, at_) } }

/-- Has one of the change set's entries ended ABORTED? -/
def Dev.csFell (d : Dev) : Bool := d.thy.ent.any (fun e => e.2.st = 3 && d.sage.cs.tickets.contains e.2.ticket)

/-- Is one of the change set's entries still pending? -/
def Dev.csWaits (d : Dev) : Bool := d.thy.ent.any (fun e => e.2.st = 1 && d.sage.cs.tickets.contains e.2.ticket)

/-- CS_POST_AND_MARK (R417): the entries have fired; POST, MARK, the new version and digest, CS_DONE. -/
def doCsPostAndMark (d : Dev) : Dev :=
  if d.csState ≠ 3 || d.active.isNone || d.csWaits then d
  else if d.csFell then d.csEnd 11
  else
    let c := d.sage.cs
    let rs := csRecs c.bytes
    let d := (((d.applyAll false (phaseRecs rs 2)).noteRecs rs).lockRecs rs).jrnlProgram 252 0x5A
    let d := ((d.setVersion c.ver c.at_).csLog 0).set F.SAGE_CS_STATUS_STATE 4
    let d := (d.set F.SAGE_CS_STATUS_REASON 0).bump R.SAGE_CNT_CS_DONE
    (d.setCs (fun c => { ver := c.ver, at_ := c.at_ })).raise E.SAGE_CS_DONE

/-- A takeover finds a change set in verification or staging (R396). -/
def Dev.csTakeover (d : Dev) : Dev := if d.csState = 1 || d.csState = 2 then d.csEnd 12 else d

/-! The bus, with SAGE_CS_CMD. -/

/-- A write on the bus: unit 27 counts it (R568), and SAGE_CS_CMD names change-set commands (R416, R419). -/
def Dev.busWrite (d : Dev) (m : Master) (addr w : Nat) : Dev :=
  let d := d.access m addr true
  if addr = R.SAGE_CS_CMD.addr 0 0 && d.mayWrite m then
    (match w / 2 ^ 28 with
     | 1 => doCsLoad m d
     | 2 => doCsAbort (w % 2 ^ 16) m d
     | _ => d)
  else d.writeWord m addr w

/-- A register-write row: its master's target lets it through as any write (R548). -/
def Dev.writeCmd (d : Dev) (m : Master) (addr w : Nat) : Dev :=
  if m == Master.spi || m == Master.i2c then
    if !d.answers m then d
    else if d.refused addr then d.bump R.GLB_CNT_MGMT_REFUSED
    else if d.defers m then d.deferWrite m addr w
    else d.busWrite m addr w
  else d.busWrite m addr w

/-- The deferred writes, in order (R395). -/
def Dev.deferApply (d : Dev) : Dev :=
  let l := d.sage.defer
  l.foldl (fun d x => d.busWrite (if x.1 then .spi else .i2c) x.2.1 x.2.2) { d with sage := { d.sage with defer := [] } }

/-- After a write to a module `o`: a renewal that came late, but before the expiry, shows that no takeover gap ran; what had
waited goes on (R393, R395, log entry 26). -/
def Dev.gapOver (d o : Dev) : Dev := if o.gap && !d.gap then (d.deferApply).excDrain else d

/-- REGISTER_WRITE (R13, R536-R540). -/
def doRegisterWrite (addr word : Nat) (m : Master) (d : Dev) : Dev := (d.writeCmd m (addr % 2 ^ 32) (word % 2 ^ 32)).gapOver d

/-- W1C_WRITE (R13, R14). -/
def doW1cWrite (addr mask : Nat) (m : Master) (d : Dev) : Dev := d.writeCmd m (addr % 2 ^ 32) (mask % 2 ^ 32)

end Sys2Proof.Machine
end

