-- ==== Sys2Proof/Machine/Boot.lean ====
section
/-! DEFINITION. Boot configuration: the image's sections, the replay of the journal, the rule version's commit
(R44, R45, R410-R412, R420). -/

namespace Sys2Proof.Machine

/-- The records of a section of the booted image; none where they are malformed, no records where it is absent. -/
def sectionRecs (img : Bytes) (type : Nat) : Option (List CfgRec) :=
  match sectOf img type with
  | some bs => recsOf bs
  | none => some []

/-- The records of the image by section: PIN_CONFIG, REGISTERS, TABLES (R403, R404): PHASE 0 everywhere, deferred locks in
REGISTERS alone. -/
def imageRecs (img : Bytes) : Option (List CfgRec × List CfgRec × List CfgRec) :=
  match sectionRecs img 2, sectionRecs img 3, sectionRecs img 4 with
  | some p, some r, some t =>
    if (p ++ r ++ t).all (fun x => x.phase = 0) && (p ++ t).all (fun x => x.kind ≠ 4) then some (p, r, t) else none
  | _, _, _ => none

/-- The deferred-lock records of the REGISTERS section reach the list (R412). -/
def Dev.deferAll (d : Dev) (rs : List CfgRec) : Dev := (rs.filter (fun r => r.kind = 4)).foldl Dev.deferPut d

/-- The image's configuration on a copy of the module, its version open. -/
def Dev.imageTry (d : Dev) (p r t : List CfgRec) : Dev :=
  let d := ((d.applyAll false p).applyAll false r).deferAll r
  ((doOpenPassDone (doOpenVersion 1 d)).applyAll false t).noteRecs (p ++ r ++ t)

/-- Does the image pass the checks of R412: deferred locks, R35, R73, R450, R451? -/
def Dev.imageOk (d : Dev) (img : Bytes) (p r t : List CfgRec) : Bool :=
  let h := d.imageTry p r t
  (r.filter (fun x => x.kind = 4)).all deferOk && !(p ++ r ++ t).any otherHalf && h.closeOk && h.constantsOk &&
    (h.asCommitted true).cfgDigest (numAt img 12 4) == slice img 48 48

/-! The journal (R420). -/

/-- What the scan makes of a journal: the copy after the records that pass, their change sets, the version reached, and why
it stopped. -/
structure Scan where
  dev : Dev
  sets : List Bytes := []
  ver : Nat := 0
  seq : Nat := 1
  stop : Nat := 0
  done : Bool := false

/-- Is a journal record complete, its page good (R418)? -/
def jrnlOk (r : Bytes) (seq : Nat) : Bool :=
  decide (256 ≤ r.length) && decide (numAt r 0 4 = 0x53514A52) && decide (numAt r 4 8 = seq) && decide (numAt r 248 4 = crc32 (r.take 248)) &&
    decide (256 + numAt r 12 4 ≤ r.length)

/-- REPLAY_STOP for a reason of R417 (R424): FORMAT as CRC, TARGET as SIGNATURE, INCONSISTENT as DIGEST. -/
def stopCode (reason : Nat) : Nat :=
  match reason with
  | 2 => 1
  | 3 => 2
  | 4 => 2
  | 5 => 3
  | _ => 4

/-- One record of the scan (R420). -/
def scanOne (x : Scan) (r : Bytes) : Scan :=
  if x.done then x
  else if !jrnlOk r x.seq then { x with stop := 1, done := true }
  else if numAt r 253 1 = 0 then { x with seq := x.seq + 1 }
  else if numAt r 252 1 ≠ 0x5A then { x with stop := 5, done := true }
  else
    let cs := slice r 256 (numAt r 12 4)
    let k := x.dev.csCheck cs x.ver true
    if k ≠ 0 then { x with stop := stopCode k, done := true }
    else { x with dev := (x.dev.csTry cs false).lockRecs (csRecs cs), sets := x.sets ++ [cs], ver := csVer cs, seq := x.seq + 1 }

/-! The real configuration (R410, R411). -/

/-- The client ports whose held ENABLE bits are to be applied, in record order: the last record of each port decides. -/
def heldPorts (rs : List CfgRec) : List Nat :=
  rs.foldl (fun l r =>
    match (if r.kind = 1 then regAt r.target else none) with
    | some (reg, i, _) =>
      if reg.base = R.CPORT_CTRL.base then (if bit (r.data.headD 0) 31 then l.filter (· ≠ i) ++ [i] else l.filter (· ≠ i)) else l
    | none => l) []

/-- The inactive bank of the bound tables is copied to the active one (R410). -/
def Dev.boundBoot (d : Dev) : Dev :=
  let b := d.fe.bank
  let o := 1 - b
  let svc := (d.entries 0xA0).filter (fun e => e.1 / 16384 = o)
  let df := (d.entries 0xA1).filter (fun e => e.1 / 64 = o)
  let d := d.dropEntries (fun sel i => (sel = 0xA0 && i / 16384 = b) || (sel = 0xA1 && i / 64 = b))
  let d := svc.foldl (fun d e => d.setEntry 0xA0 (b * 16384 + e.1 % 16384) e.2) d
  df.foldl (fun d e => d.setEntry 0xA1 (b * 64 + e.1 % 64) e.2) d

/-- SECRETS is unwrapped under the image key, but not in FIELD_RETURN (R409, R428); one that fails is ignored, with a
Rosemary record, and MKA does not start. -/
def Dev.secretsLoad (d : Dev) (img : Bytes) : Dev :=
  match sectOf img 6 with
  | none => d
  | some bs =>
    if d.fuse.lcs = 3 || d.fuse.imageKeyBlown then d
    else match keyUnwrap (Config.deviceSecret 1) bs with
    | none => d.rsmLog 0x20 []
    | some s =>
      let ports := Config.mkaPorts s ((sectOf img 5).getD [])
      let m : SMap MkaPort := ports.foldl (fun m c => SMap.set {} m (c.port % 32) { cfg := c }) []
      { d with sage := { d.sage with secrets := s }, fleet := { d.fleet with mka := m } }

/-- A replayed change set: PRE, PHASE 0, POST (R420). -/
def Dev.replay (d : Dev) (cs : Bytes) : Dev :=
  let rs := csRecs cs
  let d := ((d.applyAll true (phaseRecs rs 1)).applyAll true (phaseRecs rs 0)).applyAll true (phaseRecs rs 2)
  (d.noteRecs rs).lockRecs rs

/-- A boot whose configuration fails its checks (R412): the version logged, the slot's commit records withdrawn, then a
software system reset where a valid record names the other slot, else the state of R45. -/
def Dev.bootFail (d : Dev) (ver : Nat) : Dev :=
  let s := d.bootedSlot
  let d := (d.rejectLog ver 7).killRecs (fun r => numAt r 12 1 = s)
  if d.validRecs.any (fun r => numAt r 12 1 = 1 - s) then d.sysReset 6 else d.noImage

/-- The configuration is applied (R410, R411): REGISTERS, OPEN of V, TABLES, SECRETS, the replay, CLOSE, COMMIT_NOW, the bound
banks and the held port enables. -/
def Dev.bootApply (d : Dev) (img : Bytes) (r t : List CfgRec) (sets : List Bytes) (ver : Nat) : Dev :=
  let v := sets.foldl (fun v cs => if csRule cs = 0 then v else csRule cs) (numAt img 26 2)
  let d := (d.applyAll true r).deferAll r
  let d := (doOpenPassDone (doOpenVersion v d)).applyAll true t
  let d := { d with sage := { d.sage with fleetSec := (sectOf img 5).getD [] } }
  let d := sets.foldl Dev.replay (d.secretsLoad img)
  let d := doClosePassDone (doCloseVersion d)
  if !d.stagedClosed then d.bootFail (numAt img 12 4)
  else
    let d := (doCommitNow d).boundBoot
    let own := (imageRecs img).elim r (fun x => x.1 ++ x.2.1 ++ x.2.2)
    let d := (heldPorts (own ++ sets.flatMap csRecs)).foldl (fun d p => doPortEnable false p d) d
    let d := { d with sage := { d.sage with booted := true, erased := false } }
    d.setVersion ver ((sets.getLast?).elim 0 csAt)

/-- BOOT_CONFIGURATION (R410, R412, R420): after the cores' release, once. -/
def doBootConfiguration (d : Dev) : Dev :=
  if d.rst.step ≠ 8 || d.rst.noImage || d.sage.booted || d.active.isNone then d
  else
    let img := d.slotImg d.bootedSlot
    let d := d.bootStage 4
    let d := d.holder.elim d (fun c => d.set (coreStF c) 1)
    match imageRecs img with
    | none => d.bootFail (numAt img 12 4)
    | some (p, r, t) =>
      if !d.imageOk img p r t then d.bootFail (numAt img 12 4)
      else
        let x := (d.jrnl d.bootedSlot).foldl scanOne { dev := d.imageTry p r t, ver := numAt img 12 4 }
        let d := (d.applyAll true p).noteRecs (p ++ r ++ t)
        let d := { d with rst := { d.rst with pinsOn := true } }
        let d := ((d.set F.NVL_BOOT_INFO_REPLAYED x.sets.length).set F.NVL_BOOT_INFO_REPLAY_STOP x.stop).jrnlShow
        let d := if x.stop = 0 then d else d.raise E.SAGE_REPLAY_STOPPED
        d.bootApply img r t x.sets x.ver

end Sys2Proof.Machine
end

