-- ==== Sys2Proof/Machine/Mka.lean ====
section
/-! DEFINITION. MKA on F-mode ports towards third-party peers, as the active core runs it (R290). -/

namespace Sys2Proof.Machine

def Dev.mkaPort (d : Dev) (p : Nat) : MkaPort := SMap.get {} d.fleet.mka p
def Dev.setMka (d : Dev) (p : Nat) (k : MkaPort) : Dev := { d with fleet := { d.fleet with mka := SMap.set {} d.fleet.mka p k } }

/-- Does MKA run on a port: configured, the port in F-mode, a core active? -/
def Dev.mkaOn (d : Dev) (p : Nat) : Bool := d.fleet.mka.any (fun e => e.1 = p) && d.fMode p && d.active.isSome

/-- The core maps an association number of an F-mode channel to a receive entry (R289). -/
def Dev.chanMap (d : Dev) (p idx sq2 sci an ksi : Nat) : Dev :=
  let sel := 0xB4 + p / 8
  let w0 := d.tw sel idx 0
  let valid := if bit w0 31 ∧ d.tw sel idx 1 * 2 ^ 32 + d.tw sel idx 2 = sci then nbits w0 23 20 else 0
  let d := d.setTf sel idx 0 31 0 (2 ^ 31 + sq2 * 2 ^ 30 + p * 2 ^ 24 + ((valid ||| 2 ^ (an % 4)) * 2 ^ 20))
  let d := (d.setTf sel idx 1 31 0 (sci / 2 ^ 32)).setTf sel idx 2 31 0 (sci % 2 ^ 32)
  d.setTf sel idx (3 + an % 4 / 2) (16 * (an % 2) + 15) (16 * (an % 2)) ksi

/-- Send an MKPDU (R216, R290). -/
def Dev.mkaSend (d : Dev) (p : Nat) (sak : Option (List Nat × Nat × Nat × Nat)) : Dev :=
  let k := d.mkaPort p
  let say : MkPdu := { mn := k.mn + 1, prio := k.cfg.prio, live := k.peer.isSome, ownMn := k.peerMn, sak := sak, rxAn := k.sak.map (·.2) }
  let mac := beBytes 2 (d.tf 0xF2 d.fleet.member 5 15 0) ++ beBytes 4 (d.tw 0xF2 d.fleet.member 6)
  let pdu := beBytes 6 0x0180C2000003 ++ mac ++ beBytes 2 0x888E ++ Config.mkaEncode k.cfg.cak k.cfg.ckn say
  doControlQueueSend p none pdu (d.setMka p { k with mn := k.mn + 1 })

/-- Is this module the key server of a port: lower priority value, then lower SCI (IEEE 802.1X-2020)? -/
def Dev.mkaServer (d : Dev) (p : Nat) : Bool :=
  let k := d.mkaPort p
  let sci := (d.tf 0xF2 d.fleet.member 5 15 0 * 2 ^ 32 + d.tw 0xF2 d.fleet.member 6) * 2 ^ 16 + k.cfg.slice * 8192 + k.cfg.txEntry
  decide (k.cfg.prio < k.peerPrio) || (k.cfg.prio = k.peerPrio && decide (sci < k.peerSci))

/-- Install a SAK (R290): receive opens at once; transmit is LOADED until the peer reports it in use, or ACTIVE at once in an
empty entry. -/
def Dev.mkaInstall (d : Dev) (p : Nat) (words : List Nat) (an ssciTx ssciRx : Nat) : Dev :=
  let k := d.mkaPort p
  let c := k.cfg
  let s := c.slice % 8
  let e := if (d.rx s c.rxEntry0).st = 0 then c.rxEntry0 else c.rxEntry1
  let o := if (d.rx s c.rxEntry0).st = 0 then c.rxEntry1 else c.rxEntry0
  let suite := b2n c.xpn
  let live := (d.txLive s c.txEntry).isSome
  let sci := (d.tf 0xF2 d.fleet.member 5 15 0 * 2 ^ 32 + d.tw 0xF2 d.fleet.member 6) * 2 ^ 16 + s * 8192 + c.txEntry
  let r := d.satNow s 2 1 e { attr := saAttr suite an 1 1 0 0, link := c.window, sci := k.peerSci, ssci := ssciRx, words := words }
  if !r.2 then r.1
  else
    let d := r.1.chanMap p c.chan 0 k.peerSci an (s * 8192 + e)
    let d := (d.satNow s 1 0 c.txEntry
      { attr := suite * 2 ^ 30 + saAttr suite an 0 0 0 0, link := p * 2 ^ 24, sci := sci, ssci := ssciTx, words := words }).1
    d.setMka p { d.mkaPort p with sak := some (words, an), switched := !live, sakClk := d.tim.clk,
                                  old := if (d.rx s o).st = 0 then none else some o }

/-- The key server draws a new SAK, installs it and distributes it (R290). -/
def Dev.mkaNewSak (d : Dev) (p : Nat) : Dev :=
  if !d.mkaOn p || (d.mkaPort p).peer.isNone || !d.mkaServer p then d
  else match d.takeKeyWords 11 with
  | none => d
  | some (d, words) =>
    let an := (((d.mkaPort p).sak.map (·.2)).getD 3 + 1) % 4
    (d.mkaInstall p words an 1 2).mkaSend p (some (words, an, 1, 2))

/-- MKA_MKPDU (R290): record `index` of the exception buffer, an EAPOL frame of an F-mode port. -/
def doMkaMkpdu (index : Nat) (d : Dev) : Dev :=
  match d.active, d.fe.buf[index]? with
  | some _, some r =>
    if r.reason ≠ 0x81 then d
    else
      let p := r.port
      let d := { d with fe := { d.fe with buf := d.fe.buf.eraseIdx index } }
      let k := d.mkaPort p
      if !d.mkaOn p then d
      else match Config.mkaDecode k.cfg.cak k.cfg.ckn (r.data.drop 14) with
      | none => d
      | some u =>
        let fresh := k.peer ≠ some u.mi
        if !fresh ∧ u.mn ≤ k.peerMn then d
        else
          let d := d.setMka p { k with peer := some u.mi, peerMn := u.mn, peerSci := u.sci, peerPrio := u.prio, peerClk := d.tim.clk }
          let d := if fresh then (d.fwRaise 6).mkaNewSak p else d
          let d := match u.sak with
            | some (ws, an, st, sr) =>
              if d.mkaServer p ∨ (d.mkaPort p).sak = some (ws, an) then d else (d.mkaInstall p ws an sr st).mkaSend p none
            | none => d
          let k := d.mkaPort p
          let s := k.cfg.slice % 8
          if k.sak.map (·.2) = u.rxAn ∧ u.rxAn.isSome then
            if !k.switched then (d.satNow s 3 0 k.cfg.txEntry).1.setMka p { k with switched := true }
            else match k.old with
            | some o => (d.satNow s 5 1 o).1.setMka p { k with old := none }
            | none => d
          else d
  | _, _ => d

/-- MKA_HELLO_TIMER (R290): every 2 s. -/
def doMkaHelloTimer (port : Nat) (d : Dev) : Dev :=
  let p := port % 32
  if !d.mkaOn p then d
  else
    let d := d.advance ((d.mkaPort p).helloClk + sec 2)
    (d.setMka p { d.mkaPort p with helloClk := d.tim.clk }).mkaSend p none

/-- MKA_LIFE_TIME_EXPIRY (R290): no MKPDU from the live peer for 6 s. -/
def doMkaLifeTimeExpiry (port : Nat) (d : Dev) : Dev :=
  let p := port % 32
  if !d.mkaOn p ∨ (d.mkaPort p).peer.isNone then d
  else
    let d := d.advance ((d.mkaPort p).peerClk + sec 6)
    (d.setMka p { d.mkaPort p with peer := none, peerMn := 0 }).fwRaise 6

/-- SAK_CHANGE_INTERVAL (R290). -/
def doSakChangeInterval (port : Nat) (d : Dev) : Dev :=
  let p := port % 32
  let k := d.mkaPort p
  if !d.mkaOn p ∨ k.cfg.interval = 0 ∨ !d.mkaServer p then d
  else (d.advance (k.sakClk + sec k.cfg.interval)).mkaNewSak p

end Sys2Proof.Machine
end

