-- ==== Sys2Proof/Machine/Keys.lean ====
section
/-! DEFINITION. Channel, envelope and group keys between modules (R438-R445). -/

namespace Sys2Proof.Machine

/-! Offers sent. -/

/-- L_US and D_MS of the fleet constants, in ns (R456). -/
def Dev.leadNs (d : Dev) : Nat := d.fleetConst 5 31 15 * 1000
def Dev.lagNs (d : Dev) : Nat := ms (d.fleetConst 5 9 0)

/-- Is a peer time-fit by its latest heartbeat (R442)? -/
def Dev.peerFit (d : Dev) (m : Nat) : Bool := d.tf 0xF8 m 0 25 25 = 1

/-- A replica's SCI (R438). -/
def Dev.ownSci (d : Dev) (s e : Nat) : Nat := beNat (d.stationOf d.fleet.member) * 2 ^ 16 + s * 8192 + e

/-- The per-replica limits of a group key, in the units of the limit registers (R445). -/
def Dev.groupLimits (d : Dev) (svc : Nat) : Nat × Nat :=
  let n := 16 * max 1 (d.mpiMembers (d.svcMpi svc)).length
  (2 ^ d.tf 0xF3 svc 1 5 0 / n / 65536, 2 ^ d.tf 0xF3 svc 1 13 8 / n / 65536)

/-- The limits sent with an offer (R438): a group key's own, else those the slice's registers hold. -/
def Dev.offerLimits (d : Dev) (role svc s : Nat) : Nat × Nat :=
  if role = 5 then d.groupLimits svc else (d.num R.SAT_USAGE_LIMIT_FRM s, d.num R.SAT_USAGE_LIMIT_BLK s)

/-- The KEY_OFFER body (R438). -/
def Dev.offerBody (d : Dev) (o : Offer) (suite : Nat) (lim : Nat × Nat) : Bytes :=
  let p := d.peer o.member
  let key := wordsToBytes o.words
  let sa := decide (o.role ≤ 3)
  beBytes 4 o.id ++ beBytes 1 o.role ++ beBytes 1 (b2n o.timed * 128 + suite * 64) ++ beBytes 2 (if o.role = 4 then o.lport else o.svc) ++
    beBytes 1 o.place ++ beBytes 1 (o.an % 4) ++ beBytes 2 o.entry ++ beBytes 4 (if sa then d.ownSsci o.place o.entry else 0) ++
    beBytes 8 1 ++ beBytes 2 (o.at_ / 2 ^ 32) ++ zeros 2 ++ beBytes 4 (o.at_ % 2 ^ 32) ++ beBytes 4 (d.leadNs / 1000) ++
    beBytes 4 (d.lagNs / 1000) ++ beBytes 8 (if sa then d.ownSci o.place o.entry else 0) ++
    keyWrap (dirKey p.keys p.initiator 64) (key ++ zeros 4) ++ beBytes 4 lim.1 ++ beBytes 4 lim.2

/-- Send an offer the first time, and keep it (R438). -/
def Dev.sendOffer (d : Dev) (o : Offer) (suite : Nat) : Dev :=
  let id := (d.fleet.offerId + 1) % 2 ^ 32
  let o := { o with id := id, sends := 1, clk := d.tim.clk }
  let o := { o with body := d.offerBody o suite (d.offerLimits o.role o.svc o.place) }
  ({ d with fleet := { d.fleet with offerId := id, offers := d.fleet.offers ++ [o] } }).fleetSend o.member 0x20 o.body

/-- The receive side of a group key on this module's entries (R445): each replica's entry opens at T - L, or at once where the
change is not timed here. -/
def Dev.groupRx (d : Dev) (put : Placement) (suite an : Nat) (words : List Nat) (now : Bool) (svc : Nat) : Dev × Bool :=
  put.replicas.foldl (fun (x : Dev × Bool) r =>
    let y := x.1.satNow r.slice 2 1 r.entry
      { attr := saAttr suite an (b2n now) put.mode (b2n put.emode) put.group, link := put.window, sci := r.sci, ssci := r.ssci, words := words }
    let d := { y.1 with fleet := { y.1.fleet with rxSvc := SMap.set 0 y.1.fleet.rxSvc (r.slice * 8192 + r.entry) (svc + 1) } }
    (d, x.2 && y.2)) (d, true)

/-- The transmit side: the flood entries, each with its own SSCI (R94, R445). -/
def Dev.groupTx (d : Dev) (put : Placement) (suite : Nat) (words : List Nat) (lim : Nat × Nat) (svc : Nat) : Dev × Bool :=
  put.floods.foldl (fun (x : Dev × Bool) f =>
    let y := x.1.satNow f.slice 1 0 f.entry
      { attr := saAttr suite f.an 0 0 0 f.group, link := f.lport * 2 ^ 24, sci := x.1.ownSci f.slice f.entry, words := words,
        frm := some lim.1, blk := some lim.2 }
    let c : Chan := ⟨f.neighbour, 5, svc, f.slice, f.entry, f.lport, f.group⟩
    let d := { y.1 with fleet := { y.1.fleet with chans := (y.1.fleet.chans.filter (fun k => k ≠ c)) ++ [c] } }
    (d, x.2 && y.2)) (d, true)

/-- Write the Thyme entries of a change: their tickets, none where one is refused (R440, R445). -/
def Dev.thyMany (d : Dev) (l : List (Nat × Nat × Nat)) : Dev × Option (List Nat) :=
  l.foldl (fun (x : Dev × Option (List Nat)) e =>
    match x.2 with
    | none => x
    | some ts =>
      let y := x.1.thyNow e.1 e.2.1 (e.2.2 % twrap)
      match y.2 with
      | some t => (y.1, some (ts ++ [t]))
      | none => (ts.foldl (fun d t => (d.thyDrop t).1) y.1, none)) (d, some [])

/-- Install a group key on this module and schedule its change (R445): true with the tickets where all of it was taken. -/
def Dev.groupInstall (d : Dev) (put : Placement) (suite an : Nat) (words : List Nat) (lim : Nat × Nat) (svc : Nat) (timed : Bool)
    (at_ lead lag : Nat) : Dev × Bool × List Nat :=
  let local_ := timed && !d.timeFit
  let r := d.groupRx put suite an words (!timed || local_) svc
  let t := r.1.groupTx put suite words lim svc
  if !timed then (put.floods.foldl (fun d f => if (d.tx f.slice f.entry 0).st = 1 ∨ (d.tx f.slice f.entry 1).st = 1 then (d.satNow f.slice 3 0 f.entry).1 else d) t.1,
    r.2 && t.2, [])
  else if local_ then (t.1, r.2 && t.2, [])
  else
    let olds := (put.replicas.filterMap (fun r => r.old.map (fun o => (d.rx r.slice o).group))).eraseDups
    let sw := (put.floods.map (·.group)).eraseDups
    let w := t.1.thyMany ((2, put.group, at_ + twrap - lead) :: sw.map (fun g => (3, g, at_)) ++ olds.map (fun g => (4, g, at_ + lag)))
    (w.1, r.2 && t.2 && w.2.isSome, w.2.getD [])

/-- Notices of the KSIs that this module assigned to a neighbour's replicas (R445). -/
def Dev.sendNotices (d : Dev) (id : Nat) (put : Placement) : Dev :=
  ((put.floods.map (·.neighbour)).eraseDups).foldl (fun d n =>
    let rs := put.replicas.filter (fun r => r.member = n)
    if rs.isEmpty then d
    else d.fleetSend n 0x23 (beBytes 4 id ++ beBytes 2 rs.length ++ rs.flatMap (fun r => beBytes 1 r.sender ++ beBytes 1 0 ++ beBytes 2 (r.slice * 8192 + r.entry)))) d

/-- The instant of a change: `lead` seconds from now, rounded up to a whole ms (R440). -/
def Dev.changeAt (d : Dev) (lead : Nat) : Nat := (d.net + sec lead + 999999) / 1000000 * 1000000 % twrap

/-- KEY_CHANGE_START (R438-R440, R442, R444, R445): the transmitter draws a key from Mint and offers it; the key server
offers a group key to every member of the service it keys, and installs it itself; another member asks it for that.  ROLE 0 names an MKA channel, whose key server distributes a new SAK (R290). -/
def doKeyChangeStart (ch : Chan) (an suite : Nat) (soon : Bool) (put : Placement) (d : Dev) : Dev :=
  let s := ch.slice % 8
  let e := ch.entry % 8192
  let live := (d.txLive s e).isSome
  let spent := decide ((d.tx s e 0).st = 3 ∨ (d.tx s e 1).st = 3)
  let minLead := d.fleetConst 4 5 0
  if ch.role = 0 then d.mkaNewSak (ch.lport % 32)
  else if !d.fleetOn then d
  else if ch.role = 5 ∧ !d.fleet.claim then
    (match d.ksKnown with
     | some k => if d.assoc k = 2 then d.fleetSend k 0x24 (beBytes 2 ch.svc ++ beBytes 1 (ch.slice % 2) ++ beBytes 1 0) else d
     | none => d)
  else match d.takeKeyWords 11 with
  | none => d
  | some (dk, words) =>
    if ch.role = 5 then
      let at_ := d.changeAt (d.fleetConst 4 15 6)
      let ms_ := (d.mpiMembers (d.svcMpi ch.svc)).filter (fun m => m ≠ d.fleet.member && d.assoc m = 2 && !d.isGated m ch.svc)
      let d := { dk with fleet := { dk.fleet with rekey := dk.fleet.rekey.erase ch.svc } }
      let d := ms_.foldl (fun d m =>
        d.sendOffer { member := m, role := 5, svc := ch.svc, place := ch.slice % 2, entry := 0, an := an, timed := true, at_ := at_, words := words } (suite % 2)) d
      let r := d.groupInstall put (suite % 2) an words (d.groupLimits ch.svc) ch.svc true at_ d.leadNs d.lagNs
      let own : RxOffer := { member := d.fleet.member, id := 0, role := 5, svc := ch.svc, place := ch.slice % 2, timed := true, at_ := at_,
                             lead := d.leadNs, lag := d.lagNs, put := put, clk := d.tim.clk, tickets := r.2.2 }
      (({ r.1 with fleet := { r.1.fleet with taken := r.1.fleet.taken ++ [own] } })).sendNotices 0 put
    else if d.assoc ch.member ≠ 2 ∨ (ch.role ≠ 1 ∧ ch.role ≠ 4 ∧ d.isGated ch.member ch.svc) ∨ ch.role = 0 ∨ 5 < ch.role then d
    else if ch.role = 4 then
      dk.sendOffer { member := ch.member, role := 4, place := ch.slice % 2, lport := ch.lport % 32, words := words, group := ch.group } 0
    else
      let timed := live && d.timeFit && d.peerFit ch.member
      let at_ := d.changeAt (if spent || soon then minLead else d.fleetConst 4 31 16)
      dk.sendOffer { member := ch.member, role := ch.role, svc := ch.svc, place := s, entry := e, an := an, timed := timed,
                     at_ := if timed then at_ else 0, words := words, group := ch.group, lport := ch.lport % 32 } (suite % 2)

/-- OFFER_RESEND (R438, R443): every 2 s, up to five times; then the offer fails. -/
def doOfferResend (index : Nat) (d : Dev) : Dev :=
  match d.fleet.offers[index]? with
  | none => d
  | some o =>
    if !d.fleetOn ∨ o.acked then d
    else
      let d := d.advance (o.clk + sec 2)
      if 6 ≤ o.sends then d.offerFail o
      else
        let o' := { o with sends := o.sends + 1, clk := d.tim.clk }
        ({ d with fleet := { d.fleet with offers := d.fleet.offers.map (fun x => if x = o then o' else x) } }).fleetSend o.member 0x20 o.body

/-- Install the key of an accepted channel offer (R439, R440, R442): into an empty entry it becomes ACTIVE; a timed change waits
for KEY_SWITCH; an untimed one switches now. -/
def Dev.ackInstall (d : Dev) (o : Offer) (ksi : Nat) : Dev :=
  let live := (d.txLive o.place o.entry).isSome
  let suite := nbits (numAt o.body 5 1) 6 6
  let r := d.satNow o.place 1 0 o.entry
    { attr := saAttr suite o.an 0 0 0 o.group, link := o.lport * 2 ^ 24 + ksi, sci := d.ownSci o.place o.entry, words := o.words }
  if !r.2 then r.1.offerFail o
  else
    let c : Chan := ⟨o.member, o.role, o.svc, o.place, o.entry, o.lport, o.group⟩
    let d := { r.1 with fleet := { r.1.fleet with chans := (r.1.fleet.chans.filter (fun (k : Chan) => !(k.slice = o.place && k.entry = o.entry))) ++ [c] } }
    if o.timed then
      let t := d.thyNow 3 o.group o.at_
      match t.2 with
      | some k =>
        let o' := { o with acked := true, ticket := some k }
        { t.1 with fleet := { t.1.fleet with offers := t.1.fleet.offers.map (fun x => if x = o then o' else x) } }
      | none => t.1.offerFail o
    else
      let d := d.dropOffer o
      if live then (d.satNow o.place 3 0 o.entry).1 else d

/-- KEY_ACK (R440, R443, R444): an acceptance in time installs the key; anything else fails the offer. -/
def doKeyAck (at_ : FleetAt) (d : Dev) : Dev :=
  d.message at_ 0x21 (fun d m b =>
    match d.fleet.offers.find? (fun o => o.member = m && o.id = numAt b 0 4 && !o.acked) with
    | none => d
    | some o =>
      if numAt b 4 1 ≠ 0 ∨ (o.timed ∧ o.role ≠ 5 ∧ d.netDist ((o.at_ + twrap - d.leadNs) % twrap) ≤ 0) then d.offerFail o
      else if o.role = 5 then d.dropOffer o
      else if o.role = 4 then
        let other := (d.epos o.lport 0 (1 - o.place)).st
        let r := d.envNow o.lport 1 0 o.place o.group o.words
        if !r.2 then r.1.offerFail o
        else
          let d := r.1.dropOffer o
          if other = 2 ∨ other = 3 then (d.envNow o.lport 3 0 0 0 []).1 else d
      else d.ackInstall o (numAt b 6 2))

/-! Offers received. -/

/-- Has an accepted offer ended: its change is over (R443)? -/
def Dev.takenEnded (d : Dev) (r : RxOffer) : Bool :=
  if r.timed then d.netReached ((r.at_ + r.lag) % twrap) else r.put.old.isNone

/-- Answer an offer (R433). -/
def Dev.ackOffer (d : Dev) (m id result ksi : Nat) : Dev :=
  d.fleetSend m 0x21 (beBytes 4 id ++ beBytes 1 result ++ beBytes 1 0 ++ beBytes 2 ksi)

/-- KEY_OFFER (R438-R440, R442, R444, R445): placed by this module's own configuration, `put`.  An offer sent again is answered
again (log entry 20). -/
def doKeyOffer (at_ : FleetAt) (put : Placement) (d : Dev) : Dev :=
  d.message at_ 0x20 (fun d m b =>
    let id := numAt b 0 4
    let role := numAt b 4 1
    let timed := bit (numAt b 5 1) 7
    let suite := nbits (numAt b 5 1) 6 6
    let svc := numAt b 6 2 % 16384
    let place := numAt b 8 1
    let an := numAt b 9 1 % 4
    let txe := numAt b 10 2
    let t := numAt b 24 2 * 2 ^ 32 + numAt b 28 4
    let lead := us (numAt b 32 4)
    let lag := us (numAt b 36 4)
    let p := d.peer m
    let keys := if p.keys = [] then p.old else p.keys
    let s := put.slice % 8
    let e := put.entry % 8192
    let taken : RxOffer := { member := m, id := id, role := role, svc := svc, place := place, txEntry := txe, timed := timed, at_ := t, lead := lead,
                             lag := lag, put := put, clk := d.tim.clk }
    let keep (d : Dev) (ts : List Nat) : Dev := { d with fleet := { d.fleet with taken := d.fleet.taken ++ [{ taken with tickets := ts }] } }
    if b.length ≠ 112 ∨ role = 0 ∨ 5 < role then d.ackOffer m id 4 0
    else if role = 5 ∧ d.ksKnown ≠ some m then d.ackOffer m id 5 0
    else if role ≠ 1 ∧ role ≠ 4 ∧ d.isGated m svc then d.ackOffer m id 3 0
    else if d.fleet.taken.any (fun r => r.member = m && r.id = id) then d.ackOffer m id 0 (if role ≤ 3 then s * 8192 + e else 0)
    else if d.fleet.taken.any (fun r => r.member = m && r.role = role && r.svc = svc && r.place = place && r.txEntry = txe && !d.takenEnded r) then
      d.ackOffer m id 1 0
    else match keyUnwrap (dirKey keys (!p.initiator) 64) (slice b 48 56) with
    | none => d.ackOffer m id 4 0
    | some k =>
      let words := bytesToWords (k.take 44)
      let lim := (numAt b 104 4, numAt b 108 4)
      if role = 4 then
        let r := d.envNow (put.slice % 32) 2 1 (place % 2) 0 words
        (if r.2 then keep r.1 [] else r.1).ackOffer m id (if r.2 then 0 else 1) 0
      else if role = 5 then
        let r := d.groupInstall put suite an words lim svc timed t lead lag
        if r.2.1 then ((keep r.1 r.2.2).ackOffer m id 0 0).sendNotices id put
        else (put.replicas.foldl (fun d r => (d.satNow r.slice 7 1 r.entry).1) r.1).ackOffer m id 1 0
      else if (d.rx s e).st ≠ 0 then d.ackOffer m id 2 0
      else
        let r := d.satNow s 2 1 e
          { attr := saAttr suite an (b2n (!timed)) put.mode (b2n put.emode) put.group, link := put.window, sci := numAt b 40 8, ssci := numAt b 12 4,
            words := words }
        if !r.2 then r.1.ackOffer m id 1 0
        else
          let ksi := s * 8192 + e
          let d := if put.emode then r.1 else r.1.chanMap (put.lport % 32) (put.chan % 2048) 1 (numAt b 40 8) an ksi
          let d := if role = 1 then d
            else { d with fleet := { d.fleet with rxSvc := SMap.set 0 d.fleet.rxSvc ksi (svc + 1) } }
          if !timed then (keep d []).ackOffer m id 0 ksi
          else
            let open_ := (t + twrap - lead) % twrap
            let retire := match put.old with
              | some o => [(4, (d.rx s (o % 8192)).group, t + lag)]
              | none => []
            let w := if d.netDist open_ < (us 100 : Int) then (d, none) else d.thyMany ((2, put.group, open_) :: retire)
            match w.2 with
            | some ts => (keep w.1 ts).ackOffer m id 0 ksi
            | none => ((w.1.satNow s 7 1 e).1).ackOffer m id 1 0)

/-- The receive entries that an accepted offer installed. -/
def RxOffer.entries (r : RxOffer) : List (Nat × Nat) :=
  if r.role = 4 then []
  else if r.role = 5 then r.put.replicas.map (fun x => (x.slice % 8, x.entry % 8192))
  else [(r.put.slice % 8, r.put.entry % 8192)]

/-- The former receive entries that an accepted offer replaces. -/
def RxOffer.olds (r : RxOffer) : List (Nat × Nat) :=
  if r.role = 5 then r.put.replicas.filterMap (fun x => x.old.map (fun o => (x.slice % 8, o % 8192)))
  else (r.put.old.map (fun o => (r.put.slice % 8, o % 8192))).toList

/-- Forget an accepted offer. -/
def Dev.dropTaken (d : Dev) (r : RxOffer) : Dev := { d with fleet := { d.fleet with taken := d.fleet.taken.erase r } }

/-- KEY_CANCEL (R443): the offer's entries are aborted and the new entry zeroized; where an abort comes too late, the new
entry is retired. -/
def doKeyCancel (at_ : FleetAt) (d : Dev) : Dev :=
  d.message at_ 0x22 (fun d m b =>
    match d.fleet.taken.find? (fun r => r.member = m && r.id = numAt b 0 4) with
    | none => d
    | some r =>
      let x := r.tickets.foldl (fun (x : Dev × Bool) t =>
        let y := x.1.thyDrop t
        (y.1, x.2 && y.2)) (d, true)
      let d := x.1.dropTaken r
      if r.role = 4 then (d.envNow (r.put.slice % 32) 4 1 (r.place % 2) 0 []).1
      else r.entries.foldl (fun d e => (d.satNow e.1 (if x.2 then 7 else 5) 1 e.2).1) d)

/-- KSI_NOTICE (R445): the KSIs become PEER_KSI of the flood entries towards the neighbour. -/
def doKsiNotice (at_ : FleetAt) (d : Dev) : Dev :=
  d.message at_ 0x23 (fun d m b =>
    let n := numAt b 4 2
    if b.length ≠ 6 + 4 * n then d
    else (List.range n).foldl (fun d k =>
      let s := numAt b (6 + 4 * k) 1 % 8
      let ksi := numAt b (8 + 4 * k) 2
      (d.fleet.chans.filter (fun c => c.role = 5 && c.member = m && c.slice = s)).foldl (fun d c =>
        let newest := if (d.tx s c.entry 0).st = 1 then 0 else if (d.tx s c.entry 1).st = 1 then 1 else (d.txLive s c.entry).getD 0
        if (d.tx s c.entry newest).st = 0 then d else d.setTx s c.entry newest { d.tx s c.entry newest with peerKsi := ksi }) d) d)

/-- UNTIMED_RETIRE_TIMER (R442, R444): after an untimed change, the old entry is retired D after the new one opened; an old
envelope position is zeroized once 256 frames have been accepted under the new one. -/
def doUntimedRetireTimer (index : Nat) (d : Dev) : Dev :=
  match d.fleet.taken[index]? with
  | none => d
  | some r =>
    if !d.fleetOn ∨ r.timed then d
    else if r.role = 4 then ((d.envNow (r.put.slice % 32) 4 1 (1 - r.place % 2) 0 []).1).dropTaken r
    else
      let d := d.advance (r.clk + d.lagNs)
      (r.olds.foldl (fun d e => (d.satNow e.1 5 1 e.2).1) d).dropTaken r

/-- UNUSED_NEW_ENTRY_TIMEOUT (R443): the new entry is open and no record has come under it by T + D. -/
def doUnusedNewEntryTimeout (index : Nat) (d : Dev) : Dev :=
  match d.fleet.taken[index]? with
  | none => d
  | some r =>
    if !d.fleetOn ∨ !r.timed ∨ r.role = 4 then d
    else
      let d := d.advance (d.netReach ((r.at_ + r.lag) % twrap))
      (r.entries.foldl (fun d e =>
        let x := d.rx e.1 e.2
        if x.st = 2 ∧ x.ok = 0 then (d.satNow e.1 7 1 e.2).1 else d) d).dropTaken r

/-- LOCAL_GROUP_SWITCH (R445): a member that is not time-fit switches its flood entries at its local T + D / 2, and retires the
old entries at its local T + D. -/
def doLocalGroupSwitch (index : Nat) (d : Dev) : Dev :=
  match d.fleet.taken[index]? with
  | none => d
  | some r =>
    if !d.fleetOn ∨ r.role ≠ 5 ∨ !r.timed ∨ r.tickets ≠ [] then d
    else if !r.half then
      let d := d.advance (d.netReach ((r.at_ + r.lag / 2) % twrap))
      let d := r.put.floods.foldl (fun d f => (d.satNow f.slice 3 0 f.entry).1) d
      { d with fleet := { d.fleet with taken := d.fleet.taken.map (fun x => if x = r then { r with half := true } else x) } }
    else
      let d := d.advance (d.netReach ((r.at_ + r.lag) % twrap))
      (r.olds.foldl (fun d e => (d.satNow e.1 5 1 e.2).1) d).dropTaken r

end Sys2Proof.Machine
end

