-- ==== Sys2Proof/Machine/Mgmt.lean ====
section
/-! DEFINITION. The SPI and I2C targets, the management Ethernet port, and the grant of the lease that ends a takeover gap
(R394-R396, R544-R550). -/

namespace Sys2Proof.Machine

/-! The STATUS byte (R547): results 0 OK, 1 CRC, 2 ALIGN, 3 REFUSED, 4 DEFERRED, 5 DEFER_FULL, 6 BAD_FRAME. -/

/-- The STATUS byte after a frame or transaction with that result. -/
def Dev.statusByte (d : Dev) (result : Nat) : Byte :=
  BitVec.ofNat 8 (0x80 + result % 8 * 8 + b2n (!d.locked) * 4 + b2n d.gap * 2 + b2n (d.on F.EVT_STATUS_ALARM))

def Dev.spiEnd (d : Dev) (result : Nat) : Dev := { d with mgmt := { d.mgmt with spiResult := result } }
def Dev.i2cEnd (d : Dev) (result : Nat) : Dev := { d with mgmt := { d.mgmt with i2cResult := result } }

/-- One word of a WRITE (R395, R548): refused, deferred or made. -/
def Dev.frameWord (d : Dev) (m : Master) (addr w : Nat) : Dev × Nat :=
  if d.refused addr then (d.bump R.GLB_CNT_MGMT_REFUSED, 3)
  else if d.defers m then (d.deferWrite m addr w, if 64 ≤ d.sage.defer.length then 5 else 4)
  else (d.busWrite m addr w, 0)

/-- The result of a WRITE of several words: REFUSED, then DEFER_FULL, then DEFERRED. -/
def worse (a b : Nat) : Nat := if a = 3 ∨ b = 3 then 3 else max a b

/-- The words of a WRITE in ascending address order (R545); a misaligned one writes nothing (R11, R547). -/
def Dev.frameWrite (d : Dev) (m : Master) (addr : Nat) (ws : List Nat) : Dev × Nat :=
  if addr % 4 ≠ 0 then (d, 2)
  else ws.zipIdx.foldl (fun x w =>
    let y := x.1.frameWord m ((addr + 4 * w.2) % 2 ^ 32) w.1
    (y.1, worse x.2 y.2)) (d, 0)

/-- The words of a READ (R544). -/
def Dev.frameRead (d : Dev) (m : Master) (addr n : Nat) : Dev × List Nat :=
  (List.range n).foldl (fun x k =>
    let y := x.1.busRead m ((addr + 4 * k) % 2 ^ 32)
    (y.1, x.2 ++ [y.2])) (d, [])

/-- The reset command (R505, R545): the key, or RESET_KEY_BAD. -/
def Dev.resetCommand (d : Dev) (key : Nat) : Dev :=
  if key = d.num R.RST_MGMT_KEY then d.sysReset 11 else (d.bump R.GLB_CNT_RESET_KEY_BAD).raise E.GLB_RESET_KEY_BAD

/-- Do the management targets run at all: the control island released, no class 3 hold (R492, R548)? -/
def Dev.mgmtUp (d : Dev) : Bool := d.running && !d.tamp.hold

/-! SPI (R544, R545). `rest` is what the host clocks after the opcode. -/

/-- A frame with a CRC failure. -/
def Dev.spiCrc (d : Dev) : Dev := ((d.bump R.GLB_CNT_SPI_CRC).raise E.GLB_MGMT_CRC).spiEnd 1

/-- SPI_READ (R544). -/
def doSpiRead (rest : Bytes) (d : Dev) : Dev :=
  if !d.mgmtUp || !d.answers .spi then d
  else
    let st := d.statusByte d.mgmt.spiResult
    let d := d.bump R.GLB_CNT_SPI_FRAMES
    let n := numAt rest 4 1 + 1
    if rest.length < 7 then (d.spiEnd 6).emit (.spi [st])
    else if crc16 (0x0B :: rest.take 5) ≠ numAt rest 5 2 then d.spiCrc.emit (.spi [st, 0xE1])
    else if 16 < n then (d.spiEnd 6).emit (.spi [st, 0xE1])
    else
      let a := numAt rest 0 4
      let r := d.frameRead .spi a n
      let data := wordsToBytes r.2
      (r.1.spiEnd (if a % 4 = 0 then 0 else 2)).emit (.spi (st :: 0x5A :: data ++ beBytes 2 (crc16 data)))

/-- SPI_WRITE (R545). -/
def doSpiWrite (rest : Bytes) (d : Dev) : Dev :=
  if !d.mgmtUp || !d.answers .spi then d
  else
    let d := (d.emit (.spi [d.statusByte d.mgmt.spiResult])).bump R.GLB_CNT_SPI_FRAMES
    let n := numAt rest 4 1 + 1
    if rest.length < 5 || 16 < n || rest.length < 7 + 4 * n then d.spiEnd 6
    else if crc16 (0x02 :: rest.take (5 + 4 * n)) ≠ numAt rest (5 + 4 * n) 2 then d.spiCrc
    else
      let r := d.frameWrite .spi (numAt rest 0 4) (bytesToWords (slice rest 5 (4 * n)))
      r.1.spiEnd r.2

/-- SPI_RESET (R505, R545, R548): both interfaces accept it at all times. -/
def doSpiReset (rest : Bytes) (d : Dev) : Dev :=
  if !d.mgmtUp then d
  else
    let d := if d.answers .spi then d.emit (.spi [d.statusByte d.mgmt.spiResult]) else d
    let d := d.bump R.GLB_CNT_SPI_FRAMES
    if rest.length < 6 then d.spiEnd 6
    else if crc16 (0x99 :: rest.take 4) ≠ numAt rest 4 2 then d.spiCrc
    else (d.spiEnd 0).resetCommand (numAt rest 0 4)

/-- SPI_STATUS (R544, R547). -/
def doSpiStatus (d : Dev) : Dev :=
  if !d.mgmtUp || !d.answers .spi then d
  else ((d.emit (.spi [d.statusByte d.mgmt.spiResult])).bump R.GLB_CNT_SPI_FRAMES).spiEnd 0

/-! I2C (R546). `target` is the 7-bit address; `rest` is what the host sends after the command byte. -/

/-- The address the target answers: GLB_MGMT_CFG.I2C_ADDR from IMAGE_COMMIT on (R546, R564). -/
def Dev.i2cAddr (d : Dev) : Nat := if d.locked then d.get F.GLB_MGMT_CFG_I2C_ADDR else 0x4C

/-- The first bytes of a transaction: the address byte with the write bit, then the command. -/
def i2cHead (target cmd : Nat) : Bytes := [BitVec.ofNat 8 (2 * target), BitVec.ofNat 8 cmd]

/-- A PEC byte that does not match is not acknowledged, and nothing is performed. -/
def Dev.i2cPec (d : Dev) : Dev := (((d.emit .i2cNack).bump R.GLB_CNT_I2C_CRC).raise E.GLB_MGMT_CRC).i2cEnd 1

/-- A transaction of the target's address: not acknowledged by an interface that does not answer, but for the reset command
(R548). -/
def Dev.i2cTake (d : Dev) (target : Nat) (reset : Bool) (f : Dev → Dev) : Dev :=
  if !d.mgmtUp || target % 128 ≠ d.i2cAddr then d
  else if !reset && !d.answers .i2c then d.emit .i2cNack
  else f (d.bump R.GLB_CNT_I2C_FRAMES)

/-- I2C_READ (R546): the PEC of the reply covers every byte before it, the first PEC included. -/
def doI2cRead (target : Nat) (rest : Bytes) (d : Dev) : Dev :=
  d.i2cTake target false (fun d =>
    let n := numAt rest 4 1 + 1
    let head := i2cHead (target % 128) 0x0B ++ rest.take 5
    if rest.length < 6 then d.i2cEnd 6
    else if crc8 head ≠ numAt rest 5 1 then d.i2cPec
    else if 16 < n then (d.emit .i2cNack).i2cEnd 6
    else
      let a := numAt rest 0 4
      let r := d.frameRead .i2c a n
      let data := wordsToBytes r.2
      let pec := crc8 (head ++ slice rest 5 1 ++ BitVec.ofNat 8 (2 * (target % 128) + 1) :: data)
      (r.1.i2cEnd (if a % 4 = 0 then 0 else 2)).emit (.i2c (data ++ beBytes 1 pec)))

/-- I2C_WRITE (R545, R546): applied at STOP. -/
def doI2cWrite (target : Nat) (rest : Bytes) (d : Dev) : Dev :=
  d.i2cTake target false (fun d =>
    let n := numAt rest 4 1 + 1
    if rest.length < 5 || 16 < n || rest.length < 6 + 4 * n then d.i2cEnd 6
    else if crc8 (i2cHead (target % 128) 0x02 ++ rest.take (5 + 4 * n)) ≠ numAt rest (5 + 4 * n) 1 then d.i2cPec
    else
      let r := d.frameWrite .i2c (numAt rest 0 4) (bytesToWords (slice rest 5 (4 * n)))
      r.1.i2cEnd r.2)

/-- I2C_RESET (R505, R545, R546): acted on at STOP. -/
def doI2cReset (target : Nat) (rest : Bytes) (d : Dev) : Dev :=
  d.i2cTake target true (fun d =>
    if rest.length < 5 then d.i2cEnd 6
    else if crc8 (i2cHead (target % 128) 0x99 ++ rest.take 4) ≠ numAt rest 4 1 then d.i2cPec
    else (d.i2cEnd 0).resetCommand (numAt rest 0 4))

/-- I2C_STATUS (R546, R547). -/
def doI2cStatus (target : Nat) (d : Dev) : Dev :=
  d.i2cTake target false (fun d => (d.emit (.i2c [d.statusByte d.mgmt.i2cResult])).i2cEnd 0)

/-- I2C_SCL_TIMEOUT (R546): the transaction is dropped; it was cut short, as the next STATUS says. -/
def doI2cSclTimeout (d : Dev) : Dev := if d.mgmtUp then d.i2cEnd 6 else d

/-! The management Ethernet port (R549, R550). -/

/-- MGMT_ETH_LINK_UP (R549). -/
def doMgmtEthLinkUp (d : Dev) : Dev :=
  if !d.mgmtUp || !d.on F.GLB_ETH_CFG_EN then d
  else ((d.set F.GLB_ETH_STATUS_LINK 1).flag F.GLB_ETH_STATUS_AN_DONE (d.on F.GLB_ETH_CFG_AN_EN)).set F.GLB_STATUS_ETH_LINK 1

/-- MGMT_ETH_LINK_DOWN (R549). -/
def doMgmtEthLinkDown (d : Dev) : Dev :=
  ((d.set F.GLB_ETH_STATUS_LINK 0).set F.GLB_ETH_STATUS_AN_DONE 0).set F.GLB_STATUS_ETH_LINK 0

/-- The module's own entry in the member address table: station address, IP version, address, UDP port (R458, R549). -/
def Dev.ownMac (d : Dev) : Bytes := beBytes 2 (d.tf 0xF2 d.fleet.member 5 15 0) ++ beBytes 4 (d.tw 0xF2 d.fleet.member 6)
def Dev.ownV6 (d : Dev) : Bool := d.tf 0xF2 d.fleet.member 0 30 30 = 1
def Dev.ownIp (d : Dev) : Bytes := if d.ownV6 then d.entryBytes 0xF2 d.fleet.member 1 5 else d.entryBytes 0xF2 d.fleet.member 4 5
def Dev.ownPort (d : Dev) : Nat := d.tf 0xF2 d.fleet.member 0 15 0

/-- Does the management port answer (R549)? -/
def Dev.ethAnswers (d : Dev) : Bool :=
  d.mgmtUp && d.on F.GLB_ETH_CFG_EN && d.on F.GLB_ETH_STATUS_LINK && d.tf 0xF2 d.fleet.member 0 31 31 = 1

/-- The sum of the 16-bit words of bytes in one's complement, inverted: the checksum of IP and ICMP. -/
def inetSum (bs : Bytes) : Nat :=
  let s := ((List.range ((bs.length + 1) / 2)).map (fun k => numAt (bs ++ [0]) (2 * k) 2)).foldl (· + ·) 0
  let s := s % 65536 + s / 65536
  65535 - (s % 65536 + s / 65536)

/-- Send a frame: padded to 60 bytes, its FCS appended. -/
def Dev.ethSend (d : Dev) (dst : Bytes) (type : Nat) (payload : Bytes) : Dev :=
  let b := dst ++ d.ownMac ++ beBytes 2 type ++ payload
  let b := b ++ zeros (60 - b.length)
  d.emit (.eth (beNat dst) (b ++ fcsBytes b))

/-- Send an IPv4 packet; the spec leaves its TOS, identification and TTL open (log entry 2). -/
def Dev.ipv4Send (d : Dev) (mac ip : Bytes) (proto : Nat) (payload : Bytes) : Dev :=
  let v := d.freeVal
  let h := beBytes 1 0x45 ++ beBytes 1 (v % 256) ++ beBytes 2 (20 + payload.length) ++ beBytes 2 (v / 2 ^ 8 % 65536) ++ zeros 2 ++
    beBytes 1 (1 + v / 2 ^ 24 % 255) ++ beBytes 1 proto
  let h := h ++ beBytes 2 (inetSum (h ++ zeros 2 ++ d.ownIp ++ ip)) ++ d.ownIp ++ ip
  (d.freeNext).ethSend mac 0x0800 (h ++ payload)

/-- Send an ICMPv6 message, its checksum over the pseudo-header; the traffic class and flow label are left open (log entry
2). -/
def Dev.icmp6Send (d : Dev) (mac ip : Bytes) (hops type code : Nat) (body : Bytes) : Dev :=
  let v := d.freeVal
  let len := 4 + body.length
  let m (c : Nat) := beBytes 1 type ++ beBytes 1 code ++ beBytes 2 c ++ body
  let sum := inetSum (d.ownIp ++ ip ++ beBytes 4 len ++ zeros 3 ++ beBytes 1 58 ++ m 0)
  let h := beBytes 4 (6 * 2 ^ 28 + v % 2 ^ 28) ++ beBytes 2 len ++ beBytes 1 58 ++ beBytes 1 hops ++ d.ownIp ++ ip
  (d.freeNext).ethSend mac 0x86DD (h ++ m sum)

/-- An ARP request for the module's IPv4 address is answered. -/
def Dev.arpTake (d : Dev) (p : Bytes) : Dev :=
  if d.ownV6 || numAt p 0 4 ≠ 0x00010800 || numAt p 4 4 ≠ 0x06040001 || slice p 24 4 != d.ownIp then d
  else d.ethSend (slice p 8 6) 0x0806 (beBytes 4 0x00010800 ++ beBytes 4 0x06040002 ++ d.ownMac ++ d.ownIp ++ slice p 8 10)

/-- UDP ports served: OOB_PORT and GLB_ETH_CFG.SESSION_PORT (R549, R551). -/
def Dev.udpServed (d : Dev) (port : Nat) : Bool := port = d.ownPort || port = d.get F.GLB_ETH_CFG_SESSION_PORT

/-- An IPv4 packet to the module: echo requests are answered, ports and protocols that are not served are unreachable;
fragments are discarded. -/
def Dev.ipv4Take (d : Dev) (mac p : Bytes) : Dev :=
  let hl := numAt p 0 1 % 16 * 4
  let len := numAt p 2 2
  let body := slice p hl (len - hl)
  let bad := numAt p 0 1 / 16 ≠ 4 || decide (hl < 20) || decide (p.length < len) || decide (len < hl) || inetSum (p.take hl) ≠ 0 ||
    numAt p 6 2 % 2 ^ 14 ≠ 0
  let src := slice p 12 4
  if d.ownV6 || bad || slice p 16 4 != d.ownIp then d
  else
    let unreach (code : Nat) : Dev :=
      let m (c : Nat) := beBytes 1 3 ++ beBytes 1 code ++ beBytes 2 c ++ zeros 4 ++ p.take (hl + 8)
      d.ipv4Send mac src 1 (m (inetSum (m 0)))
    match numAt p 9 1 with
    | 1 =>
      if numAt body 0 2 = 0x0800 && decide (8 ≤ body.length) && inetSum body = 0 then
        let r (c : Nat) := zeros 2 ++ beBytes 2 c ++ body.drop 4
        d.ipv4Send mac src 1 (r (inetSum (r 0)))
      else d
    | 17 => if d.udpServed (numAt body 2 2) then d else unreach 3
    | _ => unreach 2

/-- An IPv6 packet to the module: echo and neighbour solicitation are answered, other ports are unreachable; fragments are
discarded. -/
def Dev.ipv6Take (d : Dev) (mac p : Bytes) : Dev :=
  let body := slice p 40 (numAt p 4 2)
  let src := slice p 8 16
  let dst := slice p 24 16
  let sum := inetSum (src ++ dst ++ beBytes 4 body.length ++ zeros 3 ++ beBytes 1 58 ++ body)
  let solicited := slice dst 0 13 == beBytes 13 (0xFF02 * 2 ^ 88 + 0x01FF) && slice dst 13 3 == slice d.ownIp 13 3
  if !d.ownV6 || numAt p 0 1 / 16 ≠ 6 || p.length < 40 + numAt p 4 2 then d
  else
    match numAt p 6 1 with
    | 58 =>
      if sum ≠ 0 then d
      else if numAt body 0 2 = 0x8000 && dst == d.ownIp then d.icmp6Send mac src (1 + d.freeVal / 2 ^ 28 % 255) 129 0 (body.drop 4)
      else if numAt body 0 2 = 0x8700 && numAt p 7 1 = 255 && slice body 8 16 == d.ownIp && (dst == d.ownIp || solicited) then
        d.icmp6Send mac src 255 136 0 (beBytes 4 0x60000000 ++ d.ownIp ++ beBytes 2 0x0201 ++ d.ownMac)
      else d
    | 17 => if dst != d.ownIp || d.udpServed (numAt body 2 2) then d
      else d.icmp6Send mac src (1 + d.freeVal / 2 ^ 28 % 255) 1 4 (zeros 4 ++ p.take 1232)
    | _ => d

/-- MGMT_ETH_FRAME (R549, R550): a frame on the management port, its FCS included; the answer goes to where it came from. -/
def doMgmtEthFrame (frame : Bytes) (d : Dev) : Dev :=
  let b := frame.take (frame.length - 4)
  let dst := slice b 0 6
  let mine := dst == d.ownMac || dst == beBytes 6 (2 ^ 48 - 1) || slice dst 0 2 == beBytes 2 0x3333
  if !d.ethAnswers || frame.length < 64 || 1518 < frame.length || frame.drop (frame.length - 4) != fcsBytes b || !mine then d
  else match numAt b 12 2 with
  | 0x0806 => d.arpTake (b.drop 14)
  | 0x0800 => if dst == d.ownMac then d.ipv4Take (slice b 6 6) (b.drop 14) else d
  | 0x86DD => d.ipv6Take (slice b 6 6) (b.drop 14)
  | _ => d

/-! The grant of the lease (R394-R396, R421). -/

/-- The core that the lease goes to: a handover's target, or the other core that was eligible at the expiry; else an
eligible core that is not held out (Sage A before Sage B). -/
def Dev.grantee (d : Dev) : Option Nat :=
  match d.sage.next with
  | some c => if d.eligible c then some c else [0, 1].find? d.eligible
  | none => [0, 1].find? d.eligible

/-- LEASE_GRANT (R394-R396): the gap ends; deferred writes are applied, a change set in verification or staging ends, and the
events of the gap reach the pins. -/
def doLeaseGrant (d : Dev) : Dev :=
  if !d.noHolder || d.rst.step < 8 then d
  else match d.grantee with
  | none => d
  | some c =>
    let expired := d.sage.expired
    let d := (d.setHolder (some c)).set (coreStF c) 1
    let d := if d.coreUp (1 - c) && d.get (coreStF (1 - c)) = 3 then d.set (coreStF (1 - c)) 2 else d
    let d := { d with sage := { d.sage with renewClk := d.tim.clk, next := none, expired := false,
                                            lapsed := SMap.set false d.sage.lapsed c false } }
    let d := if expired then (d.bump R.SAGE_CNT_TAKEOVER).raise E.SAGE_TAKEOVER else d
    ((d.csTakeover).deferApply).excDrain

end Sys2Proof.Machine
end

