-- ==== Sys2Proof/Machine/Session.lean ====
section
/-! DEFINITION. Management sessions: the handshake, requests, telemetry (R455, R551-R554, R579, R580).  A command carries a
whole message: header, sequence number and body, its fragments put together (R432). -/

namespace Sys2Proof.Machine

def Dev.sess (d : Dev) (k : Nat) : Sess := SMap.get {} d.mgmt.sess k
def Dev.setSess (d : Dev) (k : Nat) (s : Sess) : Dev := { d with mgmt := { d.mgmt with sess := SMap.set {} d.mgmt.sess k s } }

/-! Headers and datagrams (R432, R551). -/

def hdrMsg (h : Bytes) : Nat := numAt h 0 1
def hdrSess (h : Bytes) : Nat := numAt h 2 2
def hdrPrincipal (h : Bytes) : Nat := numAt h 4 1

/-- A header of the module's (R551). -/
def Dev.sessHdr (d : Dev) (msg k principal len : Nat) : Bytes :=
  beBytes 1 msg ++ zeros 1 ++ beBytes 2 k ++ beBytes 1 principal ++ zeros 3 ++ beBytes 8 d.fuse.serial ++ beBytes 2 len ++ zeros 2

/-- Is a header one of a message of that type to this module, its length the body's? -/
def Dev.hdrOk (d : Dev) (h : Bytes) (msg len : Nat) : Bool :=
  decide (h.length = 20) && decide (hdrMsg h = msg) && decide (numAt h 1 1 = 0) && decide (numAt h 5 3 = 0) &&
    decide (numAt h 8 8 = d.fuse.serial) && decide (numAt h 16 2 = len) && decide (numAt h 18 2 = 0)

/-- The datagrams of a message to an address (R432, R551). -/
def Dev.sessSend (d : Dev) (to_ kind seq : Nat) (hdr data : Bytes) : Dev :=
  let parts := cut1200 15 data
  let id := (d.fleet.msgId + 1) % 2 ^ 16
  let d := { d with fleet := { d.fleet with msgId := id } }
  parts.zipIdx.foldl (fun d x =>
    d.emit (.eth to_ (beBytes 4 0x53514D53 ++ beBytes 1 kind ++ beBytes 1 (x.2 * 16 + (parts.length - 1)) ++ beBytes 2 id ++ hdr ++
      beBytes 8 seq ++ x.1))) d

/-- Do sessions run: the port answers, and a core serves them (R395, R549)? -/
def Dev.sessUp (d : Dev) : Bool := d.ethAnswers && d.active.isSome

/-! The handshake (R552). -/

/-- Does the lifecycle state permit a principal's sessions (R558)? -/
def Dev.sessPermit (d : Dev) (p : Nat) : Bool :=
  if p = 1 then decide (1 ≤ d.fuse.lcs) && decide (d.fuse.lcs ≤ 3) else decide (2 ≤ p) && decide (p ≤ 15) && decide (1 ≤ d.fuse.lcs) && decide (d.fuse.lcs ≤ 2)

/-- Is a source address ignored now (R552)? -/
def Dev.blockedSrc (d : Dev) (src : Nat) : Bool := d.mgmt.blocked.any (fun x => x.1 = src && d.tim.clk < x.2)

/-- An authentication failure from an address (R552): counted; the eighth within 60 s makes the module ignore it for 60 s. -/
def Dev.authFail (d : Dev) (src : Nat) : Dev :=
  let c := d.tim.clk
  let fs := d.mgmt.fails.filter (fun x => c < x.2 + sec 60) ++ [(src, c)]
  let n := (fs.filter (fun x => x.1 = src)).length
  let m := if n < 8 then { d.mgmt with fails := fs }
    else { d.mgmt with fails := fs.filter (fun x => x.1 ≠ src), blocked := d.mgmt.blocked.filter (fun x => x.1 ≠ src) ++ [(src, c + sec 60)] }
  (({ d with mgmt := m }).bump R.GLB_CNT_SESSION_AUTH_FAIL).raise E.GLB_SESSION_AUTH_FAIL

/-- SOURCE_BLOCK_EXPIRY (R552). -/
def doSourceBlockExpiry (source : Nat) (d : Dev) : Dev :=
  match d.mgmt.blocked.find? (fun x => x.1 = source) with
  | none => d
  | some x =>
    let d := d.advance x.2
    { d with mgmt := { d.mgmt with blocked := d.mgmt.blocked.filter (fun y => y.1 ≠ source) } }

/-- The slots held by sessions of a principal, those whose handshake still runs included. -/
def Dev.slotsOf (d : Dev) (p : Nat) : Nat := (d.mgmt.sess.filter (fun e => e.2.st ≠ 0 && e.2.principal = p)).length

/-- The lowest free session slot. -/
def Dev.freeSlot (d : Dev) : Option Nat := (List.range 8).find? (fun k => (d.sess k).st = 0)

/-- Does a CLIENT_HELLO pass (R435, R552)? -/
def Dev.clientOk (d : Dev) (hdr b : Bytes) : Bool :=
  let p := hdrPrincipal hdr
  let ec := slice b 1749 97
  let ml := slice b 1846 2592
  d.hdrOk hdr 1 9161 && decide (hdrSess hdr = 0) && decide (b.length = 9161) && d.sessPermit p && decide (d.tf 0x109 p 0 31 31 = 1) &&
    sha384 (ec ++ ml) == d.entryBytes 0x109 p 1 13 &&
    Config.verifyHybrid ec ml (ascii "SQ2SESN1" ++ hdr ++ b.take 4438) (slice b 4438 96) (slice b 4534 4627) &&
    Config.keysValid (slice b 84 97) (slice b 181 1568) && decide (d.slotsOf p < d.tf 0x109 p 0 2 0)

/-- The MODULE_HELLO body with its signatures (R435, R552). -/
def moduleHello (h1 hdr nonce ecPub kem : Bytes) : Bytes :=
  let id := Config.identityPub 0
  let b := nonce ++ zeros 52 ++ ecPub ++ kem ++ id.1 ++ id.2
  let s := Config.signHybrid 0 (ascii "SQ2SESN2" ++ h1 ++ hdr ++ b)
  b ++ s.1 ++ s.2

/-- CLIENT_HELLO (R552): checked and answered with MODULE_HELLO; the nonce comes from Mint, without which the core waits. -/
def doClientHello (source : Nat) (hdr body : Bytes) (d : Dev) : Dev :=
  if !d.sessUp || d.blockedSrc source then d
  else if !d.clientOk hdr body then d.authFail source
  else match d.freeSlot with
  | none => d.authFail source
  | some k =>
    match d.takeRandWords 8 with
    | none => d
    | some (d, ws) =>
      let p := hdrPrincipal hdr
      let (d, s1) := d.drawSeed
      let (d, s2) := d.drawSeed
      let ec := Config.ecKeyPair s1
      let kem := Config.kemEncaps (slice body 181 1568) s2
      let h1 := sha384 body
      let rh := d.sessHdr 2 k p 9161
      let r := moduleHello h1 rh (wordsToBytes ws) ec.2 kem.1
      let th := sha384 (h1 ++ sha384 r)
      let keys := kdf (Config.ecdh ec.1 (slice body 84 97) ++ kem.2)
        (ascii "SQ2MGMT1" ++ beBytes 8 d.fuse.serial ++ beBytes 1 p ++ beBytes 2 k ++ th) 96
      let d := d.setSess k { st := 1, principal := p, id := k, addr := source, keyRx := slice keys 0 32, keyTx := slice keys 32 32,
                             keyConf := slice keys 64 32, th := th, idleClk := d.tim.clk }
      d.sessSend source 0 0 rh r

/-- CLIENT_CONFIRM (R436, R552): the tag under the confirmation key opens the session. -/
def doClientConfirm (source : Nat) (hdr body : Bytes) (d : Dev) : Dev :=
  let k := hdrSess hdr
  let s := d.sess k
  if !d.sessUp || d.blockedSrc source then d
  else if !d.hdrOk hdr 3 body.length || s.st ≠ 1 || s.addr ≠ source || s.principal ≠ hdrPrincipal hdr then d.authFail source
  else if body != (gcmSeal s.keyConf 0 s.th []).2 then (d.sessEnd k false).authFail source
  else d.setSess k { s with st := 2, keyConf := [], th := [], openClk := d.tim.clk, idleClk := d.tim.clk }

/-! Requests (R553). Replies: 0 OK, 1 BUSY, 2 BAD_REQUEST, 3 FAILED. -/

/-- The text of a sealed message of an open session, by the replay rule of R432: the slot, the session and the text. -/
def Dev.sessOpenMsg (d : Dev) (source : Nat) (hdr : Bytes) (seq : Nat) (data : Bytes) : Option (Nat × Sess × Bytes) :=
  let k := hdrSess hdr
  let s := d.sess k
  let ct := data.take (data.length - 16)
  let r := gcmOpen s.keyRx (2 ^ 64 + seq) hdr ct
  if s.st ≠ 2 || s.addr ≠ source || s.principal ≠ hdrPrincipal hdr || !d.hdrOk hdr 0x10 ct.length || data.length < 16 ||
      !seqOk s.rxHigh s.rxMap 64 seq || r.2 != data.drop (data.length - 16) then none
  else
    let w := seqTake s.rxHigh s.rxMap 64 seq
    some (k, { s with rxHigh := w.1, rxMap := w.2, idleClk := d.tim.clk }, r.1)

/-- Seal a reply and send it (R552, R553), under the keys the session had when the request came; an ended session stays
ended. -/
def Dev.sessReply (d : Dev) (k : Nat) (s : Sess) (body : Bytes) : Dev :=
  let live := decide ((d.sess k).st = 2)
  let seq := (if live then (d.sess k).txSeq else s.txSeq) + 1
  let d := if live then d.setSess k { d.sess k with txSeq := seq } else d
  let h := d.sessHdr 0x11 k s.principal body.length
  let r := gcmSeal s.keyTx (2 ^ 64 + seq) h body
  d.sessSend s.addr 1 seq h (r.1 ++ r.2)

/-- The requests of R553 and R579. -/
def reqKnown (q : Nat) : Bool := (decide (0x10 ≤ q) && decide (q ≤ 0x18)) || q = 0x1F

/-- The rate of a session's requests: more than 500 in a second find it BUSY (R553). -/
def Dev.sessRate (d : Dev) (s : Sess) : Sess × Bool :=
  if s.rateClk + sec 1 ≤ d.tim.clk then ({ s with rateClk := d.tim.clk, rateCount := 1 }, false)
  else if 500 ≤ s.rateCount then (s, true)
  else ({ s with rateCount := s.rateCount + 1 }, false)

/-- A request of code `q`: opened, counted (R568), and answered with the status and data that `serve` gives for its fields; an
unlisted code is a BAD_REQUEST. -/
def Dev.sessRequest (d : Dev) (source : Nat) (hdr : Bytes) (seq : Nat) (data : Bytes) (q : Nat)
    (serve : Dev → Nat → Nat → Bytes → Dev × Nat × Bytes) : Dev :=
  if !d.sessUp then d
  else match d.sessOpenMsg source hdr seq data with
  | none => d
  | some (k, s, t) =>
    let code := numAt t 0 1
    if code ≠ q ∧ reqKnown code then d
    else
      let r := d.sessRate s
      let s := r.1
      let d := (d.setSess k s).count 27 0x53 { master := some 4, principal := some s.principal }
      let reply (d : Dev) (st : Nat) (b : Bytes) := d.sessReply k s (beBytes 1 code ++ beBytes 1 st ++ slice t 2 2 ++ b)
      if r.2 then reply d 1 []
      else if t.length < 4 || code ≠ q || numAt t 1 1 ≠ 0 then reply d 2 []
      else
        let x := serve d k s.principal (t.drop 4)
        reply x.1 x.2.1 x.2.2

/-- A request that only principal 1 is served; another's is a violation, answered OK with no data (R553). -/
def Dev.operatorOnly (d : Dev) (p addr : Nat) (write : Bool) (f : Dev → Dev × Nat × Bytes) : Dev × Nat × Bytes :=
  if p = 1 then f d else (d.violate (.eth p) addr write, 0, [])

/-- SESSION_READ (R553). -/
def doSessionRead (source : Nat) (hdr : Bytes) (seq : Nat) (data : Bytes) (d : Dev) : Dev :=
  d.sessRequest source hdr seq data 0x10 (fun d _ p f =>
    let n := numAt f 4 2
    if f.length < 6 || n = 0 || 1024 < n then (d, 2, [])
    else
      let r := d.frameRead (.eth p) (numAt f 0 4) n
      (r.1, 0, wordsToBytes r.2))

/-- SESSION_WRITE (R553). -/
def doSessionWrite (source : Nat) (hdr : Bytes) (seq : Nat) (data : Bytes) (d : Dev) : Dev :=
  d.sessRequest source hdr seq data 0x11 (fun d _ p f =>
    let n := numAt f 4 2
    d.operatorOnly p (numAt f 0 4) true (fun d =>
      if f.length < 6 || n = 0 || 256 < n || f.length ≠ 6 + 4 * n then (d, 2, [])
      else ((bytesToWords (f.drop 6)).zipIdx.foldl (fun d w => d.busWrite (.eth p) ((numAt f 0 4 + 4 * w.2) % 2 ^ 32) w.1) d, 0, [])))

/-- SESSION_TABLE (R541, R542, R553). -/
def doSessionTable (source : Nat) (hdr : Bytes) (seq : Nat) (data : Bytes) (d : Dev) : Dev :=
  d.sessRequest source hdr seq data 0x12 (fun d _ p f =>
    d.operatorOnly p 0x01000050 true (fun d =>
      if f.length ≠ 71 then (d, 2, [])
      else
        let d := d.winRow (.eth p) (numAt f 0 2) (numAt f 2 4) (bytesToWords (f.drop 7)) (numAt f 6 1 % 16)
        (d, 0, wordsToBytes (d.winGet (.eth p) 0x54 :: (List.range 16).map (fun i => d.winGet (.eth p) (0x10 + 4 * i))))))

/-- The durable records of the log from an LSEQ on, in LSEQ order: from the ring, else from flash (R498, R553). -/
def Dev.logFrom (d : Dev) (from_ count : Nat) : Bytes :=
  let flash : SMap Bytes := (d.rsm.general ++ d.rsm.kept).foldl (fun m r =>
    if numAt r 0 2 = 0x524D then SMap.ins m (numAt r 4 8) r else m) []
  let all := d.rsm.ring.foldl (fun m e => if d.rsm.durable < e.2.lseq then m else SMap.ins m e.2.lseq e.2.bytes) flash
  ((all.filter (fun e => decide (from_ ≤ e.1) && decide (e.1 ≤ d.rsm.durable))).take count).flatMap (·.2)

/-- SESSION_LOG (R498, R553); what address a violation by another principal records is left open (log entry 2). -/
def doSessionLog (source : Nat) (hdr : Bytes) (seq : Nat) (data : Bytes) (d : Dev) : Dev :=
  d.sessRequest source hdr seq data 0x13 (fun d _ p f =>
    let n := numAt f 8 1
    if p ≠ 1 then ((d.freeNext).violate (.eth p) (d.freeVal % 2 ^ 32) false, 0, [])
    else if f.length ≠ 9 || n = 0 || 64 < n then (d, 2, [])
    else (d, 0, d.logFrom (numAt f 0 8) n))

/-- The statement of an attestation (R455). -/
def Dev.statement (d : Dev) : Bytes :=
  let table := (List.range 4096).flatMap (fun m => wordsToBytes (canonWords 0xF8 m ((List.range 16).map (d.tw 0xF8 m))))
  beBytes 4 d.fleet.domain ++ beBytes 2 d.fleet.member ++ beBytes 8 d.fuse.serial ++ beBytes 6 d.tim.sec ++
    beBytes 4 (d.num R.SAGE_CFG_VERSION) ++ (d.fleet.digest ++ zeros 48).take 48 ++ d.schedDigest ++ beBytes 2 d.peersUp.length ++
    beBytes 2 ((d.peersUp.filter (fun m => d.consensus m = 0)).length) ++ sha384 table

/-- ATTEST (R455, R553). -/
def doAttest (source : Nat) (hdr : Bytes) (seq : Nat) (data : Bytes) (d : Dev) : Dev :=
  d.sessRequest source hdr seq data 0x14 (fun d _ _ f =>
    if f.length ≠ 32 then (d, 2, [])
    else
      let st := d.statement ++ f
      let s := Config.signHybrid 0 (ascii "SQ2ATTST" ++ st)
      (d, 0, st ++ s.1 ++ s.2))

/-- SESSION_CHANGE_SET (R416, R553): chunks in order; the last takes the change set into the path of R417. -/
def doSessionChangeSet (source : Nat) (hdr : Bytes) (seq : Nat) (data : Bytes) (d : Dev) : Dev :=
  d.sessRequest source hdr seq data 0x15 (fun d k p f =>
    d.operatorOnly p (R.SAGE_CS_CMD.addr 0 0) true (fun d =>
      let off := numAt f 0 4
      let total := numAt f 4 4
      let chunk := f.drop 8
      let s := d.sess k
      let have_ := if off = 0 then [] else s.csBuf
      if f.length < 8 || chunk.isEmpty || 16384 < chunk.length || 1048576 < total || off ≠ have_.length || total < off + chunk.length then
        (d, 2, [])
      else
        let bs := have_ ++ chunk
        if bs.length < total then (d.setSess k { s with csBuf := bs }, 0, [])
        else
          let d := (d.setSess k { s with csBuf := [] }).csTake bs
          (d, 0, wordsToBytes [d.num R.SAGE_CS_STATUS])))

/-- The update engine driven as lease holder (R413, R553): OP as NVL_UPD_CMD, any other OP carries data. -/
def Dev.imageOp (d : Dev) (op arg : Nat) (bytes : Bytes) : Dev :=
  let m := d.sageNow
  match op with
  | 1 => doUpdStart m (if decide (1 ≤ d.updState) && decide (d.updState ≤ 5) then d else d.set F.NVL_UPD_LEN_BYTES arg)
  | 2 => doUpdFinish m d
  | 3 => doUpdCommit m d
  | 4 => doUpdAbort (arg % 2 ^ 16) m d
  | _ => (bytesToWords bytes).foldl (fun d w => doUpdData w false m d) d

/-- SESSION_IMAGE (R413, R553). -/
def doSessionImage (source : Nat) (hdr : Bytes) (seq : Nat) (data : Bytes) (d : Dev) : Dev :=
  d.sessRequest source hdr seq data 0x16 (fun d _ p f =>
    d.operatorOnly p (R.NVL_UPD_CMD.addr 0 0) true (fun d =>
      let bytes := f.drop 5
      if f.length < 5 || 16384 < bytes.length || bytes.length % 4 ≠ 0 then (d, 2, [])
      else
        let d := d.imageOp (numAt f 0 1) (numAt f 1 4) bytes
        (d, 0, wordsToBytes [d.num R.NVL_UPD_STATUS])))

/-- SESSION_CS_ABORT (R419, R553). -/
def doSessionCsAbort (source : Nat) (hdr : Bytes) (seq : Nat) (data : Bytes) (d : Dev) : Dev :=
  d.sessRequest source hdr seq data 0x17 (fun d _ p f =>
    d.operatorOnly p (R.SAGE_CS_CMD.addr 0 0) true (fun d =>
      if f.length ≠ 2 then (d, 2, [])
      else
        let d := doCsAbort (numAt f 0 2) (.eth p) d
        (d, 0, wordsToBytes [d.num R.SAGE_CS_STATUS])))

/-- SESSION_CLOSE (R553, R554): answered, and the session ends. -/
def doSessionClose (source : Nat) (hdr : Bytes) (seq : Nat) (data : Bytes) (d : Dev) : Dev :=
  d.sessRequest source hdr seq data 0x1F (fun d k _ _ => (d.sessEnd k false, 0, []))

/-- SUBSCRIBE (R579). -/
def doSubscribe (source : Nat) (hdr : Bytes) (seq : Nat) (data : Bytes) (d : Dev) : Dev :=
  let tag := match d.sessOpenMsg source hdr seq data with
    | some (_, _, t) => numAt t 2 2
    | none => 0
  d.sessRequest source hdr seq data 0x18 (fun d k p f =>
    let sets := numAt f 0 1 % 16
    let per := numAt f 1 1
    if f.length ≠ 2 || (numAt f 0 1 ≠ 0 && (per = 0 || decide (60 < per))) then (d, 2, [])
    else
      let d := if p ≠ 1 && sets % 8 ≠ 0 then (d.freeNext).violate (.eth p) (d.freeVal % 2 ^ 32) false else d
      let sets := if p = 1 then sets else sets / 8 * 8
      let s := d.sess k
      let others := (d.mgmt.sess.filter (fun e => e.1 ≠ k && e.2.sub.isSome)).length
      if sets = 0 then (d.setSess k { s with sub := none }, 0, [])
      else if 4 ≤ others then (d, 1, [])
      else (d.setSess k { s with sub := some { sets := sets, period := per, tag := tag } }, 0, []))

/-! The end of a session (R554). -/

/-- SESSION_IDLE_TIMEOUT (R554): 300 s without a request. -/
def doSessionIdleTimeout (session : Nat) (d : Dev) : Dev :=
  let k := session % 8
  let s := d.sess k
  if s.st = 0 then d else (d.advance (s.idleClk + sec 300)).sessEnd k true

/-- SESSION_LIFETIME_EXPIRY (R554): 24 h after the handshake. -/
def doSessionLifetimeExpiry (session : Nat) (d : Dev) : Dev :=
  let k := session % 8
  let s := d.sess k
  if s.st ≠ 2 then d else (d.advance (s.openClk + sec 86400)).sessEnd k true

/-! Telemetry export (R579, R580). -/

/-- A record of an export: KIND, WORDS, INDEX, the words. -/
def expRec (kind index : Nat) (ws : List Nat) : Bytes := beBytes 1 kind ++ beBytes 1 ws.length ++ beBytes 2 index ++ wordsToBytes ws

/-- Words of an entry as the window shows them, `n` of them. -/
def Dev.shown (d : Dev) (sel idx n : Nat) : List Nat := (List.range n).map (fun w => (d.tblWords sel idx).getD w 0)

/-- The records of an export (R580): counters that are set, channels that are enabled, the latched counters, the page. -/
def Dev.expRecs (d : Dev) (sets p : Nat) : List Bytes :=
  let cnt := if bit sets 0 then ((List.range 480).filter (fun i => cfgWord (SMap.get {} d.mon.cnt i).cfg 0 31 31 = 1)).map (fun i =>
      expRec 1 i (d.shown 0x140 i 5)) else []
  let mon := if bit sets 1 then ((List.range 256).filter (fun c => cfgWord (d.chanCfg c) 0 31 31 = 1)).flatMap (fun c =>
      [expRec 2 (4 * c) (d.shown 0x151 (4 * c) 7), expRec 2 (4 * c + 1) (d.shown 0x151 (4 * c + 1) 16),
       expRec 2 (4 * c + 2) (d.shown 0x151 (4 * c + 2) 16)]) else []
  let env := if bit sets 2 then (List.range 1024).map (fun i => expRec 3 i (d.shown 0xB1 i 4)) ++
      [0, 1].flatMap (fun side => (List.range 512).map (fun i => expRec 4 (side * 2 ^ 15 + i) (d.shown (0xD2 + side) i 4))) else []
  let word (o : Nat) := SMap.get 0 d.mgmt.page (p * 0x100000 + 4 * o)
  let block (o : Nat) := expRec 5 o ((List.range 16).map (fun i => word (o + i)))
  let page := if bit sets 3 then block 0 :: block 0x40 ::
      (List.range (word 0 / 2 ^ 16 % 2 ^ 13)).map (fun i => block (0x400 + 16 * i)) else []
  cnt ++ mon ++ env ++ page

/-- Records gathered into replies of at most 1,171 bytes: one datagram each (log entry 24). -/
def expParts (rs : List Bytes) : List Bytes :=
  rs.foldl (fun l r =>
    match l.getLast? with
    | some x => if x.length + r.length ≤ 1171 then l.dropLast ++ [x ++ r] else l ++ [r]
    | none => [r]) []

/-- Replies of an earlier export that were not sent are abandoned when the next falls due (R580). -/
def Dev.expDrop (d : Dev) (k : Nat) (s : Sess) (b : Sub) : Dev :=
  if b.unsent = 0 then d
  else
    let d := d.setSess k { s with sub := some { b with unsent := 0 } }
    (d.bump R.MON_CNT_EXPORT_DROP (n := b.unsent)).raise E.MON_EXPORT_DROP

/-- TELEMETRY_EXPORT (R580): the export of a session's subscription for the snapshot that has become current; `room` replies of
it are sent before the next falls due. -/
def doTelemetryExport (session room : Nat) (d : Dev) : Dev :=
  let k := session % 8
  let s := d.sess k
  match s.sub with
  | none => d
  | some b =>
    let snap := d.num R.MON_SNAP_SEC_HI * 2 ^ 32 + d.num R.MON_SNAP_SEC_LO
    if !d.sessUp || s.st ≠ 2 || !d.on F.MON_STATUS_VALID || snap % (max 1 b.period) ≠ 0 || b.done = snap + 1 then d
    else
      let d := d.expDrop k s b
      let parts := expParts (d.expRecs b.sets s.principal)
      let n := parts.length
      let sent := min room n
      let d := d.setSess k { d.sess k with sub := some { b with unsent := n - sent, done := snap + 1 } }
      (parts.take sent).zipIdx.foldl (fun d x =>
        (d.sessReply k (d.sess k) (beBytes 1 0x18 ++ beBytes 1 0 ++ beBytes 2 b.tag ++ beBytes 6 snap ++ beBytes 2 x.2 ++
          beBytes 1 (b2n (decide (x.2 + 1 = n))) ++ x.1)).bump R.MON_CNT_EXPORT_SENT) d

end Sys2Proof.Machine
end

