-- ==== Sys2Proof/Machine/State.lean ====
section
/-! DEFINITION. The whole state of the machine: the module and the queue of commands that wait. -/

namespace Sys2Proof.Machine

/-- The state: the module, and the commands that wait, first in, first out. -/
structure State where
  dev : Dev := {}
  pending : List Instr := []
  deriving DecidableEq, Repr

/-- The reasons a command could stop the machine.  The module has none: every command the spec gives it runs
(log entry 13). -/
inductive Fault
  /-- Raised by nothing: the spec names no command that stops the module (safe). -/
  | none
  deriving DecidableEq, Repr

/-- The reasons a command has no meaning. -/
inductive Refusal
  /-- Raised by an arm of `exec` whose command has no meaning yet (safe: nothing follows from it). -/
  | notModelled (mnemonic : String)
  deriving DecidableEq, Repr

/-- The machine right after the assertion of the power-on reset on a module in lifecycle FACTORY, before any
step of R509: every register at its reset value, every table and queue empty (log entry 14). -/
def State.reset : State := { dev := {}, pending := [] }

/-- The module changes and its pins follow (R482); the queue stays. -/
def State.run (s : State) (f : Dev → Dev) : State := { s with dev := (f s.dev).pins }

end Sys2Proof.Machine
end

