-- ==== Sys2Proof/Machine/Commands.lean ====
section
/-! DEFINITION. The meaning of each command, as a next state of the machine: the operation of its unit on
the block, the queue untouched. -/

namespace Sys2Proof.Machine

/-- CLIENT_FRAME_ARRIVAL: A client frame taken whole from the client MAC is checked, parsed, stamped, classified, policed and given its slices at the client front end (R22). -/
def execClientFrameArrival (port : Nat) (frame : Bytes) (at_ : Nat) (ecc : Option (Nat × Nat × Bool)) (s : State) : Host.Outcome State Fault Refusal :=
  .next (s.run (doClientFrameArrival port frame at_ ecc))

/-- CROSSBAR_TRANSFER: A frame waiting in the front-end hold is carried over the client crossbar once a credit is held (R244). -/
def execCrossbarTransfer (fe : Nat) (express : Bool) (disagree : Nat) (ecc : Option Bool) (s : State) : Host.Outcome State Fault Refusal :=
  .next (s.run (fun d => (doCrossbarTransfer fe express disagree ecc d).alarms))

/-- STEER: The steer stage takes a frame on credit, chooses its transmit entry, line port and queue, and admits it (R88). -/
def execSteer (slice : Nat) (express : Bool) (ecc : Option (Nat × Nat × Bool)) (s : State) : Host.Outcome State Fault Refusal :=
  .next (s.run (doSteer slice express ecc))

/-- LINE_DEQUEUE: At a dequeue opportunity the line scheduler chooses a frame for the port and charges it (R217). -/
def execLineDequeue (port : Nat) (entered : Nat) (err : Option (Nat × Nat)) (s : State) : Host.Outcome State Fault Refusal :=
  .next (s.run (fun d => (doLineDequeue port entered err d).alarms))

/-- SEAL_START: A dequeued frame begins sealing when its sealing context is free and masks suffice, fixing key and PN (R24). -/
def execSealStart (slice : Nat) (port : Nat) (s : State) : Host.Outcome State Fault Refusal :=
  .next (s.run (doSealStart slice port))

/-- SEAL_RESUME: A parked frame resumes sealing after the Express frame that preempted it has entered (R156). -/
def execSealResume (slice : Nat) (port : Nat) (s : State) : Host.Outcome State Fault Refusal :=
  .next (s.run (doSealResume slice port))

/-- SEAL_TAG_COMPLETE: A frame's tag completes after its last block leaves the pipeline (R130). -/
def execSealTagComplete (slice : Nat) (port : Nat) (bayErr : Option (Nat × Nat)) (s : State) : Host.Outcome State Fault Refusal :=
  .next (s.run (fun d => (doSealTagComplete slice port bayErr d).alarms))

/-- ITEM_EMIT: The line back end starts emitting a record segment or F-mode frame once its predecessor has left (R264). -/
def execItemEmit (port : Nat) (s : State) : Host.Outcome State Fault Refusal :=
  .next (s.run (doItemEmit port))

/-- TIMED_LAUNCH: A held timed PTP record is launched at its launch time t_L (R265). -/
def execTimedLaunch (port : Nat) (s : State) : Host.Outcome State Fault Refusal :=
  .next (s.run (doTimedLaunch port))

/-- ENVELOPE_FRAME_TX: An envelope frame of 2,048 blocks is assembled, filled, sealed and sent each frame period (R266). -/
def execEnvelopeFrameTx (port : Nat) (s : State) : Host.Outcome State Fault Refusal :=
  .next (s.run (doEnvelopeFrameTx port))

/-- ENVELOPE_FRAME_RX: A received envelope frame is aligned, checked for sequence and key, accepted or refused (R276). -/
def execEnvelopeFrameRx (port : Nat) (bytes : Bytes) (at_ : Nat) (bad : Bool) (s : State) : Host.Outcome State Fault Refusal :=
  .next (s.run (doEnvelopeFrameRx port bytes at_ bad))

/-- SEGMENT_DISPATCH: A delineated segment header is checked, stamped and dispatched to the slice its KSI names (R279). -/
def execSegmentDispatch (port : Nat) (s : State) : Host.Outcome State Fault Refusal :=
  .next (s.run (doSegmentDispatch port))

/-- FMODE_FRAME_RX: A frame received on an F-mode line port is classified as EAPOL, secured frame or other and handled (R288). -/
def execFmodeFrameRx (port : Nat) (frame : Bytes) (at_ : Nat) (s : State) : Host.Outcome State Fault Refusal :=
  .next (s.run (doFmodeFrameRx port frame at_))

/-- TAG_CHECK_DONE: A decrypted record's tag comparison ends and the remaining checks decide release or discard (R160). -/
def execTagCheckDone (slice : Nat) (holdErr : Bool) (lrnErr : Bool) (s : State) : Host.Outcome State Fault Refusal :=
  .next (s.run (doTagCheckDone slice holdErr lrnErr))

/-- SEGMENT_TIMEOUT: A parked received record whose continuation has not completed within CIP_SEG_TIMEOUT is discarded (R158). -/
def execSegmentTimeout (slice : Nat) (port : Nat) (s : State) : Host.Outcome State Fault Refusal :=
  .next (s.run (doSegmentTimeout slice port))

/-- VERIFY_HOLD_RELEASE: A verified frame leaves verify-hold on credit towards the merge pair or client egress (R161). -/
def execVerifyHoldRelease (slice : Nat) (disagree : Nat) (ecc : Option (Nat × Nat × Bool)) (s : State) : Host.Outcome State Fault Refusal :=
  .next (s.run (fun d => (doVerifyHoldRelease slice disagree ecc d).alarms))

/-- HOLD_RELEASE: A held aligned-merge copy reaches its release instant and goes to the client egress buffer (R309). -/
def execHoldRelease (err : Option (Nat × Nat)) (s : State) : Host.Outcome State Fault Refusal :=
  .next (s.run (fun d => (doHoldRelease err d).alarms))

/-- HOLD_INTERVAL_END: At the end of each 2^20 ns interval a stream updates its hold targets from DMIN and DMAX (R310). -/
def execHoldIntervalEnd (stream : Nat) (s : State) : Host.Outcome State Fault Refusal :=
  .next (s.run (doHoldIntervalEnd stream))

/-- CLIENT_EGRESS_DEQUEUE: The client egress scheduler chooses a frame for a client port and sends it to the MAC (R225). -/
def execClientEgressDequeue (port : Nat) (preempts : Bool) (s : State) : Host.Outcome State Fault Refusal :=
  .next (s.run (doClientEgressDequeue port preempts))

/-- LEARN_REQUEST: The learning unit serves one queued insert or move request (R190). -/
def execLearnRequest (slice : Nat) (s : State) : Host.Outcome State Fault Refusal :=
  .next (s.run (doLearnRequest slice))

/-- CONTROL_QUEUE_SEND: A control record or MKA EAPOL frame from the Sage core is queued on a line port's control queue (R216). -/
def execControlQueueSend (port : Nat) (sa : Option (Nat × Nat)) (data : Bytes) (s : State) : Host.Outcome State Fault Refusal :=
  .next (s.run (doControlQueueSend port sa data))

/-- TIME_MESSAGE_SEND: A Delay_Req from the time-message slot is sent at the next frame boundary and stamped (R378). -/
def execTimeMessageSend (port : Nat) (tag : Nat) (frame : Bytes) (s : State) : Host.Outcome State Fault Refusal :=
  .next (s.run (doTimeMessageSend port tag frame))

/-- PATROL_SCRUB: The bay patrol reads cells and metadata and checks their ECC within its share (R338). -/
def execPatrolScrub (bay : Nat) (part : Nat) (index : Nat) (err : Nat) (s : State) : Host.Outcome State Fault Refusal :=
  .next (s.run (doPatrolScrub bay part index err))

/-- COUNTER_LINE_LOAD: A counter line is loaded into the counter cache and checked (R334). -/
def execCounterLineLoad (bay : Nat) (line : Nat) (err : Nat) (s : State) : Host.Outcome State Fault Refusal :=
  .next (s.run (doCounterLineLoad bay line err))

/-- COUNTER_LINE_WRITEBACK: A dirty counter line is written back within 100 µs, at group close or on eviction (R334). -/
def execCounterLineWriteback (bay : Nat) (line : Nat) (evict : Bool) (s : State) : Host.Outcome State Fault Refusal :=
  .next (s.run (doCounterLineWriteback bay line evict))

/-- ORPHAN_RECLAIM: A closed group still live 300 ms after closing has its remaining cells freed (R326). -/
def execOrphanReclaim (bay : Nat) (group : Nat) (s : State) : Host.Outcome State Fault Refusal :=
  .next (s.run (doOrphanReclaim bay group))

/-- SA_TABLE_SCRUB: The SA-table scrub reads an entry, corrects it or faults it (R122). -/
def execSaTableScrub (slice : Nat) (dir : Nat) (entry : Nat) (pos : Nat) (err : Nat) (s : State) : Host.Outcome State Fault Refusal :=
  .next (s.run (doSaTableScrub slice dir entry pos err))

/-- SWEEPER_VISIT: The learning sweeper visits a bucket, clearing HIT or aging out entries (R193). -/
def execSweeperVisit (slice : Nat) (bucket : Nat) (err : Option Nat) (s : State) : Host.Outcome State Fault Refusal :=
  .next (s.run (doSweeperVisit slice bucket err))

/-- LANE_ADAPTATION_UPDATE: A lane's equalizer is updated every 16 µs and pending LANE_TX_EQ writes take effect (R348). -/
def execLaneAdaptationUpdate (lane : Nat) (snr : Nat) (errors : Nat) (s : State) : Host.Outcome State Fault Refusal :=
  .next (s.run (doLaneAdaptationUpdate lane snr errors))

/-- REGULATOR_CALIBRATION: Every 100 ms the phases of each rail instance are balanced and failing phases shed (R527). -/
def execRegulatorCalibration (failed : List Nat) (spreads : List Nat) (s : State) : Host.Outcome State Fault Refusal :=
  .next (s.run (doRegulatorCalibration failed spreads))

/-- TELEMETRY_SAMPLE: Every 1 ms temperature, voltage, depth and other periodic values are sampled (R37). -/
def execTelemetrySample (t : Telemetry) (s : State) : Host.Outcome State Fault Refusal :=
  .next (s.run (doTelemetrySample t))

/-- ROSEMARY_COMPACTION: When the active log segment passes 75% full the oldest general-ring segment is compacted (R497). -/
def execRosemaryCompaction (s : State) : Host.Outcome State Fault Refusal :=
  .next (s.run (doRosemaryCompaction))

/-- OPEN: FE_VER_CMD OPEN stages a new rule version as a copy of the current one (R72). -/
def execOpenVersion (version : Nat) (s : State) : Host.Outcome State Fault Refusal :=
  .next (s.run (fun d => d.coreAccess (R.FE_VER_CMD.addr 0 0) true (doOpenVersion version)))

/-- CLOSE: FE_VER_CMD CLOSE freezes the staged version and starts validation and digest (R73). -/
def execCloseVersion (s : State) : Host.Outcome State Fault Refusal :=
  .next (s.run (fun d => d.coreAccess (R.FE_VER_CMD.addr 0 0) true (doCloseVersion)))

/-- DISCARD: FE_VER_CMD DISCARD drops the staged version and frees its tag (R78). -/
def execDiscardVersion (s : State) : Host.Outcome State Fault Refusal :=
  .next (s.run (fun d => d.coreAccess (R.FE_VER_CMD.addr 0 0) true (doDiscardVersion)))

/-- COMMIT_NOW: FE_VER_CMD COMMIT_NOW makes a closed staged version current at once (R79). -/
def execCommitNow (s : State) : Host.Outcome State Fault Refusal :=
  .next (s.run (fun d => d.coreAccess (R.FE_VER_CMD.addr 0 0) true (doCommitNow)))

/-- OPEN_PASS_DONE: The OPEN pass over every table completes (R72). -/
def execOpenPassDone (s : State) : Host.Outcome State Fault Refusal :=
  .next (s.run (doOpenPassDone))

/-- CLOSE_PASS_DONE: The CLOSE validation and digest pass completes and closes or leaves open the version (R73). -/
def execClosePassDone (s : State) : Host.Outcome State Fault Refusal :=
  .next (s.run (doClosePassDone))

/-- VERSION_RETIRE: The draining version retires when DRAIN_COUNT reaches zero or at T + 40 µs (R77). -/
def execVersionRetire (s : State) : Host.Outcome State Fault Refusal :=
  .next (s.run (doVersionRetire))

/-- FE_RESYNC: FE_RESYNC START copies every entry from a named running client front end (R80). -/
def execFeResync (fe : Nat) (source : Nat) (s : State) : Host.Outcome State Fault Refusal :=
  .next (s.run (fun d => d.coreAccess (R.FE_RESYNC.addr (fe % 4) 0) true (doFeResync fe source)))

/-- RESYNC_DONE: The FE_RESYNC copy completes and the front end is IN_SYNC again (R80). -/
def execResyncDone (fe : Nat) (s : State) : Host.Outcome State Fault Refusal :=
  .next (s.run (doResyncDone fe))

/-- EXACT_MATCH_INSERT: A window WRITE to the exact-match table inserts or replaces a key in the staged version (R71). -/
def execExactMatchInsert (words : List Nat) (master : Master) (s : State) : Host.Outcome State Fault Refusal :=
  .next (s.run (doExactMatchInsert words master))

/-- EXACT_MATCH_DELETE: A window WRITE with index bit 31 clears the staged bit of an exact-match key (R84). -/
def execExactMatchDelete (words : List Nat) (master : Master) (s : State) : Host.Outcome State Fault Refusal :=
  .next (s.run (doExactMatchDelete words master))

/-- TERNARY_WRITE: A window WRITE of a ternary rule part, the part-2 write setting the staged bit (R71). -/
def execTernaryWrite (rule : Nat) (part : Nat) (words : List Nat) (master : Master) (s : State) : Host.Outcome State Fault Refusal :=
  .next (s.run (doTernaryWrite rule part words master))

/-- TERNARY_DELETE: A part-2 WRITE with index bit 31 clears the staged bit of a ternary rule (R71). -/
def execTernaryDelete (rule : Nat) (master : Master) (s : State) : Host.Outcome State Fault Refusal :=
  .next (s.run (doTernaryDelete rule master))

/-- TBL_READ: TBL_CMD READ copies a table entry into the master's DATA registers (R542). -/
def execTblRead (sel : Nat) (index : Nat) (master : Master) (s : State) : Host.Outcome State Fault Refusal :=
  .next (s.run (doTblRead sel index master))

/-- TBL_WRITE: TBL_CMD WRITE copies the DATA registers into a table entry under that table's rules (R542). -/
def execTblWrite (sel : Nat) (index : Nat) (words : List Nat) (master : Master) (s : State) : Host.Outcome State Fault Refusal :=
  .next (s.run (doTblWrite sel index words master))

/-- INSTALL_TX: SA command INSTALL_TX installs a staged key into a transmit key position (R115). -/
def execInstallTx (slice : Nat) (entry : Nat) (master : Master) (s : State) : Host.Outcome State Fault Refusal :=
  .next (s.run (fun d => d.gated master (R.SAT_CMD.addr (slice % 8) 0) ((1 * 2 ^ 28 + entry % 8192)) (doInstallTx slice entry master)))

/-- INSTALL_RX: SA command INSTALL_RX installs a staged key into a receive entry (R115). -/
def execInstallRx (slice : Nat) (entry : Nat) (master : Master) (s : State) : Host.Outcome State Fault Refusal :=
  .next (s.run (fun d => d.gated master (R.SAT_CMD.addr (slice % 8) 0) ((2 * 2 ^ 28 + entry % 8192)) (doInstallRx slice entry master)))

/-- SWITCH_NOW_TX: SA command SWITCH_NOW_TX makes a LOADED transmit position ACTIVE at once (R115). -/
def execSwitchNowTx (slice : Nat) (entry : Nat) (master : Master) (s : State) : Host.Outcome State Fault Refusal :=
  .next (s.run (fun d => d.gated master (R.SAT_CMD.addr (slice % 8) 0) ((3 * 2 ^ 28 + entry % 8192)) (doSwitchNowTx slice entry master)))

/-- OPEN_NOW_RX: SA command OPEN_NOW_RX opens a LOADED receive entry (R115). -/
def execOpenNowRx (slice : Nat) (entry : Nat) (master : Master) (s : State) : Host.Outcome State Fault Refusal :=
  .next (s.run (fun d => d.gated master (R.SAT_CMD.addr (slice % 8) 0) ((4 * 2 ^ 28 + entry % 8192)) (doOpenNowRx slice entry master)))

/-- RETIRE_RX: SA command RETIRE_RX makes an OPEN receive entry CLOSING (R115). -/
def execRetireRx (slice : Nat) (entry : Nat) (master : Master) (s : State) : Host.Outcome State Fault Refusal :=
  .next (s.run (fun d => d.gated master (R.SAT_CMD.addr (slice % 8) 0) ((5 * 2 ^ 28 + entry % 8192)) (doRetireRx slice entry master)))

/-- SET_LIMITS: SA command SET_LIMITS sets new usage limits on the ACTIVE or EXHAUSTED position (R117). -/
def execSetLimits (slice : Nat) (entry : Nat) (master : Master) (s : State) : Host.Outcome State Fault Refusal :=
  .next (s.run (fun d => d.gated master (R.SAT_CMD.addr (slice % 8) 0) ((6 * 2 ^ 28 + entry % 8192)) (doSetLimits slice entry master)))

/-- ZEROIZE: SA command ZEROIZE stops and then erases one transmit or receive entry (R118). -/
def execZeroize (slice : Nat) (dir : Nat) (entry : Nat) (master : Master) (s : State) : Host.Outcome State Fault Refusal :=
  .next (s.run (fun d => d.gated master (R.SAT_CMD.addr (slice % 8) 0) ((7 * 2 ^ 28 + dir % 2 * 2 ^ 27 + entry % 8192)) (doZeroize slice dir entry master)))

/-- ZEROIZE_ALL: SA command ZEROIZE_ALL stops and erases every entry of the slice (R118). -/
def execZeroizeAll (slice : Nat) (master : Master) (s : State) : Host.Outcome State Fault Refusal :=
  .next (s.run (fun d => d.gated master (R.SAT_CMD.addr (slice % 8) 0) (8 * 2 ^ 28) (doZeroizeAll slice master)))

/-- SAT_CMD_ABORT: A write to SAT_CMD_ABORT requests the abort of an SA command by ticket (R119). -/
def execSatCmdAbort (slice : Nat) (ticket : Nat) (master : Master) (s : State) : Host.Outcome State Fault Refusal :=
  .next (s.run (fun d => d.gated master (R.SAT_CMD_ABORT.addr (slice % 8) 0) (ticket) (doSatCmdAbort slice ticket master)))

/-- SA_CMD_COMPLETE: An accepted SA command reaches its completion cycle and changes the tables (R118). -/
def execSaCmdComplete (slice : Nat) (s : State) : Host.Outcome State Fault Refusal :=
  .next (s.run (doSaCmdComplete slice))

/-- SAT_KEY_STAGE: A write to SAT_KEY_STAGE fills the next key or salt word (R127). -/
def execSatKeyStage (slice : Nat) (word : Nat) (master : Master) (s : State) : Host.Outcome State Fault Refusal :=
  .next (s.run (fun d => d.gated master (R.SAT_KEY_STAGE.addr (slice % 8) 0) (word) (doSatKeyStage slice word master)))

/-- RX_CLOSING_END: A CLOSING receive entry becomes EMPTY once no record stamped before CLOSE_AT remains (R104). -/
def execRxClosingEnd (slice : Nat) (entry : Nat) (s : State) : Host.Outcome State Fault Refusal :=
  .next (s.run (doRxClosingEnd slice entry))

/-- SAT_TRIGGER_FIFO_READ: A read of SAT_TRIGGER_FIFO returns and removes the oldest trigger record (R123). -/
def execSatTriggerFifoRead (slice : Nat) (s : State) : Host.Outcome State Fault Refusal :=
  .next (s.run (fun d => d.coreAccess (R.SAT_TRIGGER_FIFO.addr (slice % 8) 0) false (doSatTriggerFifoRead slice)))

/-- DIAG_OPEN: Writing SAT_DIAG_CTRL.OPEN = 1 opens a slice's diagnostic test window (R124). -/
def execDiagOpen (slice : Nat) (master : Master) (s : State) : Host.Outcome State Fault Refusal :=
  .next (s.run (fun d => d.gated master (R.SAT_DIAG_CTRL.addr (slice % 8) 0) (2 ^ 31) (doDiagOpen slice master)))

/-- DIAG_CLOSE: Writing SAT_DIAG_CTRL.OPEN = 0 closes the window and clears the test buffer (R125). -/
def execDiagClose (slice : Nat) (master : Master) (s : State) : Host.Outcome State Fault Refusal :=
  .next (s.run (fun d => d.gated master (R.SAT_DIAG_CTRL.addr (slice % 8) 0) (0) (doDiagClose slice master)))

/-- DIAG_GO: SAT_DIAG_CTRL.GO runs one GCM operation on the test buffer (R125). -/
def execDiagGo (slice : Nat) (op : Nat) (pipe : Nat) (s : State) : Host.Outcome State Fault Refusal :=
  .next (s.run (fun d => d.coreAccess (R.SAT_DIAG_CTRL.addr (slice % 8) 0) true (doDiagGo slice op pipe)))

/-- PIPELINE_FAULT: A parity, GHASH residue or stuck-mask check detects a pipeline fault and starts its handling (R171). -/
def execPipelineFault (slice : Nat) (dir : Nat) (pipe : Nat) (kind : Nat) (s : State) : Host.Outcome State Fault Refusal :=
  .next (s.run (doPipelineFault slice dir pipe kind))

/-- PIPE_KAT_DONE: The known-answer test after a pipeline fault ends as transient or failed (R171). -/
def execPipeKatDone (slice : Nat) (dir : Nat) (pass : Bool) (s : State) : Host.Outcome State Fault Refusal :=
  .next (s.run (doPipeKatDone slice dir pass))

/-- KAT_GO: CIP_KAT_CTRL.GO starts the built-in known-answer test on a fenced slice (R171). -/
def execKatGo (slice : Nat) (dir : Nat) (pipe : Nat) (all : Bool) (s : State) : Host.Outcome State Fault Refusal :=
  .next (s.run (fun d => d.coreAccess (R.CIP_KAT_CTRL.addr (slice % 8) 0) true (doKatGo slice dir pipe all)))

/-- KAT_DONE: A software-started known-answer test ends and sets DONE and PASS (R171). -/
def execKatDone (slice : Nat) (pass : Bool) (s : State) : Host.Outcome State Fault Refusal :=
  .next (s.run (doKatDone slice pass))

/-- MASK_RESEED_REQUEST: A mask generator reaches 2^20 blocks under its seed and asks Mint for a reseed (R165). -/
def execMaskReseedRequest (gen : Nat) (s : State) : Host.Outcome State Fault Refusal :=
  .next (s.run (doMaskReseedRequest gen))

/-- MASK_GENERATOR_STOP: A mask generator reaches 2^24 blocks and stops until reseeded (R165). -/
def execMaskGeneratorStop (gen : Nat) (s : State) : Host.Outcome State Fault Refusal :=
  .next (s.run (doMaskGeneratorStop gen))

/-- LRN_FLUSH: LRN_FLUSH START deletes every learning entry matching the selector in one pass (R194). -/
def execLrnFlush (slice : Nat) (value : Nat) (s : State) : Host.Outcome State Fault Refusal :=
  .next (s.run (fun d => d.coreAccess (R.LRN_FLUSH.addr (slice % 8) 0) true (doLrnFlush slice value)))

/-- FLUSH_DONE: A learning flush pass completes and raises FLUSH_DONE (R194). -/
def execFlushDone (slice : Nat) (s : State) : Host.Outcome State Fault Refusal :=
  .next (s.run (doFlushDone slice))

/-- FILL: POL_CMD FILL sets both buckets of a meter full (R205). -/
def execFill (meter : Nat) (s : State) : Host.Outcome State Fault Refusal :=
  .next (s.run (fun d => d.coreAccess (R.POL_CMD.addr 0 0) true (doFill meter)))

/-- FLUSH_QUEUE: SCH_CMD FLUSH_QUEUE discards every frame in one queue (R212). -/
def execFlushQueue (slice : Nat) (queue : Nat) (s : State) : Host.Outcome State Fault Refusal :=
  .next (s.run (fun d => d.coreAccess (R.SCH_CMD.addr 0 0) true (doFlushQueue slice queue)))

/-- FLUSH_QUEUE_DONE: A queue flush completes (R212). -/
def execFlushQueueDone (s : State) : Host.Outcome State Fault Refusal :=
  .next (s.run (doFlushQueueDone))

/-- BOUND_SWITCH: A Thyme BOUND_SWITCH entry makes the inactive bound bank active (R239). -/
def execBoundSwitch (entry : Nat) (s : State) : Host.Outcome State Fault Refusal :=
  .next (s.run (doBoundSwitch entry))

/-- BOUND_BANK_COPY: At T + 2 µs the new active bound bank is copied into the other bank (R239). -/
def execBoundBankCopy (s : State) : Host.Outcome State Fault Refusal :=
  .next (s.run (doBoundBankCopy))

/-- ENV_INSTALL_TX: ENV_KEY_CMD INSTALL_TX installs an envelope transmit key (R273). -/
def execEnvInstallTx (port : Nat) (pos : Nat) (group : Nat) (master : Master) (s : State) : Host.Outcome State Fault Refusal :=
  .next (s.run (fun d => d.gated master (R.ENV_KEY_CMD.addr (port % 32) 0) ((2 ^ 28 + pos % 2 * 2 ^ 26 + group % 1024 * 2 ^ 16)) (doEnvInstallTx port pos group master)))

/-- ENV_INSTALL_RX: ENV_KEY_CMD INSTALL_RX installs an envelope receive key (R273). -/
def execEnvInstallRx (port : Nat) (pos : Nat) (master : Master) (s : State) : Host.Outcome State Fault Refusal :=
  .next (s.run (fun d => d.gated master (R.ENV_KEY_CMD.addr (port % 32) 0) ((2 * 2 ^ 28 + 2 ^ 27 + pos % 2 * 2 ^ 26)) (doEnvInstallRx port pos master)))

/-- ENV_SWITCH_NOW_TX: ENV_KEY_CMD SWITCH_NOW_TX switches to the LOADED envelope position at the next multiframe boundary (R273). -/
def execEnvSwitchNowTx (port : Nat) (master : Master) (s : State) : Host.Outcome State Fault Refusal :=
  .next (s.run (fun d => d.gated master (R.ENV_KEY_CMD.addr (port % 32) 0) (3 * 2 ^ 28) (doEnvSwitchNowTx port master)))

/-- ENV_ZEROIZE: ENV_KEY_CMD ZEROIZE erases one envelope key position (R273). -/
def execEnvZeroize (port : Nat) (dir : Nat) (pos : Nat) (master : Master) (s : State) : Host.Outcome State Fault Refusal :=
  .next (s.run (fun d => d.gated master (R.ENV_KEY_CMD.addr (port % 32) 0) ((4 * 2 ^ 28 + dir % 2 * 2 ^ 27 + pos % 2 * 2 ^ 26)) (doEnvZeroize port dir pos master)))

/-- ENV_ZEROIZE_ALL: ENV_KEY_CMD ZEROIZE_ALL erases all four envelope key positions (R273). -/
def execEnvZeroizeAll (port : Nat) (master : Master) (s : State) : Host.Outcome State Fault Refusal :=
  .next (s.run (fun d => d.gated master (R.ENV_KEY_CMD.addr (port % 32) 0) (5 * 2 ^ 28) (doEnvZeroizeAll port master)))

/-- ENV_KEY_ABORT: ENV_KEY_CMD ABORT requests the abort of an envelope key command by ticket (R273). -/
def execEnvKeyAbort (port : Nat) (ticket : Nat) (master : Master) (s : State) : Host.Outcome State Fault Refusal :=
  .next (s.run (fun d => d.gated master (R.ENV_KEY_CMD.addr (port % 32) 0) ((6 * 2 ^ 28 + ticket % 2 ^ 16)) (doEnvKeyAbort port ticket master)))

/-- ENV_KEY_STAGE: A write to ENV_KEY_STAGE fills the next envelope key or salt word (R295). -/
def execEnvKeyStage (port : Nat) (word : Nat) (master : Master) (s : State) : Host.Outcome State Fault Refusal :=
  .next (s.run (fun d => d.gated master (R.ENV_KEY_STAGE.addr (port % 32) 0) (word) (doEnvKeyStage port word master)))

/-- MULTIFRAME_BOUNDARY: At a multiframe boundary a LOADED envelope position becomes ACTIVE and the old one EMPTY (R269). -/
def execMultiframeBoundary (port : Nat) (s : State) : Host.Outcome State Fault Refusal :=
  .next (s.run (doMultiframeBoundary port))

/-- DEFECT_TIMER: A defect's set or clear integration time elapses and the defect changes state (R283). -/
def execDefectTimer (port : Nat) (defect : Nat) (s : State) : Host.Outcome State Fault Refusal :=
  .next (s.run (doDefectTimer port defect))

/-- ENGINE_FAULT: A fault in an envelope engine replaces the pipeline with the spare or fails the engine (R268). -/
def execEngineFault (port : Nat) (dir : Nat) (pipe : Nat) (block : Nat) (s : State) : Host.Outcome State Fault Refusal :=
  .next (s.run (doEngineFault port dir pipe block))

/-- RESTART_SEQ: MRG_CMD RESTART_SEQ restarts a fenced sequence-generator pair (R301). -/
def execRestartSeq (master : Master) (s : State) : Host.Outcome State Fault Refusal :=
  .next (s.run (fun d => d.gated master (R.MRG_CMD.addr 0 0) (2 ^ 28) (doRestartSeq master)))

/-- RESTART_MERGE: MRG_CMD RESTART_MERGE restarts a fenced merge pair (R301). -/
def execRestartMerge (master : Master) (s : State) : Host.Outcome State Fault Refusal :=
  .next (s.run (fun d => d.gated master (R.MRG_CMD.addr 0 0) (2 * 2 ^ 28) (doRestartMerge master)))

/-- RESTART_SELF_CHECK_DONE: The restart self-check ends and unfences the pair or leaves it fenced (R301). -/
def execRestartSelfCheckDone (pass : Bool) (s : State) : Host.Outcome State Fault Refusal :=
  .next (s.run (doRestartSelfCheckDone pass))

/-- QUIET_TIME_MET: A fenced pair has been fenced for QUIET_MS, allowing or triggering its restart (R301). -/
def execQuietTimeMet (pair : Nat) (s : State) : Host.Outcome State Fault Refusal :=
  .next (s.run (doQuietTimeMet pair))

/-- SLICE_RELOCATION: After an unprotected slice fence the active Sage core moves its services to the relocation slice (R316). -/
def execSliceRelocation (slice : Nat) (target : Nat) (s : State) : Host.Outcome State Fault Refusal :=
  .next (s.run (doSliceRelocation slice target))

/-- NEW_EPOCH: BAY_CMD NEW_EPOCH requests a new scrambler epoch (R337). -/
def execNewEpoch (bay : Nat) (master : Master) (s : State) : Host.Outcome State Fault Refusal :=
  .next (s.run (fun d => d.gated master (R.BAY_CMD.addr (bay % 4) 0) (2 ^ 28) (doNewEpoch bay master)))

/-- EPOCH_START: A pending epoch request is served: the new key fills the free slot (R337). -/
def execEpochStart (bay : Nat) (s : State) : Host.Outcome State Fault Refusal :=
  .next (s.run (doEpochStart bay))

/-- PREV_KEY_ERASE: At T0 + 300 ms old-epoch live cells are poisoned, the old key erased and quarantines released (R337). -/
def execPrevKeyErase (bay : Nat) (s : State) : Host.Outcome State Fault Refusal :=
  .next (s.run (doPrevKeyErase bay))

/-- EPOCH_AUTO_TIMER: One second after the first quarantine of an epoch a new epoch is requested (R337). -/
def execEpochAutoTimer (bay : Nat) (s : State) : Host.Outcome State Fault Refusal :=
  .next (s.run (doEpochAutoTimer bay))

/-- EPOCH_PERIOD_TIMER: EPOCH_PERIOD_H hours after an epoch began a new epoch is requested (R337). -/
def execEpochPeriodTimer (bay : Nat) (s : State) : Host.Outcome State Fault Refusal :=
  .next (s.run (doEpochPeriodTimer bay))

/-- BAY_TRAINING_DONE: A bay finishes training and initialisation and sets READY or FAILED (R339). -/
def execBayTrainingDone (bay : Nat) (ok : Bool) (rows : Nat) (s : State) : Host.Outcome State Fault Refusal :=
  .next (s.run (doBayTrainingDone bay ok rows))

/-- BAY_STACK_FAULT: A bay reports a stack fault and sets FAILED (R339). -/
def execBayStackFault (bay : Nat) (s : State) : Host.Outcome State Fault Refusal :=
  .next (s.run (doBayStackFault bay))

/-- PORT_FORM: A write of WIDTH and LANE_RATE forms or unforms a port (R345). -/
def execPortForm (line : Bool) (port : Nat) (rate : Nat) (width : Nat) (s : State) : Host.Outcome State Fault Refusal :=
  .next (s.run (fun d => d.coreAccess (pfCtrl line (port % 32)) true (doPortForm line port rate width)))

/-- PORT_ENABLE: Setting ENABLE on a formed port starts its bring-up (R356). -/
def execPortEnable (line : Bool) (port : Nat) (s : State) : Host.Outcome State Fault Refusal :=
  .next (s.run (fun d => d.coreAccess (pfCtrl line (port % 32)) true (doPortEnable line port)))

/-- PORT_DISABLE: Clearing ENABLE ends transmission, discards received and queued frames and erases envelope keys (R358). -/
def execPortDisable (line : Bool) (port : Nat) (cut : Bool) (s : State) : Host.Outcome State Fault Refusal :=
  .next (s.run (fun d => d.coreAccess (pfCtrl line (port % 32)) true (doPortDisable line port cut)))

/-- LANE_PLL_LOCK: A lane group's PLL locks and the transmit PCS starts (R356). -/
def execLanePllLock (group : Nat) (s : State) : Host.Outcome State Fault Refusal :=
  .next (s.run (doLanePllLock group))

/-- CDR_LOCK: A receiver's clock and data recovery locks once signal is present (R356). -/
def execCdrLock (lane : Nat) (s : State) : Host.Outcome State Fault Refusal :=
  .next (s.run (doCdrLock lane))

/-- ADAPT_DONE: A lane's initial equalizer adaptation completes (R356). -/
def execAdaptDone (lane : Nat) (s : State) : Host.Outcome State Fault Refusal :=
  .next (s.run (doAdaptDone lane))

/-- ADAPT_RESTART: A lane not adapted 50 ms after CDR_LOCK restarts from defaults (R356). -/
def execAdaptRestart (lane : Nat) (s : State) : Host.Outcome State Fault Refusal :=
  .next (s.run (doAdaptRestart lane))

/-- LINK_UP: The port's PCS reaches FEC, marker lock and deskew, and the link is up (R356). -/
def execLinkUp (line : Bool) (port : Nat) (skew : Nat) (freq : Nat) (s : State) : Host.Outcome State Fault Refusal :=
  .next (s.run (doLinkUp line port skew freq))

/-- LINK_DOWN: An aligned port loses its link and returns to step 3 of bring-up (R357). -/
def execLinkDown (line : Bool) (port : Nat) (cut : Bool) (s : State) : Host.Outcome State Fault Refusal :=
  .next (s.run (doLinkDown line port cut))

/-- FEC_WINDOW_END: A window of 8,192 codewords ends and HI_SER and FEC_DEGRADE are evaluated (R352). -/
def execFecWindowEnd (line : Bool) (port : Nat) (corrected : Nat) (uncorrectable : Nat) (symbols : Nat) (errors : Nat) (blocks : Nat) (cut : Bool) (s : State) : Host.Outcome State Fault Refusal :=
  .next (s.run (doFecWindowEnd line port corrected uncorrectable symbols errors blocks cut))

/-- REFCLK_LOSS: A lane PLL loses lock or its reference and its group's lanes reset and squelch (R350). -/
def execRefclkLoss (group : Nat) (cut : Bool) (s : State) : Host.Outcome State Fault Refusal :=
  .next (s.run (doRefclkLoss group cut))

/-- LOS: A lane loses its received signal (R364). -/
def execLos (lane : Nat) (s : State) : Host.Outcome State Fault Refusal :=
  .next (s.run (doLos lane))

/-- PREEMPT_VERIFY_ATTEMPT: An 802.3br verification attempt is made every VERIFY_MS, succeeding or failing (R355). -/
def execPreemptVerifyAttempt (port : Nat) (ok : Bool) (s : State) : Host.Outcome State Fault Refusal :=
  .next (s.run (doPreemptVerifyAttempt port ok))

/-- PRBS_CLEAR: LANE_PRBS_CTRL.CLEAR clears the error count and rearms PRBS_ERR (R360). -/
def execPrbsClear (lane : Nat) (s : State) : Host.Outcome State Fault Refusal :=
  .next (s.run (fun d => d.coreAccess (R.LANE_PRBS_CTRL.addr (lane % 64) 0) true (doPrbsClear lane)))

/-- STEP: TIM_ADJ_CMD STEP steps network time, firing stepped Thyme entries (R370). -/
def execStep (load : Bool) (master : Master) (s : State) : Host.Outcome State Fault Refusal :=
  .next (s.run (fun d => d.gated master (R.TIM_ADJ_CMD.addr 0 0) ((2 ^ 28 + b2n load * 2 ^ 27)) (doStep load master)))

/-- RATE: TIM_ADJ_CMD RATE rebases and loads a new rate adjustment (R370). -/
def execRate (master : Master) (s : State) : Host.Outcome State Fault Refusal :=
  .next (s.run (fun d => d.gated master (R.TIM_ADJ_CMD.addr 0 0) (2 * 2 ^ 28) (doRate master)))

/-- STEP_AND_RATE: TIM_ADJ_CMD STEP_AND_RATE steps network time and loads a new rate (R370). -/
def execStepAndRate (load : Bool) (master : Master) (s : State) : Host.Outcome State Fault Refusal :=
  .next (s.run (fun d => d.gated master (R.TIM_ADJ_CMD.addr 0 0) ((3 * 2 ^ 28 + b2n load * 2 ^ 27)) (doStepAndRate load master)))

/-- THYME_SECOND: Network time reaches TIM_SEC_NEXT: TIM_SEC rises and every per-second latch is taken (R371). -/
def execThymeSecond (s : State) : Host.Outcome State Fault Refusal :=
  .next (s.run (doThymeSecond))

/-- RAW_NS_WRAP: The raw nanosecond counter wraps, the wrap count rises and the time unit rebases (R368). -/
def execRawNsWrap (s : State) : Host.Outcome State Fault Refusal :=
  .next (s.run (doRawNsWrap))

/-- PPS_IN_EDGE: An active edge on PPS_IN is accepted and stamped or ignored as a glitch (R374). -/
def execPpsInEdge (at_ : Nat) (s : State) : Host.Outcome State Fault Refusal :=
  .next (s.run (doPpsInEdge at_))

/-- PPS_IN_LOSS: No PPS_IN edge has been accepted for 1.5 s (R374). -/
def execPpsInLoss (s : State) : Host.Outcome State Fault Refusal :=
  .next (s.run (doPpsInLoss))

/-- TOD_IN_MESSAGE: A 20-byte TOD_IN message is received, checked and paired with a PPS_IN edge (R375). -/
def execTodInMessage (msg : Bytes) (start : Nat) (at_ : Nat) (s : State) : Host.Outcome State Fault Refusal :=
  .next (s.run (doTodInMessage msg start at_))

/-- TIMECLK_GATE: Every 8,388,608th TIMECLK_IN edge ends a frequency measurement (R376). -/
def execTimeclkGate (at_ : Nat) (s : State) : Host.Outcome State Fault Refusal :=
  .next (s.run (doTimeclkGate at_))

/-- CLK_LOSS: No TIMECLK_IN edge for 1 µs clears TIMECLK_PRESENT (R376). -/
def execClkLoss (s : State) : Host.Outcome State Fault Refusal :=
  .next (s.run (doClkLoss))

/-- THY_WRITE: THY_CMD WRITE places a pending entry in the Thyme schedule or refuses it (R380). -/
def execThyWrite (master : Master) (s : State) : Host.Outcome State Fault Refusal :=
  .next (s.run (fun d => d.gated master (R.THY_CMD.addr 0 0) (2 ^ 28) (doThyWrite master)))

/-- THY_ABORT: THY_CMD ABORT requests the abort of a pending entry by ticket (R383). -/
def execThyAbort (ticket : Nat) (master : Master) (s : State) : Host.Outcome State Fault Refusal :=
  .next (s.run (fun d => d.gated master (R.THY_CMD.addr 0 0) ((2 * 2 ^ 28 + ticket % 2 ^ 16)) (doThyAbort ticket master)))

/-- THY_RELEASE: THY_CMD RELEASE frees an ended entry at once (R383). -/
def execThyRelease (entry : Nat) (master : Master) (s : State) : Host.Outcome State Fault Refusal :=
  .next (s.run (fun d => d.gated master (R.THY_CMD.addr 0 0) ((3 * 2 ^ 28 + entry % 4096 * 2 ^ 16)) (doThyRelease entry master)))

/-- ENTRY_HOLD_EXPIRY: An ended Thyme entry becomes FREE HOLD_MS after it ended (R383). -/
def execEntryHoldExpiry (entry : Nat) (s : State) : Host.Outcome State Fault Refusal :=
  .next (s.run (doEntryHoldExpiry entry))

/-- THY_DONE_FIFO_READ: A read of THY_DONE_FIFO removes the oldest result and latches its ticket and count (R384). -/
def execThyDoneFifoRead (s : State) : Host.Outcome State Fault Refusal :=
  .next (s.run (fun d => d.coreAccess (R.THY_DONE_FIFO.addr 0 0) false (doThyDoneFifoRead)))

/-- RULE_COMMIT: A RULE_COMMIT entry fires and makes the closed staged version current (R75). -/
def execRuleCommit (entry : Nat) (s : State) : Host.Outcome State Fault Refusal :=
  .next (s.run (doRuleCommit entry))

/-- KEY_ACCEPT: A KEY_ACCEPT entry fires and opens every LOADED receive entry of its group (R111). -/
def execKeyAccept (entry : Nat) (s : State) : Host.Outcome State Fault Refusal :=
  .next (s.run (doKeyAccept entry))

/-- KEY_SWITCH: A KEY_SWITCH entry fires and switches every LOADED transmit position of its group (R111). -/
def execKeySwitch (entry : Nat) (s : State) : Host.Outcome State Fault Refusal :=
  .next (s.run (doKeySwitch entry))

/-- KEY_RETIRE: A KEY_RETIRE entry fires and makes every OPEN receive entry of its group CLOSING (R111). -/
def execKeyRetire (entry : Nat) (s : State) : Host.Outcome State Fault Refusal :=
  .next (s.run (doKeyRetire entry))

/-- PULSE_ONE: A PULSE_ONE entry fires and gives one pulse on its pin (R385). -/
def execPulseOne (entry : Nat) (s : State) : Host.Outcome State Fault Refusal :=
  .next (s.run (doPulseOne entry))

/-- PULSE_START: A PULSE_START entry fires and starts a periodic pulse train (R385). -/
def execPulseStart (entry : Nat) (s : State) : Host.Outcome State Fault Refusal :=
  .next (s.run (doPulseStart entry))

/-- PULSE_STOP: A PULSE_STOP entry fires and stops the train after its current pulse (R385). -/
def execPulseStop (entry : Nat) (s : State) : Host.Outcome State Fault Refusal :=
  .next (s.run (doPulseStop entry))

/-- EVENT: An EVENT entry fires, placing its ARG in THY_USER_ARG and raising USER (R379). -/
def execEvent (entry : Nat) (s : State) : Host.Outcome State Fault Refusal :=
  .next (s.run (doEvent entry))

/-- PULSE_EDGE: A running pulse train reaches its next leading edge (R385). -/
def execPulseEdge (pin : Nat) (s : State) : Host.Outcome State Fault Refusal :=
  .next (s.run (doPulseEdge pin))

/-- PULSE_END: A pulse on a PPS_OUT pin ends after its width (R385). -/
def execPulseEnd (pin : Nat) (s : State) : Host.Outcome State Fault Refusal :=
  .next (s.run (doPulseEnd pin))

/-- PPS_OUT_CTRL_WRITE: A write to TIM_PPS_OUT_CTRL changes the pin's mode, stopping a train if MODE changes (R385). -/
def execPpsOutCtrlWrite (pin : Nat) (value : Nat) (s : State) : Host.Outcome State Fault Refusal :=
  .next (s.run (fun d => d.coreAccess (R.TIM_PPS_OUT_CTRL.addr (pin % 4) 0) true (doPpsOutCtrlWrite pin value)))

/-- SNAPSHOT_CAPTURE: A read of TIM_SNAP_RAW_NS captures every time snapshot register in one cycle (R390). -/
def execSnapshotCapture (s : State) : Host.Outcome State Fault Refusal :=
  .next (s.run (fun d => d.coreAccess (R.TIM_SNAP_RAW_NS.addr 0 0) false (doSnapshotCapture)))

/-- TXS_FIFO_READ: A read of TIM_TXS_INFO removes the oldest transmit stamp and latches its ns (R390). -/
def execTxsFifoRead (s : State) : Host.Outcome State Fault Refusal :=
  .next (s.run (fun d => d.coreAccess (R.TIM_TXS_INFO.addr 0 0) false (doTxsFifoRead)))

/-- PPS_IN_STATUS_READ: A read of TIM_PPS_IN_STATUS clears VALID and freezes the stamp registers (R390). -/
def execPpsInStatusRead (s : State) : Host.Outcome State Fault Refusal :=
  .next (s.run (fun d => d.coreAccess (R.TIM_PPS_IN_STATUS.addr 0 0) false (doPpsInStatusRead)))

/-- TOD_STATUS_READ: A read of TIM_TOD_STATUS clears VALID and freezes the message registers (R390). -/
def execTodStatusRead (s : State) : Host.Outcome State Fault Refusal :=
  .next (s.run (fun d => d.coreAccess (R.TIM_TOD_STATUS.addr 0 0) false (doTodStatusRead)))

/-- SAGE_RENEW: A write to SAGE_RENEW by the holder renews the lease (R393). -/
def execSageRenew (value : Nat) (master : Master) (s : State) : Host.Outcome State Fault Refusal :=
  .next (s.run (fun d => (d.gated master (R.SAGE_RENEW.addr 0 0) (value) (doSageRenew value master)).gapOver d))

/-- SAGE_ALIVE: A write to SAGE_ALIVE records the writing core as alive and healthy or not (R393). -/
def execSageAlive (value : Nat) (master : Master) (s : State) : Host.Outcome State Fault Refusal :=
  .next (s.run (fun d => d.gated master (R.SAGE_ALIVE.addr 0 0) (value) (doSageAlive value master)))

/-- ALIVE_TIMEOUT: A core that has not written SAGE_ALIVE for 4 ms ceases to be eligible (R393). -/
def execAliveTimeout (core : Nat) (s : State) : Host.Outcome State Fault Refusal :=
  .next (s.run (doAliveTimeout core))

/-- LEASE_EXPIRY: The lease expires LEASE_MS after the last accepted renewal (R394). -/
def execLeaseExpiry (s : State) : Host.Outcome State Fault Refusal :=
  .next (s.run (doLeaseExpiry))

/-- LEASE_GRANT: The lease is granted to an eligible core and the takeover gap ends (R394). -/
def execLeaseGrant (s : State) : Host.Outcome State Fault Refusal :=
  .next (s.run (doLeaseGrant))

/-- SAGE_HANDOVER: A write to SAGE_HANDOVER passes the lease to the eligible other core (R397). -/
def execSageHandover (value : Nat) (master : Master) (s : State) : Host.Outcome State Fault Refusal :=
  .next (s.run (fun d => d.gated master (R.SAGE_HANDOVER.addr 0 0) (value) (doSageHandover value master)))

/-- REVERT_HOLDOFF_MET: Sage A has been eligible for HOLDOFF_S while Sage B holds the lease, so a revert is pending (R397). -/
def execRevertHoldoffMet (s : State) : Host.Outcome State Fault Refusal :=
  .next (s.run (doRevertHoldoffMet))

/-- SAGE_WDT_KICK: A write to SAGE_WDT_KICK restarts the writing core's watchdog (R398). -/
def execSageWdtKick (value : Nat) (master : Master) (s : State) : Host.Outcome State Fault Refusal :=
  .next (s.run (fun d => d.gated master (R.SAGE_WDT_KICK.addr 0 0) (value) (doSageWdtKick value master)))

/-- CORE_WATCHDOG_EXPIRY: A core watchdog expires and resets that core alone (R398). -/
def execCoreWatchdogExpiry (core : Nat) (s : State) : Host.Outcome State Fault Refusal :=
  .next (s.run (doCoreWatchdogExpiry core))

/-- GLOBAL_WATCHDOG_EXPIRY: Nobody has held the lease for GLOBAL_S and a system reset follows (R398). -/
def execGlobalWatchdogExpiry (s : State) : Host.Outcome State Fault Refusal :=
  .next (s.run (doGlobalWatchdogExpiry))

/-- IMAGE_COMMIT: SAGE_CTRL.IMAGE_COMMIT locks RWL fields and leaves the restricted state (R412). -/
def execImageCommit (master : Master) (s : State) : Host.Outcome State Fault Refusal :=
  .next (s.run (fun d => d.gated master (R.SAGE_CTRL.addr 0 0) (15) (doImageCommit master)))

/-- BOOT_CONFIGURATION: After core release the firmware applies the image, scans and replays the journal and commits the rule version (R410). -/
def execBootConfiguration (s : State) : Host.Outcome State Fault Refusal :=
  .next (s.run (doBootConfiguration))

/-- UPD_START: NVL_UPD_CMD START withdraws the target slot's commit records and erases the slot (R413). -/
def execUpdStart (master : Master) (s : State) : Host.Outcome State Fault Refusal :=
  .next (s.run (fun d => d.gated master (R.NVL_UPD_CMD.addr 0 0) (2 ^ 28) (doUpdStart master)))

/-- UPD_ERASE_DONE: Erasure of the target slot and journal completes and the engine is RECEIVING (R413). -/
def execUpdEraseDone (fail : Option Nat) (s : State) : Host.Outcome State Fault Refusal :=
  .next (s.run (doUpdEraseDone fail))

/-- UPD_DATA: A write to NVL_UPD_DATA fills the next page of the image and programs full pages (R413). -/
def execUpdData (word : Nat) (fail : Bool) (master : Master) (s : State) : Host.Outcome State Fault Refusal :=
  .next (s.run (fun d => d.gated master (R.NVL_UPD_DATA.addr 0 0) (word) (doUpdData word fail master)))

/-- UPD_FINISH: NVL_UPD_CMD FINISH starts verification of the target slot (R413). -/
def execUpdFinish (master : Master) (s : State) : Host.Outcome State Fault Refusal :=
  .next (s.run (fun d => d.gated master (R.NVL_UPD_CMD.addr 0 0) (2 * 2 ^ 28) (doUpdFinish master)))

/-- UPD_VERIFY_DONE: Verification of the updated slot ends VERIFIED or ABORTED (R413). -/
def execUpdVerifyDone (readErr : Bool) (s : State) : Host.Outcome State Fault Refusal :=
  .next (s.run (doUpdVerifyDone readErr))

/-- UPD_COMMIT: NVL_UPD_CMD COMMIT writes commit records for the target slot on both chip selects (R413). -/
def execUpdCommit (master : Master) (s : State) : Host.Outcome State Fault Refusal :=
  .next (s.run (fun d => d.gated master (R.NVL_UPD_CMD.addr 0 0) (3 * 2 ^ 28) (doUpdCommit master)))

/-- UPD_COMPLETE: Both commit records read back valid and the update is DONE (R414). -/
def execUpdComplete (fail : Option (Nat × Nat)) (s : State) : Host.Outcome State Fault Refusal :=
  .next (s.run (doUpdComplete fail))

/-- UPD_ABORT: NVL_UPD_CMD ABORT requests the abort of an update by ticket (R414). -/
def execUpdAbort (ticket : Nat) (master : Master) (s : State) : Host.Outcome State Fault Refusal :=
  .next (s.run (fun d => d.gated master (R.NVL_UPD_CMD.addr 0 0) ((4 * 2 ^ 28 + ticket % 2 ^ 16)) (doUpdAbort ticket master)))

/-- SVN_ADVANCE: NVL_SVN_CMD ADVANCE programs a higher fused SVN (R415). -/
def execSvnAdvance (value : Nat) (master : Master) (s : State) : Host.Outcome State Fault Refusal :=
  .next (s.run (fun d => d.gated master (R.NVL_SVN_CMD.addr 0 0) ((2 ^ 28 + value % 64)) (doSvnAdvance value master)))

/-- SVN_DONE: Programming and verification of the SVN fuses complete (R415). -/
def execSvnDone (s : State) : Host.Outcome State Fault Refusal :=
  .next (s.run (doSvnDone))

/-- CS_LOAD: SAGE_CS_CMD LOAD takes the change set in the mailbox into VERIFYING (R416). -/
def execCsLoad (master : Master) (s : State) : Host.Outcome State Fault Refusal :=
  .next (s.run (fun d => d.gated master (R.SAGE_CS_CMD.addr 0 0) (2 ^ 28) (doCsLoad master)))

/-- SAGE_MBOX_CLEAR: SAGE_MBOX_CTRL.CLEAR empties the change-set mailbox (R416). -/
def execSageMboxClear (master : Master) (s : State) : Host.Outcome State Fault Refusal :=
  .next (s.run (fun d => d.gated master (R.SAGE_MBOX_CTRL.addr 0 0) (2 ^ 31) (doSageMboxClear master)))

/-- SAGE_MBOX_DATA: A write to SAGE_MBOX_DATA appends the next word of a change set (R416). -/
def execSageMboxData (word : Nat) (master : Master) (s : State) : Host.Outcome State Fault Refusal :=
  .next (s.run (fun d => d.gated master (R.SAGE_MBOX_DATA.addr 0 0) (word) (doSageMboxData word master)))

/-- CS_VERIFY_DONE: Verification of a change set ends, refusing it or moving it to STAGING (R417). -/
def execCsVerifyDone (s : State) : Host.Outcome State Fault Refusal :=
  .next (s.run (doCsVerifyDone))

/-- CS_STAGING_DONE: Staging of a change set ends with its journal record, version and Thyme entries written (R417). -/
def execCsStagingDone (fail : Option Nat) (s : State) : Host.Outcome State Fault Refusal :=
  .next (s.run (doCsStagingDone fail))

/-- CS_CUTOFF: Network time reaches T - 1 ms and the change-set cut-off is ordered (R417). -/
def execCsCutoff (s : State) : Host.Outcome State Fault Refusal :=
  .next (s.run (doCsCutoff))

/-- CS_ABORT: SAGE_CS_CMD ABORT requests the abort of a change set by ticket (R419). -/
def execCsAbort (ticket : Nat) (master : Master) (s : State) : Host.Outcome State Fault Refusal :=
  .next (s.run (fun d => d.gated master (R.SAGE_CS_CMD.addr 0 0) ((2 * 2 ^ 28 + ticket % 2 ^ 16)) (doCsAbort ticket master)))

/-- CS_POST_AND_MARK: After the change set's entries fire the core applies POST records and programs the journal MARK (R417). -/
def execCsPostAndMark (s : State) : Host.Outcome State Fault Refusal :=
  .next (s.run (doCsPostAndMark))

/-- OOB_DATAGRAM_RX: An out-of-band fleet datagram is received, reassembled and unsealed (R432). -/
def execOobDatagramRx (datagram : Bytes) (s : State) : Host.Outcome State Fault Refusal :=
  .next (s.run (doOobDatagramRx datagram))

/-- FRAGMENT_TIMEOUT: A message whose fragments are not all received within 1 s is discarded (R432). -/
def execFragmentTimeout (s : State) : Host.Outcome State Fault Refusal :=
  .next (s.run (doFragmentTimeout))

/-- HELLO_INIT: A HELLO_INIT is checked and answered with HELLO_RESP (R435). -/
def execHelloInit (at_ : FleetAt) (s : State) : Host.Outcome State Fault Refusal :=
  .next (s.run (doHelloInit at_))

/-- HELLO_RESP: A HELLO_RESP is checked, keys are derived and HELLO_CONFIRM sent (R435). -/
def execHelloResp (at_ : FleetAt) (s : State) : Host.Outcome State Fault Refusal :=
  .next (s.run (doHelloResp at_))

/-- HELLO_CONFIRM: A HELLO_CONFIRM tag is verified and the responder holds the association up (R436). -/
def execHelloConfirm (at_ : FleetAt) (s : State) : Host.Outcome State Fault Refusal :=
  .next (s.run (doHelloConfirm at_))

/-- NUDGE: A NUDGE from a valid member makes the module send HELLO_INIT (R434). -/
def execNudge (at_ : FleetAt) (s : State) : Host.Outcome State Fault Refusal :=
  .next (s.run (doNudge at_))

/-- NUDGE_TIMER: Once per second a module nudges each lower-indexed member it is not associated with (R434). -/
def execNudgeTimer (s : State) : Host.Outcome State Fault Refusal :=
  .next (s.run (doNudgeTimer))

/-- HELLO_WAIT_TIMEOUT: The initiator's wait for HELLO_RESP or its retry interval expires (R437). -/
def execHelloWaitTimeout (member : Nat) (s : State) : Host.Outcome State Fault Refusal :=
  .next (s.run (doHelloWaitTimeout member))

/-- ASSOC_RENEWAL: At 90% of ASSOC_LIFE_H the initiator runs a new handshake (R437). -/
def execAssocRenewal (member : Nat) (s : State) : Host.Outcome State Fault Refusal :=
  .next (s.run (doAssocRenewal member))

/-- OLD_KEYS_EXPIRY: Old association keys are erased 60 s after the new association is up (R437). -/
def execOldKeysExpiry (member : Nat) (s : State) : Host.Outcome State Fault Refusal :=
  .next (s.run (doOldKeysExpiry member))

/-- HEARTBEAT: A received HEARTBEAT sets the peer's consensus state and key-server view (R453). -/
def execHeartbeat (at_ : FleetAt) (s : State) : Host.Outcome State Fault Refusal :=
  .next (s.run (doHeartbeat at_))

/-- HEARTBEAT_SEND: Once per Thyme second at its index offset a module sends each associated peer a heartbeat (R448). -/
def execHeartbeatSend (s : State) : Host.Outcome State Fault Refusal :=
  .next (s.run (doHeartbeatSend))

/-- PEER_LOST: No message from a peer for PEER_LOST_S ends the association and flushes its learning entries (R448). -/
def execPeerLost (member : Nat) (s : State) : Host.Outcome State Fault Refusal :=
  .next (s.run (doPeerLost member))

/-- DIGEST_REQ: A DIGEST_REQ is answered with the service digests asked for (R454). -/
def execDigestReq (at_ : FleetAt) (s : State) : Host.Outcome State Fault Refusal :=
  .next (s.run (doDigestReq at_))

/-- DIGEST_RESP: A DIGEST_RESP is compared and services whose digests differ are gated or ungated (R454). -/
def execDigestResp (at_ : FleetAt) (s : State) : Host.Outcome State Fault Refusal :=
  .next (s.run (doDigestResp at_))

/-- DIGEST_RESP_TIMEOUT: A service with no digest answer within 2 s is gated (R454). -/
def execDigestRespTimeout (member : Nat) (s : State) : Host.Outcome State Fault Refusal :=
  .next (s.run (doDigestRespTimeout member))

/-- GATE_GRACE_EXPIRY: After GATE_GRACE_S a STOP-gated service's transmit entries towards the peer are zeroized (R454). -/
def execGateGraceExpiry (member : Nat) (service : Nat) (s : State) : Host.Outcome State Fault Refusal :=
  .next (s.run (doGateGraceExpiry member service))

/-- KEY_OFFER: A KEY_OFFER is unwrapped and its receive entry or envelope position installed, then answered (R438). -/
def execKeyOffer (at_ : FleetAt) (put : Placement) (s : State) : Host.Outcome State Fault Refusal :=
  .next (s.run (doKeyOffer at_ put))

/-- KEY_ACK: A KEY_ACK makes the transmitter install its key and schedule the switch, or fail the offer (R440). -/
def execKeyAck (at_ : FleetAt) (s : State) : Host.Outcome State Fault Refusal :=
  .next (s.run (doKeyAck at_))

/-- KEY_CANCEL: A KEY_CANCEL makes the receiver abort the offer's entries and zeroize the new entry (R443). -/
def execKeyCancel (at_ : FleetAt) (s : State) : Host.Outcome State Fault Refusal :=
  .next (s.run (doKeyCancel at_))

/-- KSI_NOTICE: A KSI_NOTICE sets the PEER_KSI of the flood entries towards the neighbour (R445). -/
def execKsiNotice (at_ : FleetAt) (s : State) : Host.Outcome State Fault Refusal :=
  .next (s.run (doKsiNotice at_))

/-- REKEY_REQ: A REKEY_REQ makes the key server rekey the group key of the service (R445). -/
def execRekeyReq (at_ : FleetAt) (s : State) : Host.Outcome State Fault Refusal :=
  .next (s.run (doRekeyReq at_))

/-- KS_HANDOVER: A KS_HANDOVER passes the key-server role to the successor with the new term (R446). -/
def execKsHandover (at_ : FleetAt) (s : State) : Host.Outcome State Fault Refusal :=
  .next (s.run (doKsHandover at_))

/-- OFFER_RESEND: An unanswered key offer is re-sent every 2 s, up to five times (R438). -/
def execOfferResend (index : Nat) (s : State) : Host.Outcome State Fault Refusal :=
  .next (s.run (doOfferResend index))

/-- KEY_CHANGE_START: On a PRETRIGGER or exhaustion the transmitting module draws a new key and offers it (R440). -/
def execKeyChangeStart (ch : Chan) (an : Nat) (suite : Nat) (soon : Bool) (put : Placement) (s : State) : Host.Outcome State Fault Refusal :=
  .next (s.run (doKeyChangeStart ch an suite soon put))

/-- KS_LEASE_EXPIRY: No key-server claim for KS_LEASE_S lets the top-ranked capable member claim the role (R446). -/
def execKsLeaseExpiry (s : State) : Host.Outcome State Fault Refusal :=
  .next (s.run (doKsLeaseExpiry))

/-- KS_HOLDOFF_MET: A higher-ranked member has been capable for KS_HOLDOFF_S and the holder hands over (R446). -/
def execKsHoldoffMet (member : Nat) (s : State) : Host.Outcome State Fault Refusal :=
  .next (s.run (doKsHoldoffMet member))

/-- MKA_MKPDU: An MKA EAPOL frame received on an F-mode port is processed by the active Sage core (R290). -/
def execMkaMkpdu (index : Nat) (s : State) : Host.Outcome State Fault Refusal :=
  .next (s.run (doMkaMkpdu index))

/-- MKA_HELLO_TIMER: The MKA hello time of 2 s elapses and an MKPDU is sent (R290). -/
def execMkaHelloTimer (port : Nat) (s : State) : Host.Outcome State Fault Refusal :=
  .next (s.run (doMkaHelloTimer port))

/-- NOISE_BLOCK_COMPLETE: A block of 1,024 samples completes, is conditioned and enters the pool (R459). -/
def execNoiseBlockComplete (source : Nat) (samples : Bytes) (s : State) : Host.Outcome State Fault Refusal :=
  .next (s.run (fun d => (doNoiseBlockComplete source samples d).alarms))

/-- STARTUP_TEST_DONE: A source's start-up test ends and it enters RUN (R462). -/
def execStartupTestDone (source : Nat) (samples : Bytes) (s : State) : Host.Outcome State Fault Refusal :=
  .next (s.run (fun d => (doStartupTestDone source samples d).alarms))

/-- SOURCE_RESTART_DONE: A source's restart test ends, returning it to RUN or counting a further failure (R463). -/
def execSourceRestartDone (source : Nat) (samples : Bytes) (s : State) : Host.Outcome State Fault Refusal :=
  .next (s.run (fun d => (doSourceRestartDone source samples d).alarms))

/-- DRBG_INSTANTIATE: The DRBG is instantiated from the first conditioned block and Mint becomes READY (R465). -/
def execDrbgInstantiate (s : State) : Host.Outcome State Fault Refusal :=
  .next (s.run (doDrbgInstantiate))

/-- MINT_REQUEST_SERVE: Mint serves the next generate request by priority (R469). -/
def execMintRequestServe (s : State) : Host.Outcome State Fault Refusal :=
  .next (s.run (doMintRequestServe))

/-- MINT_RESEED: At a request boundary with a pool block, a due reseed of the DRBG is made (R466). -/
def execMintReseed (s : State) : Host.Outcome State Fault Refusal :=
  .next (s.run (doMintReseed))

/-- RESEED_TIMER: RESEED_MS elapse since the last reseed and a reseed becomes due (R466). -/
def execReseedTimer (s : State) : Host.Outcome State Fault Refusal :=
  .next (s.run (doReseedTimer))

/-- MNT_CMD_KEY: MNT_CMD OP KEY asks Mint for key material into MNT_KEY_OUT (R471). -/
def execMntCmdKey (words : Nat) (master : Master) (s : State) : Host.Outcome State Fault Refusal :=
  .next (s.run (fun d => d.gated master (R.MNT_CMD.addr 0 0) ((2 ^ 28 + words % 32)) (doMntCmdKey words master)))

/-- MNT_CMD_RAND: MNT_CMD OP RAND asks Mint for random words into MNT_RAND_OUT (R471). -/
def execMntCmdRand (words : Nat) (master : Master) (s : State) : Host.Outcome State Fault Refusal :=
  .next (s.run (fun d => d.gated master (R.MNT_CMD.addr 0 0) ((2 * 2 ^ 28 + words % 32)) (doMntCmdRand words master)))

/-- MNT_CMD_RESEED: MNT_CMD OP RESEED makes a reseed pending (R466). -/
def execMntCmdReseed (master : Master) (s : State) : Host.Outcome State Fault Refusal :=
  .next (s.run (fun d => d.gated master (R.MNT_CMD.addr 0 0) (3 * 2 ^ 28) (doMntCmdReseed master)))

/-- MNT_CMD_KAT: MNT_CMD OP KAT generates 512 bits from the DRBG test instance (R474). -/
def execMntCmdKat (master : Master) (s : State) : Host.Outcome State Fault Refusal :=
  .next (s.run (fun d => d.gated master (R.MNT_CMD.addr 0 0) (4 * 2 ^ 28) (doMntCmdKat master)))

/-- MNT_KEY_OUT_READ: A read of MNT_KEY_OUT returns and erases the next key word (R471). -/
def execMntKeyOutRead (master : Master) (s : State) : Host.Outcome State Fault Refusal :=
  .next (s.run (fun d => d.readBy master (R.MNT_KEY_OUT.addr 0 0) (doMntKeyOutRead master)))

/-- MNT_RAND_OUT_READ: A read of MNT_RAND_OUT returns and erases the next random word (R471). -/
def execMntRandOutRead (master : Master) (s : State) : Host.Outcome State Fault Refusal :=
  .next (s.run (fun d => d.readBy master (R.MNT_RAND_OUT.addr 0 0) (doMntRandOutRead master)))

/-- SOURCE_RESTART: MNT_SRC_CTRL.RESTART restarts a noise source (R463). -/
def execSourceRestart (mask : Nat) (master : Master) (s : State) : Host.Outcome State Fault Refusal :=
  .next (s.run (fun d => d.gated master (R.MNT_SRC_CTRL.addr 0 0) ((mask % 16 * 16 + 15)) (doSourceRestart mask master)))

/-- SOURCE_ENABLE: A write of MNT_SRC_CTRL.EN enables or disables sources, re-enabling running the start-up test (R462). -/
def execSourceEnable (enable : Nat) (s : State) : Host.Outcome State Fault Refusal :=
  .next (s.run (fun d => d.coreAccess (R.MNT_SRC_CTRL.addr 0 0) true (doSourceEnable enable)))

/-- TEST_CTRL_WRITE: A write to MNT_TEST_CTRL switches injection, live injection or capture on or off (R474). -/
def execTestCtrlWrite (value : Nat) (master : Master) (s : State) : Host.Outcome State Fault Refusal :=
  .next (s.run (fun d => d.gated master (R.MNT_TEST_CTRL.addr 0 0) (value) (doTestCtrlWrite value master)))

/-- MNT_TEST_DATA: A write to MNT_TEST_DATA selects a source or supplies an injection or KAT word (R476). -/
def execMntTestData (word : Nat) (master : Master) (s : State) : Host.Outcome State Fault Refusal :=
  .next (s.run (fun d => d.gated master (R.MNT_TEST_DATA.addr 0 0) (word) (doMntTestData word master)))

/-- MNT_TEST_OUT_READ: A read of MNT_TEST_OUT returns the next conditioned or KAT output word (R474). -/
def execMntTestOutRead (master : Master) (s : State) : Host.Outcome State Fault Refusal :=
  .next (s.run (fun d => d.readBy master (R.MNT_TEST_OUT.addr 0 0) (doMntTestOutRead master)))

/-- RAW_CAPTURE_READ: A read of MNT_RAW_CAPTURE returns and removes 16 captured samples (R474). -/
def execRawCaptureRead (master : Master) (s : State) : Host.Outcome State Fault Refusal :=
  .next (s.run (fun d => d.readBy master (R.MNT_RAW_CAPTURE.addr 0 0) (doRawCaptureRead master)))

/-- EVENT_ORDERING: The arbiter orders the cycle's occurrences, latches them and drives IRQ_N and ALARM_N (R480). -/
def execEventOrdering (s : State) : Host.Outcome State Fault Refusal :=
  .next (s.run (doEventOrdering))

/-- EVT_FIFO_READ: A read of EVT_FIFO_INFO removes the oldest event record and latches its sequence and time (R483). -/
def execEvtFifoRead (s : State) : Host.Outcome State Fault Refusal :=
  .next (s.run (fun d => d.coreAccess (R.EVT_FIFO_INFO.addr 0 0) false (doEvtFifoRead)))

/-- EVT_SW_RAISE: A write to EVT_SW_RAISE by the active Sage core raises a firmware source (R479). -/
def execEvtSwRaise (bit : Nat) (master : Master) (s : State) : Host.Outcome State Fault Refusal :=
  .next (s.run (fun d => d.gated master (R.EVT_SW_RAISE.addr 0 0) (bit) (doEvtSwRaise bit master)))

/-- EVT_FORCE: A write to EVT_FORCE forces an occurrence of a source without response (R499). -/
def execEvtForce (source : Nat) (eventBit : Nat) (master : Master) (s : State) : Host.Outcome State Fault Refusal :=
  .next (s.run (fun d => d.gated master (R.EVT_FORCE.addr 0 0) ((source % 2048 * 2 ^ 16 + eventBit % 32 * 2 ^ 11)) (doEvtForce source eventBit master)))

/-- LIGHT_DETECTOR_TRIP: A light detector of a tamper region trips and its response class is taken (R485). -/
def execLightDetectorTrip (region : Nat) (detector : Nat) (s : State) : Host.Outcome State Fault Refusal :=
  .next (s.run (doLightDetectorTrip region detector))

/-- DETECTOR_DISAGREE: A region's two detector designs disagree for DISAGREE_MS and its detector fault occurs (R486). -/
def execDetectorDisagree (region : Nat) (s : State) : Host.Outcome State Fault Refusal :=
  .next (s.run (doDetectorDisagree region))

/-- ENVIRONMENT_TRIP: An environment monitor trips on voltage, glitch, rail, clock, temperature or flash loss (R488). -/
def execEnvironmentTrip (source : Nat) (s : State) : Host.Outcome State Fault Refusal :=
  .next (s.run (doEnvironmentTrip source))

/-- CLASS3_HOLD: After a class 3 response the module is held in reset once records are durable or 10 ms pass (R492). -/
def execClass3Hold (s : State) : Host.Outcome State Fault Refusal :=
  .next (s.run (doClass3Hold))

/-- TAMP_UNMUTE: A write to TAMP_UNMUTE ends the mute of a scope or is refused (R491). -/
def execTampUnmute (scopes : Nat) (master : Master) (s : State) : Host.Outcome State Fault Refusal :=
  .next (s.run (fun d => d.gated master (R.TAMP_UNMUTE.addr 0 0) (scopes) (doTampUnmute scopes master)))

/-- AUTO_UNMUTE: With AUTO_UNMUTE, a mute ends when no muting source has been tripped for MUTE_HOLD_MS (R491). -/
def execAutoUnmute (scope : Nat) (s : State) : Host.Outcome State Fault Refusal :=
  .next (s.run (doAutoUnmute scope))

/-- TAMP_FUSE_CONFIRM: A write to TAMP_FUSE_CONFIRM arms a region fuse command for 1 ms (R487). -/
def execTampFuseConfirm (value : Nat) (master : Master) (s : State) : Host.Outcome State Fault Refusal :=
  .next (s.run (fun d => d.gated master (R.TAMP_FUSE_CONFIRM.addr 0 0) (value) (doTampFuseConfirm value master)))

/-- TAMP_FUSE_CMD: TAMP_FUSE_CMD blows the fuses of the named tamper regions (R487). -/
def execTampFuseCmd (regions : Nat) (master : Master) (s : State) : Host.Outcome State Fault Refusal :=
  .next (s.run (fun d => d.gated master (R.TAMP_FUSE_CMD.addr 0 0) (regions) (doTampFuseCmd regions master)))

/-- FUSE_DONE: Blowing a region fuse completes (R487). -/
def execFuseDone (ok : Bool) (s : State) : Host.Outcome State Fault Refusal :=
  .next (s.run (doFuseDone ok))

/-- STICKY_CLEAR: A W1C write to a sticky tamper flag clears it only when its Rosemary copy is durable (R493). -/
def execStickyClear (which : Nat) (mask : Nat) (master : Master) (s : State) : Host.Outcome State Fault Refusal :=
  .next (s.run (fun d => d.gated master (stickyAddr which) (mask) (doStickyClear which mask master)))

/-- ROSEMARY_PAGE_PROGRAM: The Rosemary writer programs a page of four records to flash when full or due (R496). -/
def execRosemaryPageProgram (s : State) : Host.Outcome State Fault Refusal :=
  .next (s.run (doRosemaryPageProgram))

/-- POWER_ON: VAUX crosses its power-on threshold rising, or falls below it, resetting everything (R525). -/
def execPowerOn (up : Bool) (s : State) : Host.Outcome State Fault Refusal :=
  .next (s.run (doPowerOn up))

/-- BOR_VIN: VIN falls below its brown-out threshold and a system reset is asserted (R525). -/
def execBorVin (below : Bool) (s : State) : Host.Outcome State Fault Refusal :=
  .next (s.run (doBorVin below))

/-- BOR_VAUX: VAUX falls below its brown-out threshold and a system reset is asserted (R525). -/
def execBorVaux (below : Bool) (s : State) : Host.Outcome State Fault Refusal :=
  .next (s.run (doBorVaux below))

/-- RESET_PIN: RESET_N held low for at least 1 µs causes a system reset (R505). -/
def execResetPin (ns : Nat) (s : State) : Host.Outcome State Fault Refusal :=
  .next (s.run (doResetPin ns))

/-- SW_RESET: RST_SW_CMD with the right KEY resets the system, a domain or a core (R505). -/
def execSwReset (key : Nat) (scope : Nat) (master : Master) (s : State) : Host.Outcome State Fault Refusal :=
  .next (s.run (fun d => d.gated master (R.RST_SW_CMD.addr 0 0) ((key % 2 ^ 16 * 2 ^ 16 + scope % 2 ^ 16)) (doSwReset key scope master)))

/-- DEBUG_RESET: The JTAG debug-reset instruction causes a system reset where permitted (R505). -/
def execDebugReset (s : State) : Host.Outcome State Fault Refusal :=
  .next (s.run (doDebugReset))

/-- CLOCK_FAILURE: A clock monitor finds a domain clock failed and resets that domain or the system (R510). -/
def execClockFailure (domain : Nat) (s : State) : Host.Outcome State Fault Refusal :=
  .next (s.run (doClockFailure domain))

/-- LOCKUP_CORE: A core retires no instruction for 100,000 cycles with an access outstanding and is reset (R505). -/
def execLockupCore (core : Nat) (target : Nat) (s : State) : Host.Outcome State Fault Refusal :=
  .next (s.run (doLockupCore core target))

/-- LOCKUP_FABRIC: An interconnect access outstanding for 1,000,000 cycles causes a system reset (R505). -/
def execLockupFabric (master : Nat) (target : Nat) (s : State) : Host.Outcome State Fault Refusal :=
  .next (s.run (doLockupFabric master target))

/-- RAIL_FAULT: A rail instance outside ±10% for 10 µs holds its domain in reset (R528). -/
def execRailFault (rail : Nat) (s : State) : Host.Outcome State Fault Refusal :=
  .next (s.run (doRailFault rail))

/-- RAIL_RECOVERED: A faulted rail has been within ±5% for 1 ms and its domain may leave reset (R528). -/
def execRailRecovered (rail : Nat) (s : State) : Host.Outcome State Fault Refusal :=
  .next (s.run (doRailRecovered rail))

/-- PHASE_OCP: A phase above 150% of its share for 1 µs is shed (R527). -/
def execPhaseOcp (phase : Nat) (s : State) : Host.Outcome State Fault Refusal :=
  .next (s.run (doPhaseOcp phase))

/-- RAIL_POWER_UP: The power manager brings up the internal rails in order (R526). -/
def execRailPowerUp (us : Nat) (s : State) : Host.Outcome State Fault Refusal :=
  .next (s.run (doRailPowerUp us))

/-- TRIM_LOAD: Analog trims are loaded from fuse copies while the strap is measured (R521). -/
def execTrimLoad (ohms : Nat) (s : State) : Host.Outcome State Fault Refusal :=
  .next (s.run (doTrimLoad ohms))

/-- CLOCKS_GOOD: Every PLL reports lock and 4,096 stable cycles (R510). -/
def execClocksGood (mask : Nat) (s : State) : Host.Outcome State Fault Refusal :=
  .next (s.run (doClocksGood mask))

/-- ZEROIZATION_DONE: Zeroization of the domains being released completes and verifies (R511). -/
def execZeroizationDone (us : Nat) (fails : Nat) (s : State) : Host.Outcome State Fault Refusal :=
  .next (s.run (doZeroizationDone us fails))

/-- DOMAIN_RELEASE: The control island, then the shell and the halves are released in order (R509). -/
def execDomainRelease (s : State) : Host.Outcome State Fault Refusal :=
  .next (s.run (doDomainRelease))

/-- SLOT_CHOICE: The flash loader reads option bytes if needed, chooses a slot and starts verification (R408). -/
def execSlotChoice (size0 : Nat) (size1 : Nat) (copy0 : Bytes) (copy1 : Bytes) (s : State) : Host.Outcome State Fault Refusal :=
  .next (s.run (doSlotChoice size0 size1 copy0 copy1))

/-- IMAGE_VERIFY_DONE: Verification of a slot ends; a passing slot is loaded and the cores released, else fallback (R406). -/
def execImageVerifyDone (readErr : Bool) (usec : Nat) (s : State) : Host.Outcome State Fault Refusal :=
  .next (s.run (doImageVerifyDone readErr usec))

/-- DOMAIN_RESET_END: A domain whose reset causes have ended is zeroized and released (R512). -/
def execDomainResetEnd (domain : Nat) (us : Nat) (fails : Nat) (s : State) : Host.Outcome State Fault Refusal :=
  .next (s.run (doDomainResetEnd domain us fails))

/-- SPI_READ: An SPI READ frame returns up to 16 words with a CRC (R544). -/
def execSpiRead (rest : Bytes) (s : State) : Host.Outcome State Fault Refusal :=
  .next (s.run (doSpiRead rest))

/-- SPI_WRITE: A complete SPI WRITE frame with matching CRC writes its words (R545). -/
def execSpiWrite (rest : Bytes) (s : State) : Host.Outcome State Fault Refusal :=
  .next (s.run (doSpiWrite rest))

/-- SPI_RESET: An SPI RESET frame with the right key causes the MGMT_CMD system reset (R545). -/
def execSpiReset (rest : Bytes) (s : State) : Host.Outcome State Fault Refusal :=
  .next (s.run (doSpiReset rest))

/-- SPI_STATUS: An SPI STATUS frame returns the STATUS byte (R544). -/
def execSpiStatus (s : State) : Host.Outcome State Fault Refusal :=
  .next (s.run (doSpiStatus))

/-- I2C_READ: An I²C READ transaction returns up to 16 words with a PEC (R546). -/
def execI2cRead (target : Nat) (rest : Bytes) (s : State) : Host.Outcome State Fault Refusal :=
  .next (s.run (doI2cRead target rest))

/-- I2C_WRITE: An I²C WRITE transaction with matching PEC writes its words at STOP (R546). -/
def execI2cWrite (target : Nat) (rest : Bytes) (s : State) : Host.Outcome State Fault Refusal :=
  .next (s.run (doI2cWrite target rest))

/-- I2C_RESET: An I²C RESET with the right key causes the MGMT_CMD system reset at STOP (R546). -/
def execI2cReset (target : Nat) (rest : Bytes) (s : State) : Host.Outcome State Fault Refusal :=
  .next (s.run (doI2cReset target rest))

/-- I2C_STATUS: An I²C STATUS transaction returns the STATUS byte (R546). -/
def execI2cStatus (target : Nat) (s : State) : Host.Outcome State Fault Refusal :=
  .next (s.run (doI2cStatus target))

/-- I2C_SCL_TIMEOUT: SCL held low for more than 25 ms drops the transaction (R546). -/
def execI2cSclTimeout (s : State) : Host.Outcome State Fault Refusal :=
  .next (s.run (doI2cSclTimeout))

/-- MGMT_ETH_FRAME: An ARP, neighbour discovery or ICMP frame on the management port is answered (R549). -/
def execMgmtEthFrame (frame : Bytes) (s : State) : Host.Outcome State Fault Refusal :=
  .next (s.run (doMgmtEthFrame frame))

/-- CLIENT_HELLO: A session CLIENT_HELLO is checked and answered with MODULE_HELLO (R552). -/
def execClientHello (source : Nat) (hdr : Bytes) (body : Bytes) (s : State) : Host.Outcome State Fault Refusal :=
  .next (s.run (doClientHello source hdr body))

/-- CLIENT_CONFIRM: A CLIENT_CONFIRM is verified and the session opens (R552). -/
def execClientConfirm (source : Nat) (hdr : Bytes) (body : Bytes) (s : State) : Host.Outcome State Fault Refusal :=
  .next (s.run (doClientConfirm source hdr body))

/-- SESSION_READ: Session request READ returns up to 1,024 words (R553). -/
def execSessionRead (source : Nat) (hdr : Bytes) (seq : Nat) (data : Bytes) (s : State) : Host.Outcome State Fault Refusal :=
  .next (s.run (doSessionRead source hdr seq data))

/-- SESSION_WRITE: Session request WRITE writes words as principal 1 (R553). -/
def execSessionWrite (source : Nat) (hdr : Bytes) (seq : Nat) (data : Bytes) (s : State) : Host.Outcome State Fault Refusal :=
  .next (s.run (doSessionWrite source hdr seq data))

/-- SESSION_TABLE: Session request TABLE runs a window command (R553). -/
def execSessionTable (source : Nat) (hdr : Bytes) (seq : Nat) (data : Bytes) (s : State) : Host.Outcome State Fault Refusal :=
  .next (s.run (doSessionTable source hdr seq data))

/-- SESSION_LOG: Session request LOG returns durable Rosemary records (R553). -/
def execSessionLog (source : Nat) (hdr : Bytes) (seq : Nat) (data : Bytes) (s : State) : Host.Outcome State Fault Refusal :=
  .next (s.run (doSessionLog source hdr seq data))

/-- ATTEST: Session request ATTEST returns a signed attestation (R455). -/
def execAttest (source : Nat) (hdr : Bytes) (seq : Nat) (data : Bytes) (s : State) : Host.Outcome State Fault Refusal :=
  .next (s.run (doAttest source hdr seq data))

/-- SESSION_CHANGE_SET: Session request CHANGE_SET delivers a chunk of a change set (R553). -/
def execSessionChangeSet (source : Nat) (hdr : Bytes) (seq : Nat) (data : Bytes) (s : State) : Host.Outcome State Fault Refusal :=
  .next (s.run (doSessionChangeSet source hdr seq data))

/-- SESSION_IMAGE: Session request IMAGE drives the image update engine (R553). -/
def execSessionImage (source : Nat) (hdr : Bytes) (seq : Nat) (data : Bytes) (s : State) : Host.Outcome State Fault Refusal :=
  .next (s.run (doSessionImage source hdr seq data))

/-- SESSION_CS_ABORT: Session request CS_ABORT aborts a change set by ticket (R553). -/
def execSessionCsAbort (source : Nat) (hdr : Bytes) (seq : Nat) (data : Bytes) (s : State) : Host.Outcome State Fault Refusal :=
  .next (s.run (doSessionCsAbort source hdr seq data))

/-- SESSION_CLOSE: Session request CLOSE ends the session and erases its keys (R553). -/
def execSessionClose (source : Nat) (hdr : Bytes) (seq : Nat) (data : Bytes) (s : State) : Host.Outcome State Fault Refusal :=
  .next (s.run (doSessionClose source hdr seq data))

/-- SUBSCRIBE: Session request SUBSCRIBE sets or ends a telemetry subscription (R579). -/
def execSubscribe (source : Nat) (hdr : Bytes) (seq : Nat) (data : Bytes) (s : State) : Host.Outcome State Fault Refusal :=
  .next (s.run (doSubscribe source hdr seq data))

/-- SESSION_IDLE_TIMEOUT: A session without a request for 300 s ends (R554). -/
def execSessionIdleTimeout (session : Nat) (s : State) : Host.Outcome State Fault Refusal :=
  .next (s.run (doSessionIdleTimeout session))

/-- SESSION_LIFETIME_EXPIRY: A session ends 24 h after its handshake (R554). -/
def execSessionLifetimeExpiry (session : Nat) (s : State) : Host.Outcome State Fault Refusal :=
  .next (s.run (doSessionLifetimeExpiry session))

/-- SOURCE_BLOCK_EXPIRY: A source address blocked for repeated authentication failures is unblocked after 60 s (R552). -/
def execSourceBlockExpiry (source : Nat) (s : State) : Host.Outcome State Fault Refusal :=
  .next (s.run (doSourceBlockExpiry source))

/-- GLB_LCS_CONFIRM: A write to GLB_LCS_CONFIRM arms a lifecycle or key-slot command for 1 ms (R560). -/
def execGlbLcsConfirm (value : Nat) (master : Master) (s : State) : Host.Outcome State Fault Refusal :=
  .next (s.run (fun d => d.gated master (R.GLB_LCS_CONFIRM.addr 0 0) (value) (doGlbLcsConfirm value master)))

/-- PROVISION: GLB_LCS_CMD PROVISION exports the image key and moves FACTORY to PROVISIONED (R560). -/
def execProvision (master : Master) (s : State) : Host.Outcome State Fault Refusal :=
  .next (s.run (fun d => d.gated master (R.GLB_LCS_CMD.addr 0 0) (2 ^ 28) (doProvision master)))

/-- OPERATE: GLB_LCS_CMD OPERATE moves PROVISIONED to OPERATIONAL (R560). -/
def execOperate (master : Master) (s : State) : Host.Outcome State Fault Refusal :=
  .next (s.run (fun d => d.gated master (R.GLB_LCS_CMD.addr 0 0) (2 * 2 ^ 28) (doOperate master)))

/-- FIELD_RETURN: GLB_LCS_CMD FIELD_RETURN blows the image-key fuse and enters FIELD_RETURN (R560). -/
def execFieldReturn (master : Master) (s : State) : Host.Outcome State Fault Refusal :=
  .next (s.run (fun d => d.gated master (R.GLB_LCS_CMD.addr 0 0) (3 * 2 ^ 28) (doFieldReturn master)))

/-- DECOMMISSION: GLB_LCS_CMD DECOMMISSION erases images and the device secret and enters DECOMMISSIONED (R560). -/
def execDecommission (master : Master) (s : State) : Host.Outcome State Fault Refusal :=
  .next (s.run (fun d => d.gated master (R.GLB_LCS_CMD.addr 0 0) (4 * 2 ^ 28) (doDecommission master)))

/-- LCS_TRANSITION_COMPLETE: A lifecycle transition's record is durable and its state fuses verify, then the LIFECYCLE reset follows (R560). -/
def execLcsTransitionComplete (ok : Bool) (s : State) : Host.Outcome State Fault Refusal :=
  .next (s.run (doLcsTransitionComplete ok))

/-- PROVISION_BUFFER_READ: A read of a provisioning-buffer export entry erases it, the last one continuing PROVISION (R561). -/
def execProvisionBufferRead (index : Nat) (master : Master) (s : State) : Host.Outcome State Fault Refusal :=
  .next (s.run (doProvisionBufferRead index master))

/-- EXPORT_TIMEOUT: The image-key export is not read within 60 s and PROVISION is refused (R561). -/
def execExportTimeout (s : State) : Host.Outcome State Fault Refusal :=
  .next (s.run (doExportTimeout))

/-- FUSE_OPERATOR: GLB_KEYSLOT_CMD FUSE_OPERATOR fuses an operator key hash (R559). -/
def execFuseOperator (slot : Nat) (master : Master) (s : State) : Host.Outcome State Fault Refusal :=
  .next (s.run (fun d => d.gated master (R.GLB_KEYSLOT_CMD.addr 0 0) ((2 ^ 28 + slot % 4)) (doFuseOperator slot master)))

/-- REVOKE_OPERATOR: GLB_KEYSLOT_CMD REVOKE_OPERATOR revokes an operator key slot (R559). -/
def execRevokeOperator (slot : Nat) (master : Master) (s : State) : Host.Outcome State Fault Refusal :=
  .next (s.run (fun d => d.gated master (R.GLB_KEYSLOT_CMD.addr 0 0) ((2 * 2 ^ 28 + slot % 4)) (doRevokeOperator slot master)))

/-- REVOKE_VENDOR: GLB_KEYSLOT_CMD REVOKE_VENDOR revokes a vendor key slot (R559). -/
def execRevokeVendor (slot : Nat) (master : Master) (s : State) : Host.Outcome State Fault Refusal :=
  .next (s.run (fun d => d.gated master (R.GLB_KEYSLOT_CMD.addr 0 0) ((3 * 2 ^ 28 + slot % 4)) (doRevokeVendor slot master)))

/-- KEYSLOT_DONE: Programming and verification of a key-slot fuse complete (R559). -/
def execKeyslotDone (ok : Bool) (s : State) : Host.Outcome State Fault Refusal :=
  .next (s.run (doKeyslotDone ok))

/-- SNAPSHOT_BANK_SWITCH: 100 µs after the Thyme second the filled snapshot bank and pages become current (R573). -/
def execSnapshotBankSwitch (s : State) : Host.Outcome State Fault Refusal :=
  .next (s.run (doSnapshotBankSwitch))

/-- TELEMETRY_EXPORT: On a period second the active Sage core sends each subscription's export (R580). -/
def execTelemetryExport (session : Nat) (room : Nat) (s : State) : Host.Outcome State Fault Refusal :=
  .next (s.run (doTelemetryExport session room))

/-- READ_CLEAR: A read of an RC field returns its value and clears it (R14). -/
def execReadClear (addr : Nat) (master : Master) (s : State) : Host.Outcome State Fault Refusal :=
  .next (s.run (doReadClear addr master))

/-- W1C_WRITE: A write of 1 to a W1C bit clears it unless hardware sets it in the same cycle (R13). -/
def execW1cWrite (addr : Nat) (mask : Nat) (master : Master) (s : State) : Host.Outcome State Fault Refusal :=
  .next (s.run (doW1cWrite addr mask master))

/-- LO_LATCH_READ: A read of the low word of a 64-bit counter or value latches its high word (R173). -/
def execLoLatchRead (addr : Nat) (master : Master) (s : State) : Host.Outcome State Fault Refusal :=
  .next (s.run (doLoLatchRead addr master))

/-- REGISTER_WRITE: A write to a register without a row of its own sets its fields under its access codes (R13). -/
def execRegisterWrite (addr : Nat) (word : Nat) (master : Master) (s : State) : Host.Outcome State Fault Refusal :=
  .next (s.run (doRegisterWrite addr word master))

/-- NOISE_SAMPLE_TEST_FAILURE: A repetition-count or adaptive-proportion test fails on a sample of a source in RUN, discarding its block and restarting the source (R463). -/
def execNoiseSampleTestFailure (source : Nat) (s : State) : Host.Outcome State Fault Refusal :=
  .next (s.run (fun d => (doNoiseSampleTestFailure source d).alarms))

/-- ALIGNMENT_SEARCH_BLOCK: In SEARCH or CONFIRM the line front end examines each received block for the alignment word and keeps, confirms or drops candidates (R275). -/
def execAlignmentSearchBlock (port : Nat) (block : Bytes) (good : Bool) (s : State) : Host.Outcome State Fault Refusal :=
  .next (s.run (doAlignmentSearchBlock port block good))

/-- CDR_UNLOCK: A lane's clock and data recovery loses lock (R364). -/
def execCdrUnlock (lane : Nat) (s : State) : Host.Outcome State Fault Refusal :=
  .next (s.run (doCdrUnlock lane))

/-- PRBS_LOCK_GAINED: The pattern checker sees 256 consecutive correct symbols and sets PRBS_LOCK (R360). -/
def execPrbsLockGained (lane : Nat) (s : State) : Host.Outcome State Fault Refusal :=
  .next (s.run (doPrbsLockGained lane))

/-- PRBS_LOCK_LOST: The pattern checker sees 4,096 errored symbols among 8,192, loses lock and seeks it again (R360). -/
def execPrbsLockLost (lane : Nat) (errors : Nat) (s : State) : Host.Outcome State Fault Refusal :=
  .next (s.run (doPrbsLockLost lane errors))

/-- MGMT_ETH_LINK_UP: The 1000BASE-X management port completes auto-negotiation and its link comes up (R549). -/
def execMgmtEthLinkUp (s : State) : Host.Outcome State Fault Refusal :=
  .next (s.run (doMgmtEthLinkUp))

/-- MGMT_ETH_LINK_DOWN: The management port's link goes down (R549). -/
def execMgmtEthLinkDown (s : State) : Host.Outcome State Fault Refusal :=
  .next (s.run (doMgmtEthLinkDown))

/-- MKA_LIFE_TIME_EXPIRY: No MKPDU from the MKA live peer for the 6 s life time, so the peer is lost (R290). -/
def execMkaLifeTimeExpiry (port : Nat) (s : State) : Host.Outcome State Fault Refusal :=
  .next (s.run (doMkaLifeTimeExpiry port))

/-- SAK_CHANGE_INTERVAL: The image's SAK change interval elapses and the key server distributes a new SAK (R290). -/
def execSakChangeInterval (port : Nat) (s : State) : Host.Outcome State Fault Refusal :=
  .next (s.run (doSakChangeInterval port))

/-- TOD_IN_LOSS: No valid TOD_IN message for 3 s makes the time servo enter HOLDOVER (R373). -/
def execTodInLoss (s : State) : Host.Outcome State Fault Refusal :=
  .next (s.run (doTodInLoss))

/-- ANNOUNCE_RECEIPT_TIMEOUT: The PTP announce receipt timeout expires and the servo enters HOLDOVER (R373). -/
def execAnnounceReceiptTimeout (s : State) : Host.Outcome State Fault Refusal :=
  .next (s.run (doAnnounceReceiptTimeout))

/-- PTP_SLAVE_MESSAGE: The active Sage core takes a PTP message of its slave ports from the exception buffer and updates the servo and best master clock choice (R377). -/
def execPtpSlaveMessage (index : Nat) (err : Nat) (s : State) : Host.Outcome State Fault Refusal :=
  .next (s.run (doPtpSlaveMessage index err))

/-- ALARM_CONDITION_END: The condition of a tripped tamper or environment source ends and the trip clears, with temperature hysteresis (R488). -/
def execAlarmConditionEnd (source : Nat) (temp : Int) (s : State) : Host.Outcome State Fault Refusal :=
  .next (s.run (doAlarmConditionEnd source temp))

/-- ENV_KEY_CMD_COMPLETE: An accepted envelope key command reaches its completion, ordered against any abort by the arbiter (R273). -/
def execEnvKeyCmdComplete (port : Nat) (s : State) : Host.Outcome State Fault Refusal :=
  .next (s.run (doEnvKeyCmdComplete port))

/-- BOUND_COPY_DONE: The copy of the new active bound bank into the other bank completes and writes to the inactive bank are accepted again (R239). -/
def execBoundCopyDone (s : State) : Host.Outcome State Fault Refusal :=
  .next (s.run (doBoundCopyDone))

/-- UNTIMED_RETIRE_TIMER: After an untimed change the receiver issues RETIRE_RX on the old entry once records under the new entry have arrived for D, or the old entry has received nothing for D (R442). -/
def execUntimedRetireTimer (index : Nat) (s : State) : Host.Outcome State Fault Refusal :=
  .next (s.run (doUntimedRetireTimer index))

/-- UNUSED_NEW_ENTRY_TIMEOUT: A new receive entry OPEN with no record received under it by T + D, after a lost cancel, is zeroized (R443). -/
def execUnusedNewEntryTimeout (index : Nat) (s : State) : Host.Outcome State Fault Refusal :=
  .next (s.run (doUnusedNewEntryTimeout index))

/-- LOCAL_GROUP_SWITCH: A member that is not time-fit switches its flood entries at its local T + D/2 and retires old group entries at its local T + D (R445). -/
def execLocalGroupSwitch (index : Nat) (s : State) : Host.Outcome State Fault Refusal :=
  .next (s.run (doLocalGroupSwitch index))

end Sys2Proof.Machine
end

