-- ==== Sys2Proof/Machine/Dispatch.lean ====
section
/-! DEFINITION. One arm for each command. -/

namespace Sys2Proof.Machine

/-- The effect of a command on everything but the queue. -/
def exec (i : Instr) (s : State) : Host.Outcome State Fault Refusal :=
  match i with
  | .clientFrameArrival port frame at_ ecc => Sys2Proof.Machine.execClientFrameArrival port frame at_ ecc s
  | .crossbarTransfer fe express disagree ecc => Sys2Proof.Machine.execCrossbarTransfer fe express disagree ecc s
  | .steer slice express ecc => Sys2Proof.Machine.execSteer slice express ecc s
  | .lineDequeue port entered err => Sys2Proof.Machine.execLineDequeue port entered err s
  | .sealStart slice port => Sys2Proof.Machine.execSealStart slice port s
  | .sealResume slice port => Sys2Proof.Machine.execSealResume slice port s
  | .sealTagComplete slice port bayErr => Sys2Proof.Machine.execSealTagComplete slice port bayErr s
  | .itemEmit port => Sys2Proof.Machine.execItemEmit port s
  | .timedLaunch port => Sys2Proof.Machine.execTimedLaunch port s
  | .envelopeFrameTx port => Sys2Proof.Machine.execEnvelopeFrameTx port s
  | .envelopeFrameRx port bytes at_ bad => Sys2Proof.Machine.execEnvelopeFrameRx port bytes at_ bad s
  | .segmentDispatch port => Sys2Proof.Machine.execSegmentDispatch port s
  | .fmodeFrameRx port frame at_ => Sys2Proof.Machine.execFmodeFrameRx port frame at_ s
  | .tagCheckDone slice holdErr lrnErr => Sys2Proof.Machine.execTagCheckDone slice holdErr lrnErr s
  | .segmentTimeout slice port => Sys2Proof.Machine.execSegmentTimeout slice port s
  | .verifyHoldRelease slice disagree ecc => Sys2Proof.Machine.execVerifyHoldRelease slice disagree ecc s
  | .holdRelease err => Sys2Proof.Machine.execHoldRelease err s
  | .holdIntervalEnd stream => Sys2Proof.Machine.execHoldIntervalEnd stream s
  | .clientEgressDequeue port preempts => Sys2Proof.Machine.execClientEgressDequeue port preempts s
  | .learnRequest slice => Sys2Proof.Machine.execLearnRequest slice s
  | .controlQueueSend port sa data => Sys2Proof.Machine.execControlQueueSend port sa data s
  | .timeMessageSend port tag frame => Sys2Proof.Machine.execTimeMessageSend port tag frame s
  | .patrolScrub bay part index err => Sys2Proof.Machine.execPatrolScrub bay part index err s
  | .counterLineLoad bay line err => Sys2Proof.Machine.execCounterLineLoad bay line err s
  | .counterLineWriteback bay line evict => Sys2Proof.Machine.execCounterLineWriteback bay line evict s
  | .orphanReclaim bay group => Sys2Proof.Machine.execOrphanReclaim bay group s
  | .saTableScrub slice dir entry pos err => Sys2Proof.Machine.execSaTableScrub slice dir entry pos err s
  | .sweeperVisit slice bucket err => Sys2Proof.Machine.execSweeperVisit slice bucket err s
  | .laneAdaptationUpdate lane snr errors => Sys2Proof.Machine.execLaneAdaptationUpdate lane snr errors s
  | .regulatorCalibration failed spreads => Sys2Proof.Machine.execRegulatorCalibration failed spreads s
  | .telemetrySample t => Sys2Proof.Machine.execTelemetrySample t s
  | .rosemaryCompaction => Sys2Proof.Machine.execRosemaryCompaction s
  | .openVersion version => Sys2Proof.Machine.execOpenVersion version s
  | .closeVersion => Sys2Proof.Machine.execCloseVersion s
  | .discardVersion => Sys2Proof.Machine.execDiscardVersion s
  | .commitNow => Sys2Proof.Machine.execCommitNow s
  | .openPassDone => Sys2Proof.Machine.execOpenPassDone s
  | .closePassDone => Sys2Proof.Machine.execClosePassDone s
  | .versionRetire => Sys2Proof.Machine.execVersionRetire s
  | .feResync fe source => Sys2Proof.Machine.execFeResync fe source s
  | .resyncDone fe => Sys2Proof.Machine.execResyncDone fe s
  | .exactMatchInsert words master => Sys2Proof.Machine.execExactMatchInsert words master s
  | .exactMatchDelete words master => Sys2Proof.Machine.execExactMatchDelete words master s
  | .ternaryWrite rule part words master => Sys2Proof.Machine.execTernaryWrite rule part words master s
  | .ternaryDelete rule master => Sys2Proof.Machine.execTernaryDelete rule master s
  | .tblRead sel index master => Sys2Proof.Machine.execTblRead sel index master s
  | .tblWrite sel index words master => Sys2Proof.Machine.execTblWrite sel index words master s
  | .installTx slice entry master => Sys2Proof.Machine.execInstallTx slice entry master s
  | .installRx slice entry master => Sys2Proof.Machine.execInstallRx slice entry master s
  | .switchNowTx slice entry master => Sys2Proof.Machine.execSwitchNowTx slice entry master s
  | .openNowRx slice entry master => Sys2Proof.Machine.execOpenNowRx slice entry master s
  | .retireRx slice entry master => Sys2Proof.Machine.execRetireRx slice entry master s
  | .setLimits slice entry master => Sys2Proof.Machine.execSetLimits slice entry master s
  | .zeroize slice dir entry master => Sys2Proof.Machine.execZeroize slice dir entry master s
  | .zeroizeAll slice master => Sys2Proof.Machine.execZeroizeAll slice master s
  | .satCmdAbort slice ticket master => Sys2Proof.Machine.execSatCmdAbort slice ticket master s
  | .saCmdComplete slice => Sys2Proof.Machine.execSaCmdComplete slice s
  | .satKeyStage slice word master => Sys2Proof.Machine.execSatKeyStage slice word master s
  | .rxClosingEnd slice entry => Sys2Proof.Machine.execRxClosingEnd slice entry s
  | .satTriggerFifoRead slice => Sys2Proof.Machine.execSatTriggerFifoRead slice s
  | .diagOpen slice master => Sys2Proof.Machine.execDiagOpen slice master s
  | .diagClose slice master => Sys2Proof.Machine.execDiagClose slice master s
  | .diagGo slice op pipe => Sys2Proof.Machine.execDiagGo slice op pipe s
  | .pipelineFault slice dir pipe kind => Sys2Proof.Machine.execPipelineFault slice dir pipe kind s
  | .pipeKatDone slice dir pass => Sys2Proof.Machine.execPipeKatDone slice dir pass s
  | .katGo slice dir pipe all => Sys2Proof.Machine.execKatGo slice dir pipe all s
  | .katDone slice pass => Sys2Proof.Machine.execKatDone slice pass s
  | .maskReseedRequest gen => Sys2Proof.Machine.execMaskReseedRequest gen s
  | .maskGeneratorStop gen => Sys2Proof.Machine.execMaskGeneratorStop gen s
  | .lrnFlush slice value => Sys2Proof.Machine.execLrnFlush slice value s
  | .flushDone slice => Sys2Proof.Machine.execFlushDone slice s
  | .fill meter => Sys2Proof.Machine.execFill meter s
  | .flushQueue slice queue => Sys2Proof.Machine.execFlushQueue slice queue s
  | .flushQueueDone => Sys2Proof.Machine.execFlushQueueDone s
  | .boundSwitch entry => Sys2Proof.Machine.execBoundSwitch entry s
  | .boundBankCopy => Sys2Proof.Machine.execBoundBankCopy s
  | .envInstallTx port pos group master => Sys2Proof.Machine.execEnvInstallTx port pos group master s
  | .envInstallRx port pos master => Sys2Proof.Machine.execEnvInstallRx port pos master s
  | .envSwitchNowTx port master => Sys2Proof.Machine.execEnvSwitchNowTx port master s
  | .envZeroize port dir pos master => Sys2Proof.Machine.execEnvZeroize port dir pos master s
  | .envZeroizeAll port master => Sys2Proof.Machine.execEnvZeroizeAll port master s
  | .envKeyAbort port ticket master => Sys2Proof.Machine.execEnvKeyAbort port ticket master s
  | .envKeyStage port word master => Sys2Proof.Machine.execEnvKeyStage port word master s
  | .multiframeBoundary port => Sys2Proof.Machine.execMultiframeBoundary port s
  | .defectTimer port defect => Sys2Proof.Machine.execDefectTimer port defect s
  | .engineFault port dir pipe block => Sys2Proof.Machine.execEngineFault port dir pipe block s
  | .restartSeq master => Sys2Proof.Machine.execRestartSeq master s
  | .restartMerge master => Sys2Proof.Machine.execRestartMerge master s
  | .restartSelfCheckDone pass => Sys2Proof.Machine.execRestartSelfCheckDone pass s
  | .quietTimeMet pair => Sys2Proof.Machine.execQuietTimeMet pair s
  | .sliceRelocation slice target => Sys2Proof.Machine.execSliceRelocation slice target s
  | .newEpoch bay master => Sys2Proof.Machine.execNewEpoch bay master s
  | .epochStart bay => Sys2Proof.Machine.execEpochStart bay s
  | .prevKeyErase bay => Sys2Proof.Machine.execPrevKeyErase bay s
  | .epochAutoTimer bay => Sys2Proof.Machine.execEpochAutoTimer bay s
  | .epochPeriodTimer bay => Sys2Proof.Machine.execEpochPeriodTimer bay s
  | .bayTrainingDone bay ok rows => Sys2Proof.Machine.execBayTrainingDone bay ok rows s
  | .bayStackFault bay => Sys2Proof.Machine.execBayStackFault bay s
  | .portForm line port rate width => Sys2Proof.Machine.execPortForm line port rate width s
  | .portEnable line port => Sys2Proof.Machine.execPortEnable line port s
  | .portDisable line port cut => Sys2Proof.Machine.execPortDisable line port cut s
  | .lanePllLock group => Sys2Proof.Machine.execLanePllLock group s
  | .cdrLock lane => Sys2Proof.Machine.execCdrLock lane s
  | .adaptDone lane => Sys2Proof.Machine.execAdaptDone lane s
  | .adaptRestart lane => Sys2Proof.Machine.execAdaptRestart lane s
  | .linkUp line port skew freq => Sys2Proof.Machine.execLinkUp line port skew freq s
  | .linkDown line port cut => Sys2Proof.Machine.execLinkDown line port cut s
  | .fecWindowEnd line port corrected uncorrectable symbols errors blocks cut => Sys2Proof.Machine.execFecWindowEnd line port corrected uncorrectable symbols errors blocks cut s
  | .refclkLoss group cut => Sys2Proof.Machine.execRefclkLoss group cut s
  | .los lane => Sys2Proof.Machine.execLos lane s
  | .preemptVerifyAttempt port ok => Sys2Proof.Machine.execPreemptVerifyAttempt port ok s
  | .prbsClear lane => Sys2Proof.Machine.execPrbsClear lane s
  | .step load master => Sys2Proof.Machine.execStep load master s
  | .rate master => Sys2Proof.Machine.execRate master s
  | .stepAndRate load master => Sys2Proof.Machine.execStepAndRate load master s
  | .thymeSecond => Sys2Proof.Machine.execThymeSecond s
  | .rawNsWrap => Sys2Proof.Machine.execRawNsWrap s
  | .ppsInEdge at_ => Sys2Proof.Machine.execPpsInEdge at_ s
  | .ppsInLoss => Sys2Proof.Machine.execPpsInLoss s
  | .todInMessage msg start at_ => Sys2Proof.Machine.execTodInMessage msg start at_ s
  | .timeclkGate at_ => Sys2Proof.Machine.execTimeclkGate at_ s
  | .clkLoss => Sys2Proof.Machine.execClkLoss s
  | .thyWrite master => Sys2Proof.Machine.execThyWrite master s
  | .thyAbort ticket master => Sys2Proof.Machine.execThyAbort ticket master s
  | .thyRelease entry master => Sys2Proof.Machine.execThyRelease entry master s
  | .entryHoldExpiry entry => Sys2Proof.Machine.execEntryHoldExpiry entry s
  | .thyDoneFifoRead => Sys2Proof.Machine.execThyDoneFifoRead s
  | .ruleCommit entry => Sys2Proof.Machine.execRuleCommit entry s
  | .keyAccept entry => Sys2Proof.Machine.execKeyAccept entry s
  | .keySwitch entry => Sys2Proof.Machine.execKeySwitch entry s
  | .keyRetire entry => Sys2Proof.Machine.execKeyRetire entry s
  | .pulseOne entry => Sys2Proof.Machine.execPulseOne entry s
  | .pulseStart entry => Sys2Proof.Machine.execPulseStart entry s
  | .pulseStop entry => Sys2Proof.Machine.execPulseStop entry s
  | .event entry => Sys2Proof.Machine.execEvent entry s
  | .pulseEdge pin => Sys2Proof.Machine.execPulseEdge pin s
  | .pulseEnd pin => Sys2Proof.Machine.execPulseEnd pin s
  | .ppsOutCtrlWrite pin value => Sys2Proof.Machine.execPpsOutCtrlWrite pin value s
  | .snapshotCapture => Sys2Proof.Machine.execSnapshotCapture s
  | .txsFifoRead => Sys2Proof.Machine.execTxsFifoRead s
  | .ppsInStatusRead => Sys2Proof.Machine.execPpsInStatusRead s
  | .todStatusRead => Sys2Proof.Machine.execTodStatusRead s
  | .sageRenew value master => Sys2Proof.Machine.execSageRenew value master s
  | .sageAlive value master => Sys2Proof.Machine.execSageAlive value master s
  | .aliveTimeout core => Sys2Proof.Machine.execAliveTimeout core s
  | .leaseExpiry => Sys2Proof.Machine.execLeaseExpiry s
  | .leaseGrant => Sys2Proof.Machine.execLeaseGrant s
  | .sageHandover value master => Sys2Proof.Machine.execSageHandover value master s
  | .revertHoldoffMet => Sys2Proof.Machine.execRevertHoldoffMet s
  | .sageWdtKick value master => Sys2Proof.Machine.execSageWdtKick value master s
  | .coreWatchdogExpiry core => Sys2Proof.Machine.execCoreWatchdogExpiry core s
  | .globalWatchdogExpiry => Sys2Proof.Machine.execGlobalWatchdogExpiry s
  | .imageCommit master => Sys2Proof.Machine.execImageCommit master s
  | .bootConfiguration => Sys2Proof.Machine.execBootConfiguration s
  | .updStart master => Sys2Proof.Machine.execUpdStart master s
  | .updEraseDone fail => Sys2Proof.Machine.execUpdEraseDone fail s
  | .updData word fail master => Sys2Proof.Machine.execUpdData word fail master s
  | .updFinish master => Sys2Proof.Machine.execUpdFinish master s
  | .updVerifyDone readErr => Sys2Proof.Machine.execUpdVerifyDone readErr s
  | .updCommit master => Sys2Proof.Machine.execUpdCommit master s
  | .updComplete fail => Sys2Proof.Machine.execUpdComplete fail s
  | .updAbort ticket master => Sys2Proof.Machine.execUpdAbort ticket master s
  | .svnAdvance value master => Sys2Proof.Machine.execSvnAdvance value master s
  | .svnDone => Sys2Proof.Machine.execSvnDone s
  | .csLoad master => Sys2Proof.Machine.execCsLoad master s
  | .sageMboxClear master => Sys2Proof.Machine.execSageMboxClear master s
  | .sageMboxData word master => Sys2Proof.Machine.execSageMboxData word master s
  | .csVerifyDone => Sys2Proof.Machine.execCsVerifyDone s
  | .csStagingDone fail => Sys2Proof.Machine.execCsStagingDone fail s
  | .csCutoff => Sys2Proof.Machine.execCsCutoff s
  | .csAbort ticket master => Sys2Proof.Machine.execCsAbort ticket master s
  | .csPostAndMark => Sys2Proof.Machine.execCsPostAndMark s
  | .oobDatagramRx datagram => Sys2Proof.Machine.execOobDatagramRx datagram s
  | .fragmentTimeout => Sys2Proof.Machine.execFragmentTimeout s
  | .helloInit at_ => Sys2Proof.Machine.execHelloInit at_ s
  | .helloResp at_ => Sys2Proof.Machine.execHelloResp at_ s
  | .helloConfirm at_ => Sys2Proof.Machine.execHelloConfirm at_ s
  | .nudge at_ => Sys2Proof.Machine.execNudge at_ s
  | .nudgeTimer => Sys2Proof.Machine.execNudgeTimer s
  | .helloWaitTimeout member => Sys2Proof.Machine.execHelloWaitTimeout member s
  | .assocRenewal member => Sys2Proof.Machine.execAssocRenewal member s
  | .oldKeysExpiry member => Sys2Proof.Machine.execOldKeysExpiry member s
  | .heartbeat at_ => Sys2Proof.Machine.execHeartbeat at_ s
  | .heartbeatSend => Sys2Proof.Machine.execHeartbeatSend s
  | .peerLost member => Sys2Proof.Machine.execPeerLost member s
  | .digestReq at_ => Sys2Proof.Machine.execDigestReq at_ s
  | .digestResp at_ => Sys2Proof.Machine.execDigestResp at_ s
  | .digestRespTimeout member => Sys2Proof.Machine.execDigestRespTimeout member s
  | .gateGraceExpiry member service => Sys2Proof.Machine.execGateGraceExpiry member service s
  | .keyOffer at_ put => Sys2Proof.Machine.execKeyOffer at_ put s
  | .keyAck at_ => Sys2Proof.Machine.execKeyAck at_ s
  | .keyCancel at_ => Sys2Proof.Machine.execKeyCancel at_ s
  | .ksiNotice at_ => Sys2Proof.Machine.execKsiNotice at_ s
  | .rekeyReq at_ => Sys2Proof.Machine.execRekeyReq at_ s
  | .ksHandover at_ => Sys2Proof.Machine.execKsHandover at_ s
  | .offerResend index => Sys2Proof.Machine.execOfferResend index s
  | .keyChangeStart ch an suite soon put => Sys2Proof.Machine.execKeyChangeStart ch an suite soon put s
  | .ksLeaseExpiry => Sys2Proof.Machine.execKsLeaseExpiry s
  | .ksHoldoffMet member => Sys2Proof.Machine.execKsHoldoffMet member s
  | .mkaMkpdu index => Sys2Proof.Machine.execMkaMkpdu index s
  | .mkaHelloTimer port => Sys2Proof.Machine.execMkaHelloTimer port s
  | .noiseBlockComplete source samples => Sys2Proof.Machine.execNoiseBlockComplete source samples s
  | .startupTestDone source samples => Sys2Proof.Machine.execStartupTestDone source samples s
  | .sourceRestartDone source samples => Sys2Proof.Machine.execSourceRestartDone source samples s
  | .drbgInstantiate => Sys2Proof.Machine.execDrbgInstantiate s
  | .mintRequestServe => Sys2Proof.Machine.execMintRequestServe s
  | .mintReseed => Sys2Proof.Machine.execMintReseed s
  | .reseedTimer => Sys2Proof.Machine.execReseedTimer s
  | .mntCmdKey words master => Sys2Proof.Machine.execMntCmdKey words master s
  | .mntCmdRand words master => Sys2Proof.Machine.execMntCmdRand words master s
  | .mntCmdReseed master => Sys2Proof.Machine.execMntCmdReseed master s
  | .mntCmdKat master => Sys2Proof.Machine.execMntCmdKat master s
  | .mntKeyOutRead master => Sys2Proof.Machine.execMntKeyOutRead master s
  | .mntRandOutRead master => Sys2Proof.Machine.execMntRandOutRead master s
  | .sourceRestart mask master => Sys2Proof.Machine.execSourceRestart mask master s
  | .sourceEnable enable => Sys2Proof.Machine.execSourceEnable enable s
  | .testCtrlWrite value master => Sys2Proof.Machine.execTestCtrlWrite value master s
  | .mntTestData word master => Sys2Proof.Machine.execMntTestData word master s
  | .mntTestOutRead master => Sys2Proof.Machine.execMntTestOutRead master s
  | .rawCaptureRead master => Sys2Proof.Machine.execRawCaptureRead master s
  | .eventOrdering => Sys2Proof.Machine.execEventOrdering s
  | .evtFifoRead => Sys2Proof.Machine.execEvtFifoRead s
  | .evtSwRaise bit master => Sys2Proof.Machine.execEvtSwRaise bit master s
  | .evtForce source eventBit master => Sys2Proof.Machine.execEvtForce source eventBit master s
  | .lightDetectorTrip region detector => Sys2Proof.Machine.execLightDetectorTrip region detector s
  | .detectorDisagree region => Sys2Proof.Machine.execDetectorDisagree region s
  | .environmentTrip source => Sys2Proof.Machine.execEnvironmentTrip source s
  | .class3Hold => Sys2Proof.Machine.execClass3Hold s
  | .tampUnmute scopes master => Sys2Proof.Machine.execTampUnmute scopes master s
  | .autoUnmute scope => Sys2Proof.Machine.execAutoUnmute scope s
  | .tampFuseConfirm value master => Sys2Proof.Machine.execTampFuseConfirm value master s
  | .tampFuseCmd regions master => Sys2Proof.Machine.execTampFuseCmd regions master s
  | .fuseDone ok => Sys2Proof.Machine.execFuseDone ok s
  | .stickyClear which mask master => Sys2Proof.Machine.execStickyClear which mask master s
  | .rosemaryPageProgram => Sys2Proof.Machine.execRosemaryPageProgram s
  | .powerOn up => Sys2Proof.Machine.execPowerOn up s
  | .borVin below => Sys2Proof.Machine.execBorVin below s
  | .borVaux below => Sys2Proof.Machine.execBorVaux below s
  | .resetPin ns => Sys2Proof.Machine.execResetPin ns s
  | .swReset key scope master => Sys2Proof.Machine.execSwReset key scope master s
  | .debugReset => Sys2Proof.Machine.execDebugReset s
  | .clockFailure domain => Sys2Proof.Machine.execClockFailure domain s
  | .lockupCore core target => Sys2Proof.Machine.execLockupCore core target s
  | .lockupFabric master target => Sys2Proof.Machine.execLockupFabric master target s
  | .railFault rail => Sys2Proof.Machine.execRailFault rail s
  | .railRecovered rail => Sys2Proof.Machine.execRailRecovered rail s
  | .phaseOcp phase => Sys2Proof.Machine.execPhaseOcp phase s
  | .railPowerUp us => Sys2Proof.Machine.execRailPowerUp us s
  | .trimLoad ohms => Sys2Proof.Machine.execTrimLoad ohms s
  | .clocksGood mask => Sys2Proof.Machine.execClocksGood mask s
  | .zeroizationDone us fails => Sys2Proof.Machine.execZeroizationDone us fails s
  | .domainRelease => Sys2Proof.Machine.execDomainRelease s
  | .slotChoice size0 size1 copy0 copy1 => Sys2Proof.Machine.execSlotChoice size0 size1 copy0 copy1 s
  | .imageVerifyDone readErr usec => Sys2Proof.Machine.execImageVerifyDone readErr usec s
  | .domainResetEnd domain us fails => Sys2Proof.Machine.execDomainResetEnd domain us fails s
  | .spiRead rest => Sys2Proof.Machine.execSpiRead rest s
  | .spiWrite rest => Sys2Proof.Machine.execSpiWrite rest s
  | .spiReset rest => Sys2Proof.Machine.execSpiReset rest s
  | .spiStatus => Sys2Proof.Machine.execSpiStatus s
  | .i2cRead target rest => Sys2Proof.Machine.execI2cRead target rest s
  | .i2cWrite target rest => Sys2Proof.Machine.execI2cWrite target rest s
  | .i2cReset target rest => Sys2Proof.Machine.execI2cReset target rest s
  | .i2cStatus target => Sys2Proof.Machine.execI2cStatus target s
  | .i2cSclTimeout => Sys2Proof.Machine.execI2cSclTimeout s
  | .mgmtEthFrame frame => Sys2Proof.Machine.execMgmtEthFrame frame s
  | .clientHello source hdr body => Sys2Proof.Machine.execClientHello source hdr body s
  | .clientConfirm source hdr body => Sys2Proof.Machine.execClientConfirm source hdr body s
  | .sessionRead source hdr seq data => Sys2Proof.Machine.execSessionRead source hdr seq data s
  | .sessionWrite source hdr seq data => Sys2Proof.Machine.execSessionWrite source hdr seq data s
  | .sessionTable source hdr seq data => Sys2Proof.Machine.execSessionTable source hdr seq data s
  | .sessionLog source hdr seq data => Sys2Proof.Machine.execSessionLog source hdr seq data s
  | .attest source hdr seq data => Sys2Proof.Machine.execAttest source hdr seq data s
  | .sessionChangeSet source hdr seq data => Sys2Proof.Machine.execSessionChangeSet source hdr seq data s
  | .sessionImage source hdr seq data => Sys2Proof.Machine.execSessionImage source hdr seq data s
  | .sessionCsAbort source hdr seq data => Sys2Proof.Machine.execSessionCsAbort source hdr seq data s
  | .sessionClose source hdr seq data => Sys2Proof.Machine.execSessionClose source hdr seq data s
  | .subscribe source hdr seq data => Sys2Proof.Machine.execSubscribe source hdr seq data s
  | .sessionIdleTimeout session => Sys2Proof.Machine.execSessionIdleTimeout session s
  | .sessionLifetimeExpiry session => Sys2Proof.Machine.execSessionLifetimeExpiry session s
  | .sourceBlockExpiry source => Sys2Proof.Machine.execSourceBlockExpiry source s
  | .glbLcsConfirm value master => Sys2Proof.Machine.execGlbLcsConfirm value master s
  | .provision master => Sys2Proof.Machine.execProvision master s
  | .operate master => Sys2Proof.Machine.execOperate master s
  | .fieldReturn master => Sys2Proof.Machine.execFieldReturn master s
  | .decommission master => Sys2Proof.Machine.execDecommission master s
  | .lcsTransitionComplete ok => Sys2Proof.Machine.execLcsTransitionComplete ok s
  | .provisionBufferRead index master => Sys2Proof.Machine.execProvisionBufferRead index master s
  | .exportTimeout => Sys2Proof.Machine.execExportTimeout s
  | .fuseOperator slot master => Sys2Proof.Machine.execFuseOperator slot master s
  | .revokeOperator slot master => Sys2Proof.Machine.execRevokeOperator slot master s
  | .revokeVendor slot master => Sys2Proof.Machine.execRevokeVendor slot master s
  | .keyslotDone ok => Sys2Proof.Machine.execKeyslotDone ok s
  | .snapshotBankSwitch => Sys2Proof.Machine.execSnapshotBankSwitch s
  | .telemetryExport session room => Sys2Proof.Machine.execTelemetryExport session room s
  | .readClear addr master => Sys2Proof.Machine.execReadClear addr master s
  | .w1cWrite addr mask master => Sys2Proof.Machine.execW1cWrite addr mask master s
  | .loLatchRead addr master => Sys2Proof.Machine.execLoLatchRead addr master s
  | .registerWrite addr word master => Sys2Proof.Machine.execRegisterWrite addr word master s
  | .noiseSampleTestFailure source => Sys2Proof.Machine.execNoiseSampleTestFailure source s
  | .alignmentSearchBlock port block good => Sys2Proof.Machine.execAlignmentSearchBlock port block good s
  | .cdrUnlock lane => Sys2Proof.Machine.execCdrUnlock lane s
  | .prbsLockGained lane => Sys2Proof.Machine.execPrbsLockGained lane s
  | .prbsLockLost lane errors => Sys2Proof.Machine.execPrbsLockLost lane errors s
  | .mgmtEthLinkUp => Sys2Proof.Machine.execMgmtEthLinkUp s
  | .mgmtEthLinkDown => Sys2Proof.Machine.execMgmtEthLinkDown s
  | .mkaLifeTimeExpiry port => Sys2Proof.Machine.execMkaLifeTimeExpiry port s
  | .sakChangeInterval port => Sys2Proof.Machine.execSakChangeInterval port s
  | .todInLoss => Sys2Proof.Machine.execTodInLoss s
  | .announceReceiptTimeout => Sys2Proof.Machine.execAnnounceReceiptTimeout s
  | .ptpSlaveMessage index err => Sys2Proof.Machine.execPtpSlaveMessage index err s
  | .alarmConditionEnd source temp => Sys2Proof.Machine.execAlarmConditionEnd source temp s
  | .envKeyCmdComplete port => Sys2Proof.Machine.execEnvKeyCmdComplete port s
  | .boundCopyDone => Sys2Proof.Machine.execBoundCopyDone s
  | .untimedRetireTimer index => Sys2Proof.Machine.execUntimedRetireTimer index s
  | .unusedNewEntryTimeout index => Sys2Proof.Machine.execUnusedNewEntryTimeout index s
  | .localGroupSwitch index => Sys2Proof.Machine.execLocalGroupSwitch index s

end Sys2Proof.Machine
end

