-- ==== Sys2Proof/Machine/Step.lean ====
section
/-! DEFINITION. One step: the command at the front of the queue, or a cycle of idling. -/

namespace Sys2Proof.Machine

/-- With nothing to do, one cycle of the control clock passes (log entry 15). -/
def Dev.tick (d : Dev) : Dev := { d with tim := { d.tim with clk := d.tim.clk + 1 } }

/-- Take the command at the front of the queue and run it with the rest of the queue; on an empty queue the
module idles for one cycle. -/
def step (s : State) : Host.Outcome State Fault Refusal :=
  match s.pending with
  | c :: rest => exec c { s with pending := rest }
  | [] => .next (s.run Dev.tick)

/-- Put the command that a word spells at the front of the queue; the table gives no row bits, so no word
spells one (log entry 16). -/
def State.withFetchWord (s : State) (nbits w : Nat) : State :=
  match decodeTableWord nbits w with
  | some c => { s with pending := c :: s.pending }
  | none => s

end Sys2Proof.Machine
end

