-- ==== Sys2Proof/Safety.lean ====
section
/-! DEFINITION. The terms in which claims about the machine are stated: a command that completes, the gate before a
register write, and what a command leaves unchanged. -/

namespace Sys2Proof.Machine

/-- The command runs to a next state, the queue of waiting commands is untouched, and the module then satisfies `Q`. -/
def Completes (c : Instr) (s : State) (Q : Dev → Prop) : Prop :=
  ∃ t, exec c s = .next t ∧ t.pending = s.pending ∧ Q t.dev

/-- Does the gate let a master's register write through: SPI and I2C answer, are not in the restricted state, and no
takeover gap defers the write (R395, R548)?  Every other master passes. -/
def Dev.passes (d : Dev) (m : Master) (addr : Nat) : Bool :=
  !(m == Master.spi || m == Master.i2c) || (d.answers m && !d.refused addr && !d.defers m)

/-- The command answers the next state whose module is `d` with its pins following (R482), the queue untouched. -/
def Gives (c : Instr) (s : State) (d : Dev) : Prop := exec c s = .next { s with dev := d.pins }

/-- No alarm of an alarm source waits for its response (R490). -/
def Dev.calm (d : Dev) : Bool := d.evt.occ.all (fun o => !(isAlarm o.src && !o.forced && o.took = 0))

/-- The parts of the module. -/
inductive Part
  | regs | tbl | tim | thy | evt | tamp | rsm | rst | pwr | fuse | mgmt | mon | fe | sat | cip | lrn | sch | bay | env
  | mrg | port | mint | fleet | sage | flash | out | free
  deriving DecidableEq, Repr

/-- Is a part the same in two modules? -/
def Dev.Agrees (d d' : Dev) : Part → Prop
  | .regs => d'.regs = d.regs
  | .tbl => d'.tbl = d.tbl
  | .tim => d'.tim = d.tim
  | .thy => d'.thy = d.thy
  | .evt => d'.evt = d.evt
  | .tamp => d'.tamp = d.tamp
  | .rsm => d'.rsm = d.rsm
  | .rst => d'.rst = d.rst
  | .pwr => d'.pwr = d.pwr
  | .fuse => d'.fuse = d.fuse
  | .mgmt => d'.mgmt = d.mgmt
  | .mon => d'.mon = d.mon
  | .fe => d'.fe = d.fe
  | .sat => d'.sat = d.sat
  | .cip => d'.cip = d.cip
  | .lrn => d'.lrn = d.lrn
  | .sch => d'.sch = d.sch
  | .bay => d'.bay = d.bay
  | .env => d'.env = d.env
  | .mrg => d'.mrg = d.mrg
  | .port => d'.port = d.port
  | .mint => d'.mint = d.mint
  | .fleet => d'.fleet = d.fleet
  | .sage => d'.sage = d.sage
  | .flash => d'.flash = d.flash
  | .out => d'.out = d.out
  | .free => d'.free = d.free

/-- Every part but those listed is unchanged. -/
def Dev.ChangesOnly (d d' : Dev) (ps : List Part) : Prop := ∀ p, p ∉ ps → d.Agrees d' p

/-- Every register word at an address not listed is unchanged. -/
def Dev.WritesOnly (d d' : Dev) (as : List Nat) : Prop := ∀ a, a ∉ as → SMap.get 0 d'.regs a = SMap.get 0 d.regs a

/-- The registers that show the pins and their summaries, which follow every command (R482, R500). -/
def pinAddrs : List Nat :=
  [R.EVT_IRQ_SUM_LO.addr 0 0, R.EVT_IRQ_SUM_HI.addr 0 0, R.EVT_ALARM_SUM_LO.addr 0 0, R.EVT_ALARM_SUM_HI.addr 0 0,
   R.EVT_STATUS.addr 0 0]

/-- The registers that a programmable counter writes when it wraps (R571). -/
def wrapAddrs : List Nat :=
  (List.range 30).map (fun u => R.MON_UNIT_WRAP.addr u 0) ++ [R.MON_CNT_WRAPS.addr 0 0, E.MON_WRAP.reg.addr 0 0]

/-- What an access to a register may write beside its own effect: the wraps of the counters that count it, and the pins. -/
def sideAddrs : List Nat := pinAddrs ++ wrapAddrs

/-- Does group `g` hold a latched event that is enabled in a register of enables? -/
def Dev.groupLatched (d : Dev) (en : Reg) (g : Nat) : Prop :=
  ∃ b, b < 32 ∧ bit (d.num R.EVT_GRP_LATCH g) b = true ∧ bit (d.num en g) b = true

/-- Is some latched event enabled in a register of enables (R482)? -/
def Dev.latched (d : Dev) (en : Reg) : Prop := ∃ g, g < 48 ∧ d.groupLatched en g

/-- The pins and their summaries follow the latches (R482, R500): a summary bit is set for a group that holds a latched
enabled event; outside a takeover gap (R395), IRQ_N is asserted while a latched event is enabled for it, and ALARM_N is
asserted while one is enabled for it, while a mute is in effect, or in the state of R45; the always-on island asserts
ALARM_N in a halt, a hold and after a failed zeroization, in every state (R482, R514, R515). -/
structure Dev.PinsFollow (d : Dev) : Prop where
  irqLo : ∀ g, g < 32 → (bit (d.num R.EVT_IRQ_SUM_LO) g = true ↔ d.groupLatched R.EVT_GRP_IRQ_EN g)
  irqHi : ∀ g, 32 ≤ g → g < 48 → (bit (d.num R.EVT_IRQ_SUM_HI) (g - 32) = true ↔ d.groupLatched R.EVT_GRP_IRQ_EN g)
  alarmLo : ∀ g, g < 32 → (bit (d.num R.EVT_ALARM_SUM_LO) g = true ↔ d.groupLatched R.EVT_GRP_ALARM_EN g)
  alarmHi : ∀ g, 32 ≤ g → g < 48 → (bit (d.num R.EVT_ALARM_SUM_HI) (g - 32) = true ↔ d.groupLatched R.EVT_GRP_ALARM_EN g)
  irq : d.gap = false → (d.on F.EVT_STATUS_IRQ = true ↔ d.rst.pinsOn = true ∧ d.latched R.EVT_GRP_IRQ_EN)
  alarm : d.gap = false → d.alarmForced = false →
    (d.on F.EVT_STATUS_ALARM = true ↔
      d.rst.pinsOn = true ∧ (d.latched R.EVT_GRP_ALARM_EN ∨ d.muted ≠ 0 ∨ d.rst.noImage = true))
  forced : d.alarmForced = true → d.on F.EVT_STATUS_ALARM = true

/-- An SA command whose checks hold is accepted with the next ticket and runs (R115, R116); no entry changes before its
completion. -/
def SaStarts (c : Nat → Nat → Master → Instr) (op dir : Nat) : Prop :=
  ∀ (s : State) (slice entry : Nat) (m : Master),
    s.dev.isActive m = true → (s.dev.sl (slice % 8)).cmd = none →
    s.dev.satStop (slice % 8) (s.dev.saStaged (slice % 8) op dir entry) = 0 →
    Completes (c slice entry m) s fun d =>
      (d.sl (slice % 8)).cmd = some (s.dev.saStaged (slice % 8) op dir entry) ∧
      (d.sl (slice % 8)).ticket = ((s.dev.sl (slice % 8)).ticket + 1) % 2 ^ 16 ∧
      d.on F.SAT_STATUS_CMD_BUSY (slice % 8) = true ∧ d.get F.SAT_CMD_STATUS_STATE (slice % 8) = 1 ∧
      d.get F.SAT_CMD_STATUS_OP (slice % 8) = op ∧
      d.get F.SAT_CMD_STATUS_TICKET (slice % 8) = ((s.dev.sl (slice % 8)).ticket + 1) % 2 ^ 16 ∧
      d.sat.tx = s.dev.sat.tx ∧ d.sat.rx = s.dev.sat.rx ∧
      s.dev.ChangesOnly d [.regs, .mon, .evt, .sat]

/-- An SA command that fails a check ends ABORTED at once, with the next ticket and the check's reason (R115). -/
def SaFails (c : Nat → Nat → Master → Instr) (op dir : Nat) : Prop :=
  ∀ (s : State) (slice entry : Nat) (m : Master),
    s.dev.isActive m = true → (s.dev.sl (slice % 8)).cmd = none →
    s.dev.satStop (slice % 8) (s.dev.saStaged (slice % 8) op dir entry) ≠ 0 →
    Completes (c slice entry m) s fun d =>
      (d.sl (slice % 8)).cmd = none ∧ d.get F.SAT_CMD_STATUS_STATE (slice % 8) = 3 ∧
      d.get F.SAT_CMD_STATUS_REASON (slice % 8) =
        s.dev.satStop (slice % 8) (s.dev.saStaged (slice % 8) op dir entry) ∧
      d.sat.tx = s.dev.sat.tx ∧ d.sat.rx = s.dev.sat.rx ∧
      s.dev.ChangesOnly d [.regs, .mon, .evt, .sat]

/-- What the completion of an SA command leaves beside its effect on the tables: no command runs, and SAT_CMD_STATUS shows
DONE with its ticket (R115). -/
def SaDone (n : Nat) (c : SatCmd) (d : Dev) : Prop :=
  (d.sl n).cmd = none ∧ (d.sl n).done = some c.ticket ∧ (d.sl n).words = [] ∧ d.on F.SAT_STATUS_CMD_BUSY n = false ∧
  d.get F.SAT_CMD_STATUS_STATE n = 2

/-- A verified frame has a client port whose egress buffer takes it as it is: the port is named and enabled, no timed PTP
correction applies, and neither the buffer nor its class is full (R224, R225). -/
structure Dev.EgressOpen (d : Dev) (f : Frame) (c : Nat) : Prop where
  port : d.egressPort f.slice f.rxEntry = some c
  enabled : d.on F.CPORT_CTRL_ENABLE c = true
  untimed : bit (d.tw 0xA2 c 0) 31 = false
  room : d.egrCells (fun _ => true) + f.cellCount ≤ 65536
  classRoom : d.tf 0x89 c (1 + f.cls) 16 0 = 0 ∨ d.egrCells (· = c * 4 + f.cls) + f.cellCount ≤ d.tf 0x89 c (1 + f.cls) 16 0

/-- A key command of a line port that holds its checks is accepted with the next ticket (R273); it changes no key position
before it completes. -/
def EnvStarts (c : Instr) (s : State) (p op dir k group : Nat) (m : Master) : Prop :=
  s.dev.isActive m = true → (s.dev.ep p).cmd = none → s.dev.lRate p ≠ 0 →
  s.dev.envRefuse p op dir k (s.dev.ep p).words.length (s.dev.num R.ENV_KEY_LIMIT p) = 0 →
  Completes c s fun d =>
    (d.ep p).cmd = some ⟨op, dir, k, group % 1024, ((s.dev.ep p).ticket + 1) % 2 ^ 16⟩ ∧
    (d.ep p).ticket = ((s.dev.ep p).ticket + 1) % 2 ^ 16 ∧ (d.ep p).words = (s.dev.ep p).words ∧
    d.get F.ENV_KEY_STATUS_STATE p = 1 ∧ d.get F.ENV_KEY_STATUS_OP p = op ∧
    d.get F.ENV_KEY_STATUS_TICKET p = ((s.dev.ep p).ticket + 1) % 2 ^ 16 ∧
    (op ≠ 3 → d.env.pos = s.dev.env.pos) ∧
    s.dev.ChangesOnly d [.regs, .mon, .evt, .env]

/-- What the completion of a key command leaves beside its effect on the positions (R273). -/
def EnvDone (d : Dev) (p op : Nat) : Prop :=
  (d.ep p).cmd = none ∧ (d.ep p).words = [] ∧ d.get F.ENV_KEY_STATUS_STATE p = 2 ∧ d.get F.ENV_KEY_STATUS_OP p = op

/-- Entry `k` of the Thyme schedule is pending with this action and fires next, before the coming Thyme second (R381). -/
structure Dev.FiresNext (d : Dev) (action k : Nat) : Prop where
  pending : (SMap.get ({} : ThyEnt) d.thy.ent k).st = 1
  action : (SMap.get ({} : ThyEnt) d.thy.ent k).action = action
  due : d.thyDue = some k
  before : d.netReach (SMap.get ({} : ThyEnt) d.thy.ent k).at_ < d.netReach d.secNext

/-- Entry `k` has fired at its instant and ended DONE with a count (R381, R384). -/
def Dev.FiredDone (d d' : Dev) (k count : Nat) : Prop :=
  (SMap.get ({} : ThyEnt) d'.thy.ent k).st = 2 ∧ (SMap.get ({} : ThyEnt) d'.thy.ent k).count = count ∧
  (SMap.get ({} : ThyEnt) d'.thy.ent k).stepped = false ∧
  d'.tim.clk = d.netReach (SMap.get ({} : ThyEnt) d.thy.ent k).at_ ∧
  (SMap.get ({} : ThyEnt) d'.thy.ent k).endClk = d'.tim.clk

/-- A sealed request of code `q` from an open session `k` that is served: it opens to the text `t`, whose fields follow its
header of four bytes, and the session's rate admits it (R553). -/
structure Dev.Requests (d : Dev) (source : Nat) (hdr : Bytes) (seq : Nat) (data : Bytes) (q k : Nat) (x : Sess)
    (t : Bytes) : Prop where
  up : d.sessUp = true
  opened : d.sessOpenMsg source hdr seq data = some (k, x, t)
  code : numAt t 0 1 = q
  long : 4 ≤ t.length
  plain : numAt t 1 1 = 0
  rate : (d.sessRate x).2 = false

/-- The module as a request of session `k` is served: its rate counted, the request counted (R553, R568). -/
def Dev.begun (d : Dev) (k : Nat) (x : Sess) : Dev :=
  (d.setSess k (d.sessRate x).1).count 27 0x53 { master := some 4, principal := some x.principal }

/-- The reply to a request with the text `t` of session `k`, as it came to the module `o`: the request's code, a status, the
request's tag, data (R553). -/
def Dev.replied (d o : Dev) (k : Nat) (x : Sess) (t : Bytes) (status : Nat) (data : Bytes) : Dev :=
  d.sessReply k (o.sessRate x).1 (beBytes 1 (numAt t 0 1) ++ beBytes 1 status ++ slice t 2 2 ++ data)

/-- A fleet message `x` of type `msg` waits at `at_`, and passes the checks of R431. -/
def Dev.Delivers (d : Dev) (at_ : FleetAt) (msg : Nat) (x : FleetMsg) : Prop :=
  (d.takeMsg at_ msg).any (fun y => decide (y.2 = x) && (y.1.fleetAccept x).2) = true

/-- The module with the message taken and its sender refreshed (R431, R448). -/
def Dev.delivered (d : Dev) (at_ : FleetAt) (msg : Nat) : Dev :=
  match d.takeMsg at_ msg with
  | some y => (y.1.fleetAccept y.2).1
  | none => d

end Sys2Proof.Machine
end

