-- ==== Sys2Proof/Certificates/Slice0/Obligations.lean ====
section
/-! DEFINITION. The statements for the provers. -/

open Sys2Proof Sys2Proof.Machine

/-! The queue and the machine as a whole. -/

/-- A step with a command at the front of the queue runs that command with the queue's rest; on an empty queue one cycle of
the control clock passes (log entry 15). -/
def Obligations.StepRunsFrontCommand : Prop :=
  (∀ (s : State) (c : Instr) (rest : List Instr), s.pending = c :: rest → step s = exec c { s with pending := rest }) ∧
  ∀ s : State, s.pending = [] →
    step s = .next { s with dev := ({ s.dev with tim := { s.dev.tim with clk := s.dev.tim.clk + 1 } } : Dev).pins }

/-- Every command completes in every state, and none touches the queue: no command of the table stops the module. -/
def Obligations.EveryCommandCompletes : Prop :=
  ∀ (c : Instr) (s : State), ∃ t, exec c s = .next t ∧ t.pending = s.pending

/-- Commands are served first in, first out, however many wait: after as many steps as commands, exactly those behind them
are left, and the machine has not stopped. -/
def Obligations.QueueDrainsInOrder : Prop :=
  ∀ (cs rest : List Instr) (s : State), s.pending = cs ++ rest →
    ∃ t, Host.Core.run Sys2Proof.core cs.length s = .next t ∧ t.pending = rest

/-- R482 as an invariant of every step of every command: outside a takeover gap the pins and their summaries follow the
latched events, the mutes, the halts and the state of R45.
The model's choices in it stand in log entry 68. -/
def Obligations.EveryStepKeepsPins : Prop :=
  ∀ s t : State, step s = .next t → t.dev.PinsFollow

/-- The invariant of the pins holds at reset. -/
def Obligations.ResetPins : Prop := State.reset.dev.PinsFollow

/-! Learning (R187-R195). -/

/-! SA commands (R115-R119, R122-R127). -/

/-- A learn request for a station not known puts it into a free way of its bucket (R189) and moves no other entry; LRN_FLUSH
starts a pass (R194) that at its end has left no entry the selector names; a visit of the sweeper ages the dynamic entries of
its bucket (R188, R193): one not hit since the last visit goes, one hit stays with its mark cleared, a static one stays, and
entries of other buckets are left alone.
The model's choices in it stand in log entries 17 and 34. -/
def Obligations.LearningServes : Prop :=
  (∀ (s : State) (slice bucket : Nat),
    s.dev.sliceOff (slice % 8) = false → s.dev.on F.LRN_FLUSH_BUSY (slice % 8) = false →
    s.dev.on F.LRN_CTRL_SWEEP_EN (slice % 8) = true →
    Completes (.sweeperVisit slice bucket none) s fun d =>
      (∀ w, w < 4 → (s.dev.lrnEnt (slice % 8) (bucket % 8192 * 4 + w)).valid = true →
        ((s.dev.lrnEnt (slice % 8) (bucket % 8192 * 4 + w)).static = false →
          ((s.dev.lrnEnt (slice % 8) (bucket % 8192 * 4 + w)).hit = false →
            d.lrnEnt (slice % 8) (bucket % 8192 * 4 + w) = {}) ∧
          ((s.dev.lrnEnt (slice % 8) (bucket % 8192 * 4 + w)).hit = true →
            (d.lrnEnt (slice % 8) (bucket % 8192 * 4 + w)).valid = true ∧
            (d.lrnEnt (slice % 8) (bucket % 8192 * 4 + w)).hit = false)) ∧
        ((s.dev.lrnEnt (slice % 8) (bucket % 8192 * 4 + w)).static = true →
          (d.lrnEnt (slice % 8) (bucket % 8192 * 4 + w)).valid = true ∧
          (d.lrnEnt (slice % 8) (bucket % 8192 * 4 + w)).mac = (s.dev.lrnEnt (slice % 8) (bucket % 8192 * 4 + w)).mac)) ∧
      (∀ i, i / 4 ≠ bucket % 8192 → i < 32768 → d.lrnEnt (slice % 8) i = s.dev.lrnEnt (slice % 8) i) ∧
      s.dev.ChangesOnly d [.regs, .evt, .lrn]) ∧
  (∀ (s : State) (slice w : Nat) (r : LrnReq) (q : List LrnReq),
    s.dev.sliceOff (slice % 8) = false → SMap.get [] s.dev.lrn.queue (slice % 8) = r :: q →
    s.dev.lrnFind (slice % 8) r.mpi r.mac = none →
    (s.dev.tf (0x50 + slice % 8) r.mpi 0 31 16 = 0 ∨
      s.dev.lrnCount (slice % 8) r.mpi < s.dev.tf (0x50 + slice % 8) r.mpi 0 31 16) →
    w < 4 → (s.dev.lrnEnt (slice % 8) (lrnBucket r.mpi r.mac * 4 + w)).valid = false →
    Completes (.learnRequest slice) s fun d =>
      (∃ k, k < 4 ∧ (s.dev.lrnEnt (slice % 8) (lrnBucket r.mpi r.mac * 4 + k)).valid = false ∧
        d.lrnEnt (slice % 8) (lrnBucket r.mpi r.mac * 4 + k) =
          { valid := true, hit := true, mpi := r.mpi, mac := r.mac, peer := r.peer, tx := r.tx } ∧
        ∀ j, j < 32768 → j ≠ lrnBucket r.mpi r.mac * 4 + k → d.lrnEnt (slice % 8) j = s.dev.lrnEnt (slice % 8) j) ∧
      SMap.get [] d.lrn.queue (slice % 8) = q ∧
      s.dev.ChangesOnly d [.regs, .evt, .mon, .lrn, .free]) ∧
  (∀ (s : State) (slice value : Nat),
    s.dev.sliceOff (slice % 8) = false → bit value 31 = true → s.dev.on F.LRN_FLUSH_BUSY (slice % 8) = false →
    Completes (.lrnFlush slice value) s fun d =>
      d.on F.LRN_FLUSH_BUSY (slice % 8) = true ∧ SMap.get 0 d.lrn.flushSel (slice % 8) = value % 2 ^ 30 ∧
      d.lrn.tab = s.dev.lrn.tab ∧
      s.dev.ChangesOnly d [.regs, .evt, .mon, .lrn] ∧
      s.dev.WritesOnly d (R.LRN_FLUSH.addr (slice % 8) 0 :: sideAddrs)) ∧
  (∀ (s : State) (slice : Nat),
    s.dev.sliceOff (slice % 8) = false → s.dev.on F.LRN_FLUSH_BUSY (slice % 8) = true →
    Completes (.flushDone slice) s fun d =>
      d.on F.LRN_FLUSH_BUSY (slice % 8) = false ∧
      (∀ e ∈ d.lrn.tab, e ∈ s.dev.lrn.tab ∧
        ¬(e.1 / 2 ^ 15 = slice % 8 ∧ SMap.get 0 s.dev.lrn.flushAt (slice % 8) ≤ e.1 % 2 ^ 15 / 4 ∧ e.1 % 2 ^ 15 / 4 < 8192 ∧
          flushHits (SMap.get 0 s.dev.lrn.flushSel (slice % 8)) e.2 = true)) ∧
      s.dev.ChangesOnly d [.regs, .evt, .lrn])

/-- Each of the eight SA commands whose checks hold is accepted and runs, ZEROIZE for either direction; one that fails a check of
R115 ends ABORTED in its acceptance cycle with the reason and without an effect.
The model's choices in it stand in log entries 10 and 27. -/
def Obligations.SaCommandsServed : Prop :=
  SaStarts .installTx 1 0 ∧ SaStarts .installRx 2 1 ∧ SaStarts .switchNowTx 3 0 ∧ SaStarts .openNowRx 4 1 ∧
  SaStarts .retireRx 5 1 ∧ SaStarts .setLimits 6 0 ∧
  (∀ dir, SaStarts (fun slice entry m => .zeroize slice dir entry m) 7 (dir % 2)) ∧
  (∀ (s : State) (slice : Nat) (m : Master),
    s.dev.isActive m = true → (s.dev.sl (slice % 8)).cmd = none →
    s.dev.satStop (slice % 8) (s.dev.saStaged (slice % 8) 8 0 0) = 0 →
    Completes (.zeroizeAll slice m) s fun d =>
      (d.sl (slice % 8)).cmd = some (s.dev.saStaged (slice % 8) 8 0 0) ∧ d.on F.SAT_STATUS_CMD_BUSY (slice % 8) = true ∧
      d.on F.SAT_STATUS_ZEROIZE_PENDING (slice % 8) = true ∧ s.dev.ChangesOnly d [.regs, .mon, .evt, .sat]) ∧
  SaFails .installTx 1 0 ∧ SaFails .installRx 2 1 ∧ SaFails .switchNowTx 3 0 ∧ SaFails .openNowRx 4 1 ∧
  SaFails .retireRx 5 1 ∧ SaFails .setLimits 6 0 ∧
  ∀ dir, SaFails (fun slice entry m => .zeroize slice dir entry m) 7 (dir % 2)

/-- SA_CMD_COMPLETE: the accepted command takes effect on the tables in its completion cycle (R103, R104, R111, R115, R118).
The model's choices in it stand in log entry 39. -/
def Obligations.SaCommandTakesEffect : Prop :=
  ∀ (s : State) (slice : Nat) (c : SatCmd), (s.dev.sl (slice % 8)).cmd = some c →
    s.dev.satWaits (slice % 8) c = false → s.dev.on F.SAT_STATUS_FENCED (slice % 8) = false →
    (c.op = 1 → (s.dev.tx (slice % 8) c.entry 0).st = 0 → Completes (.saCmdComplete slice) s fun d =>
      (d.tx (slice % 8) c.entry 0).st = (if (s.dev.txLive (slice % 8) c.entry).isSome then 1 else 2) ∧
      (d.tx (slice % 8) c.entry 0).key = stagedKey c.words ∧ (d.tx (slice % 8) c.entry 0).salt = stagedSalt c.words ∧
      (d.tx (slice % 8) c.entry 0).pn = c.pn ∧ (d.tx (slice % 8) c.entry 0).frames = 0 ∧
      (d.tx (slice % 8) c.entry 0).blocks = 0 ∧ SaDone (slice % 8) c d) ∧
    (c.op = 2 → (s.dev.rx (slice % 8) c.entry).st = 0 → Completes (.saCmdComplete slice) s fun d =>
      (d.rx (slice % 8) c.entry).st = (if bit c.attr 27 then 2 else 1) ∧
      (d.rx (slice % 8) c.entry).key = stagedKey c.words ∧ (d.rx (slice % 8) c.entry).highest = c.pn - 1 ∧
      SaDone (slice % 8) c d) ∧
    (c.op = 3 → (s.dev.tx (slice % 8) c.entry 0).st = 1 → Completes (.saCmdComplete slice) s fun d =>
      (d.tx (slice % 8) c.entry 0).st = 2 ∧ SaDone (slice % 8) c d) ∧
    (c.op = 4 → (s.dev.rx (slice % 8) c.entry).st = 1 → Completes (.saCmdComplete slice) s fun d =>
      (d.rx (slice % 8) c.entry).st = 2 ∧ (d.rx (slice % 8) c.entry).at_ = s.dev.net ∧ SaDone (slice % 8) c d) ∧
    (c.op = 5 → (s.dev.rx (slice % 8) c.entry).st = 2 → Completes (.saCmdComplete slice) s fun d =>
      (d.rx (slice % 8) c.entry).st = 3 ∧ (d.rx (slice % 8) c.entry).at_ = s.dev.net ∧ SaDone (slice % 8) c d) ∧
    (c.op = 7 → c.dir = 0 → Completes (.saCmdComplete slice) s fun d =>
      d.tx (slice % 8) c.entry 0 = {} ∧ d.tx (slice % 8) c.entry 1 = {} ∧ SaDone (slice % 8) c d) ∧
    (c.op = 7 → c.dir = 1 → Completes (.saCmdComplete slice) s fun d =>
      d.rx (slice % 8) c.entry = {} ∧ SaDone (slice % 8) c d) ∧
    (c.op = 8 → Completes (.saCmdComplete slice) s fun d =>
      (∀ e ∈ d.sat.tx, e.1 / 2 ^ 14 ≠ slice % 8) ∧ (∀ e ∈ d.sat.rx, e.1 / 2 ^ 13 ≠ slice % 8) ∧ SaDone (slice % 8) c d)

/-- SAT_CMD_ABORT, SAT_KEY_STAGE, RX_CLOSING_END, SAT_TRIGGER_FIFO_READ and SA_TABLE_SCRUB (R104, R119, R122, R123, R127).
The model's choices in it stand in log entry 27. -/
def Obligations.SaRecordsServed : Prop :=
  (∀ (s : State) (slice ticket : Nat) (m : Master) (c : SatCmd), s.dev.isActive m = true →
    (s.dev.sl (slice % 8)).cmd = some c → c.ticket = ticket % 2 ^ 16 →
    Completes (.satCmdAbort slice ticket m) s fun d =>
      (d.sl (slice % 8)).cmd = none ∧ d.get F.SAT_CMD_STATUS_STATE (slice % 8) = 3 ∧
      d.get F.SAT_CMD_STATUS_REASON (slice % 8) = 12 ∧ d.get F.SAT_CMD_STATUS_ABORT_RESULT (slice % 8) = 1 ∧
      d.sat.tx = s.dev.sat.tx ∧ d.sat.rx = s.dev.sat.rx ∧ s.dev.ChangesOnly d [.regs, .mon, .evt, .sat]) ∧
  (∀ (s : State) (slice word : Nat) (m : Master), s.dev.isActive m = true → (s.dev.sl (slice % 8)).words.length < 11 →
    Completes (.satKeyStage slice word m) s fun d =>
      (d.sl (slice % 8)).words = (s.dev.sl (slice % 8)).words ++ [word % 2 ^ 32] ∧
      d.get F.SAT_STATUS_KEY_WORDS (slice % 8) = (s.dev.sl (slice % 8)).words.length + 1 ∧
      d.sat.tx = s.dev.sat.tx ∧ d.sat.rx = s.dev.sat.rx ∧ s.dev.ChangesOnly d [.regs, .mon, .evt, .sat]) ∧
  (∀ (s : State) (slice entry : Nat), (s.dev.rx (slice % 8) (entry % 8192)).st = 3 →
    (s.dev.rx (slice % 8) (entry % 8192)).busy = 0 → (s.dev.sl (slice % 8)).fifo.length < 256 →
    Completes (.rxClosingEnd slice entry) s fun d =>
      d.rx (slice % 8) (entry % 8192) = {} ∧
      (d.sl (slice % 8)).fifo = (s.dev.sl (slice % 8)).fifo ++ [2 ^ 31 + 5 * 2 ^ 28 + 2 ^ 27 + entry % 8192] ∧
      d.sat.tx = s.dev.sat.tx ∧ s.dev.ChangesOnly d [.regs, .sat]) ∧
  (∀ (s : State) (slice r : Nat) (rest : List Nat), (s.dev.sl (slice % 8)).fifo = r :: rest →
    Completes (.satTriggerFifoRead slice) s fun d =>
      (d.sl (slice % 8)).fifo = rest ∧ d.out = s.dev.out ++ [.read (BitVec.ofNat 32 r)] ∧
      d.sat.tx = s.dev.sat.tx ∧ d.sat.rx = s.dev.sat.rx ∧ s.dev.ChangesOnly d [.regs, .mon, .evt, .sat, .out]) ∧
  (∀ (s : State) (slice entry pos err : Nat), s.dev.on F.SAT_CTRL_SCRUB_EN (slice % 8) = true →
    s.dev.domHeld (slice % 8 / 4) = false → 2 ≤ err →
    Completes (.saTableScrub slice 0 entry pos err) s fun d =>
      (d.tx (slice % 8) (entry % 8192) (pos % 2)).st = 5 ∧ (d.tx (slice % 8) (entry % 8192) (pos % 2)).key = [] ∧
      d.on F.SAT_ECC_STATUS_VALID (slice % 8) = true ∧ d.get F.SAT_ECC_STATUS_ENTRY (slice % 8) = entry % 8192 ∧
      s.dev.ChangesOnly d [.regs, .evt, .sat]) ∧
  ∀ (s : State) (slice dir entry pos err : Nat), s.dev.on F.SAT_CTRL_SCRUB_EN (slice % 8) = true →
    s.dev.domHeld (slice % 8 / 4) = false → dir ≠ 0 → 2 ≤ err →
    Completes (.saTableScrub slice dir entry pos err) s fun d =>
      (d.rx (slice % 8) (entry % 8192)).st = 5 ∧ (d.rx (slice % 8) (entry % 8192)).key = [] ∧
      d.on F.SAT_ECC_STATUS_VALID (slice % 8) = true ∧ d.get F.SAT_ECC_STATUS_ENTRY (slice % 8) = entry % 8192 ∧
      s.dev.ChangesOnly d [.regs, .evt, .sat]

/-- The diagnostic test window (R124, R125): opening it outside FACTORY empties every entry of the slice, and closing it
clears the test buffer; GO runs one operation and stores its tag. -/
def Obligations.DiagWindowServes : Prop :=
  (∀ (s : State) (slice : Nat) (m : Master),
    s.dev.passes m (R.SAT_DIAG_CTRL.addr (slice % 8) 0) = true → s.dev.diagMay (slice % 8) m = 0 →
    s.dev.on F.SAT_DIAG_CTRL_OPEN (slice % 8) = false →
    Completes (.diagOpen slice m) s fun d =>
      d.on F.SAT_DIAG_CTRL_OPEN (slice % 8) = true ∧ d.on F.SAT_STATUS_DIAG_OPEN (slice % 8) = true ∧
      (s.dev.fuse.lcs ≠ 0 → (∀ e ∈ d.sat.tx, e.1 / 2 ^ 14 ≠ slice % 8) ∧ ∀ e ∈ d.sat.rx, e.1 / 2 ^ 13 ≠ slice % 8)) ∧
  (∀ (s : State) (slice : Nat) (m : Master),
    s.dev.passes m (R.SAT_DIAG_CTRL.addr (slice % 8) 0) = true → s.dev.diagMay (slice % 8) m ≠ 1 →
    s.dev.on F.SAT_DIAG_CTRL_OPEN (slice % 8) = true →
    Completes (.diagClose slice m) s fun d =>
      d.on F.SAT_DIAG_CTRL_OPEN (slice % 8) = false ∧ d.on F.SAT_STATUS_DIAG_OPEN (slice % 8) = false ∧
      (∀ i, i < 2 ^ 32 → d.entry (0x38 + slice % 8) i = [])) ∧
  ∀ (s : State) (slice pipe : Nat), s.dev.on F.SAT_DIAG_CTRL_OPEN (slice % 8) = true →
    s.dev.tf (0x38 + slice % 8) 0 11 10 0 + s.dev.tf (0x38 + slice % 8) 0 12 10 0 ≤ 1920 →
    s.dev.diagMasks (slice % 8 * 16 + pipe % 8) (blockCount (s.dev.tf (0x38 + slice % 8) 0 12 10 0)) = true →
    Completes (.diagGo slice 0 pipe) s fun d =>
      d.on F.SAT_DIAG_CTRL_DONE (slice % 8) = true ∧ d.on F.SAT_DIAG_CTRL_ERR (slice % 8) = false ∧
      d.entry (0x38 + slice % 8) 1 = trimWords (bytesToWords (gcmSeal
        (wordsToBytes ((List.range 8).map (fun w => s.dev.tw (0x38 + slice % 8) 0 w)))
        (beNat (wordsToBytes ((List.range 3).map (fun w => s.dev.tw (0x38 + slice % 8) 0 (8 + w)))))
        ((s.dev.diagBytes (slice % 8)).take (s.dev.tf (0x38 + slice % 8) 0 11 10 0))
        (((s.dev.diagBytes (slice % 8)).drop (s.dev.tf (0x38 + slice % 8) 0 11 10 0)).take
          (s.dev.tf (0x38 + slice % 8) 0 12 10 0))).2)

/-! Sealing and opening (R129-R174). -/

/-- SEAL_START seals the next frame of a port under the packet number of its live position, which advances by one with the
counts of frames and blocks (R97, R99, R132-R138); SEAL_RESUME takes the parked frame up again (R156); SEAL_TAG_COMPLETE
completes the item of the oldest frame and frees its position (R103, R157).
The model's choices in it stand in log entry 30. -/
def Obligations.SealingAdvances : Prop :=
  (∀ (s : State) (slice port pos : Nat) (f : Frame) (rest : List Frame),
    (s.dev.ctx (slice % 8) (port % 32)).ready = f :: rest → s.dev.sliceOff (slice % 8) = false →
    (∀ k, (s.dev.ctx (slice % 8) (port % 32)).park = some k → f.cls = 0 ∧ f.ctl = false ∧ k.passes < 63) →
    s.dev.txLive (slice % 8) f.txEntry = some pos → s.dev.satStopped (slice % 8) 0 f.txEntry = false →
    s.dev.katBusy (slice % 8) 0 = false →
    s.dev.masksFor (slice % 8) 0 (blockCount (s.dev.sealText (slice % 8) (port % 32) pos f).length) = true →
    limitsHold (s.dev.tx (slice % 8) f.txEntry pos)
      (blockCount (s.dev.sealText (slice % 8) (port % 32) pos f).length) = true →
    Completes (.sealStart slice port) s fun d =>
      (d.tx (slice % 8) f.txEntry pos).pn = (s.dev.tx (slice % 8) f.txEntry pos).pn + 1 ∧
      (d.tx (slice % 8) f.txEntry pos).frames = (s.dev.tx (slice % 8) f.txEntry pos).frames + 1 ∧
      (d.tx (slice % 8) f.txEntry pos).blocks = (s.dev.tx (slice % 8) f.txEntry pos).blocks +
        blockCount (s.dev.sealText (slice % 8) (port % 32) pos f).length ∧
      ∃ x, (d.ctx (slice % 8) (port % 32)).cur = some x ∧ x.f = f ∧ x.pn = (s.dev.tx (slice % 8) f.txEntry pos).pn ∧
        (d.ctx (slice % 8) (port % 32)).ready = rest) ∧
  (∀ (s : State) (slice port : Nat) (k : Seal),
    (s.dev.ctx (slice % 8) (port % 32)).park = some k → s.dev.sliceOff (slice % 8) = false →
    s.dev.katBusy (slice % 8) 0 = false →
    (∀ f rest, (s.dev.ctx (slice % 8) (port % 32)).ready = f :: rest → ¬(f.cls = 0 ∧ f.ctl = false ∧ k.passes < 63)) →
    Completes (.sealResume slice port) s fun d =>
      (d.ctx (slice % 8) (port % 32)).park = none ∧
      ∃ x, (d.ctx (slice % 8) (port % 32)).cur = some x ∧ x.f = k.f ∧ x.off = k.off ∧ x.seg = k.seg) ∧
  ∀ (s : State) (slice port : Nat) (x : Seal) (rest : List Seal),
    (s.dev.ctx (slice % 8) (port % 32)).tail = x :: rest → s.dev.katBusy (slice % 8) 0 = false →
    Gives (.sealTagComplete slice port none) s
      ((((s.dev.setCtx (slice % 8) (port % 32) { s.dev.ctx (slice % 8) (port % 32) with tail := rest }).fillItem
        (port % 32) x.id x.whole).sealEnd (slice % 8) x).alarms)

/-- TAG_CHECK_DONE (R139, R153, R160-R162): a record whose tag, shim and packet number hold passes to the verified frames
and moves the replay state; one whose tag differs is discarded and counted. SEGMENT_TIMEOUT drops the parked record (R158).
The model's choices in it stand in log entry 30. -/
def Obligations.OpeningChecksTags : Prop :=
  (∀ (s : State) (slice : Nat) (r : OpenRec) (rest : List OpenRec),
    s.dev.openedOf (slice % 8) = r :: rest → s.dev.katBusy (slice % 8) 1 = false →
    (gcmOpen r.key r.iv r.aad r.ct).2 = r.tag → r.fault = false → r.refused = false →
    (r.shim = true → numAt (gcmOpen r.key r.iv r.aad r.ct).1 0 2 = 0x88B5 ∧
      nbits (numAt (gcmOpen r.key r.iv r.aad r.ct).1 2 2) 15 14 = 1 ∧
      nbits (numAt (gcmOpen r.key r.iv r.aad r.ct).1 2 2) 9 5 ≤ 24) →
    (r.emode = true ∨
      (s.dev.openedFrame (slice % 8) r (gcmOpen r.key r.iv r.aad r.ct).1).data.length + 4 ≤ 16000) →
    replayOk (s.dev.rx (slice % 8) r.entry) r.pn = true →
    Completes (.tagCheckDone slice false false) s fun d =>
      d.openedOf (slice % 8) = rest ∧
      d.vheld (slice % 8) = s.dev.vheld (slice % 8) ++ [s.dev.openedFrame (slice % 8) r (gcmOpen r.key r.iv r.aad r.ct).1] ∧
      (d.rx (slice % 8) r.entry).highest = max (s.dev.rx (slice % 8) r.entry).highest r.pn ∧
      (d.rx (slice % 8) r.entry).ok = (s.dev.rx (slice % 8) r.entry).ok + 1) ∧
  (∀ (s : State) (slice : Nat) (holdErr lrnErr : Bool) (r : OpenRec) (rest : List OpenRec),
    s.dev.openedOf (slice % 8) = r :: rest → s.dev.katBusy (slice % 8) 1 = false →
    (gcmOpen r.key r.iv r.aad r.ct).2 ≠ r.tag →
    Completes (.tagCheckDone slice holdErr lrnErr) s fun d =>
      d.openedOf (slice % 8) = rest ∧ d.vheld (slice % 8) = s.dev.vheld (slice % 8) ∧
      d.num R.CIP_CNT_TAG_FAIL (slice % 8) = min 0xFFFFFFFF (s.dev.num R.CIP_CNT_TAG_FAIL (slice % 8) + 1)) ∧
  ∀ (s : State) (slice port : Nat) (r : OpenRec), s.dev.parked (slice % 8) (port % 32) = some r → r.refused = false →
    Completes (.segmentTimeout slice port) s fun d =>
      d.parked (slice % 8) (port % 32) = none ∧
      d.num R.CIP_CNT_SEG_ERR (slice % 8) = min 0xFFFFFFFF (s.dev.num R.CIP_CNT_SEG_ERR (slice % 8) + 1)

/-- Faults of the cipher pipelines and their known-answer tests (R165, R168, R171): a fault starts the test, a test passed
with fewer than four transients in a second returns the pipeline to work, and one failed fences the slice; software starts
a test on a fenced slice alone.
The model's choices in it stand in log entry 30. -/
def Obligations.PipelineTests : Prop :=
  (∀ (s : State) (slice dir pipe kind : Nat),
    s.dev.sliceOff (slice % 8) = false → 1 ≤ kind → kind ≤ 3 → s.dev.katOf (slice % 8) dir = none →
    Completes (.pipelineFault slice dir pipe kind) s fun d =>
      d.katOf (slice % 8) dir = some ⟨dir % 2, pipe % 8, false, true⟩ ∧
      d.on F.CIP_STATUS_KAT_BUSY (slice % 8) = true) ∧
  (∀ (s : State) (slice dir : Nat) (k : KatRun), s.dev.katOf (slice % 8) dir = some k → k.auto = true →
    (s.dev.transients (slice % 8)).length < 3 →
    Completes (.pipeKatDone slice dir true) s fun d =>
      d.katOf (slice % 8) dir = none ∧
      d.on F.CIP_STATUS_KAT_BUSY (slice % 8) = (s.dev.katOf (slice % 8) (dir + 1)).isSome ∧
      SMap.get [] d.cip.trans (slice % 8) = s.dev.transients (slice % 8) ++ [s.dev.tim.clk] ∧
      d.num R.CIP_CNT_PIPE_TRANSIENT (slice % 8) =
        min 0xFFFFFFFF (s.dev.num R.CIP_CNT_PIPE_TRANSIENT (slice % 8) + 1)) ∧
  (∀ (s : State) (slice dir : Nat) (k : KatRun), s.dev.katOf (slice % 8) dir = some k → k.auto = true →
    Gives (.pipeKatDone slice dir false) s
      ((((s.dev.setKat (slice % 8) dir none).katDraw (slice % 8) k).set F.CIP_FAULT_STATUS_KIND 4 (slice % 8)).pipeFailed
        (slice % 8) k.dir k.pipe)) ∧
  (∀ (s : State) (slice dir pipe : Nat) (all : Bool),
    s.dev.on F.CIP_STATUS_FENCED (slice % 8) = true → s.dev.katOf (slice % 8) 0 = none → s.dev.katOf (slice % 8) 1 = none →
    Completes (.katGo slice dir pipe all) s fun d =>
      d.katOf (slice % 8) dir = some ⟨dir % 2, pipe % 8, all, false⟩ ∧
      d.on F.CIP_STATUS_KAT_BUSY (slice % 8) = true ∧ d.on F.CIP_KAT_CTRL_DONE (slice % 8) = false ∧
      d.on F.CIP_KAT_CTRL_PASS (slice % 8) = false ∧ s.dev.ChangesOnly d [.regs, .mon, .evt, .cip]) ∧
  (∀ (s : State) (slice dir : Nat) (pass : Bool) (k : KatRun),
    s.dev.katSoft (slice % 8) = some dir → s.dev.katOf (slice % 8) dir = some k →
    Completes (.katDone slice pass) s fun d =>
      d.katOf (slice % 8) dir = none ∧
      d.on F.CIP_STATUS_KAT_BUSY (slice % 8) = (s.dev.katOf (slice % 8) (dir + 1)).isSome ∧
      d.on F.CIP_KAT_CTRL_DONE (slice % 8) = true ∧ d.on F.CIP_KAT_CTRL_PASS (slice % 8) = pass ∧
      s.dev.ChangesOnly d [.regs, .evt, .cip]) ∧
  (∀ (s : State) (gen : Nat), s.dev.genUp (gen % 384) = true → (s.dev.mgen (gen % 384)).seeded = true →
    2 ^ 20 ≤ (s.dev.mgen (gen % 384)).drawn → (s.dev.mgen (gen % 384)).pending = false →
    Completes (.maskReseedRequest gen) s fun d =>
      (d.mgen (gen % 384)).pending = true ∧
      d.mint.reqs = s.dev.mint.reqs ++ [⟨1, 0, gen % 384, 8, s.dev.tim.clk⟩] ∧
      s.dev.ChangesOnly d [.regs, .cip, .mint]) ∧
  ∀ (s : State) (gen : Nat), (s.dev.mgen (gen % 384)).seeded = true → (s.dev.mgen (gen % 384)).stopped = false →
    2 ^ 24 ≤ (s.dev.mgen (gen % 384)).drawn →
    Completes (.maskGeneratorStop gen) s fun d =>
      (d.mgen (gen % 384)).stopped = true ∧ s.dev.ChangesOnly d [.regs, .evt, .cip]

/-! Mint (R459-R477). -/

/-- The noise sources (R459-R464, R476): a healthy block enters the pool conditioned, a start-up or restart test that
passes puts its source into RUN, a failed sample is counted against its source, and the Sage cores restart and enable
sources.
The model's choices in it stand in log entry 70. -/
def Obligations.NoiseSourcesRun : Prop :=
  (∀ (s : State) (source : Nat) (samples : Bytes),
    (s.dev.src (source % 4)).st = 1 → bit (s.dev.get F.MNT_SRC_CTRL_EN) (source % 4) = true → s.dev.mint.erased = false →
    ¬(s.dev.on F.MNT_TEST_CTRL_CAPTURE_EN = true ∧ s.dev.get F.MNT_TEST_CTRL_CAPTURE_SRC = source % 4) →
    bit (s.dev.get F.MNT_TEST_CTRL_INJECT) (source % 4) = false → samples.length = 128 →
    healthOk (s.dev.src (source % 4)) 832 (samplesOf samples) = true → s.dev.mint.pool.length < 8 → s.dev.calm = true →
    Completes (.noiseBlockComplete source samples) s fun d =>
      d.mint.pool = s.dev.mint.pool ++ [(source % 4, sha384 (beBytes 1 (source % 4) ++ samples))] ∧
      (d.src (source % 4)).fails = [] ∧ s.dev.ChangesOnly d [.regs, .mint]) ∧
  (∀ (s : State) (source : Nat) (samples : Bytes),
    (s.dev.src (source % 4)).st = 0 → bit (s.dev.get F.MNT_SRC_CTRL_EN) (source % 4) = true →
    bit (s.dev.get F.MNT_TEST_CTRL_INJECT) (source % 4) = false → samples.length = 128 →
    healthOk { s.dev.src (source % 4) with run := 0 } 832 (samplesOf samples) = true → s.dev.calm = true →
    Completes (.startupTestDone source samples) s fun d =>
      (d.src (source % 4)).st = 1 ∧ d.get (srcStateF (source % 4)) = 1 ∧ s.dev.ChangesOnly d [.regs, .mint]) ∧
  (∀ (s : State) (source : Nat) (samples : Bytes),
    (s.dev.src (source % 4)).st = 2 → bit (s.dev.get F.MNT_TEST_CTRL_INJECT) (source % 4) = false → samples.length = 32 →
    healthOk { s.dev.src (source % 4) with run := 0 } 233 (samplesOf samples) = true → s.dev.calm = true →
    Completes (.sourceRestartDone source samples) s fun d =>
      (d.src (source % 4)).st = 1 ∧ bit (d.get F.MNT_SRC_CTRL_RESTART) (source % 4) = false ∧
      s.dev.ChangesOnly d [.regs, .mint]) ∧
  (∀ (s : State) (source : Nat), (s.dev.src (source % 4)).st = 1 →
    Gives (.noiseSampleTestFailure source) s ((s.dev.htFail (source % 4)).alarms)) ∧
  (∀ (s : State) (mask : Nat) (m : Master), m.sage = true →
    Completes (.sourceRestart mask m) s fun d =>
      (∀ n, n < 4 → bit mask n = true → (s.dev.src n).st ≠ 3 → (d.src n).st = 2) ∧
      (∀ n, n < 4 → (bit mask n = false ∨ (s.dev.src n).st = 3) → d.src n = s.dev.src n) ∧
      s.dev.ChangesOnly d [.regs, .mon, .evt, .mint]) ∧
  ∀ (s : State) (enable : Nat), s.dev.fuse.lcs = 0 →
    Completes (.sourceEnable enable) s fun d =>
      d.get F.MNT_SRC_CTRL_EN = enable % 16 ∧ s.dev.ChangesOnly d [.regs, .mon, .evt, .mint]

/-- The DRBG and its requests (R465-R471): instantiation from the first conditioned block, a request served by the next
output of the generator, a reseed from the oldest block, and the commands of the Sage cores.
The model's choices in it stand in log entry 30. -/
def Obligations.DrbgServes : Prop :=
  (∀ (s : State) (b : Nat × Bytes) (rest : List (Nat × Bytes)),
    s.dev.mint.drbg = none → s.dev.mint.pool = b :: rest → s.dev.mint.erased = false → s.dev.mint.settling = false →
    s.dev.mint.zeroPers = false →
    Completes .drbgInstantiate s fun d =>
      d.mint.drbg = some (drbgStart b.2 s.dev.pers) ∧ d.mint.pool = rest ∧ d.mint.served = 0 ∧
      d.get F.MNT_STATUS_STATE = 1 ∧ s.dev.ChangesOnly d [.regs, .evt, .mint]) ∧
  (∀ (s : State) (g : Drbg) (r : MintReq),
    s.dev.mint.erased = false → s.dev.reseedDue = false → s.dev.mint.drbg = some g → nextReq s.dev.mint.reqs = some r →
    s.dev.mint.served < 2 ^ 20 → s.dev.get F.MNT_STATUS_STATE ≠ 3 → r.kind = 3 →
    Completes .mintRequestServe s fun d =>
      d.mint.drbg = some (drbgGen g (r.words * 4)).1 ∧ d.mint.reqs = s.dev.mint.reqs.erase r ∧
      d.mint.served = s.dev.mint.served + 1 ∧ d.mint.keyOut = bytesToWords (drbgGen g (r.words * 4)).2 ∧
      d.get F.MNT_CMD_STATUS_STATE = 2) ∧
  (∀ (s : State) (g : Drbg) (b : Nat × Bytes) (rest : List (Nat × Bytes)),
    s.dev.reseedDue = true → s.dev.mint.drbg = some g → s.dev.mint.pool = b :: rest →
    Completes .mintReseed s fun d =>
      d.mint.drbg = some (drbgReseed g b.2) ∧ d.mint.pool = rest ∧ d.mint.served = 0 ∧ d.mint.reseedClk = s.dev.tim.clk) ∧
  (∀ s : State, s.dev.mint.drbg.isSome = true →
    Completes .reseedTimer s fun d =>
      d.tim.clk = max s.dev.tim.clk (s.dev.mint.reseedClk + ms (max 1 (s.dev.get F.MNT_RESEED_CFG_RESEED_MS))) ∧
      d.reseedDue = true ∧ s.dev.ChangesOnly d [.regs, .tim]) ∧
  (∀ (s : State) (words : Nat) (m : Master), m.sage = true → s.dev.get F.MNT_CMD_STATUS_STATE ≠ 1 →
    s.dev.mint.keyOut = [] → s.dev.mint.erased = false → s.dev.get F.MNT_STATUS_STATE ≠ 3 → 8 ≤ words → words ≤ 16 →
    Completes (.mntCmdKey words m) s fun d =>
      d.mint.reqs = s.dev.mint.reqs ++ [⟨2, 3, 0, words, s.dev.tim.clk⟩] ∧ d.get F.MNT_CMD_STATUS_STATE = 1 ∧
      s.dev.ChangesOnly d [.regs, .mon, .evt, .mint]) ∧
  (∀ (s : State) (words : Nat) (m : Master), m.sage = true → s.dev.get F.MNT_CMD_STATUS_STATE ≠ 1 →
    s.dev.mint.randOut = [] → s.dev.mint.erased = false → s.dev.get F.MNT_STATUS_STATE ≠ 3 → 1 ≤ words → words ≤ 16 →
    Completes (.mntCmdRand words m) s fun d =>
      d.mint.reqs = s.dev.mint.reqs ++ [⟨3, 4, 0, words, s.dev.tim.clk⟩] ∧ d.get F.MNT_CMD_STATUS_STATE = 1 ∧
      s.dev.ChangesOnly d [.regs, .mon, .evt, .mint]) ∧
  ∀ (s : State) (m : Master), m.sage = true → s.dev.get F.MNT_CMD_STATUS_STATE ≠ 1 → s.dev.mint.erased = false →
    s.dev.get F.MNT_STATUS_STATE ≠ 3 →
    Completes (.mntCmdReseed m) s fun d =>
      d.mint.reseedCmd = true ∧ d.reseedDue = true ∧ d.get F.MNT_CMD_STATUS_STATE = 1 ∧
      s.dev.ChangesOnly d [.regs, .mon, .evt, .mint]

/-- The output buffers of Mint give each word once, to the Sage cores alone, and the factory facilities of R474 serve in
their lifecycle states. -/
def Obligations.MintOutputs : Prop :=
  (∀ (s : State) (m : Master) (w : Nat) (rest : List Nat), m.sage = true → s.dev.mint.keyOut = w :: rest →
    Completes (.mntKeyOutRead m) s fun d =>
      d.mint.keyOut = rest ∧ d.out = s.dev.out ++ [.read (BitVec.ofNat 32 w)] ∧
      s.dev.ChangesOnly d [.regs, .mon, .evt, .mint, .out]) ∧
  (∀ (s : State) (m : Master) (w : Nat) (rest : List Nat), m.sage = true → s.dev.mint.randOut = w :: rest →
    Completes (.mntRandOutRead m) s fun d =>
      d.mint.randOut = rest ∧ d.out = s.dev.out ++ [.read (BitVec.ofNat 32 w)] ∧
      s.dev.ChangesOnly d [.regs, .mon, .evt, .mint, .out]) ∧
  (∀ (s : State) (m : Master), m.sage = false →
    Completes (.mntKeyOutRead m) s fun d =>
      d.mint = s.dev.mint ∧ d.out = s.dev.out ++ [.read 0] ∧ d.get F.PAGE_VIOL_INFO_VALID = 1) ∧
  (∀ (s : State) (m : Master) (w : Nat) (rest : List Nat), s.dev.fuse.lcs = 0 → s.dev.testMay m false = true →
    s.dev.mint.testOut = w :: rest →
    Completes (.mntTestOutRead m) s fun d =>
      d.mint.testOut = rest ∧ d.out = s.dev.out ++ [.read (BitVec.ofNat 32 w)]) ∧
  (∀ (s : State) (m : Master) (v : Nat), s.dev.fuse.lcs = 0 ∨ s.dev.fuse.lcs = 3 → s.dev.testMay m true = true →
    s.dev.mint.cap = some v →
    Completes (.rawCaptureRead m) s fun d =>
      d.mint.cap = none ∧
      d.out = s.dev.out ++ [.read (BitVec.ofNat 32 (v * 2 ^ 16 + 2 ^ 15 + b2n s.dev.mint.capOvf * 2 ^ 14))]) ∧
  (∀ (s : State) (m : Master) (g : Drbg), s.dev.passes m (R.MNT_CMD.addr 0 0) = true → s.dev.testMay m false = true →
    s.dev.fuse.lcs = 0 → s.dev.mint.kat = some g →
    Completes (.mntCmdKat m) s fun d =>
      d.mint.testOut = bytesToWords (drbgGen g 64).2 ∧ d.mint.kat = some (drbgGen g 64).1 ∧
      d.get F.MNT_CMD_STATUS_STATE = 2) ∧
  (∀ (s : State) (value : Nat) (m : Master), s.dev.passes m (R.MNT_TEST_CTRL.addr 0 0) = true →
    s.dev.fuse.lcs = 0 ∨ s.dev.fuse.lcs = 3 → s.dev.testMay m true = true →
    Completes (.testCtrlWrite value m) s fun d =>
      d.get F.MNT_TEST_CTRL_CAPTURE_EN = nbits value 26 26 ∧ d.get F.MNT_TEST_CTRL_CAPTURE_SRC = nbits value 25 24) ∧
  ∀ (s : State) (word : Nat) (m : Master), s.dev.passes m (R.MNT_TEST_DATA.addr 0 0) = true → s.dev.fuse.lcs = 0 →
    s.dev.testMay m false = true → s.dev.on F.MNT_TEST_CTRL_KAT_LOAD = false →
    (s.dev.mint.testSrc = none → Completes (.mntTestData word m) s fun d => d.mint.testSrc = some (nbits word 31 30)) ∧
    ∀ n, s.dev.mint.testSrc = some n → (s.dev.src n).fifo.length < 64 →
      Completes (.mntTestData word m) s fun d =>
        d.mint.testSrc = none ∧ (d.src n).fifo = (s.dev.src n).fifo ++ [word % 2 ^ 32]

/-! Bay memory (R322-R342). -/

/-- The counter lines, the groups and the patrol of bay memory: a line that loads clean is cached and one that fails
quarantines its group with its cells poisoned (R334, R336); a write-back cleans its line (R334); an orphan group is freed
300 ms after it closed (R326); a live cell that the patrol finds lost is poisoned (R335, R338).
The model's choices in it stand in log entries 2 and 18. -/
def Obligations.BayLinesServed : Prop :=
  (∀ (s : State) (bay line : Nat), (s.dev.grp (bay % 4) (line % 2 ^ 20)).cached = false →
    (s.dev.grp (bay % 4) (line % 2 ^ 20)).st ≠ 3 → s.dev.on F.BAY_STATUS_READY (bay % 4) = true →
    ((s.dev.groups (bay % 4)).filter (fun e => e.2.cached)).length < 3840 →
    Completes (.counterLineLoad bay line 0) s fun d =>
      d.grp (bay % 4) (line % 2 ^ 20) = { s.dev.grp (bay % 4) (line % 2 ^ 20) with cached := true } ∧
      d.bay.cell = s.dev.bay.cell ∧ s.dev.ChangesOnly d [.regs, .bay]) ∧
  (∀ (s : State) (bay line err : Nat), 2 ≤ err → (s.dev.grp (bay % 4) (line % 2 ^ 20)).cached = false →
    (s.dev.grp (bay % 4) (line % 2 ^ 20)).st ≠ 3 → s.dev.on F.BAY_STATUS_READY (bay % 4) = true →
    ((s.dev.groups (bay % 4)).filter (fun e => e.2.cached)).length < 3840 →
    Completes (.counterLineLoad bay line err) s fun d =>
      (d.grp (bay % 4) (line % 2 ^ 20)).st = 3 ∧ (d.grp (bay % 4) (line % 2 ^ 20)).cached = false ∧
      (∀ k, k < 64 → (d.cellOf (bay % 4) (line % 2 ^ 20 * 64 + k)).poison = true) ∧
      d.get F.BAY_ERR_ADDR_KIND (bay % 4) = 2 ∧ s.dev.ChangesOnly d [.regs, .evt, .bay]) ∧
  (∀ (s : State) (bay line : Nat) (evict : Bool), (s.dev.grp (bay % 4) (line % 2 ^ 20)).cached = true →
    Completes (.counterLineWriteback bay line evict) s fun d =>
      (d.grp (bay % 4) (line % 2 ^ 20)).dirty = false ∧
      ((d.grp (bay % 4) (line % 2 ^ 20)).cached = true ↔
        evict = false ∨ (s.dev.grp (bay % 4) (line % 2 ^ 20)).st = 1) ∧
      d.bay.cell = s.dev.bay.cell ∧ s.dev.ChangesOnly d [.regs, .bay]) ∧
  (∀ (s : State) (bay group : Nat), (s.dev.grp (bay % 4) (group % 2 ^ 20)).st = 2 →
    (s.dev.grp (bay % 4) (group % 2 ^ 20)).live ≠ 0 → s.dev.on F.BAY_CTRL_RECLAIM_EN (bay % 4) = true →
    Completes (.orphanReclaim bay group) s fun d =>
      d.tim.clk = max s.dev.tim.clk ((s.dev.grp (bay % 4) (group % 2 ^ 20)).closeClk + ms 300) ∧
      (d.grp (bay % 4) (group % 2 ^ 20)).st = 0 ∧ (d.grp (bay % 4) (group % 2 ^ 20)).live = 0 ∧
      (∀ k, k < 64 → (d.cellOf (bay % 4) (group % 2 ^ 20 * 64 + k)).live = false) ∧
      s.dev.ChangesOnly d [.regs, .evt, .tim, .bay]) ∧
  (∀ (s : State) (bay index err : Nat), 2 ≤ err → s.dev.on F.BAY_CTRL_PATROL_EN (bay % 4) = true →
    s.dev.on F.BAY_STATUS_READY (bay % 4) = true → (s.dev.cellOf (bay % 4) (index % 2 ^ 26)).live = true →
    Completes (.patrolScrub bay 0 index err) s fun d =>
      d.cellOf (bay % 4) (index % 2 ^ 26) = { s.dev.cellOf (bay % 4) (index % 2 ^ 26) with poison := true } ∧
      d.get F.BAY_ERR_ADDR_INDEX (bay % 4) = index % 2 ^ 26 ∧ d.on F.BAY_ERR_ADDR_VALID (bay % 4) = true ∧
      s.dev.ChangesOnly d [.regs, .evt, .bay]) ∧
  ∀ (s : State) (bay part index : Nat), part ≠ 0 →
    Completes (.patrolScrub bay part index 0) s fun d => s.dev.ChangesOnly d [.regs]

/-- The epochs of a bay (R337, R339): a request asks Mint for a key; the epoch starts with it once the previous slot is
empty; the previous key is erased 300 ms later; training that ends well starts epoch 1 with empty cells.
The model's choices in it stand in log entry 5. -/
def Obligations.BayEpochsServed : Prop :=
  (∀ (s : State) (bay : Nat) (m : Master), s.dev.isActive m = true → s.dev.on F.BAY_STATUS_READY (bay % 4) = true →
    Completes (.newEpoch bay m) s fun d =>
      d.on F.BAY_STATUS_EPOCH_PENDING (bay % 4) = true ∧ SMap.get false d.bay.cmd (bay % 4) = true ∧
      d.get F.BAY_CMD_STATUS_STATE (bay % 4) = 1 ∧
      (s.dev.on F.BAY_STATUS_EPOCH_PENDING (bay % 4) = false →
        d.mint.reqs = s.dev.mint.reqs ++ [⟨2, 2, bay % 4, 8, s.dev.tim.clk⟩]) ∧
      s.dev.ChangesOnly d [.regs, .mon, .evt, .bay, .mint]) ∧
  (∀ (s : State) (bay : Nat), s.dev.on F.BAY_STATUS_READY (bay % 4) = true →
    s.dev.on F.BAY_STATUS_EPOCH_PENDING (bay % 4) = true → SMap.get [] s.dev.bay.newKey (bay % 4) ≠ [] →
    s.dev.prevLive (bay % 4) = false →
    Completes (.epochStart bay) s fun d =>
      d.get F.BAY_EPOCH_EPOCH (bay % 4) = (s.dev.get F.BAY_EPOCH_EPOCH (bay % 4) + 1) % 2 ^ 16 ∧
      SMap.get [] d.bay.key (bay % 4 * 2 + (s.dev.get F.BAY_EPOCH_EPOCH (bay % 4) + 1) % 2 ^ 16 % 2) =
        SMap.get [] s.dev.bay.newKey (bay % 4) ∧
      SMap.get [] d.bay.newKey (bay % 4) = [] ∧
      d.on F.BAY_STATUS_EPOCH_PENDING (bay % 4) = false ∧ d.on F.BAY_STATUS_KEYED (bay % 4) = true ∧
      d.on F.BAY_STATUS_PREV_KEY_LIVE (bay % 4) = true ∧ s.dev.ChangesOnly d [.regs, .evt, .bay]) ∧
  (∀ (s : State) (bay : Nat), s.dev.prevLive (bay % 4) = true →
    s.dev.on F.BAY_STATUS_PREV_KEY_LIVE (bay % 4) = true →
    Completes (.prevKeyErase bay) s fun d =>
      d.tim.clk = max s.dev.tim.clk (SMap.get 0 s.dev.bay.epochClk (bay % 4) + ms 300) ∧
      SMap.get [] d.bay.key (bay % 4 * 2 + (1 - s.dev.baySlot (bay % 4))) = [] ∧
      d.on F.BAY_STATUS_PREV_KEY_LIVE (bay % 4) = false ∧ s.dev.ChangesOnly d [.regs, .evt, .tim, .bay]) ∧
  (∀ (s : State) (bay c : Nat), SMap.get none s.dev.bay.quarClk (bay % 4) = some c →
    s.dev.on F.BAY_CTRL_EPOCH_AUTO (bay % 4) = true → s.dev.on F.BAY_STATUS_EPOCH_PENDING (bay % 4) = false →
    Completes (.epochAutoTimer bay) s fun d =>
      d.tim.clk = max s.dev.tim.clk (c + sec 1) ∧ d.on F.BAY_STATUS_EPOCH_PENDING (bay % 4) = true ∧
      d.mint.reqs = s.dev.mint.reqs ++ [⟨2, 2, bay % 4, 8, max s.dev.tim.clk (c + sec 1)⟩] ∧
      s.dev.ChangesOnly d [.regs, .tim, .mint]) ∧
  (∀ (s : State) (bay : Nat), s.dev.get F.BAY_CTRL_EPOCH_PERIOD_H (bay % 4) ≠ 0 →
    s.dev.on F.BAY_STATUS_READY (bay % 4) = true → s.dev.on F.BAY_STATUS_EPOCH_PENDING (bay % 4) = false →
    Completes (.epochPeriodTimer bay) s fun d =>
      d.tim.clk = max s.dev.tim.clk
        (SMap.get 0 s.dev.bay.epochClk (bay % 4) + sec (3600 * s.dev.get F.BAY_CTRL_EPOCH_PERIOD_H (bay % 4))) ∧
      d.on F.BAY_STATUS_EPOCH_PENDING (bay % 4) = true ∧
      d.mint.reqs = s.dev.mint.reqs ++ [⟨2, 2, bay % 4, 8, d.tim.clk⟩] ∧ s.dev.ChangesOnly d [.regs, .tim, .mint]) ∧
  (∀ (s : State) (bay rows : Nat), s.dev.on F.BAY_STATUS_TRAINING (bay % 4) = true →
    s.dev.domHeld (bay % 4 / 2) = false → SMap.get [] s.dev.bay.newKey (bay % 4) ≠ [] →
    Completes (.bayTrainingDone bay true rows) s fun d =>
      d.on F.BAY_STATUS_READY (bay % 4) = true ∧ d.on F.BAY_STATUS_TRAINING (bay % 4) = false ∧
      d.get F.BAY_EPOCH_EPOCH (bay % 4) = 1 ∧
      SMap.get [] d.bay.key (bay % 4 * 2 + 1) = SMap.get [] s.dev.bay.newKey (bay % 4) ∧
      (∀ c, c < 2 ^ 26 → d.cellOf (bay % 4) c = {}) ∧ (∀ g, g < 2 ^ 20 → d.grp (bay % 4) g = {}) ∧
      s.dev.ChangesOnly d [.regs, .evt, .bay]) ∧
  (∀ (s : State) (bay rows : Nat), s.dev.on F.BAY_STATUS_TRAINING (bay % 4) = true →
    s.dev.domHeld (bay % 4 / 2) = false →
    Completes (.bayTrainingDone bay false rows) s fun d =>
      d.on F.BAY_STATUS_FAILED (bay % 4) = true ∧ d.on F.BAY_STATUS_TRAINING (bay % 4) = false ∧
      d.bay = s.dev.bay ∧ s.dev.ChangesOnly d [.regs, .evt]) ∧
  ∀ (s : State) (bay : Nat), s.dev.domHeld (bay % 4 / 2) = false → s.dev.on F.BAY_STATUS_FAILED (bay % 4) = false →
    (∀ c ∈ s.dev.mrg.held, c.f.slice / 4 ≠ bay % 4 / 2) →
    Completes (.bayStackFault bay) s fun d =>
      d.on F.BAY_STATUS_FAILED (bay % 4) = true ∧ d.on F.BAY_STATUS_READY (bay % 4) = false ∧
      s.dev.ChangesOnly d [.regs, .evt]

/-! Queues (R208-R239). -/

/-- The commands of the policer and the scheduler (R205, R212, R216, R239).
The model's choices in it stand in log entries 10 and 33. -/
def Obligations.QueueCommandsServed : Prop :=
  (∀ (s : State) (meter : Nat),
    Completes (.fill meter) s fun d =>
      SMap.get {} d.fe.meter (meter % 32768) =
        ⟨s.dev.tf 0x60 (meter % 32768) 2 23 0 * 65536, s.dev.tf 0x60 (meter % 32768) 3 23 0 * 65536, s.dev.raw⟩ ∧
      (∀ k, k ≠ meter % 32768 → SMap.get {} d.fe.meter k = SMap.get {} s.dev.fe.meter k) ∧
      d.get F.POL_CMD_STATUS_STATE = 2 ∧ d.get F.POL_CMD_STATUS_INDEX = meter % 32768 ∧
      s.dev.ChangesOnly d [.regs, .mon, .evt, .fe]) ∧
  (∀ (s : State) (slice queue : Nat), s.dev.sch.flush = none →
    Completes (.flushQueue slice queue) s fun d =>
      d.queue (slice % 8) (queue % 8192) = [] ∧
      d.sch.flush = some (slice % 8, queue % 8192, (s.dev.queue (slice % 8) (queue % 8192)).length) ∧
      d.on F.SCH_STATUS_CMD_BUSY = true ∧ d.get F.SCH_CMD_STATUS_STATE = 1) ∧
  (∀ (s : State) (a b n : Nat), s.dev.sch.flush = some (a, b, n) →
    Completes .flushQueueDone s fun d =>
      d.sch.flush = none ∧ d.on F.SCH_STATUS_CMD_BUSY = false ∧ d.get F.SCH_CMD_STATUS_STATE = 2 ∧
      d.get F.SCH_CMD_STATUS_FRAMES = n % 2 ^ 21 ∧ s.dev.ChangesOnly d [.regs, .evt, .sch]) ∧
  (∀ s : State, s.dev.fe.copyWait = true →
    Completes .boundBankCopy s fun d =>
      d.tim.clk = max s.dev.tim.clk (s.dev.fe.switchClk + us 2) ∧ d.fe.bank = s.dev.fe.bank ∧
      d.fe.copyWait = false ∧ d.fe.copyBusy = true ∧ s.dev.ChangesOnly d [.regs, .tbl, .tim, .fe]) ∧
  (∀ s : State, s.dev.fe.copyBusy = true →
    Completes .boundCopyDone s fun d => d.fe = { s.dev.fe with copyBusy := false } ∧ s.dev.ChangesOnly d [.regs, .fe]) ∧
  ∀ (s : State) (port : Nat) (sa : Option (Nat × Nat)) (data : Bytes),
    s.dev.portOpen (port % 32) = true → (sa.isSome = true ∨ s.dev.fMode (port % 32) = true) → s.dev.active.isSome = true →
    Completes (.controlQueueSend port sa data) s fun d =>
      SMap.get [] d.sch.ctl (port % 32) =
        SMap.get [] s.dev.sch.ctl (port % 32) ++ [⟨sa.map (fun x => (x.1 % 8, x.2 % 8192)), data⟩] ∧
      s.dev.ChangesOnly d [.regs, .sch]

/-! The crossbar, the client egress and the merge pair (R224-R226, R244-R251, R296-R318). -/

/-- A frame's way to its line port (R88, R209-R223, R244, R296-R299): an unprotected frame is carried to its slice, a protected one
is numbered with its service's next sequence number and each of its two copies carries that number and its path; a copy on a
unicast service with a live transmit entry enters the queue of its service, port and class; a dequeue opportunity of a line
port hands the chosen frame to the seal stage of its slice.
The model's choices in it stand in log entries 7, 19 and 31. -/
def Obligations.FramesQueued : Prop :=
  (∀ (s : State) (fe disagree sl : Nat) (express : Bool) (ecc : Option Bool) (f : Frame),
    s.dev.xbarPick (fe % 4) express (SMap.get [] s.dev.fe.hold (fe % 4)) [] = some f → f.prot = false → f.slices = [sl] →
    s.dev.sliceOff sl = false → s.dev.calm = true →
    Completes (.crossbarTransfer fe express disagree ecc) s fun d =>
      SMap.get [] d.fe.hold (fe % 4) = (SMap.get [] s.dev.fe.hold (fe % 4)).erase f ∧
      SMap.get [] d.fe.steer sl = SMap.get [] s.dev.fe.steer sl ++ [{ f with slice := sl, slices := [] }] ∧
      s.dev.ChangesOnly d [.regs, .fe]) ∧
  (∀ (s : State) (fe a b : Nat) (express : Bool) (f : Frame),
    s.dev.xbarPick (fe % 4) express (SMap.get [] s.dev.fe.hold (fe % 4)) [] = some f → f.prot = true → f.slices = [a, b] →
    a ≠ b → s.dev.sliceOff a = false → s.dev.sliceOff b = false → s.dev.pairFenced 0 = false →
    s.dev.mrg.bad.contains (0xC1, f.svc) = false → s.dev.calm = true →
    Completes (.crossbarTransfer fe express 0 none) s fun d =>
      d.tw 0xC1 f.svc 0 = (s.dev.tw 0xC1 f.svc 0 + 1) % 2 ^ 32 ∧
      SMap.get [] d.fe.steer a = SMap.get [] s.dev.fe.steer a ++
        [{ f with msn := s.dev.tw 0xC1 f.svc 0, path := decide (a ≠ f.work), slice := a, slices := [] }] ∧
      SMap.get [] d.fe.steer b = SMap.get [] s.dev.fe.steer b ++
        [{ f with msn := s.dev.tw 0xC1 f.svc 0, path := decide (b ≠ f.work), slice := b, slices := [] }]) ∧
  (∀ (s : State) (slice q p : Nat) (express : Bool) (f : Frame),
    (SMap.get [] s.dev.fe.steer (slice % 8)).find? (fun f => decide (f.cls = 0) == express) = some f →
    s.dev.sliceOff (slice % 8) = false → f.cls = 0 →
    bit (s.dev.tw (0x20 + slice % 8) (f.tag * 2 ^ 24 + f.svc) 0) 31 = true →
    bit (s.dev.tw (0x20 + slice % 8) (f.tag * 2 ^ 24 + f.svc) 0) 30 = false →
    s.dev.txLive (slice % 8) (nbits (s.dev.tw (0x20 + slice % 8) (f.tag * 2 ^ 24 + f.svc) 0) 12 0) = some p →
    s.dev.suiteOk (s.dev.tx (slice % 8) (nbits (s.dev.tw (0x20 + slice % 8) (f.tag * 2 ^ 24 + f.svc) 0) 12 0) p) = true →
    s.dev.satStopped (slice % 8) 0 (nbits (s.dev.tw (0x20 + slice % 8) (f.tag * 2 ^ 24 + f.svc) 0) 12 0) = false →
    s.dev.portOpen
      (s.dev.tx (slice % 8) (nbits (s.dev.tw (0x20 + slice % 8) (f.tag * 2 ^ 24 + f.svc) 0) 12 0) p).lport = true →
    s.dev.queueFor (slice % 8) { f with
      slice := slice % 8, txEntry := nbits (s.dev.tw (0x20 + slice % 8) (f.tag * 2 ^ 24 + f.svc) 0) 12 0,
      lport := (s.dev.tx (slice % 8) (nbits (s.dev.tw (0x20 + slice % 8) (f.tag * 2 ^ 24 + f.svc) 0) 12 0) p).lport } =
      some q →
    s.dev.sch.flush = none →
    s.dev.turnAway (slice % 8) q { f with
      slice := slice % 8, txEntry := nbits (s.dev.tw (0x20 + slice % 8) (f.tag * 2 ^ 24 + f.svc) 0) 12 0,
      lport := (s.dev.tx (slice % 8) (nbits (s.dev.tw (0x20 + slice % 8) (f.tag * 2 ^ 24 + f.svc) 0) 12 0) p).lport } =
      none →
    Completes (.steer slice express none) s fun d =>
      SMap.get [] d.fe.steer (slice % 8) = (SMap.get [] s.dev.fe.steer (slice % 8)).erase f ∧
      (d.queue (slice % 8) q).length = (s.dev.queue (slice % 8) q).length + 1 ∧
      ∃ x ∈ d.queue (slice % 8) q, x.data = f.data ∧ x.slice = slice % 8 ∧ x.queue = q ∧
        x.txEntry = nbits (s.dev.tw (0x20 + slice % 8) (f.tag * 2 ^ 24 + f.svc) 0) 12 0) ∧
  (∀ (s : State) (port entered plane : Nat) (err : Option (Nat × Nat))
      (pk : Path × (List Nat × Bool) × (List Nat × Bool)) (f : Frame),
    s.dev.lineReady (port % 32) = true → s.dev.ctlHead (port % 32) = none →
    s.dev.linePlane (port % 32) = some (plane, pk) →
    (s.dev.planeDequeue (port % 32) plane pk err).2 = some f → f.cls ≠ 0 →
    Gives (.lineDequeue port entered err) s
      ((((s.dev.planeDequeue (port % 32) plane pk err).1.setCtx f.slice (port % 32)
        { (s.dev.planeDequeue (port % 32) plane pk err).1.ctx f.slice (port % 32) with
          ready := ((s.dev.planeDequeue (port % 32) plane pk err).1.ctx f.slice (port % 32)).ready ++ [f] })).alarms)) ∧
  ∀ (s : State) (port entered slice entry : Nat) (err : Option (Nat × Nat)) (c : CtlFrame),
    s.dev.lineReady (port % 32) = true → s.dev.ctlHead (port % 32) = some c → c.sa = some (slice, entry) →
    s.dev.calm = true →
    Completes (.lineDequeue port entered err) s fun d =>
      SMap.get [] d.sch.ctl (port % 32) = (SMap.get [] s.dev.sch.ctl (port % 32)).drop 1 ∧
      (d.ctx slice (port % 32)).ready = (s.dev.ctx slice (port % 32)).ready ++
        [{ data := c.data, slice := slice, txEntry := entry, lport := port % 32, ctl := true }] ∧
      s.dev.ChangesOnly d [.regs, .cip, .sch]

/-- R305: a sequence number that the rule of first-verified merge has passed does not pass again within the resynchronization
time: its second copy is a duplicate. -/
def Obligations.FirstVerifiedPassesOnce : Prop :=
  ∀ (s : StreamSt) (w resync deskew msn t t' : Nat), 1 ≤ w →
    (firstVerified s w resync deskew msn t).2.1 = 0 → t' - (firstVerified s w resync deskew msn t).1.lastPass ≤ resync →
    (firstVerified (firstVerified s w resync deskew msn t).1 w resync deskew msn t').2.1 = 1

/-- VERIFY_HOLD_RELEASE, HOLD_RELEASE and HOLD_INTERVAL_END (R224, R225, R304, R305, R309-R313): an unprotected frame enters the
egress buffer of its client port, a duplicate copy does not; a held copy is released at its instant; an interval's samples move
the holds.
The model's choices in it stand in log entries 33, 35 and 36. -/
def Obligations.CopiesMerged : Prop :=
  (∀ (s : State) (slice disagree c : Nat) (f : Frame) (rest : List Frame),
    s.dev.vheld (slice % 8) = f :: rest → s.dev.domHeld 2 = false → f.prot = false → s.dev.EgressOpen f c →
    s.dev.calm = true →
    Completes (.verifyHoldRelease slice disagree none) s fun d =>
      d.vheld (slice % 8) = rest ∧
      SMap.get [] d.sch.egr (c * 4 + f.cls) = SMap.get [] s.dev.sch.egr (c * 4 + f.cls) ++ [{ f with outPort := c }]) ∧
  (∀ (s : State) (slice : Nat) (f : Frame) (rest : List Frame),
    s.dev.vheld (slice % 8) = f :: rest → s.dev.domHeld 2 = false → f.prot = true → s.dev.pairFenced 1 = false →
    bit (s.dev.tw (0xC8 + f.slice) f.rxEntry 0) 31 = true →
    s.dev.tf 0xC0 (nbits (s.dev.tw (0xC8 + f.slice) f.rxEntry 0) 14 0) 0 31 31 = 1 →
    bit (s.dev.tw (0xC8 + f.slice) f.rxEntry 0) 30 = f.path → s.dev.mrg.bad = [] →
    s.dev.mAligned (nbits (s.dev.tw (0xC8 + f.slice) f.rxEntry 0) 14 0) = false →
    (firstVerified (s.dev.stream (nbits (s.dev.tw (0xC8 + f.slice) f.rxEntry 0) 14 0))
      (s.dev.mWin (nbits (s.dev.tw (0xC8 + f.slice) f.rxEntry 0) 14 0))
      (s.dev.mResync (nbits (s.dev.tw (0xC8 + f.slice) f.rxEntry 0) 14 0))
      (s.dev.mDeskew (nbits (s.dev.tw (0xC8 + f.slice) f.rxEntry 0) 14 0)) f.msn f.arr).2.1 = 1 →
    s.dev.calm = true →
    Completes (.verifyHoldRelease slice 0 none) s fun d =>
      d.vheld (slice % 8) = rest ∧ d.sch = s.dev.sch ∧ d.mrg.held = s.dev.mrg.held ∧
      d.mrg.stream = s.dev.mrg.stream) ∧
  (∀ (s : State) (c : HeldCopy) (p : Nat),
    s.dev.nextHeld = some c → s.dev.linesReady c.f.cells = true → (∀ x ∈ c.f.cells, s.dev.cellLost x = false) →
    (∀ x ∈ s.dev.mrg.held, x.twin = false) → s.dev.EgressOpen c.f p → s.dev.calm = true →
    Completes (.holdRelease none) s fun d =>
      d.tim.clk = max s.dev.tim.clk c.f.release ∧ d.mrg.held = s.dev.mrg.held.erase c ∧
      SMap.get [] d.sch.egr (p * 4 + c.f.cls) =
        SMap.get [] s.dev.sch.egr (p * 4 + c.f.cls) ++ [{ c.f with cells := [], outPort := p }]) ∧
  ∀ (s : State) (stream : Nat),
    (s.dev.stream (stream % 32768)).seeded = true → s.dev.mAligned (stream % 32768) = true →
    Completes (.holdIntervalEnd stream) s fun d =>
      s.dev.tim.clk ≤ d.tim.clk ∧
      (d.stream (stream % 32768)).n = 0 ∧
      (d.stream (stream % 32768)).lastN = (s.dev.stream (stream % 32768)).n ∧
      (d.stream (stream % 32768)).intervalClk = d.tim.clk ∧
      ((s.dev.stream (stream % 32768)).n < 16 →
        (d.stream (stream % 32768)).h0 = (s.dev.stream (stream % 32768)).h0 ∧
        (d.stream (stream % 32768)).h1 = (s.dev.stream (stream % 32768)).h1) ∧
      (16 ≤ (s.dev.stream (stream % 32768)).n →
        (d.stream (stream % 32768)).h0 = holdStep (s.dev.stream (stream % 32768)).h0
          (min (s.dev.mDeskew (stream % 32768))
            ((s.dev.stream (stream % 32768)).dmax.toNat + s.dev.mMargin (stream % 32768)))
          (!(s.dev.stream (stream % 32768)).aligned) ∧
        (d.stream (stream % 32768)).aligned = true) ∧
      s.dev.ChangesOnly d [.regs, .evt, .tim, .mrg]

/-- CLIENT_EGRESS_DEQUEUE (R225, R226, R247): the frame chosen goes to the client MAC with its FCS, or, where the guard finds it
late, is discarded and counted.
The model's choices in it stand in log entry 32. -/
def Obligations.EgressServed : Prop :=
  (∀ (s : State) (port k : Nat) (preempts add : Bool) (list : List Nat) (f : Frame) (rest : List Frame),
    s.dev.clientReady (port % 32) = true → s.dev.egrPick (port % 32) = some (k, list, add) →
    SMap.get [] s.dev.sch.egr (port % 32 * 4 + k) = f :: rest →
    (s.dev.clientGuard (port % 32) f).2.1 ≤ (s.dev.clientGuard (port % 32) f).2.2 →
    Completes (.clientEgressDequeue port preempts) s fun d =>
      d.out = s.dev.out ++ [.client (port % 32) (f.data ++ fcsBytes f.data)] ∧
      SMap.get [] d.sch.egr (port % 32 * 4 + k) = rest) ∧
  ∀ (s : State) (port k : Nat) (preempts add : Bool) (list : List Nat) (f : Frame) (rest : List Frame),
    s.dev.clientReady (port % 32) = true → s.dev.egrPick (port % 32) = some (k, list, add) →
    SMap.get [] s.dev.sch.egr (port % 32 * 4 + k) = f :: rest → k < 4 →
    (s.dev.clientGuard (port % 32) f).2.2 < (s.dev.clientGuard (port % 32) f).2.1 →
    Completes (.clientEgressDequeue port preempts) s fun d =>
      d.out = s.dev.out ∧ SMap.get [] d.sch.egr (port % 32 * 4 + k) = rest ∧
      d.num R.SCH_CNT_GUARD_CLIENT k = min 0xFFFFFFFF (s.dev.num R.SCH_CNT_GUARD_CLIENT k + 1)

/-- Restarts of a fenced pair, its quiet time, and the relocation of a fenced slice (R301, R316, R320).
The model's choices in it stand in log entries 10 and 20. -/
def Obligations.PairsRestart : Prop :=
  (∀ (s : State) (m : Master), s.dev.isActive m = true → s.dev.mrg.run = 0 → s.dev.pairFenced 0 = true →
    s.dev.mrg.seqLocked = false → s.dev.mrg.seqClk + s.dev.quietNs ≤ s.dev.tim.clk →
    Completes (.restartSeq m) s fun d =>
      d.mrg.run = 1 ∧ d.on F.MRG_STATUS_CMD_BUSY = true ∧ d.get F.MRG_CMD_STATUS_STATE = 1 ∧
      d.get F.MRG_CMD_STATUS_OP = 1 ∧ (∀ i, i < 2 ^ 32 → d.entry 0xC1 i = []) ∧
      s.dev.ChangesOnly d [.regs, .tbl, .mon, .evt, .mrg]) ∧
  (∀ (s : State) (m : Master), s.dev.isActive m = true → s.dev.mrg.run = 0 → s.dev.pairFenced 1 = true →
    s.dev.mrg.mergeLocked = false → s.dev.mrg.mergeClk + s.dev.quietNs ≤ s.dev.tim.clk →
    Completes (.restartMerge m) s fun d =>
      d.mrg.run = 2 ∧ d.on F.MRG_STATUS_CMD_BUSY = true ∧ d.get F.MRG_CMD_STATUS_STATE = 1 ∧
      d.get F.MRG_CMD_STATUS_OP = 2 ∧ d.mrg.stream = [] ∧ s.dev.ChangesOnly d [.regs, .mon, .evt, .mrg]) ∧
  (∀ (s : State) (m : Master), s.dev.isActive m = true → s.dev.mrg.run = 0 → s.dev.pairFenced 0 = true →
    s.dev.mrg.seqLocked = false → s.dev.tim.clk < s.dev.mrg.seqClk + s.dev.quietNs →
    Completes (.restartSeq m) s fun d =>
      d.mrg = s.dev.mrg ∧ d.get F.MRG_CMD_STATUS_STATE = 3 ∧ d.get F.MRG_CMD_STATUS_REASON = 2 ∧
      s.dev.ChangesOnly d [.regs, .mon, .evt]) ∧
  (∀ s : State, s.dev.mrg.run = 1 →
    Completes (.restartSelfCheckDone true) s fun d =>
      d.mrg.run = 0 ∧ d.pairFenced 0 = false ∧ d.mrg.seqRestart = some s.dev.tim.clk ∧
      d.get F.MRG_CMD_STATUS_STATE = 2 ∧ s.dev.ChangesOnly d [.regs, .evt, .mrg]) ∧
  (∀ s : State, s.dev.mrg.run ≠ 0 →
    Completes (.restartSelfCheckDone false) s fun d =>
      d.mrg.run = 0 ∧ d.pairFenced 0 = s.dev.pairFenced 0 ∧ d.pairFenced 1 = s.dev.pairFenced 1 ∧
      d.get F.MRG_CMD_STATUS_STATE = 3 ∧ d.get F.MRG_CMD_STATUS_REASON = 4 ∧ s.dev.ChangesOnly d [.regs, .evt, .mrg]) ∧
  (∀ (s : State) (pair : Nat), pair % 2 = 0 → s.dev.pairFenced 0 = true → s.dev.on F.MRG_CTRL_AUTO_RESTART = false →
    Completes (.quietTimeMet pair) s fun d =>
      d.tim.clk = max s.dev.tim.clk (s.dev.mrg.seqClk + s.dev.quietNs) ∧ d.on F.MRG_STATUS_SEQ_QUIET_MET = true ∧
      d.pairFenced 0 = true ∧ s.dev.ChangesOnly d [.regs, .tim]) ∧
  ∀ (s : State) (slice target : Nat), s.dev.on F.SAT_STATUS_FENCED (slice % 8) = true → target % 4 ≠ slice % 8 % 4 →
    s.dev.sliceOff (slice % 8 / 4 * 4 + target % 4) = false → s.dev.active.isSome = true →
    Completes (.sliceRelocation slice target) s fun d =>
      d.get ⟨R.FE_SLICE_REMAP, 2 * (slice % 8) + 1, 2 * (slice % 8)⟩ = target % 4 ∧
      d.get ⟨R.MRG_RX_REDIRECT, 2 * (slice % 8) + 1, 2 * (slice % 8)⟩ = target % 4 ∧
      d.get ⟨R.MRG_RX_REDIRECT, 24 + slice % 8, 24 + slice % 8⟩ = 1 ∧ d.sat.tx = s.dev.sat.tx ∧
      s.dev.ChangesOnly d [.regs, .tbl, .sat]

/-! Line framing (R256-R295). -/

/-- ITEM_EMIT and TIMED_LAUNCH (R157, R250, R261-R265, R287): the item first in sealing order leaves: on an F-mode port as a
frame on its lanes, in an envelope into its payload area; a timed record leaves at its launch time.
The model's choices in it stand in log entry 8. -/
def Obligations.ItemsLeave : Prop :=
  (∀ (s : State) (port : Nat) (it : Item) (rest : List Item),
    s.dev.backEnd (port % 32) = it :: rest → it.ready = true → it.launch = none → s.dev.lineIdle (port % 32) = true →
    Completes (.itemEmit port) s fun d =>
      d.backEnd (port % 32) = rest ∧ d.out = s.dev.out ++ [.line (port % 32) it.bytes]) ∧
  (∀ (s : State) (port : Nat) (it : Item) (rest : List Item),
    s.dev.backEnd (port % 32) = it :: rest → it.ready = true → it.launch = none → s.dev.eMode (port % 32) = true →
    s.dev.get F.ENV_STATUS_TX_STATE (port % 32) = 1 →
    max (s.dev.payBlock (port % 32) s.dev.now25) ((s.dev.ep (port % 32)).pay.length / 8) < 2040 →
    Completes (.itemEmit port) s fun d =>
      d.backEnd (port % 32) = rest ∧ d.out = s.dev.out ∧
      (d.ep (port % 32)).pay = (s.dev.ep (port % 32)).pay ++
        (List.replicate (max (s.dev.payBlock (port % 32) s.dev.now25) ((s.dev.ep (port % 32)).pay.length / 8) -
          (s.dev.ep (port % 32)).pay.length / 8) fillBlock).flatten ++ pad8 it.bytes) ∧
  ∀ (s : State) (port t : Nat) (it : Item) (rest : List Item),
    s.dev.backEnd (port % 32) = it :: rest → it.ready = true → it.launch = some t →
    (s.dev.advance t).lineIdle (port % 32) = true →
    Completes (.timedLaunch port) s fun d =>
      d.tim.clk = max s.dev.tim.clk t ∧ d.backEnd (port % 32) = rest ∧
      d.out = s.dev.out ++ [.line (port % 32) it.bytes]

/-- ENVELOPE_FRAME_TX and ENVELOPE_FRAME_RX (R257-R268, R276, R277): a frame with its header is sent at the end of its period
and counted against its key; a received frame under a live key, whose number comes next, is accepted, and one whose alignment
word is wrong is not.
The model's choices in it stand in log entries 40 and 41. -/
def Obligations.EnvelopeFrames : Prop :=
  (∀ (s : State) (port k : Nat),
    s.dev.envActive (port % 32) = some k → s.dev.eMode (port % 32) = true →
    s.dev.get F.ENV_STATUS_TX_STATE (port % 32) = 1 → s.dev.on F.LPORT_STATUS_TX_ACTIVE (port % 32) = true →
    s.dev.engineMasks (port % 32 / 8) 0 = true → s.dev.on F.LFE_STATUS_TX_ENGINE_FAILED (port % 32 / 8) = false →
    (s.dev.ep (port % 32)).stag ≠ [] → (s.dev.ep (port % 32)).efn % 256 ≠ 255 →
    (s.dev.epos (port % 32) 0 k).frames + 1 < (s.dev.epos (port % 32) 0 k).limit * 65536 →
    Completes (.envelopeFrameTx port) s fun d =>
      (∃ body, d.out = s.dev.out ++ [.line (port % 32)
        (envHead (s.dev.ep (port % 32)).efn (s.dev.ep (port % 32)).sbip k ++ (s.dev.ep (port % 32)).stag ++ body)]) ∧
      (d.ep (port % 32)).efn = (s.dev.ep (port % 32)).efn + 1 ∧
      (d.epos (port % 32) 0 k).frames = (s.dev.epos (port % 32) 0 k).frames + 1 ∧
      (d.epos (port % 32) 0 k).st = 2) ∧
  (∀ (s : State) (port at_ : Nat) (bytes : Bytes) (bad : Bool),
    s.dev.eMode (port % 32) = true → s.dev.on F.LPORT_CTRL_ENABLE (port % 32) = true →
    s.dev.get F.ENV_STATUS_ALIGN (port % 32) = 2 → popCount (numAt bytes 0 6 ^^^ 0x3CA596695AC3) < 4 →
    numAt bytes 15 1 % 128 = 16 → s.dev.on F.LFE_STATUS_RX_ENGINE_FAILED (port % 32 / 8) = false →
    s.dev.engineMasks (port % 32 / 8) 1 = true → (s.dev.epos (port % 32) 1 (numAt bytes 15 1 / 128)).st = 1 →
    ((s.dev.ep (port % 32)).rxPrev = true →
      numAt bytes 8 7 * 256 + numAt bytes 6 1 = (s.dev.ep (port % 32)).rxEfn + 1) →
    ((s.dev.ep (port % 32)).rxPrev = false →
      (s.dev.epos (port % 32) 1 (numAt bytes 15 1 / 128)).highest < numAt bytes 8 7 * 256 + numAt bytes 6 1) →
    Completes (.envelopeFrameRx port bytes at_ bad) s fun d =>
      (d.ep (port % 32)).rxPrev = true ∧ (d.ep (port % 32)).rxEfn = numAt bytes 8 7 * 256 + numAt bytes 6 1 ∧
      (d.epos (port % 32) 1 (numAt bytes 15 1 / 128)).highest =
        max (s.dev.epos (port % 32) 1 (numAt bytes 15 1 / 128)).highest (numAt bytes 8 7 * 256 + numAt bytes 6 1)) ∧
  ∀ (s : State) (port at_ : Nat) (bytes : Bytes) (bad : Bool),
    s.dev.eMode (port % 32) = true → s.dev.on F.LPORT_CTRL_ENABLE (port % 32) = true →
    s.dev.get F.ENV_STATUS_ALIGN (port % 32) = 2 → 4 ≤ popCount (numAt bytes 0 6 ^^^ 0x3CA596695AC3) →
    (s.dev.ep (port % 32)).badPos < 3 →
    Completes (.envelopeFrameRx port bytes at_ bad) s fun d =>
      (d.ep (port % 32)).rxPrev = false ∧ (d.ep (port % 32)).badPos = (s.dev.ep (port % 32)).badPos + 1 ∧
      d.env.pos = s.dev.env.pos

/-- SEGMENT_DISPATCH and FMODE_FRAME_RX (R143, R261-R263, R277-R279, R287-R289, R363): the next segment that delineation finds
goes to its slice, so does a frame held back for masks; a secured frame of an F-mode port is dispatched; a frame whose FCS is
wrong goes nowhere.
The model's choices in it stand in log entry 43. -/
def Obligations.RecordsDispatched : Prop :=
  (∀ (s : State) (port : Nat) (c : RxChunk) (bs : Bytes),
    s.dev.domHeld (port % 32 / 16) = false → s.dev.lRate (port % 32) ≠ 0 → s.dev.fMode (port % 32) = false →
    (Dev.delineate (streamFuel (s.dev.ep (port % 32))) s.dev (port % 32)).2 = .segment c bs →
    Gives (.segmentDispatch port) s
      ((Dev.delineate (streamFuel (s.dev.ep (port % 32))) s.dev (port % 32)).1.sendSegment (port % 32) c bs)) ∧
  (∀ (s : State) (port : Nat) (x : Bytes × Nat) (rest : List (Bytes × Nat)),
    s.dev.domHeld (port % 32 / 16) = false → s.dev.lRate (port % 32) ≠ 0 → s.dev.fMode (port % 32) = true →
    (s.dev.ep (port % 32)).pend = x :: rest → (s.dev.securedFrame (port % 32) x.1 x.2).2 = false →
    Completes (.segmentDispatch port) s fun d => (d.ep (port % 32)).pend = rest) ∧
  (∀ (s : State) (port at_ : Nat) (frame : Bytes),
    s.dev.fMode (port % 32) = true → s.dev.lRate (port % 32) ≠ 0 → s.dev.on F.LPORT_CTRL_ENABLE (port % 32) = true →
    s.dev.on F.LPORT_STATUS_LINK_UP (port % 32) = true → s.dev.domHeld (port % 32 / 16) = false →
    64 ≤ frame.length → frame.length ≤ 16040 → frame.drop (frame.length - 4) = fcsBytes (frame.take (frame.length - 4)) →
    numAt (frame.take (frame.length - 4)) 12 2 = 0x88E5 → (s.dev.ep (port % 32)).pend ≠ [] →
    Completes (.fmodeFrameRx port frame at_) s fun d =>
      (d.ep (port % 32)).pend = (s.dev.ep (port % 32)).pend ++ [(frame.take (frame.length - 4), at_)] ∧
      d.cip = s.dev.cip) ∧
  ∀ (s : State) (port at_ : Nat) (frame : Bytes),
    64 ≤ frame.length → frame.length ≤ 16040 → frame.drop (frame.length - 4) ≠ fcsBytes (frame.take (frame.length - 4)) →
    Completes (.fmodeFrameRx port frame at_) s fun d =>
      d.env = s.dev.env ∧ d.cip = s.dev.cip ∧ d.fe = s.dev.fe ∧ d.out = s.dev.out

/-- The key commands of a line port (R273) are accepted where their checks hold, aborted by their ticket, and staged words are
kept.
The model's choices in it stand in log entries 27 and 42. -/
def Obligations.EnvKeyCommandsAccepted : Prop :=
  (∀ (s : State) (port pos group : Nat) (m : Master),
    EnvStarts (.envInstallTx port pos group m) s (port % 32) 1 0 (pos % 2) group m) ∧
  (∀ (s : State) (port pos : Nat) (m : Master), EnvStarts (.envInstallRx port pos m) s (port % 32) 2 1 (pos % 2) 0 m) ∧
  (∀ (s : State) (port : Nat) (m : Master), EnvStarts (.envSwitchNowTx port m) s (port % 32) 3 0 0 0 m) ∧
  (∀ (s : State) (port dir pos : Nat) (m : Master),
    EnvStarts (.envZeroize port dir pos m) s (port % 32) 4 (dir % 2) (pos % 2) 0 m) ∧
  (∀ (s : State) (port : Nat) (m : Master), EnvStarts (.envZeroizeAll port m) s (port % 32) 5 0 0 0 m) ∧
  (∀ (s : State) (port ticket : Nat) (m : Master) (c : EnvCmd), s.dev.isActive m = true → s.dev.lRate (port % 32) ≠ 0 →
    (s.dev.ep (port % 32)).cmd = some c → c.ticket = ticket % 2 ^ 16 →
    Completes (.envKeyAbort port ticket m) s fun d =>
      (d.ep (port % 32)).cmd = none ∧ d.get F.ENV_KEY_STATUS_STATE (port % 32) = 3 ∧
      d.get F.ENV_KEY_STATUS_REASON (port % 32) = 7 ∧ d.get F.ENV_KEY_STATUS_ABORT_RESULT (port % 32) = 1) ∧
  ∀ (s : State) (port word : Nat) (m : Master), s.dev.passes m (R.ENV_KEY_STAGE.addr (port % 32) 0) = true →
    s.dev.mayWrite m = true → (s.dev.ep (port % 32)).words.length < 11 →
    Completes (.envKeyStage port word m) s fun d =>
      (d.ep (port % 32)).words = (s.dev.ep (port % 32)).words ++ [word % 2 ^ 32] ∧ d.env.pos = s.dev.env.pos ∧
      s.dev.ChangesOnly d [.regs, .mon, .evt, .env]

/-- ENV_KEY_CMD_COMPLETE (R269, R271, R273): an install loads the staged key into its position; a switch ends once its position is
ACTIVE; a zeroization leaves its positions EMPTY.
The model's choices in it stand in log entry 42. -/
def Obligations.EnvKeyCommandsComplete : Prop :=
  ∀ (s : State) (port : Nat) (c : EnvCmd), (s.dev.ep (port % 32)).cmd = some c → c.pos < 2 →
    (c.op = 1 → Completes (.envKeyCmdComplete port) s fun d =>
      (d.epos (port % 32) 0 c.pos).st = 1 ∧ (d.epos (port % 32) 0 c.pos).key = stagedKey (s.dev.ep (port % 32)).words ∧
      (d.epos (port % 32) 0 c.pos).salt = stagedSalt (s.dev.ep (port % 32)).words ∧
      (d.epos (port % 32) 0 c.pos).limit = s.dev.num R.ENV_KEY_LIMIT (port % 32) ∧ EnvDone d (port % 32) 1) ∧
    (c.op = 2 → Completes (.envKeyCmdComplete port) s fun d =>
      (d.epos (port % 32) 1 c.pos).st = 1 ∧ (d.epos (port % 32) 1 c.pos).key = stagedKey (s.dev.ep (port % 32)).words ∧
      (d.epos (port % 32) 1 c.pos).highest = 0 ∧ EnvDone d (port % 32) 2) ∧
    (c.op = 3 → (s.dev.epos (port % 32) 0 0).due = false → (s.dev.epos (port % 32) 0 1).due = false →
      Completes (.envKeyCmdComplete port) s fun d => d.env.pos = s.dev.env.pos ∧ EnvDone d (port % 32) 3) ∧
    (c.op = 4 → c.dir = 0 → Completes (.envKeyCmdComplete port) s fun d =>
      d.epos (port % 32) 0 c.pos = {} ∧ EnvDone d (port % 32) 4) ∧
    (c.op = 4 → c.dir = 1 → Completes (.envKeyCmdComplete port) s fun d =>
      d.epos (port % 32) 1 c.pos = {} ∧ EnvDone d (port % 32) 4) ∧
    (c.op = 5 → Completes (.envKeyCmdComplete port) s fun d =>
      d.epos (port % 32) 0 0 = {} ∧ d.epos (port % 32) 0 1 = {} ∧ d.epos (port % 32) 1 0 = {} ∧
      d.epos (port % 32) 1 1 = {} ∧ EnvDone d (port % 32) 5)

/-- MULTIFRAME_BOUNDARY, DEFECT_TIMER, ENGINE_FAULT and ALIGNMENT_SEARCH_BLOCK (R268-R270, R275, R283): a position due becomes ACTIVE
and the other EMPTY; a defect whose condition lasted its time is set; the first fault of an engine takes its spare and the
second fails it; a candidate confirmed one frame on is alignment.
The model's choices in it stand in log entries 43 and 44. -/
def Obligations.EnvelopeEngines : Prop :=
  (∀ (s : State) (port k : Nat), s.dev.eMode (port % 32) = true → s.dev.get F.ENV_STATUS_TX_STATE (port % 32) ≠ 1 →
    [0, 1].find? (fun k => (s.dev.epos (port % 32) 0 k).due) = some k →
    Completes (.multiframeBoundary port) s fun d =>
      (d.epos (port % 32) 0 k).st = 2 ∧ (d.epos (port % 32) 0 k).due = false ∧
      (d.epos (port % 32) 0 k).key = (s.dev.epos (port % 32) 0 k).key ∧
      ((s.dev.epos (port % 32) 0 (1 - k)).st = 2 → d.epos (port % 32) 0 (1 - k) = {})) ∧
  (∀ (s : State) (port : Nat), s.dev.eMode (port % 32) = true → s.dev.on F.LPORT_CTRL_ENABLE (port % 32) = true →
    bit (s.dev.ep (port % 32)).raw 1 = true → bit (s.dev.get F.ENV_STATUS_DEFECTS (port % 32)) 1 = false →
    Completes (.defectTimer port 1) s fun d =>
      bit (d.get F.ENV_STATUS_DEFECTS (port % 32)) 1 = true ∧
      d.tim.clk = max s.dev.tim.clk (SMap.get 0 (s.dev.ep (port % 32)).rawClk 1 + s.dev.defTime (port % 32) 1 true)) ∧
  (∀ (s : State) (port pipe block : Nat), s.dev.eMode (port % 32) = true →
    s.dev.on F.LFE_STATUS_TX_ENGINE_FAILED (port % 32 / 8) = false → SMap.get 0 s.dev.env.spare (port % 32 / 8 * 2) = 0 →
    Completes (.engineFault port 0 pipe block) s fun d =>
      SMap.get 0 d.env.spare (port % 32 / 8 * 2) = pipe % 14 + 1 ∧
      d.on F.LFE_STATUS_SPARE_IN_USE (port % 32 / 8) = true ∧
      d.on F.LFE_STATUS_TX_ENGINE_FAILED (port % 32 / 8) = false) ∧
  (∀ (s : State) (port pipe block : Nat), s.dev.eMode (port % 32) = true →
    s.dev.on F.LFE_STATUS_TX_ENGINE_FAILED (port % 32 / 8) = false → SMap.get 0 s.dev.env.spare (port % 32 / 8 * 2) ≠ 0 →
    Completes (.engineFault port 0 pipe block) s fun d =>
      d.on F.LFE_STATUS_TX_ENGINE_FAILED (port % 32 / 8) = true) ∧
  ∀ (s : State) (port : Nat) (block : Bytes) (x : Nat × Nat),
    s.dev.eMode (port % 32) = true → s.dev.on F.LPORT_CTRL_ENABLE (port % 32) = true →
    s.dev.get F.ENV_STATUS_ALIGN (port % 32) ≠ 2 → bit (s.dev.get F.ENV_STATUS_DEFECTS (port % 32)) 0 = false →
    numAt block 0 6 = 0x3CA596695AC3 → x ∈ (s.dev.ep (port % 32)).cand → x.1 + 2048 = (s.dev.ep (port % 32)).blk →
    numAt block 6 1 = (x.2 + 1) % 256 →
    Completes (.alignmentSearchBlock port block true) s fun d =>
      d.get F.ENV_STATUS_ALIGN (port % 32) = 2 ∧ (d.ep (port % 32)).rxPrev = false ∧
      d.on F.ENV_RX_TRAIL_VALID (port % 32) = false ∧ bit (d.ep (port % 32)).raw 1 = false

/-! Client front ends and rule versions (R46-R87). -/

/-- CLIENT_FRAME_ARRIVAL (R22, R46-R63, R354): a frame whose FCS is wrong leaves the front end as it was; one on a service
that its class and slice admit waits in the front-end hold for its slice.  R51 whole: a frame whose EtherType after 0-2 tags is
0x88B5 is discarded and counted in FE_CNT_CTRL_REJECT, and nothing of it reaches the front end's hold or any slice.
The model's choices in it stand in log entries 5 and 29. -/
def Obligations.ClientFramesClassified : Prop :=
  (∀ (s : State) (port at_ : Nat) (frame : Bytes) (ecc : Option (Nat × Nat × Bool)),
    frame.drop (frame.length - 4) ≠ fcsBytes (frame.take (frame.length - 4)) →
    Completes (.clientFrameArrival port frame at_ ecc) s fun d =>
      d.fe = s.dev.fe ∧ d.out = s.dev.out ∧ d.sch = s.dev.sch ∧ d.tim.clk = max s.dev.tim.clk at_) ∧
  (∀ (s : State) (port at_ t sl : Nat) (frame data : Bytes) (p : Parsed),
    s.dev.on F.CPORT_CTRL_ENABLE (port % 32) = true → s.dev.on F.CPORT_STATUS_LINK_UP (port % 32) = true →
    s.dev.domHeld 2 = false → s.dev.domHeld (port % 32 / 16) = false → frame.length = data.length + 4 →
    64 ≤ frame.length → frame.length ≤ 16000 → frame = data ++ fcsBytes data → numAt data 12 2 ≠ 0x8808 →
    s.dev.on F.FE_CTRL_ENABLE (port % 32 / 8) = true → s.dev.feUp (port % 32 / 8) = true →
    s.dev.get F.FE_VER_CURRENT_VERSION ≠ 0 →
    p = parseFrame { altTpid := s.dev.get F.FE_PARSE_CTRL_ALT_TPID, altEn := s.dev.on F.FE_PARSE_CTRL_ALT_TPID_EN,
                     ptpL2 := s.dev.on F.FE_PTP_CTRL_L2_EN, ptpUdp4 := s.dev.on F.FE_PTP_CTRL_UDP4_EN,
                     ptpUdp6 := s.dev.on F.FE_PTP_CTRL_UDP6_EN } data →
    p.ctrl = false → p.ptpEvent = false → s.dev.tagAt at_ = some t → s.dev.fe.bad = [] →
    nbits (s.dev.lookup (port % 32 / 8) t (port % 32) data p).1 31 30 = 1 →
    bit (s.dev.tw (feSel 0x12 (port % 32 / 8))
      (nbits (s.dev.lookup (port % 32 / 8) t (port % 32) data p).1 13 0 + t * 2 ^ 24) 0) 31 = true →
    bit (nbits (s.dev.tw (feSel 0x12 (port % 32 / 8))
        (nbits (s.dev.lookup (port % 32 / 8) t (port % 32) data p).1 13 0 + t * 2 ^ 24) 0) 23 20)
      (s.dev.classOf (port % 32 / 8) t (s.dev.lookup (port % 32 / 8) t (port % 32) data p).1
        (s.dev.tw (feSel 0x12 (port % 32 / 8))
          (nbits (s.dev.lookup (port % 32 / 8) t (port % 32) data p).1 13 0 + t * 2 ^ 24) 0) p) = true →
    bit (s.dev.tw (feSel 0x12 (port % 32 / 8))
      (nbits (s.dev.lookup (port % 32 / 8) t (port % 32) data p).1 13 0 + t * 2 ^ 24) 1) 15 = false →
    s.dev.chooseSlices (s.dev.tw (feSel 0x12 (port % 32 / 8))
      (nbits (s.dev.lookup (port % 32 / 8) t (port % 32) data p).1 13 0 + t * 2 ^ 24) 0) data = [sl] →
    s.dev.sliceOff sl = false →
    (∀ ex, heldBytes (SMap.get [] s.dev.fe.hold (port % 32 / 8)) ex + data.length + 4 ≤ 32768) →
    Completes (.clientFrameArrival port frame at_ none) s fun d =>
      ∃ f : Frame, SMap.get [] d.fe.hold (port % 32 / 8) = SMap.get [] s.dev.fe.hold (port % 32 / 8) ++ [f] ∧
        f.data = data ∧ f.port = port % 32 ∧ f.tag = t ∧ f.slices = [sl] ∧
        f.svc = nbits (s.dev.lookup (port % 32 / 8) t (port % 32) data p).1 13 0) ∧
  ∀ (s : State) (port at_ : Nat) (frame data : Bytes) (tag : Nat → Bool),
    (∀ e, tag e = true ↔ e = 0x88A8 ∨ e = 0x8100 ∨
      (s.dev.on F.FE_PARSE_CTRL_ALT_TPID_EN = true ∧ e = s.dev.get F.FE_PARSE_CTRL_ALT_TPID)) →
    (tag (numAt data 12 2) = false ∧ numAt data 12 2 = 0x88B5) ∨
      (tag (numAt data 12 2) = true ∧ numAt data 16 2 = 0x88B5) ∨
      (tag (numAt data 12 2) = true ∧ numAt data 16 2 = 0x8100 ∧ tag (numAt data 20 2) = false ∧
        numAt data 20 2 = 0x88B5) →
    s.dev.on F.CPORT_CTRL_ENABLE (port % 32) = true → s.dev.on F.CPORT_STATUS_LINK_UP (port % 32) = true →
    s.dev.domHeld 2 = false → s.dev.domHeld (port % 32 / 16) = false → frame = data ++ fcsBytes data →
    frame.length = data.length + 4 → 64 ≤ frame.length → frame.length ≤ 16000 → numAt data 12 2 ≠ 0x8808 →
    s.dev.on F.FE_CTRL_ENABLE (port % 32 / 8) = true → s.dev.feUp (port % 32 / 8) = true →
    s.dev.get F.FE_VER_CURRENT_VERSION ≠ 0 →
    Completes (.clientFrameArrival port frame at_ none) s fun d =>
      d.num R.FE_CNT_CTRL_REJECT (port % 32 / 8) =
        min 0xFFFFFFFF (s.dev.num R.FE_CNT_CTRL_REJECT (port % 32 / 8) + 1) ∧
      s.dev.ChangesOnly d [.regs, .mon, .evt, .tim, .tbl]

/-- The commands on rule versions (R69, R72-R79): OPEN stages a version, CLOSE validates and freezes it, COMMIT_NOW makes
it current, and a draining version retires once no frame carries its tag.  R78 whole: DISCARD drops the staged version, open or
closed, and frees its tag; while a RULE_COMMIT entry is pending it is refused as COMMIT_PENDING and the version stays.
The model's choices in it stand in log entry 10. -/
def Obligations.VersionsStaged : Prop :=
  (∀ (s : State) (version : Nat), s.dev.feBusy = false → s.dev.staged = false →
    s.dev.on F.FE_VER_DRAINING_VALID = false → version % 2 ^ 16 ≠ 0 →
    (s.dev.get F.FE_VER_CURRENT_VERSION = 0 ∨
      version % 2 ^ 16 = (if s.dev.get F.FE_VER_CURRENT_VERSION = 0xFFFF then 1 else s.dev.get F.FE_VER_CURRENT_VERSION + 1)) →
    Completes (.openVersion version) s fun d =>
      d.staged = true ∧ d.stagedClosed = false ∧ d.get F.FE_VER_STAGED_VERSION = version % 2 ^ 16 ∧
      d.get F.FE_VER_STAGED_TAG = version % 2 ^ 16 % 4 ∧ d.fe.pass = 1 ∧ d.get F.FE_VER_CMD_STATUS_STATE = 1 ∧
      s.dev.ChangesOnly d [.regs, .mon, .evt, .fe]) ∧
  (∀ (s : State) (version : Nat), s.dev.feBusy = false → s.dev.staged = true →
    Completes (.openVersion version) s fun d =>
      d.get F.FE_VER_CMD_STATUS_STATE = 3 ∧ d.get F.FE_VER_CMD_STATUS_REASON = 2 ∧ d.staged = true ∧
      d.get F.FE_VER_STAGED_VERSION = s.dev.get F.FE_VER_STAGED_VERSION ∧ s.dev.ChangesOnly d [.regs, .mon, .evt]) ∧
  (∀ s : State, s.dev.fe.pass = 1 →
    Completes .openPassDone s fun d =>
      d.fe.pass = 0 ∧ d.get F.FE_VER_CMD_STATUS_STATE = 2 ∧
      d.get F.FE_VER_STAGED_VERSION = s.dev.get F.FE_VER_STAGED_VERSION ∧ s.dev.ChangesOnly d [.regs, .tbl, .fe]) ∧
  (∀ s : State, s.dev.feBusy = false → s.dev.staged = true → s.dev.stagedClosed = false →
    Completes .closeVersion s fun d =>
      d.fe.pass = 2 ∧ d.get F.FE_VER_CMD_STATUS_STATE = 1 ∧ d.get F.FE_VER_CMD_STATUS_OP = 2 ∧
      s.dev.ChangesOnly d [.regs, .mon, .evt, .fe]) ∧
  (∀ s : State, s.dev.fe.pass = 2 → s.dev.staged = true → s.dev.feRunning ≠ [] →
    (∀ n ∈ s.dev.feRunning, s.dev.stagedOk n (s.dev.get F.FE_VER_STAGED_TAG) = true) →
    (∀ n ∈ s.dev.feRunning, ∀ m ∈ s.dev.feRunning,
      s.dev.stagedDigest n (s.dev.get F.FE_VER_STAGED_TAG) = s.dev.stagedDigest m (s.dev.get F.FE_VER_STAGED_TAG)) →
    Completes .closePassDone s fun d =>
      d.fe.pass = 0 ∧ d.stagedClosed = true ∧ d.get F.FE_VER_CMD_STATUS_STATE = 2 ∧
      s.dev.ChangesOnly d [.regs, .fe]) ∧
  (∀ s : State, s.dev.fe.pass = 2 → (∃ n ∈ s.dev.feRunning, s.dev.stagedOk n (s.dev.get F.FE_VER_STAGED_TAG) = false) →
    Completes .closePassDone s fun d =>
      d.fe.pass = 0 ∧ d.stagedClosed = s.dev.stagedClosed ∧ d.get F.FE_VER_CMD_STATUS_STATE = 3 ∧
      d.get F.FE_VER_CMD_STATUS_REASON = 5) ∧
  (∀ s : State, s.dev.feBusy = false → s.dev.staged = true → s.dev.thyPending 1 = false →
    Completes .discardVersion s fun d =>
      d.staged = false ∧ d.get F.FE_VER_CMD_STATUS_STATE = 2 ∧
      (∀ t, t < 4 → bit (d.get F.FE_LIVE_TAGS_LIVE) t = true →
        (s.dev.get F.FE_VER_CURRENT_VERSION ≠ 0 ∧ t = s.dev.get F.FE_VER_CURRENT_TAG) ∨
        (s.dev.on F.FE_VER_DRAINING_VALID = true ∧ t = s.dev.get F.FE_VER_DRAINING_TAG)) ∧
      d.get F.FE_VER_CURRENT_VERSION = s.dev.get F.FE_VER_CURRENT_VERSION ∧ s.dev.ChangesOnly d [.regs, .mon, .evt]) ∧
  (∀ s : State, s.dev.feBusy = false → s.dev.stagedClosed = true →
    (∀ p, p < 32 → s.dev.on F.CPORT_CTRL_ENABLE p = false) →
    Completes .commitNow s fun d =>
      d.get F.FE_VER_CURRENT_VERSION = s.dev.get F.FE_VER_STAGED_VERSION ∧ d.staged = false ∧
      d.on F.FE_VER_DRAINING_VALID = s.dev.on F.FE_VER_DRAINING_VALID ∧ d.fe.commitClk = s.dev.tim.clk ∧
      d.get F.FE_VER_CMD_STATUS_STATE = 2) ∧
  (∀ s : State, s.dev.on F.FE_VER_DRAINING_VALID = true → s.dev.drainCount = 0 →
    Completes .versionRetire s fun d =>
      d.on F.FE_VER_DRAINING_VALID = false ∧ d.get F.FE_INFLIGHT_RETIRE_PENDING = 0 ∧
      s.dev.ChangesOnly d [.regs, .evt]) ∧
  (∀ (s : State) (fe source : Nat), source % 4 ≠ fe % 4 → s.dev.on F.FE_STATUS_RUNNING (source % 4) = true →
    s.dev.on F.FE_STATUS_RUNNING (fe % 4) = true → s.dev.on F.FE_STATUS_RESYNC_BUSY (fe % 4) = false →
    Completes (.feResync fe source) s fun d =>
      d.on F.FE_STATUS_RESYNC_BUSY (fe % 4) = true ∧ d.on F.FE_STATUS_IN_SYNC (fe % 4) = false ∧
      d.get F.FE_RESYNC_SOURCE (fe % 4) = source % 4 ∧ s.dev.ChangesOnly d [.regs, .mon, .evt]) ∧
  (∀ (s : State) (fe : Nat), s.dev.on F.FE_STATUS_RESYNC_BUSY (fe % 4) = true →
    s.dev.get F.FE_RESYNC_SOURCE (fe % 4) ≠ fe % 4 → SMap.wf [] s.dev.tbl = true →
    Completes (.resyncDone fe) s fun d =>
      d.on F.FE_STATUS_RESYNC_BUSY (fe % 4) = false ∧ d.on F.FE_STATUS_IN_SYNC (fe % 4) = true ∧
      ∀ sel i, 0x10 ≤ sel → sel ≤ 0x14 → i < 2 ^ 32 →
        d.entry (feSel sel (fe % 4)) i = trimWords (s.dev.entry (feSel sel (s.dev.get F.FE_RESYNC_SOURCE (fe % 4))) i)) ∧
  ∀ s : State, s.dev.feBusy = false → s.dev.staged = true → s.dev.thyPending 1 = true →
    Completes .discardVersion s fun d =>
      d.staged = true ∧ d.stagedClosed = s.dev.stagedClosed ∧
      d.get F.FE_VER_STAGED_VERSION = s.dev.get F.FE_VER_STAGED_VERSION ∧
      d.get F.FE_VER_CMD_STATUS_STATE = 3 ∧ d.get F.FE_VER_CMD_STATUS_REASON = 9 ∧ s.dev.ChangesOnly d [.regs, .mon, .evt]

/-- Writes of the exact-match and ternary tables (R71, R84) reach the staged version in every front end that runs. -/
def Obligations.MatchEntriesWritten : Prop :=
  ∀ (s : State) (m : Master), s.dev.isActive m = true → s.dev.feWriteStop = none → s.dev.fe.bad = [] →
    (s.dev.win m).data.length ≤ 16 →
    (∀ words : List Nat, (∀ n ∈ s.dev.feRunning, s.dev.emPlace n 0 ≠ none ∧ s.dev.emFind n words = []) →
      Completes (.exactMatchInsert words m) s fun d =>
        (d.win m).st = 2 ∧ ∀ n ∈ s.dev.feRunning, ∃ i, d.entry (feSel 0x10 n) i =
          trimWords (emKey words ++ [words.getD 5 0, 2 ^ s.dev.get F.FE_VER_STAGED_TAG])) ∧
    (∀ words : List Nat, Completes (.exactMatchDelete words m) s fun d =>
      (d.win m).st = 2 ∧ ∀ n ∈ s.dev.feRunning, ∀ e ∈ s.dev.emFind n words,
        bit (d.mask 0x10 n e.1) (s.dev.get F.FE_VER_STAGED_TAG) = false) ∧
    (∀ (rule part : Nat) (words : List Nat), part < 2 →
      (∀ n ∈ s.dev.feRunning, s.dev.mask 0x11 n (rule % 8192 * 4 + 2) &&& s.dev.liveTags = 0) →
      Completes (.ternaryWrite rule part words m) s fun d =>
        (d.win m).st = 2 ∧
        ∀ n ∈ s.dev.feRunning, d.entry (feSel 0x11 n) (rule % 8192 * 4 + part) = trimWords (pad16 words)) ∧
    ∀ rule : Nat, Completes (.ternaryDelete rule m) s fun d =>
      (d.win m).st = 2 ∧ ∀ n ∈ s.dev.feRunning,
        bit (d.mask 0x11 n (rule % 8192 * 4 + 2)) (s.dev.get F.FE_VER_STAGED_TAG) = false

/-! The register bus (R11-R14, R535-R542). -/

/-- TBL_READ and TBL_WRITE (R541, R542) on the tables of bindings and service counts of a slice: a write replaces the entry
and no other, a read shows its words. -/
def Obligations.WindowServes : Prop :=
  ∀ (s : State) (m : Master) (sel index : Nat), s.dev.isActive m = true → 0x48 ≤ sel → sel < 0x58 → index < 2 ^ 32 →
    tblStop sel index = 0 → (s.dev.win m).data.length ≤ 16 →
    (∀ words : List Nat, Completes (.tblWrite sel index words m) s fun d =>
      d.entry sel index = trimWords (tblKeep sel index (trimWords (pad16 words))) ∧
      (d.win m).st = 2 ∧ (d.win m).reason = 0 ∧
      (∀ sel' index', index' < 2 ^ 32 → (sel', index') ≠ (sel, index) → d.entry sel' index' = s.dev.entry sel' index')) ∧
    Completes (.tblRead sel index m) s fun d =>
      (d.win m).data = trimWords (pad16 (s.dev.tblWords sel index)) ∧ (d.win m).st = 2 ∧ d.tbl = s.dev.tbl

/-- A write reaches an RW field, a W1C bit clears where 1 is written, an RC counter returns its value and clears, and a low word
latches its high word (R13, R14). -/
def Obligations.RegistersServed : Prop :=
  (∀ (s : State) (m : Master) (word : Nat), s.dev.isActive m = true →
    Completes (.registerWrite (R.GLB_SCRATCH.addr 0 0) word m) s fun d =>
      d.num R.GLB_SCRATCH = word % 2 ^ 32 ∧ s.dev.WritesOnly d (R.GLB_SCRATCH.addr 0 0 :: sideAddrs) ∧
      s.dev.ChangesOnly d [.regs, .mon, .evt]) ∧
  (∀ (s : State) (m : Master) (n mask : Nat), s.dev.isActive m = true → n < 8 →
    Completes (.w1cWrite (R.SAT_EVT_STATUS.addr n 0) mask m) s fun d =>
      d.num R.SAT_EVT_STATUS n = clrMask (s.dev.num R.SAT_EVT_STATUS n) (regOnesClear R.SAT_EVT_STATUS &&& mask) ∧
      s.dev.WritesOnly d (R.SAT_EVT_STATUS.addr n 0 :: sideAddrs)) ∧
  (∀ (s : State) (m : Master) (n : Nat), s.dev.isActive m = true → n < 4 →
    Completes (.readClear (R.FE_CNT_NOT_READY.addr n 0) m) s fun d =>
      d.num R.FE_CNT_NOT_READY n = 0 ∧ d.out = s.dev.out ++ [.read (s.dev.word R.FE_CNT_NOT_READY n)] ∧
      s.dev.WritesOnly d (R.FE_CNT_NOT_READY.addr n 0 :: sideAddrs) ∧ s.dev.ChangesOnly d [.regs, .mon, .evt, .out]) ∧
  ∀ (s : State) (m : Master), s.dev.isActive m = true →
    Completes (.loLatchRead (R.MRG_CNT_PASSED_LO.addr 0 0) m) s fun d =>
      SMap.get 0 d.mgmt.hiLatch (R.MRG_CNT_PASSED_LO.addr 0 0) = s.dev.num R.MRG_CNT_PASSED_HI ∧
      d.out = s.dev.out ++ [.read (s.dev.word R.MRG_CNT_PASSED_LO)] ∧ s.dev.WritesOnly d sideAddrs

/-- R536, R538: a tenant reads its own page alone and writes nothing: any other read returns zero, and the violation is
recorded with its address.
The model's choices in it stand in log entry 63. -/
def Obligations.TenantsConfined : Prop :=
  (∀ (s : State) (m : Master) (addr p : Nat), s.dev.principal m = some p → 2 ≤ p → s.dev.answers m = true → addr < 2 ^ 32 →
    ¬(isPage addr = true ∧ addr / 0x100000 % 16 = p) →
    Completes (.readClear addr m) s fun d =>
      d.out = s.dev.out ++ [.read 0] ∧ d.on F.PAGE_VIOL_INFO_VALID = true ∧ d.on F.PAGE_VIOL_INFO_WRITE = false ∧
      d.num R.PAGE_VIOL_ADDR = addr ∧ s.dev.ChangesOnly d [.regs, .mon, .evt, .out]) ∧
  ∀ (s : State) (m : Master) (addr word p : Nat), s.dev.principal m = some p → 2 ≤ p → s.dev.passes m addr = true →
    addr < 2 ^ 32 → m ≠ .spi → m ≠ .i2c → m.sage = false →
    Completes (.w1cWrite addr word m) s fun d =>
      d.on F.PAGE_VIOL_INFO_VALID = true ∧ d.on F.PAGE_VIOL_INFO_WRITE = true ∧ d.num R.PAGE_VIOL_ADDR = addr ∧
      s.dev.ChangesOnly d [.regs, .mon, .evt]

/-! Lanes and ports (R343-R365). -/

/-- The ports of either side (R343-R345, R351-R359): a legal form is taken and an illegal one is not; enabling, disabling,
link up, link down and the end of a FEC window leave the port's status as the rules say.
The model's choices in it stand in log entry 45. -/
def Obligations.PortsServed : Prop :=
  (∀ (s : State) (line : Bool) (port rate width : Nat), rate % 4 ≠ 0 → s.dev.on (pfEnable line) (port % 32) = false →
    s.dev.formOk line (port % 32) (rate % 4) (width % 16) = true →
    Completes (.portForm line port rate width) s fun d =>
      d.get (pfRate line) (port % 32) = rate % 4 ∧ d.get (pfWidth line) (port % 32) = width % 16 ∧
      d.on (pfEnable line) (port % 32) = false) ∧
  (∀ (s : State) (line : Bool) (port rate width : Nat), rate % 4 ≠ 0 →
    s.dev.formOk line (port % 32) (rate % 4) (width % 16) = false →
    Completes (.portForm line port rate width) s fun d =>
      d.get (pfRate line) (port % 32) = s.dev.get (pfRate line) (port % 32) ∧
      d.get (pfWidth line) (port % 32) = s.dev.get (pfWidth line) (port % 32) ∧
      s.dev.ChangesOnly d [.regs, .mon, .evt]) ∧
  (∀ (s : State) (line : Bool) (port : Nat), s.dev.on F.TAMP_STATUS_HALTED = false → s.dev.tamp.hold = false →
    Completes (.portEnable line port) s fun d => d.on (pfEnable line) (port % 32) = true) ∧
  (∀ (s : State) (line : Bool) (port : Nat) (cut : Bool), s.dev.pRate line (port % 32) ≠ 0 →
    s.dev.on (pfEnable line) (port % 32) = true →
    Completes (.portDisable line port cut) s fun d =>
      d.on (pfEnable line) (port % 32) = false ∧ d.on (pfTx line) (port % 32) = false ∧
      d.on (pfAligned line) (port % 32) = false ∧
      (line = false → ∀ c, c < 4 → SMap.get [] d.sch.egr (port % 32 * 4 + c) = []) ∧
      (line = true → d.backEnd (port % 32) = [])) ∧
  (∀ (s : State) (line : Bool) (port skew freq : Nat), s.dev.on (pfEnable line) (port % 32) = true →
    s.dev.on (pfTx line) (port % 32) = true → s.dev.on (pfAligned line) (port % 32) = false →
    s.dev.on (pfHiSer line) (port % 32) = false → s.dev.domHeld (port % 32 / 16) = false → skew ≤ 180 →
    s.dev.lanesOf line (port % 32) ≠ [] →
    (∀ l ∈ s.dev.lanesOf line (port % 32), s.dev.on F.LANE_STATUS_CDR_LOCK l = true ∧
      s.dev.on F.LANE_STATUS_ADAPT_DONE l = true) →
    Completes (.linkUp line port skew freq) s fun d =>
      d.on (pfAligned line) (port % 32) = true ∧ d.on (pfLink line) (port % 32) = true ∧
      d.get (pfSkew line) (port % 32) = skew) ∧
  (∀ (s : State) (line : Bool) (port : Nat) (cut : Bool), s.dev.on (pfAligned line) (port % 32) = true →
    Completes (.linkDown line port cut) s fun d =>
      d.on (pfAligned line) (port % 32) = false ∧ d.on (pfLink line) (port % 32) = false) ∧
  ∀ (s : State) (line : Bool) (port corrected uncorrectable symbols errors blocks : Nat) (cut : Bool),
    s.dev.on (pfAligned line) (port % 32) = true →
    Completes (.fecWindowEnd line port corrected uncorrectable symbols errors blocks cut) s fun d =>
      (d.on (pfHiSer line) (port % 32) = true ↔
        s.dev.get (sideF line F.CPORT_FEC_THRESH_HI_SER_SYMBOLS F.LPORT_FEC_THRESH_HI_SER_SYMBOLS) (port % 32) < errors) ∧
      (d.on (pfLink line) (port % 32) = true ↔
        errors ≤ s.dev.get (sideF line F.CPORT_FEC_THRESH_HI_SER_SYMBOLS F.LPORT_FEC_THRESH_HI_SER_SYMBOLS) (port % 32))

/-- The lanes (R348, R350, R355, R356, R360, R362, R364): locks gained and lost, adaptation, test patterns, and the verification
of preemption.
The model's choices in it stand in log entry 46. -/
def Obligations.LanesServed : Prop :=
  (∀ (s : State) (group i : Nat), s.dev.laneUp (group % 16 * 4) = true → i < 4 →
    Completes (.lanePllLock group) s fun d => d.on F.LANE_STATUS_PLL_LOCK (group % 16 * 4 + i) = true) ∧
  (∀ (s : State) (lane : Nat), s.dev.rxMay (lane % 64) = true →
    Completes (.cdrLock lane) s fun d =>
      d.on F.LANE_STATUS_CDR_LOCK (lane % 64) = true ∧ d.on F.LANE_STATUS_SIGNAL_DETECT (lane % 64) = true ∧
      s.dev.ChangesOnly d [.regs, .port]) ∧
  (∀ (s : State) (lane : Nat), s.dev.laneUp (lane % 64) = true → s.dev.on F.LANE_STATUS_CDR_LOCK (lane % 64) = true →
    Completes (.adaptDone lane) s fun d =>
      d.on F.LANE_STATUS_ADAPT_DONE (lane % 64) = true ∧ s.dev.ChangesOnly d [.regs]) ∧
  (∀ (s : State) (lane : Nat), s.dev.laneUp (lane % 64) = true → s.dev.on F.LANE_STATUS_CDR_LOCK (lane % 64) = true →
    s.dev.on F.LANE_STATUS_ADAPT_DONE (lane % 64) = false →
    Completes (.adaptRestart lane) s fun d =>
      d.tim.clk = max s.dev.tim.clk (SMap.get 0 s.dev.port.lockClk (lane % 64) + ms 50) ∧
      SMap.get 0 d.port.lockClk (lane % 64) = d.tim.clk ∧ s.dev.ChangesOnly d [.regs, .evt, .tim, .port]) ∧
  (∀ (s : State) (group i : Nat) (cut : Bool), s.dev.on F.LANE_STATUS_PLL_LOCK (group % 16 * 4) = true → i < 4 →
    Completes (.refclkLoss group cut) s fun d =>
      d.on F.LANE_STATUS_PLL_LOCK (group % 16 * 4 + i) = false ∧
      d.on F.LANE_STATUS_TX_ACTIVE (group % 16 * 4 + i) = false ∧
      d.on F.LANE_STATUS_CDR_LOCK (group % 16 * 4 + i) = false) ∧
  (∀ (s : State) (lane : Nat), s.dev.on F.LANE_STATUS_SIGNAL_DETECT (lane % 64) = true →
    Completes (.los lane) s fun d =>
      d.on F.LANE_STATUS_SIGNAL_DETECT (lane % 64) = false ∧ s.dev.ChangesOnly d [.regs, .evt]) ∧
  (∀ (s : State) (lane : Nat), s.dev.on F.LANE_STATUS_CDR_LOCK (lane % 64) = true →
    Completes (.cdrUnlock lane) s fun d =>
      d.on F.LANE_STATUS_CDR_LOCK (lane % 64) = false ∧ s.dev.ChangesOnly d [.regs, .evt]) ∧
  (∀ (s : State) (lane snr errors : Nat), s.dev.laneUp (lane % 64) = true →
    s.dev.on F.LANE_CTRL_ADAPT_FREEZE (lane % 64) = false →
    Completes (.laneAdaptationUpdate lane snr errors) s fun d =>
      d.get F.LANE_STATUS_SNR_QDB (lane % 64) = min 255 snr ∧
      (s.dev.on F.LANE_STATUS_PRBS_LOCK (lane % 64) = false →
        d.num R.LANE_PRBS_ERR (lane % 64) = s.dev.num R.LANE_PRBS_ERR (lane % 64)) ∧
      s.dev.ChangesOnly d [.regs, .evt, .port]) ∧
  (∀ (s : State) (lane : Nat),
    Completes (.prbsClear lane) s fun d =>
      d.num R.LANE_PRBS_ERR (lane % 64) = 0 ∧ lane % 64 ∉ d.port.prbs ∧ s.dev.ChangesOnly d [.regs, .mon, .evt, .port]) ∧
  (∀ (s : State) (lane : Nat), s.dev.laneUp (lane % 64) = true → s.dev.on F.LANE_PRBS_CTRL_CHK_EN (lane % 64) = true →
    Completes (.prbsLockGained lane) s fun d =>
      d.on F.LANE_STATUS_PRBS_LOCK (lane % 64) = true ∧ s.dev.ChangesOnly d [.regs]) ∧
  (∀ (s : State) (lane errors : Nat), s.dev.on F.LANE_STATUS_PRBS_LOCK (lane % 64) = true →
    Completes (.prbsLockLost lane errors) s fun d =>
      d.on F.LANE_STATUS_PRBS_LOCK (lane % 64) = false ∧
      d.num R.LANE_PRBS_ERR (lane % 64) = (if errors = 0 then s.dev.num R.LANE_PRBS_ERR (lane % 64)
        else min 0xFFFFFFFF (s.dev.num R.LANE_PRBS_ERR (lane % 64) + errors)) ∧
      s.dev.ChangesOnly d [.regs, .evt, .port]) ∧
  (∀ (s : State) (port : Nat), s.dev.get F.CPORT_PREEMPT_STATUS_VERIFY_STATE (port % 32) = 2 →
    Completes (.preemptVerifyAttempt port true) s fun d =>
      d.get F.CPORT_PREEMPT_STATUS_VERIFY_STATE (port % 32) = 3 ∧
      d.on F.CPORT_STATUS_PREEMPT_ACTIVE (port % 32) = true ∧ s.dev.ChangesOnly d [.regs, .tim, .port]) ∧
  ∀ (s : State) (port : Nat), s.dev.get F.CPORT_PREEMPT_STATUS_VERIFY_STATE (port % 32) = 2 →
    SMap.get 0 s.dev.port.tries (port % 32) = 2 →
    Completes (.preemptVerifyAttempt port false) s fun d =>
      d.get F.CPORT_PREEMPT_STATUS_VERIFY_STATE (port % 32) = 4 ∧
      d.on F.CPORT_STATUS_PREEMPT_ACTIVE (port % 32) = s.dev.on F.CPORT_STATUS_PREEMPT_ACTIVE (port % 32) ∧
      s.dev.ChangesOnly d [.regs, .evt, .tim, .port]

/-! The time unit and the Thyme schedule (R366-R391). -/

/-- The adjustments of network time and the Thyme second (R366, R368, R370-R372, R557, R573): a step moves network time by the
staged amount, a refused one leaves it; a rate is loaded without a jump; a second advances the second count and its boundary.
The model's choices in it stand in log entry 72. -/
def Obligations.TimeAdjusted : Prop :=
  (∀ (s : State) (load : Bool) (m : Master), s.dev.isActive m = true → s.dev.stepStop load = 0 →
    s.dev.stepDue s.dev.stageStep = [] →
    Completes (.step load m) s fun d =>
      d.net = (((s.dev.net : Int) + s.dev.stageStep) % (twrap : Int)).toNat ∧ d.tim.clk = s.dev.tim.clk ∧
      d.get F.TIM_ADJ_STATUS_STATE = 2 ∧ d.get F.TIM_ADJ_STATUS_OP = 1 ∧
      (load = true → d.tim.sec = s.dev.get F.TIM_STAGE_SEC_HI_SEC * 2 ^ 32 + s.dev.get F.TIM_STAGE_SEC_LO_SEC)) ∧
  (∀ (s : State) (load : Bool) (m : Master), s.dev.isActive m = true → s.dev.stepStop load ≠ 0 →
    Completes (.step load m) s fun d =>
      d.tim = s.dev.tim ∧ d.get F.TIM_ADJ_STATUS_STATE = 3 ∧ d.get F.TIM_ADJ_STATUS_REASON = s.dev.stepStop load ∧
      s.dev.ChangesOnly d [.regs, .mon, .evt]) ∧
  (∀ (s : State) (m : Master), s.dev.isActive m = true →
    Completes (.rate m) s fun d =>
      d.num R.TIM_RATE = clampRate (s.dev.num R.TIM_STAGE_RATE) ∧ d.net = s.dev.net ∧
      d.get F.TIM_ADJ_STATUS_STATE = 2 ∧ d.get F.TIM_ADJ_STATUS_OP = 2 ∧ s.dev.ChangesOnly d [.regs, .mon, .evt, .tim]) ∧
  (∀ (s : State) (load : Bool) (m : Master), s.dev.isActive m = true → s.dev.stepStop load = 0 →
    s.dev.stepDue s.dev.stageStep = [] →
    Completes (.stepAndRate load m) s fun d =>
      d.net = (((s.dev.net : Int) + s.dev.stageStep) % (twrap : Int)).toNat ∧
      d.num R.TIM_RATE = clampRate (s.dev.num R.TIM_STAGE_RATE) ∧
      d.get F.TIM_ADJ_STATUS_STATE = 2 ∧ d.get F.TIM_ADJ_STATUS_OP = 3) ∧
  (∀ s : State, s.dev.tim.rawOrigin ≤ s.dev.tim.clk →
    Completes .rawNsWrap s fun d =>
      s.dev.tim.clk < d.tim.clk ∧ d.raw % 2 ^ 32 = 0 ∧ d.net = s.dev.netAt d.tim.clk ∧
      s.dev.ChangesOnly d [.regs, .tim]) ∧
  (∀ s : State, s.dev.running = true →
    (∀ k, s.dev.thyDue = some k →
      s.dev.netReach s.dev.secNext ≤ s.dev.netReach (SMap.get ({} : ThyEnt) s.dev.thy.ent k).at_) →
    Completes .thymeSecond s fun d =>
      d.tim.clk = s.dev.netReach s.dev.secNext ∧ d.tim.sec = (s.dev.tim.sec + 1) % 2 ^ 48 ∧
      d.secNext = (s.dev.secNext + 10 ^ 9) % twrap ∧ d.on F.MON_STATUS_READING = true ∧
      d.num R.THY_CNT_SECONDS = min 0xFFFFFFFF (s.dev.num R.THY_CNT_SECONDS + 1)) ∧
  ∀ s : State, s.dev.on F.MON_STATUS_READING = true →
    Completes .snapshotBankSwitch s fun d =>
      d.on F.MON_STATUS_READING = false ∧ d.on F.MON_STATUS_VALID = true ∧
      d.get F.MON_STATUS_BANK = 1 - s.dev.get F.MON_STATUS_BANK ∧ d.mon.snapCnt = s.dev.mon.nextCnt ∧
      d.mon.snapMon = s.dev.mon.nextMon ∧ d.mgmt.page = s.dev.mgmt.pageNext ∧
      d.tim.clk = max s.dev.tim.clk (s.dev.mon.nextClk + us 100) ∧ s.dev.ChangesOnly d [.regs, .evt, .tim, .mgmt, .mon, .free]

/-- The time inputs (R373-R378): edges, time-of-day messages, the gate of the reference clock, and the loss of each; a Sync
message taken from the exception buffer; the message of the Sage core at a frame boundary.
The model's choices in it stand in log entry 25. -/
def Obligations.TimeInputsServed : Prop :=
  (∀ (s : State) (at_ : Nat), s.dev.on F.TIM_PPS_IN_CTRL_EN = true → (∀ c, s.dev.tim.ppsClk = some c → c + ms 500 ≤ at_) →
    Completes (.ppsInEdge at_) s fun d =>
      d.tim.ppsClk = some at_ ∧
      d.tim.ppsStamp = (((s.dev.netAt at_ : Int) - signed 16 (s.dev.get F.TIM_PPS_IN_CTRL_DELAY_NS)) % (twrap : Int)).toNat ∧
      d.on F.TIM_PPS_IN_STATUS_VALID = true ∧ d.on F.TIM_STATUS_PPS_IN_PRESENT = true ∧
      (s.dev.on F.TIM_PPS_IN_STATUS_VALID = true → d.on F.TIM_PPS_IN_STATUS_OVERRUN = true) ∧
      s.dev.ChangesOnly d [.regs, .evt, .tim, .mon]) ∧
  (∀ (s : State) (at_ c : Nat), s.dev.on F.TIM_PPS_IN_CTRL_EN = true → s.dev.tim.ppsClk = some c → at_ < c + ms 500 →
    Completes (.ppsInEdge at_) s fun d =>
      d.tim.ppsClk = some c ∧ d.num R.TIM_CNT_PPS_GLITCH = min 0xFFFFFFFF (s.dev.num R.TIM_CNT_PPS_GLITCH + 1) ∧
      s.dev.ChangesOnly d [.regs, .evt, .tim]) ∧
  (∀ (s : State) (c : Nat), s.dev.tim.ppsClk = some c → s.dev.on F.TIM_STATUS_PPS_IN_PRESENT = true →
    Completes .ppsInLoss s fun d =>
      d.on F.TIM_STATUS_PPS_IN_PRESENT = false ∧ d.tim.clk = max s.dev.tim.clk (c + ms 1500) ∧
      (s.dev.get F.TIM_CTRL_SOURCE = 1 → s.dev.get F.TIM_SYNC_SYNC_STATE = 2 → d.get F.TIM_SYNC_SYNC_STATE = 3)) ∧
  (∀ (s : State) (msg : Bytes) (start at_ : Nat), s.dev.on F.TIM_TOD_CTRL_EN = true → msg.length = 20 →
    numAt msg 0 2 = 0xC33C → numAt msg 2 1 = 1 → numAt msg 3 1 = 20 → crc16 (msg.take 18) = numAt msg 18 2 →
    Completes (.todInMessage msg start at_) s fun d =>
      d.tim.tod = [numAt msg 6 4, numAt msg 10 2 * 2 ^ 16 + numAt msg 4 2, numAt msg 12 4, s.dev.netAt at_ % 2 ^ 32] ∧
      d.tim.todClk = some at_ ∧ d.on F.TIM_TOD_STATUS_VALID = true ∧ s.dev.ChangesOnly d [.regs, .evt, .tim]) ∧
  (∀ (s : State) (msg : Bytes) (start at_ : Nat), s.dev.on F.TIM_TOD_CTRL_EN = true → msg.length = 20 →
    numAt msg 0 2 = 0xC33C → crc16 (msg.take 18) ≠ numAt msg 18 2 →
    Completes (.todInMessage msg start at_) s fun d =>
      d.tim.tod = s.dev.tim.tod ∧ d.num R.TIM_CNT_TOD_BAD = min 0xFFFFFFFF (s.dev.num R.TIM_CNT_TOD_BAD + 1)) ∧
  (∀ (s : State) (c : Nat), s.dev.tim.todClk = some c → s.dev.get F.TIM_CTRL_SOURCE = 1 →
    s.dev.get F.TIM_SYNC_SYNC_STATE = 2 →
    Completes .todInLoss s fun d =>
      d.get F.TIM_SYNC_SYNC_STATE = 3 ∧ d.tim.clk = max s.dev.tim.clk (c + sec 3) ∧ d.tim.goodUpdates = 0) ∧
  (∀ s : State, s.dev.get F.TIM_CTRL_SOURCE = 2 → s.dev.get F.TIM_SYNC_SYNC_STATE = 2 →
    Completes .announceReceiptTimeout s fun d => d.get F.TIM_SYNC_SYNC_STATE = 3 ∧ d.tim.goodUpdates = 0) ∧
  (∀ (s : State) (at_ c : Nat), s.dev.on F.TIM_CLK_CTRL_EN = true → s.dev.tim.gateClk = some c →
    Completes (.timeclkGate at_) s fun d =>
      d.on F.TIM_STATUS_TIMECLK_PRESENT = true ∧ d.on F.TIM_STATUS_CLK_MEAS_VALID = true ∧ d.tim.gateClk = some at_ ∧
      d.num R.TIM_CLK_MEAS = (((at_ : Int) - (c : Int) - 838860800) % 2 ^ 32).toNat ∧
      s.dev.ChangesOnly d [.regs, .tim]) ∧
  (∀ s : State, s.dev.on F.TIM_STATUS_TIMECLK_PRESENT = true →
    Completes .clkLoss s fun d =>
      d.on F.TIM_STATUS_TIMECLK_PRESENT = false ∧ d.tim.gateClk = none ∧ s.dev.ChangesOnly d [.regs, .evt, .tim]) ∧
  (∀ (s : State) (index err : Nat) (r : ExcRec), s.dev.active.isSome = true → s.dev.fe.buf[index]? = some r →
    s.dev.get F.TIM_CTRL_SOURCE = 2 → s.dev.get F.TIM_SYNC_SYNC_STATE = 1 → err < 100 → 2 ≤ s.dev.tim.goodUpdates →
    Completes (.ptpSlaveMessage index err) s fun d =>
      d.fe.buf = s.dev.fe.buf.eraseIdx index ∧ d.tim.goodUpdates = s.dev.tim.goodUpdates + 1 ∧
      d.get F.TIM_SYNC_ERR_EST_NS = err ∧ d.get F.TIM_SYNC_SYNC_STATE = 2 ∧ s.dev.ChangesOnly d [.regs, .evt, .tim, .fe]) ∧
  ∀ (s : State) (port tag : Nat) (frame : Bytes), frame.length ≤ 124 → s.dev.clientReady (port % 32) = true →
    s.dev.active.isSome = true → (SMap.get (0, 0) s.dev.tim.slotRate (port % 32)).1 + sec 1 ≤ s.dev.tim.clk →
    s.dev.tim.txs.length < 16 →
    Completes (.timeMessageSend port tag frame) s fun d =>
      d.out = s.dev.out ++ [.client (port % 32) (frame ++ fcsBytes frame)] ∧
      d.tim.txs.length = s.dev.tim.txs.length + 1 ∧ d.on F.TIM_STATUS_TXS_PENDING = true

/-- The reads of the time unit (R378, R390) take what they show: the snapshot is captured, the oldest stamp leaves its FIFO, and
the records of edge and message are taken once. -/
def Obligations.TimeReadsTake : Prop :=
  (∀ s : State, Completes .snapshotCapture s fun d =>
    d.out = s.dev.out ++ [.read (BitVec.ofNat 32 (s.dev.raw % 2 ^ 32))] ∧ d.num R.TIM_SNAP_RAW_NS = s.dev.raw % 2 ^ 32 ∧
    d.num R.TIM_SNAP_NET_NS = s.dev.net % 2 ^ 32 ∧ d.num R.TIM_SNAP_SEC_LO = s.dev.tim.sec % 2 ^ 32 ∧
    s.dev.ChangesOnly d [.regs, .mon, .evt, .out]) ∧
  (∀ (s : State) (r : TxStamp) (rest : List TxStamp), s.dev.tim.txs = r :: rest →
    Completes .txsFifoRead s fun d =>
      d.tim.txs = rest ∧ d.num R.TIM_TXS_NS = r.net % 2 ^ 32 ∧
      (d.on F.TIM_STATUS_TXS_PENDING = true ↔ rest ≠ []) ∧
      d.out = s.dev.out ++ [.read (BitVec.ofNat 32
        (2 ^ 31 + b2n r.ovf * 2 ^ 30 + r.port * 2 ^ 24 + r.tag * 2 ^ 16 + r.net / 2 ^ 32))] ∧
      s.dev.ChangesOnly d [.regs, .mon, .evt, .tim, .out]) ∧
  (∀ s : State, Completes .ppsInStatusRead s fun d =>
    d.out = s.dev.out ++ [.read (s.dev.word R.TIM_PPS_IN_STATUS)] ∧ d.on F.TIM_PPS_IN_STATUS_VALID = false ∧
    d.on F.TIM_PPS_IN_STATUS_OVERRUN = false ∧ d.num R.TIM_PPS_IN_NS = s.dev.tim.ppsStamp % 2 ^ 32 ∧
    s.dev.ChangesOnly d [.regs, .mon, .evt, .out]) ∧
  ∀ s : State, Completes .todStatusRead s fun d =>
    d.out = s.dev.out ++ [.read (s.dev.word R.TIM_TOD_STATUS)] ∧ d.on F.TIM_TOD_STATUS_VALID = false ∧
    d.on F.TIM_TOD_STATUS_OVERRUN = false ∧ d.num R.TIM_TOD_SEC_LO = s.dev.tim.tod.getD 0 0 % 2 ^ 32 ∧
    s.dev.ChangesOnly d [.regs, .mon, .evt, .out]

/-- The commands of the Thyme schedule (R379, R380, R383, R384): a write places the staged entry in the lowest free place or is
refused with its reason, an abort in time ends it ABORTED, and an ended entry is released.  R384 whole: a result enters the FIFO of
256 records, is lost with FIFO_OVF where the FIFO is full while the entry still holds it, and a read takes the oldest.
The model's choices in it stand in log entries 10 and 27. -/
def Obligations.ThymeCommandsServed : Prop :=
  (∀ (s : State) (m : Master) (k : Nat), s.dev.isActive m = true → s.dev.thyStop = 0 → s.dev.thyFree = some k →
    Completes (.thyWrite m) s fun d =>
      (SMap.get ({} : ThyEnt) d.thy.ent k).st = 1 ∧
      (SMap.get ({} : ThyEnt) d.thy.ent k).action = s.dev.get F.THY_STAGE_ACTION_ACTION ∧
      (SMap.get ({} : ThyEnt) d.thy.ent k).arg = s.dev.num R.THY_STAGE_ARG ∧
      (SMap.get ({} : ThyEnt) d.thy.ent k).at_ =
        s.dev.get F.THY_STAGE_AT_WRAP_WRAP * 2 ^ 32 + s.dev.num R.THY_STAGE_AT_NS ∧
      (SMap.get ({} : ThyEnt) d.thy.ent k).ticket = (s.dev.thy.ticket + 1) % 2 ^ 16 ∧
      d.get F.THY_CMD_STATUS_STATE = 2 ∧ d.num R.THY_CMD_TICKET = (s.dev.thy.ticket + 1) % 2 ^ 16 ∧
      (∀ j, j ≠ k → SMap.get ({} : ThyEnt) d.thy.ent j = SMap.get ({} : ThyEnt) s.dev.thy.ent j) ∧
      s.dev.ChangesOnly d [.regs, .mon, .evt, .thy]) ∧
  (∀ (s : State) (m : Master), s.dev.isActive m = true → s.dev.thyStop ≠ 0 →
    Completes (.thyWrite m) s fun d =>
      d.thy = s.dev.thy ∧ d.get F.THY_CMD_STATUS_STATE = 3 ∧ d.get F.THY_CMD_STATUS_REASON = s.dev.thyStop ∧
      d.num R.THY_CNT_REFUSED = min 0xFFFFFFFF (s.dev.num R.THY_CNT_REFUSED + 1)) ∧
  (∀ (s : State) (m : Master) (ticket k : Nat) (e : ThyEnt), s.dev.isActive m = true →
    s.dev.thy.ent.find? (fun e => e.2.st = 1 && e.2.ticket = ticket % 2 ^ 16) = some (k, e) →
    s.dev.netReached e.at_ = false →
    Completes (.thyAbort ticket m) s fun d =>
      (SMap.get ({} : ThyEnt) d.thy.ent k).st = 3 ∧ (SMap.get ({} : ThyEnt) d.thy.ent k).reason = 11 ∧
      d.get F.THY_CMD_STATUS_ABORT_RESULT = 1 ∧ s.dev.ChangesOnly d [.regs, .mon, .evt, .thy]) ∧
  (∀ (s : State) (m : Master) (ticket k : Nat) (e : ThyEnt), s.dev.isActive m = true →
    s.dev.thy.ent.find? (fun e => e.2.st = 1 && e.2.ticket = ticket % 2 ^ 16) = some (k, e) →
    s.dev.netReached e.at_ = true →
    Completes (.thyAbort ticket m) s fun d =>
      d.thy = s.dev.thy ∧ d.get F.THY_CMD_STATUS_ABORT_RESULT = 2 ∧ s.dev.ChangesOnly d [.regs, .mon, .evt]) ∧
  (∀ (s : State) (m : Master) (entry : Nat), s.dev.isActive m = true →
    2 ≤ (SMap.get ({} : ThyEnt) s.dev.thy.ent (entry % 4096)).st →
    Completes (.thyRelease entry m) s fun d =>
      SMap.get ({} : ThyEnt) d.thy.ent (entry % 4096) = {} ∧ d.get F.THY_CMD_STATUS_STATE = 2 ∧
      s.dev.ChangesOnly d [.regs, .mon, .evt, .thy]) ∧
  (∀ (s : State) (m : Master) (entry : Nat), s.dev.isActive m = true →
    (SMap.get ({} : ThyEnt) s.dev.thy.ent (entry % 4096)).st < 2 →
    Completes (.thyRelease entry m) s fun d =>
      d.thy = s.dev.thy ∧ d.get F.THY_CMD_STATUS_STATE = 3 ∧ d.get F.THY_CMD_STATUS_REASON = 14 ∧
      s.dev.ChangesOnly d [.regs, .mon, .evt]) ∧
  (∀ (s : State) (entry : Nat), 2 ≤ (SMap.get ({} : ThyEnt) s.dev.thy.ent (entry % 4096)).st →
    Completes (.entryHoldExpiry entry) s fun d =>
      SMap.get ({} : ThyEnt) d.thy.ent (entry % 4096) = {} ∧
      d.tim.clk = max s.dev.tim.clk
        ((SMap.get ({} : ThyEnt) s.dev.thy.ent (entry % 4096)).endClk + ms (s.dev.get F.THY_CTRL_HOLD_MS)) ∧
      s.dev.ChangesOnly d [.regs, .tim, .thy]) ∧
  (∀ (s : State) (r : ThyRec) (rest : List ThyRec), s.dev.thy.fifo = r :: rest →
    Completes .thyDoneFifoRead s fun d =>
      d.thy.fifo = rest ∧ d.num R.THY_DONE_TICKET = (r.reason * 2 ^ 24 + r.ticket) % 2 ^ 32 ∧
      (r.count < 2 ^ 17 → d.get F.THY_DONE_COUNT_COUNT = r.count) ∧
      d.out = s.dev.out ++ [.read (BitVec.ofNat 32
        (2 ^ 31 + b2n r.aborted * 2 ^ 30 + b2n r.stepped * 2 ^ 29 + r.action * 2 ^ 20 + r.entry))] ∧
      s.dev.ChangesOnly d [.regs, .mon, .evt, .thy, .out]) ∧
  ∀ (d : Dev) (k reason count missed : Nat) (stepped fired : Bool) (e e' : ThyEnt),
    e = SMap.get {} d.thy.ent k → e' = SMap.get {} (d.thyEnd k reason count missed stepped fired).thy.ent k →
    (d.thy.fifo.length < 256 → (d.thyEnd k reason count missed stepped fired).thy.fifo =
      d.thy.fifo ++ [⟨reason ≠ 0, stepped, e.action, k, e.ticket, reason, count⟩]) ∧
    (256 ≤ d.thy.fifo.length → (d.thyEnd k reason count missed stepped fired).thy.fifo = d.thy.fifo ∧
      (d.thyEnd k reason count missed stepped fired).on F.THY_STATUS_FIFO_OVF = true ∧
      bit ((d.thyEnd k reason count missed stepped fired).num E.THY_FIFO_OVF.reg) E.THY_FIFO_OVF.bit = true) ∧
    e'.st = (if reason = 0 then 2 else 3) ∧ e'.reason = reason ∧ e'.count = count ∧ e'.ticket = e.ticket

/-- The firing of a Thyme entry (R75, R111, R239, R379, R381, R385): at its instant the next entry has the effect of its action and
ends DONE; a RULE_COMMIT that finds no closed version ends ABORTED and leaves the current one.
The model's choices in it stand in log entry 6. -/
def Obligations.ThymeEntriesFire : Prop :=
  ∀ (s : State) (k : Nat) (e : ThyEnt), e = SMap.get ({} : ThyEnt) s.dev.thy.ent (k % 4096) →
    (s.dev.FiresNext 1 (k % 4096) → s.dev.stagedClosed = true → s.dev.fe.pass = 0 →
      Completes (.ruleCommit k) s fun d =>
        d.get F.FE_VER_CURRENT_VERSION = s.dev.get F.FE_VER_STAGED_VERSION ∧ d.staged = false ∧
        s.dev.FiredDone d (k % 4096) 1) ∧
    (s.dev.FiresNext 1 (k % 4096) → s.dev.stagedClosed = false →
      Completes (.ruleCommit k) s fun d =>
        d.get F.FE_VER_CURRENT_VERSION = s.dev.get F.FE_VER_CURRENT_VERSION ∧
        (SMap.get ({} : ThyEnt) d.thy.ent (k % 4096)).st = 3 ∧ (SMap.get ({} : ThyEnt) d.thy.ent (k % 4096)).reason = 12) ∧
    (s.dev.FiresNext 2 (k % 4096) →
      Completes (.keyAccept k) s fun d =>
        (∀ i, (SMap.get ({} : RxEnt) s.dev.sat.rx i).st = 1 → (SMap.get ({} : RxEnt) s.dev.sat.rx i).group = e.arg →
          s.dev.domHeld (i / 2 ^ 13 / 4) = false →
          (SMap.get ({} : RxEnt) d.sat.rx i).st = 2 ∧ (SMap.get ({} : RxEnt) d.sat.rx i).at_ = e.at_) ∧
        s.dev.FiredDone d (k % 4096) (s.dev.keyAccept e.arg e.at_).2) ∧
    (s.dev.FiresNext 3 (k % 4096) → SMap.wf {} s.dev.sat.tx = true →
      Completes (.keySwitch k) s fun d =>
        (∀ n i p, n < 8 → i < 8192 → p < 2 → (s.dev.tx n i p).st = 1 → (s.dev.tx n i p).group = e.arg →
          (s.dev.tx n i (1 - p)).st ≠ 1 → s.dev.domHeld (n / 4) = false → (d.tx n i p).st = 2) ∧
        (SMap.get ({} : ThyEnt) d.thy.ent (k % 4096)).st = 2) ∧
    (s.dev.FiresNext 4 (k % 4096) →
      Completes (.keyRetire k) s fun d =>
        (∀ i, (SMap.get ({} : RxEnt) s.dev.sat.rx i).st = 2 → (SMap.get ({} : RxEnt) s.dev.sat.rx i).group = e.arg →
          s.dev.domHeld (i / 2 ^ 13 / 4) = false →
          (SMap.get ({} : RxEnt) d.sat.rx i).st = 3 ∧ (SMap.get ({} : RxEnt) d.sat.rx i).at_ = e.at_) ∧
        s.dev.FiredDone d (k % 4096) (s.dev.keyRetire e.arg e.at_).2) ∧
    (s.dev.FiresNext 5 (k % 4096) →
      Completes (.boundSwitch k) s fun d =>
        d.fe.bank = 1 - s.dev.fe.bank ∧ d.fe.copyWait = true ∧ d.fe.switchClk = d.tim.clk ∧
        s.dev.FiredDone d (k % 4096) 1) ∧
    (s.dev.FiresNext 6 (k % 4096) → (SMap.get ({} : PinSt) s.dev.tim.pins (e.arg % 4)).modeGen = e.gen →
      Completes (.pulseOne k) s fun d =>
        (SMap.get ({} : PinSt) d.tim.pins (e.arg % 4)).pulse = true ∧ d.on F.TIM_PPS_OUT_CTRL_RUNNING (e.arg % 4) = true ∧
        s.dev.FiredDone d (k % 4096) 1) ∧
    (s.dev.FiresNext 7 (k % 4096) → (SMap.get ({} : PinSt) s.dev.tim.pins (e.arg % 4)).modeGen = e.gen →
      Completes (.pulseStart k) s fun d =>
        (SMap.get ({} : PinSt) d.tim.pins (e.arg % 4)).train = true ∧
        (SMap.get ({} : PinSt) d.tim.pins (e.arg % 4)).pulse = true ∧
        (SMap.get ({} : PinSt) d.tim.pins (e.arg % 4)).nextNet =
          (e.at_ + s.dev.num R.TIM_PPS_OUT_PERIOD (e.arg % 4)) % twrap ∧
        s.dev.FiredDone d (k % 4096) 1) ∧
    (s.dev.FiresNext 8 (k % 4096) →
      Completes (.pulseStop k) s fun d =>
        (SMap.get ({} : PinSt) d.tim.pins (e.arg % 4)).train = false ∧
        (SMap.get ({} : ThyEnt) d.thy.ent (k % 4096)).st = 2) ∧
    (s.dev.FiresNext 9 (k % 4096) →
      Completes (.event k) s fun d =>
        d.num R.THY_USER_ARG = e.arg % 2 ^ 32 ∧ s.dev.FiredDone d (k % 4096) 1 ∧
        s.dev.ChangesOnly d [.regs, .tim, .thy, .evt, .mon])

/-- The output pulses (R385, R390): an edge of a train starts a pulse and sets the next edge one period on; a pulse ends at its
width; a change of MODE stops both, and MODE 3 is ignored.
The model's choices in it stand in log entry 5. -/
def Obligations.PulsesRun : Prop :=
  (∀ (s : State) (pin : Nat), (SMap.get ({} : PinSt) s.dev.tim.pins (pin % 4)).train = true →
    Completes (.pulseEdge pin) s fun d =>
      (SMap.get ({} : PinSt) d.tim.pins (pin % 4)).pulse = true ∧ (SMap.get ({} : PinSt) d.tim.pins (pin % 4)).train = true ∧
      (SMap.get ({} : PinSt) d.tim.pins (pin % 4)).nextNet =
        ((SMap.get ({} : PinSt) s.dev.tim.pins (pin % 4)).nextNet + s.dev.num R.TIM_PPS_OUT_PERIOD (pin % 4)) % twrap ∧
      d.tim.clk = s.dev.netReach (SMap.get ({} : PinSt) s.dev.tim.pins (pin % 4)).nextNet ∧
      s.dev.ChangesOnly d [.regs, .tim, .out]) ∧
  (∀ (s : State) (pin : Nat), (SMap.get ({} : PinSt) s.dev.tim.pins (pin % 4)).pulse = true →
    Completes (.pulseEnd pin) s fun d =>
      (SMap.get ({} : PinSt) d.tim.pins (pin % 4)).pulse = false ∧
      (SMap.get ({} : PinSt) d.tim.pins (pin % 4)).train = (SMap.get ({} : PinSt) s.dev.tim.pins (pin % 4)).train ∧
      d.tim.clk = max s.dev.tim.clk (SMap.get ({} : PinSt) s.dev.tim.pins (pin % 4)).endClk ∧
      (s.dev.rst.pinsOn = true → d.out = s.dev.out ++ [.pps (pin % 4) false]) ∧
      s.dev.ChangesOnly d [.regs, .tim, .out]) ∧
  ∀ (s : State) (pin value : Nat),
    Completes (.ppsOutCtrlWrite pin value) s fun d =>
      (nbits value 31 30 ≠ 3 → nbits value 31 30 ≠ s.dev.get F.TIM_PPS_OUT_CTRL_MODE (pin % 4) →
        d.get F.TIM_PPS_OUT_CTRL_MODE (pin % 4) = nbits value 31 30 ∧
        (SMap.get ({} : PinSt) d.tim.pins (pin % 4)).train = false ∧
        (SMap.get ({} : PinSt) d.tim.pins (pin % 4)).pulse = false) ∧
      (nbits value 31 30 = 3 → d.get F.TIM_PPS_OUT_CTRL_MODE (pin % 4) = s.dev.get F.TIM_PPS_OUT_CTRL_MODE (pin % 4) ∧
        d.tim = s.dev.tim) ∧
      d.get F.TIM_PPS_OUT_CTRL_WIDTH_US (pin % 4) = value % 2 ^ 20 ∧ s.dev.ChangesOnly d [.regs, .mon, .evt, .tim, .out]

/-! The lease of the Sage cores, resets and their release (R392-R412, R503-R531). -/

/-- The lease (R393-R398): a renewal in time keeps it; a core shows itself alive and is no longer so 4 ms later; with the expiry
or a handover nobody holds it until the grant; the watchdogs of the cores and of the lease reset what they watch.
The model's choices in it stand in log entries 5, 26 and 67. -/
def Obligations.LeaseServed : Prop :=
  (∀ (s : State) (value : Nat) (m : Master) (c : Nat), m.core = some c → s.dev.holder = some c → value % 2 = 1 →
    s.dev.coreUp c = true → SMap.get false s.dev.sage.lapsed c = false → s.dev.on F.TAMP_STATUS_HALTED = false →
    s.dev.gap = false → s.dev.tim.clk < s.dev.sage.renewClk + ms (s.dev.get F.SAGE_LEASE_CFG_LEASE_MS) →
    s.dev.on F.SAGE_STATUS_REVERT_PENDING = false →
    Completes (.sageRenew value m) s fun d =>
      d.sage.renewClk = s.dev.tim.clk ∧ d.holder = some c ∧ s.dev.ChangesOnly d [.regs, .mon, .evt, .sage] ∧
      s.dev.WritesOnly d sideAddrs) ∧
  (∀ (s : State) (value : Nat) (m : Master) (c : Nat), m.core = some c → value % 2 = 1 → s.dev.coreUp c = true →
    s.dev.on F.TAMP_STATUS_HALTED = false →
    Completes (.sageAlive value m) s fun d =>
      SMap.get none d.sage.alive c = some s.dev.tim.clk ∧ d.on (coreHealthF c) = bit value 1 ∧
      d.on (eligF c) = bit value 1 ∧ d.holder = s.dev.holder ∧ s.dev.ChangesOnly d [.regs, .mon, .evt, .sage]) ∧
  (∀ (s : State) (core t : Nat), SMap.get none s.dev.sage.alive (core % 2) = some t →
    Completes (.aliveTimeout core) s fun d =>
      SMap.get none d.sage.alive (core % 2) = none ∧ d.on (eligF (core % 2)) = false ∧
      d.tim.clk = max s.dev.tim.clk (t + ms 4) ∧ d.holder = s.dev.holder ∧ s.dev.ChangesOnly d [.regs, .tim, .sage]) ∧
  (∀ (s : State) (c : Nat), s.dev.holder = some c → 8 ≤ s.dev.rst.step →
    Completes .leaseExpiry s fun d =>
      d.holder = none ∧ d.tim.clk = max s.dev.tim.clk (s.dev.sage.renewClk + ms (s.dev.get F.SAGE_LEASE_CFG_LEASE_MS)) ∧
      d.sage.noneClk = d.tim.clk ∧ (s.dev.eligible (1 - c) = true → d.sage.next = some (1 - c)) ∧
      d.on (eligF c) = false ∧ s.dev.ChangesOnly d [.regs, .evt, .tim, .sage]) ∧
  (∀ (s : State) (c : Nat), s.dev.noHolder = true → 8 ≤ s.dev.rst.step → s.dev.grantee = some c →
    s.dev.get F.SAGE_CS_STATUS_STATE = 0 → s.dev.sage.defer = [] →
    Completes .leaseGrant s fun d =>
      d.holder = some c ∧ d.get (coreStF c) = 1 ∧ d.sage.renewClk = s.dev.tim.clk ∧
      (s.dev.sage.expired = true →
        d.num R.SAGE_CNT_TAKEOVER = min 0xFFFFFFFF (s.dev.num R.SAGE_CNT_TAKEOVER + 1)) ∧
      s.dev.ChangesOnly d [.regs, .evt, .sage, .fe, .out]) ∧
  (∀ (s : State) (value : Nat) (m : Master) (c : Nat), m.core = some c → s.dev.holder = some c → value % 2 = 1 →
    s.dev.eligible (1 - c) = true →
    Completes (.sageHandover value m) s fun d =>
      d.holder = none ∧ d.sage.next = some (1 - c) ∧ d.sage.noneClk = s.dev.tim.clk ∧ d.sage.expired = false ∧
      s.dev.ChangesOnly d [.regs, .mon, .evt, .sage]) ∧
  (∀ (s : State) (c : Nat), s.dev.sage.eligClk = some c → s.dev.holder = some 1 → s.dev.on F.SAGE_CTRL_REVERT_EN = true →
    Completes .revertHoldoffMet s fun d =>
      d.on F.SAGE_STATUS_REVERT_PENDING = true ∧
      d.tim.clk = max s.dev.tim.clk (c + sec (s.dev.get F.SAGE_LEASE_CFG_HOLDOFF_S)) ∧
      s.dev.ChangesOnly d [.regs, .tim]) ∧
  (∀ (s : State) (value : Nat) (m : Master) (c : Nat), m.core = some c → value % 2 = 1 → s.dev.coreUp c = true →
    Completes (.sageWdtKick value m) s fun d =>
      SMap.get 0 d.sage.kick c = s.dev.tim.clk ∧ s.dev.ChangesOnly d [.regs, .mon, .evt, .sage] ∧
      s.dev.WritesOnly d sideAddrs) ∧
  (∀ (s : State) (core : Nat), s.dev.coreUp (core % 2) = true →
    Completes (.coreWatchdogExpiry core) s fun d =>
      d.coreUp (core % 2) = false ∧ d.get (coreStF (core % 2)) = 0 ∧ d.holder = s.dev.holder ∧
      (d.dom (3 + (1 - core % 2))) = s.dev.dom (3 + (1 - core % 2)) ∧
      d.num R.SAGE_CNT_WDT = min 0xFFFFFFFF (s.dev.num R.SAGE_CNT_WDT + 1) ∧
      s.dev.ChangesOnly d [.regs, .evt, .tim, .rst, .sage]) ∧
  ∀ s : State, 6 ≤ s.dev.rst.step → s.dev.noHolder = true → s.dev.on F.RST_CTRL_GLOBAL_WDT_EN = true →
    Completes .globalWatchdogExpiry s fun d =>
      d.rst.step = (if s.dev.pwr.up then 2 else 1) ∧ d.get F.RST_CAUSE_PRIMARY = 4 ∧
      d.tim.clk = max s.dev.tim.clk (s.dev.sage.noneClk + sec (s.dev.get F.SAGE_LEASE_CFG_GLOBAL_S)) ∧
      d.flash.slot = s.dev.flash.slot ∧ d.fuse = s.dev.fuse

/-- The sources of a reset (R505, R506, R508, R510, R514, R518, R525): a system reset leaves every domain but the always-on
island at reset with its cause recorded; a brown-out takes the rails too; a power-on starts anew; a reset of one scope takes
that domain or core alone; a lock-up is recorded before its reset.
The model's choices in it stand in log entries 21 and 53. -/
def Obligations.ResetsTaken : Prop :=
  (∀ s : State,
    Completes (.powerOn true) s fun d =>
      d.rst.step = 1 ∧ d.pwr.up = false ∧ d.pwr.vaux = true ∧ d.get F.RST_CAUSE_PRIMARY = 0 ∧ d.tbl = [] ∧ d.sat = {} ∧
      d.flash.slot = s.dev.flash.slot ∧ d.fuse = s.dev.fuse ∧ d.tim.clk = s.dev.tim.clk) ∧
  (∀ s : State, Completes (.powerOn false) s fun d => d.rst.step = 1 ∧ d.pwr.vaux = false ∧ d.fuse = s.dev.fuse) ∧
  (∀ s : State, 6 ≤ s.dev.rst.step →
    Completes (.borVin true) s fun d =>
      d.rst.step = 1 ∧ d.pwr.up = false ∧ d.pwr.vin = false ∧ d.get F.RST_CAUSE_PRIMARY = 1 ∧ d.tbl = [] ∧
      d.fuse = s.dev.fuse) ∧
  (∀ s : State, Completes (.borVin false) s fun d => d.pwr = { s.dev.pwr with vin := true } ∧ s.dev.ChangesOnly d [.regs, .pwr]) ∧
  (∀ s : State, 6 ≤ s.dev.rst.step →
    Completes (.borVaux true) s fun d =>
      d.rst.step = 1 ∧ d.pwr.up = false ∧ d.pwr.vaux = false ∧ d.get F.RST_CAUSE_PRIMARY = 2 ∧ d.tbl = [] ∧
      d.fuse = s.dev.fuse) ∧
  (∀ (s : State) (ns : Nat), 1000 ≤ ns → s.dev.tamp.hold = false → 6 ≤ s.dev.rst.step →
    Completes (.resetPin ns) s fun d =>
      d.rst.step = (if s.dev.pwr.up then 2 else 1) ∧ d.get F.RST_CAUSE_PRIMARY = 3 ∧ d.tbl = [] ∧ d.sat = {} ∧
      d.tim.clk = s.dev.tim.clk + ns ∧ d.rst.endClk = d.tim.clk ∧ d.fuse = s.dev.fuse) ∧
  (∀ (s : State) (ns : Nat), ns < 100 ∨ s.dev.tamp.hold = true →
    Completes (.resetPin ns) s fun d => s.dev.ChangesOnly d [.regs]) ∧
  (∀ (s : State) (scope : Nat) (m : Master), s.dev.tamp.hold = false → 6 ≤ s.dev.rst.step → s.dev.isActive m = true →
    (scope % 8 = 1 → Completes (.swReset 0xA5C3 scope m) s fun d =>
      d.rst.step = (if s.dev.pwr.up then 2 else 1) ∧ d.get F.RST_CAUSE_PRIMARY = 6 ∧ d.tbl = [] ∧ d.fuse = s.dev.fuse) ∧
    (scope % 8 = 4 → (s.dev.dom 2).causes = 0 → Completes (.swReset 0xA5C3 scope m) s fun d =>
      (d.dom 2).causes = 8 ∧ (d.dom 0) = s.dev.dom 0 ∧ (d.dom 1) = s.dev.dom 1 ∧ d.sch.egr = [] ∧ d.sat = s.dev.sat ∧
      d.get F.RST_DOMAIN_STATUS_SHELL = d.domCode 2 ∧ d.rst.step = s.dev.rst.step) ∧
    (2 ≤ scope % 8 → scope % 8 ≤ 3 → (s.dev.dom (scope % 8 - 2)).causes = 0 →
      Completes (.swReset 0xA5C3 scope m) s fun d =>
        (d.dom (scope % 8 - 2)).causes = 8 ∧ (d.dom (3 - scope % 8)) = s.dev.dom (3 - scope % 8) ∧
        (∀ n i p, n / 4 = scope % 8 - 2 → i < 8192 → p < 2 → d.tx n i p = {}) ∧ d.sch.egr = s.dev.sch.egr ∧
        d.rst.step = s.dev.rst.step) ∧
    (5 ≤ scope % 8 → scope % 8 ≤ 6 → Completes (.swReset 0xA5C3 scope m) s fun d =>
      d.coreUp (scope % 8 - 5) = false ∧ d.holder = s.dev.holder ∧ s.dev.ChangesOnly d [.regs, .mon, .evt, .rst, .sage]) ∧
    (∀ key, key % 2 ^ 16 ≠ 0xA5C3 → Completes (.swReset key scope m) s fun d =>
      s.dev.ChangesOnly d [.regs, .mon, .evt])) ∧
  (∀ s : State, s.dev.tamp.hold = false → s.dev.fuse.lcs = 0 ∨ s.dev.fuse.lcs = 3 → s.dev.on F.RST_STATUS_DEBUG_OPEN = true →
    6 ≤ s.dev.rst.step →
    Completes .debugReset s fun d =>
      d.rst.step = (if s.dev.pwr.up then 2 else 1) ∧ d.get F.RST_CAUSE_PRIMARY = 7 ∧ d.tbl = [] ∧ d.fuse = s.dev.fuse) ∧
  (∀ s : State, s.dev.fuse.lcs ≠ 0 → s.dev.fuse.lcs ≠ 3 → Completes .debugReset s fun d => s.dev.ChangesOnly d [.regs]) ∧
  (∀ (s : State) (domain : Nat), domain % 5 = 2 → 6 ≤ s.dev.rst.step → s.dev.tamp.hold = false → (s.dev.dom 2).causes = 0 →
    Completes (.clockFailure domain) s fun d => (d.dom 2).causes = 1 ∧ d.sch.egr = [] ∧ d.sat = s.dev.sat) ∧
  (∀ (s : State) (core target : Nat), s.dev.on F.RST_CTRL_CORE_LOCKUP_EN = true → s.dev.coreUp (core % 2) = true →
    Completes (.lockupCore core target) s fun d =>
      d.coreUp (core % 2) = false ∧ d.on F.RST_LOCKUP_STATUS_VALID = true ∧ d.get F.RST_LOCKUP_STATUS_KIND = 0 ∧
      d.get F.RST_LOCKUP_STATUS_MASTER = core % 2 ∧ d.holder = s.dev.holder ∧
      s.dev.ChangesOnly d [.regs, .evt, .rst, .sage]) ∧
  ∀ (s : State) (master target : Nat), s.dev.on F.RST_CTRL_FABRIC_LOCKUP_EN = true → 6 ≤ s.dev.rst.step →
    Completes (.lockupFabric master target) s fun d =>
      d.rst.step = (if s.dev.pwr.up then 2 else 1) ∧ d.get F.RST_CAUSE_PRIMARY = 10 ∧
      d.on F.RST_LOCKUP_STATUS_VALID = true ∧ d.get F.RST_LOCKUP_STATUS_KIND = 1 ∧ d.tbl = [] ∧ d.fuse = s.dev.fuse

/-- The release (R44, R406-R412, R509-R513, R516-R521, R526, R528): the steps in their order, each by its own condition; the
choice of a slot and its verification; the configuration of the image that passed; the commit that locks; and the end of the
reset of one domain.
The model's choices in it stand in log entries 5, 11, 20 and 61. -/
def Obligations.ReleaseProceeds : Prop :=
  (∀ (s : State) (usec : Nat), s.dev.rst.step = 1 → s.dev.pwr.vin = true → s.dev.pwr.vaux = true → s.dev.tamp.hold = false →
    s.dev.rst.zeroDead = false →
    Completes (.railPowerUp usec) s fun d =>
      d.rst.step = 2 ∧ d.pwr = { s.dev.pwr with up := true } ∧ d.tim.clk = s.dev.tim.clk + us usec ∧
      s.dev.ChangesOnly d [.regs, .tim, .rst, .pwr]) ∧
  (∀ (s : State) (ohms c : Nat), s.dev.rst.step = 2 → s.dev.pwr.up = true → s.dev.tamp.hold = false →
    s.dev.rst.zeroDead = false → strapCode ohms = some c → c ≠ 0 →
    Completes (.trimLoad ohms) s fun d =>
      d.rst.step = 3 ∧ d.on F.RST_STRAP_VALID = true ∧ d.get F.RST_STRAP_CODE = c ∧ d.get F.RST_SETTINGS_SOURCE = 0 ∧
      d.get F.NVL_ID_WIDTH = (if (strapSettings c).1 then 16 else 8) ∧
      (d.on F.RST_SETTINGS_SLOT_B = (strapSettings c).2.1) ∧ (d.on F.RST_SETTINGS_MGMT_I2C = (strapSettings c).2.2.1) ∧
      s.dev.ChangesOnly d [.regs, .rst]) ∧
  (∀ s : State, s.dev.rst.step = 3 → s.dev.tamp.hold = false → s.dev.rst.zeroDead = false → bit s.dev.pwr.fault 3 = false →
    Completes (.clocksGood 15) s fun d =>
      d.rst.step = 4 ∧ d.get F.RST_CLK_STATUS_GOOD = 15 ∧ d.on F.RST_CLK_STATUS_SYSCLK_OK = true ∧
      s.dev.ChangesOnly d [.regs, .rst]) ∧
  (∀ (s : State) (mask : Nat), 6 ≤ s.dev.rst.step → s.dev.tamp.hold = false → s.dev.rst.zeroDead = false →
    bit mask 1 = true → (s.dev.dom 2).causes = 1 →
    Completes (.clocksGood mask) s fun d => (d.dom 2).causes = 32 ∧ s.dev.ChangesOnly d [.regs, .rst]) ∧
  (∀ (s : State) (usec fails : Nat), s.dev.rst.step = 4 → s.dev.tamp.hold = false → s.dev.rst.zeroDead = false →
    Completes (.zeroizationDone usec fails) s fun d =>
      d.rst.step = (if fails < 2 then 5 else 4) ∧ d.rst.zeroDead = decide (2 ≤ fails) ∧
      d.tim.clk = s.dev.tim.clk + us usec ∧ d.get F.RST_ZERO_STATUS_US = min 0xFFFF usec ∧
      s.dev.ChangesOnly d [.regs, .tim, .rst]) ∧
  (∀ s : State, s.dev.rst.step = 5 → s.dev.tamp.hold = false → s.dev.rst.zeroDead = false →
    Completes .domainRelease s fun d =>
      d.rst.step = 6 ∧ d.rst.relClk = s.dev.tim.clk ∧ d.tim.rawOrigin = s.dev.tim.clk ∧
      d.tim.clk = s.dev.tim.clk + us 6 ∧ d.on F.GLB_STATUS_READY = true ∧ d.on F.SCH_STATUS_READY = true ∧
      (∀ n, n < 4 → d.on F.FE_STATUS_RUNNING n = true ∧ d.on F.FE_STATUS_IN_SYNC n = true) ∧ d.fuse = s.dev.fuse) ∧
  (∀ (s : State) (size0 size1 : Nat) (c0 c1 : Bytes), s.dev.rst.step = 6 → s.dev.fuse.lcs ≠ 4 →
    Completes (.slotChoice size0 size1 c0 c1) s fun d =>
      d.rst.step = 7 ∧ d.rst.bootTry = 1 ∧
      d.rst.bootSlot = s.dev.topRec.elim (d.get F.RST_SETTINGS_SLOT_B) (fun r => numAt r 12 1 % 2) ∧
      d.get F.NVL_ID_CS0_SIZE = (if size0 = 2 then 2 else 1) ∧ d.get F.RST_BOOT_STAGE_STAGE = 2 ∧
      s.dev.ChangesOnly d [.regs, .evt, .rst, .flash]) ∧
  (∀ (s : State) (readErr : Bool) (usec : Nat), s.dev.rst.step = 7 → s.dev.rst.bootTry = 1 → s.dev.rst.bootRec = none →
    Completes (.imageVerifyDone readErr usec) s fun d =>
      d.rst.step = (if s.dev.verifyImage (s.dev.slotImg s.dev.rst.bootSlot) readErr = 0 then 8 else 7) ∧
      d.rst.bootTry = (if s.dev.verifyImage (s.dev.slotImg s.dev.rst.bootSlot) readErr = 0 then 0 else 2) ∧
      d.rst.bootSlot = (if s.dev.verifyImage (s.dev.slotImg s.dev.rst.bootSlot) readErr = 0 then s.dev.rst.bootSlot
        else 1 - s.dev.rst.bootSlot) ∧
      d.tim.clk = s.dev.tim.clk + us usec ∧ d.flash.slot = s.dev.flash.slot) ∧
  (∀ (s : State) (readErr : Bool) (usec : Nat), s.dev.rst.step = 7 → s.dev.rst.bootTry = 2 →
    Completes (.imageVerifyDone readErr usec) s fun d =>
      d.rst.noImage = decide (s.dev.verifyImage (s.dev.slotImg s.dev.rst.bootSlot) readErr ≠ 0 ∨ s.dev.rst.noImage = true) ∧
      (s.dev.verifyImage (s.dev.slotImg s.dev.rst.bootSlot) readErr ≠ 0 → d.on F.GLB_STATUS_NO_IMAGE = true)) ∧
  (∀ (s : State) (p r t : List CfgRec), s.dev.rst.step = 8 → s.dev.rst.noImage = false → s.dev.sage.booted = false →
    s.dev.holder = some 0 → s.dev.on F.TAMP_STATUS_HALTED = false →
    imageRecs (s.dev.slotImg s.dev.bootedSlot) = some (p, r, t) →
    Gives .bootConfiguration s (
      let img := s.dev.slotImg s.dev.bootedSlot
      let b := (s.dev.bootStage 4).set F.SAGE_A_STATE_STATE 1
      if b.imageOk img p r t then
        let x := (b.jrnl b.bootedSlot).foldl scanOne { dev := b.imageTry p r t, ver := numAt img 12 4 }
        let d := (b.applyAll true p).noteRecs (p ++ r ++ t)
        let d := { d with rst := { d.rst with pinsOn := true } }
        let d := ((d.set F.NVL_BOOT_INFO_REPLAYED x.sets.length).set F.NVL_BOOT_INFO_REPLAY_STOP x.stop).jrnlShow
        (if x.stop = 0 then d else d.raise E.SAGE_REPLAY_STOPPED).bootApply img r t x.sets x.ver
      else b.bootFail (numAt img 12 4))) ∧
  (∀ s : State, s.dev.rst.step = 8 → s.dev.rst.noImage = false → s.dev.sage.booted = false → s.dev.active.isSome = true →
    imageRecs (s.dev.slotImg s.dev.bootedSlot) = none → s.dev.validRecs = [] →
    Completes .bootConfiguration s fun d =>
      d.rst.noImage = true ∧ d.on F.GLB_STATUS_NO_IMAGE = true ∧ d.sage.booted = false ∧ d.tbl = s.dev.tbl) ∧
  (∀ (s : State) (m : Master), s.dev.isActive m = true → s.dev.locked = false → s.dev.rst.step = 8 →
    s.dev.rst.noImage = false →
    Completes (.imageCommit m) s fun d =>
      d.locked = true ∧ d.rst.step = 9 ∧ d.on F.TAMP_STATUS_CLASSES_LOCKED = true ∧ d.on F.GLB_STATUS_RESTRICTED = false ∧
      d.get F.RST_BOOT_STAGE_STAGE = 5 ∧ d.fuse = s.dev.fuse ∧ d.tbl = s.dev.tbl) ∧
  (∀ (s : State) (domain usec fails : Nat), domain % 5 ≤ 2 → 6 ≤ s.dev.rst.step →
    (s.dev.dom (domain % 5)).causes = 8 ∨ (s.dev.dom (domain % 5)).causes = 32 → fails < 2 →
    Completes (.domainResetEnd domain usec fails) s fun d =>
      (d.dom (domain % 5)).causes = 0 ∧ (∀ k, k < 5 → k ≠ domain % 5 → d.dom k = s.dev.dom k) ∧
      d.tim.clk = max s.dev.tim.clk (s.dev.dom (domain % 5)).swUntil + us usec ∧
      d.tbl = s.dev.tbl ∧ d.sat.rx = s.dev.sat.rx ∧ d.sat.tx = s.dev.sat.tx) ∧
  ∀ (s : State) (domain usec fails : Nat), 3 ≤ domain % 5 → 6 ≤ s.dev.rst.step →
    (s.dev.dom (domain % 5)).causes = 8 ∨ (s.dev.dom (domain % 5)).causes = 32 → fails < 2 →
    s.dev.on F.TAMP_STATUS_HALTED = false →
    Completes (.domainResetEnd domain usec fails) s fun d =>
      (d.dom (domain % 5)).causes = 0 ∧ d.get (coreStF (domain % 5 - 3)) = 2 ∧ d.holder = s.dev.holder ∧
      s.dev.ChangesOnly d [.regs, .tim, .rst]

/-- The rails and the monitors of power and temperature (R37, R488, R527, R528, R533): a fault holds its domain until its rails
have recovered; a phase over its limit, or one that cannot be balanced, is shed; the telemetry is taken each whole
millisecond.
The model's choices in it stand in log entry 55. -/
def Obligations.RailsWatched : Prop :=
  (∀ (s : State) (rail : Nat), bit s.dev.pwr.fault (rail % 12) = false → s.dev.tamp.hold = false → 6 ≤ s.dev.rst.step →
    s.dev.calm = true → s.dev.alarmClass (392 + railDomain (rail % 12)) = 0 → railDomain (rail % 12) ≤ 2 →
    (s.dev.dom (railDomain (rail % 12))).causes = 0 →
    Completes (.railFault rail) s fun d =>
      bit d.pwr.fault (rail % 12) = true ∧ d.on F.PWR_RAIL_STATUS_FAULT (rail % 12) = true ∧
      d.on F.PWR_RAIL_STATUS_PGOOD (rail % 12) = false ∧ (d.dom (railDomain (rail % 12))).causes = 2 ∧
      d.num R.PWR_CNT_RAIL_FAULT = min 0xFFFFFFFF (s.dev.num R.PWR_CNT_RAIL_FAULT + 1) ∧
      (∀ k, k < 5 → k ≠ railDomain (rail % 12) → d.dom k = s.dev.dom k)) ∧
  (∀ s : State, bit s.dev.pwr.fault 3 = false → s.dev.tamp.hold = false → 6 ≤ s.dev.rst.step →
    s.dev.calm = true → s.dev.alarmClass 395 = 0 →
    Completes (.railFault 3) s fun d =>
      d.rst.step = (if s.dev.pwr.up then 2 else 1) ∧ d.get F.RST_CAUSE_PRIMARY = 14 ∧ bit d.pwr.fault 3 = true ∧
      d.tbl = [] ∧ d.fuse = s.dev.fuse) ∧
  (∀ (s : State) (rail : Nat), s.dev.pwr.fault = 2 ^ (rail % 12) → railDomain (rail % 12) ≤ 2 →
    (s.dev.dom (railDomain (rail % 12))).causes = 2 →
    Completes (.railRecovered rail) s fun d =>
      d.pwr.fault = 0 ∧ d.on F.PWR_RAIL_STATUS_PGOOD (rail % 12) = true ∧ d.on F.PWR_RAIL_STATUS_FAULT (rail % 12) = false ∧
      (d.dom (railDomain (rail % 12))).causes = 32 ∧ s.dev.ChangesOnly d [.regs, .evt, .rst, .pwr]) ∧
  (∀ (s : State) (phase : Nat), s.dev.isShed (phase % 90) = false → 6 ≤ s.dev.rst.step →
    Completes (.phaseOcp phase) s fun d =>
      d.isShed (phase % 90) = true ∧ d.on F.PWR_STATUS_PHASE_SHED = true ∧
      (∀ p, p < 90 → p ≠ phase % 90 → d.isShed p = s.dev.isShed p) ∧
      d.get F.PWR_RAIL_STATUS_PHASES_ACTIVE (phaseRail (phase % 90)).1 =
        s.dev.get F.PWR_RAIL_STATUS_PHASES_ACTIVE (phaseRail (phase % 90)).1 - 1 ∧
      d.num R.PWR_CNT_OCP = min 0xFFFFFFFF (s.dev.num R.PWR_CNT_OCP + 1) ∧ s.dev.ChangesOnly d [.regs, .evt, .mon]) ∧
  (∀ (s : State) (failed spreads : List Nat), s.dev.on F.PWR_CTRL_CAL_EN = true → 6 ≤ s.dev.rst.step →
    Completes (.regulatorCalibration failed spreads) s fun d =>
      (∀ p, p ∈ failed → p < 90 → d.isShed p = true) ∧
      (∀ p, p < 90 → p ∉ failed → d.isShed p = s.dev.isShed p) ∧
      (d.on F.PWR_CAL_STATUS_LAST_OK = true ↔ ∀ p, p ∈ failed → p < 90 → s.dev.isShed p = true) ∧
      (∀ i, i < 12 → d.get F.PWR_RAIL_TRIM_SPREAD_PCT i = min 255 (spreads.getD i 0)) ∧
      d.num R.PWR_CNT_CAL = min 0xFFFFFFFF (s.dev.num R.PWR_CNT_CAL + 1) ∧
      s.dev.ChangesOnly d [.regs, .evt, .mon, .pwr]) ∧
  (∀ (s : State) (t : Telemetry), 6 ≤ s.dev.rst.step → s.dev.rst.relClk ≤ s.dev.tim.clk →
    Completes (.telemetrySample t) s fun d =>
      s.dev.tim.clk < d.tim.clk ∧ d.tim.clk ≤ s.dev.tim.clk + ms 1 ∧ (d.tim.clk - s.dev.rst.relClk) % ms 1 = 0 ∧
      d.get F.PWR_VIN_MEAS_MV = t.vin % 2 ^ 16 ∧
      (d.on F.PWR_STATUS_PIN_WARN = true ↔ s.dev.get F.PWR_PIN_WARN_DW < t.power) ∧
      d.pwr.energy * 10 + d.pwr.energyFrac = (s.dev.pwr.energy * 10 + s.dev.pwr.energyFrac + t.power) % (10 * 2 ^ 64) ∧
      s.dev.ChangesOnly d [.regs, .evt, .tim, .pwr, .mon, .bay]) ∧
  (∀ (s : State) (source : Nat), source % 22 < 12 ∨ 17 ≤ source % 22 →
    bit s.dev.tamp.env (source % 22) = false → 6 ≤ s.dev.rst.step → s.dev.calm = true →
    s.dev.alarmClass (384 + source % 22) = 0 →
    Completes (.environmentTrip source) s fun d =>
      bit d.tamp.env (source % 22) = true ∧ bit (d.num R.TAMP_STICKY_ENV) (source % 22) = true ∧
      d.rsm = (if source % 22 = 21 then { s.dev.rsm with flashOk := false } else s.dev.rsm) ∧
      s.dev.ChangesOnly d [.regs, .evt, .mon, .tamp, .rsm]) ∧
  (∀ (s : State) (source : Nat), 12 ≤ source % 22 → source % 22 < 17 →
    exec (.environmentTrip source) s = exec (.clockFailure (source % 22 - 12)) s) ∧
  (∀ (s : State) (k : Nat) (temp : Int), k < 17 → bit s.dev.tamp.env k = true →
    Completes (.alarmConditionEnd (384 + k) temp) s fun d =>
      bit d.tamp.env k = false ∧ d.num R.TAMP_STICKY_ENV = s.dev.num R.TAMP_STICKY_ENV ∧ s.dev.ChangesOnly d [.regs, .tamp]) ∧
  ∀ (s : State) (r k : Nat) (temp : Int), r < 12 → k < 8 → bit (SMap.get 0 s.dev.tamp.light r) k = true →
    Completes (.alarmConditionEnd (256 + 8 * r + k) temp) s fun d =>
      SMap.get 0 d.tamp.light r = SMap.get 0 s.dev.tamp.light r - 2 ^ k ∧
      d.num R.TAMP_REG_STICKY r = s.dev.num R.TAMP_REG_STICKY r ∧ s.dev.ChangesOnly d [.regs, .tamp]

/-! Updates, the SVN and change sets (R413-R422). -/

/-- An update of a slot (R413, R414): it starts on the slot that does not run, takes its words page by page into that slot alone,
is verified, commits a record on each chip select, and can be aborted until then; the SVN rises only where both slots meet it
(R415).
The model's choices in it stand in log entries 27, 57 and 58. -/
def Obligations.UpdatesServed : Prop :=
  (∀ (s : State) (m : Master), s.dev.passes m (R.NVL_UPD_CMD.addr 0 0) = true → s.dev.mayUpdate m = true →
    s.dev.updState = 0 ∨ 6 ≤ s.dev.updState → s.dev.csStaged = false →
    1572864 ≤ s.dev.get F.NVL_UPD_LEN_BYTES → s.dev.get F.NVL_UPD_LEN_BYTES ≤ 16777216 →
    s.dev.get F.NVL_UPD_LEN_BYTES % 256 = 0 →
    Completes (.updStart m) s fun d =>
      d.updState = 1 ∧ d.get F.NVL_UPD_STATUS_SLOT = 1 - s.dev.get F.NVL_BOOT_INFO_SLOT ∧
      d.get F.NVL_UPD_STATUS_TICKET = (s.dev.flash.ticket + 1) % 2 ^ 16 ∧ d.get F.NVL_UPD_OFFSET_BYTES = 0 ∧
      d.flash.owner = some m.code ∧ d.flash.page = [] ∧ d.on F.NVL_STATUS_UPD_BUSY = true ∧
      d.flash.slot = s.dev.flash.slot ∧ s.dev.ChangesOnly d [.regs, .mon, .evt, .flash]) ∧
  (∀ (s : State) (m : Master), s.dev.passes m (R.NVL_UPD_CMD.addr 0 0) = true → s.dev.mayUpdate m = true →
    1 ≤ s.dev.updState → s.dev.updState ≤ 5 →
    Completes (.updStart m) s fun d =>
      d.get F.NVL_UPD_STATUS_REASON = (if s.dev.flash.owner = some m.code then 2 else 1) ∧ d.updState = s.dev.updState ∧
      s.dev.ChangesOnly d [.regs, .mon, .evt]) ∧
  (∀ s : State, s.dev.updState = 1 →
    Completes (.updEraseDone none) s fun d =>
      d.updState = 2 ∧ d.slotImg (s.dev.get F.NVL_UPD_STATUS_SLOT) = [] ∧ d.jrnl (s.dev.get F.NVL_UPD_STATUS_SLOT) = [] ∧
      d.slotImg (1 - s.dev.get F.NVL_UPD_STATUS_SLOT) = s.dev.slotImg (1 - s.dev.get F.NVL_UPD_STATUS_SLOT) ∧
      d.num R.NVL_ERASE_CNT = min 0xFFFFFFFF (s.dev.num R.NVL_ERASE_CNT + 512) ∧ s.dev.ChangesOnly d [.regs, .flash]) ∧
  (∀ (s : State) (a : Nat), s.dev.updState = 1 →
    Completes (.updEraseDone (some a)) s fun d =>
      d.updState = 7 ∧ d.get F.NVL_UPD_STATUS_REASON = 7 ∧ d.on F.NVL_STATUS_UPD_BUSY = false ∧ d.flash.owner = none ∧
      d.get F.NVL_ERR_ADDR_ADDR = a % 2 ^ 28 ∧
      d.slotImg (1 - s.dev.get F.NVL_UPD_STATUS_SLOT) = s.dev.slotImg (1 - s.dev.get F.NVL_UPD_STATUS_SLOT) ∧
      s.dev.ChangesOnly d [.regs, .evt, .flash, .free]) ∧
  (∀ (s : State) (word : Nat) (fail : Bool) (m : Master), s.dev.passes m (R.NVL_UPD_DATA.addr 0 0) = true →
    s.dev.mayUpdate m = true → s.dev.updState = 2 → s.dev.flash.owner = some m.code →
    s.dev.get F.NVL_UPD_OFFSET_BYTES + s.dev.flash.page.length + 4 ≤ s.dev.get F.NVL_UPD_LEN_BYTES →
    s.dev.flash.page.length < 252 →
    Completes (.updData word fail m) s fun d =>
      d.flash = { s.dev.flash with page := s.dev.flash.page ++ beBytes 4 word } ∧
      s.dev.ChangesOnly d [.regs, .mon, .evt, .flash] ∧ s.dev.WritesOnly d sideAddrs) ∧
  (∀ (s : State) (word : Nat) (m : Master), s.dev.passes m (R.NVL_UPD_DATA.addr 0 0) = true →
    s.dev.mayUpdate m = true → s.dev.updState = 2 → s.dev.flash.owner = some m.code →
    s.dev.get F.NVL_UPD_OFFSET_BYTES + 256 ≤ s.dev.get F.NVL_UPD_LEN_BYTES → s.dev.flash.page.length = 252 →
    s.dev.get F.NVL_UPD_LEN_BYTES ≤ 16777216 →
    Completes (.updData word false m) s fun d =>
      d.slotImg (s.dev.get F.NVL_UPD_STATUS_SLOT) =
        s.dev.slotImg (s.dev.get F.NVL_UPD_STATUS_SLOT) ++ s.dev.flash.page ++ beBytes 4 word ∧
      d.slotImg (1 - s.dev.get F.NVL_UPD_STATUS_SLOT) = s.dev.slotImg (1 - s.dev.get F.NVL_UPD_STATUS_SLOT) ∧
      d.flash.page = [] ∧ d.get F.NVL_UPD_OFFSET_BYTES = s.dev.get F.NVL_UPD_OFFSET_BYTES + 256 ∧ d.updState = 2 ∧
      s.dev.ChangesOnly d [.regs, .mon, .evt, .flash]) ∧
  (∀ (s : State) (m : Master), s.dev.passes m (R.NVL_UPD_CMD.addr 0 0) = true → s.dev.mayUpdate m = true →
    s.dev.updState = 2 → s.dev.flash.owner = some m.code →
    s.dev.get F.NVL_UPD_OFFSET_BYTES = s.dev.get F.NVL_UPD_LEN_BYTES →
    Completes (.updFinish m) s fun d => d.updState = 3 ∧ s.dev.ChangesOnly d [.regs, .mon, .evt]) ∧
  (∀ (s : State) (readErr : Bool), s.dev.updState = 3 →
    Completes (.updVerifyDone readErr) s fun d =>
      d.updState = (if s.dev.verifyImage (s.dev.slotImg (s.dev.get F.NVL_UPD_STATUS_SLOT)) readErr = 0 then 4 else 7) ∧
      (s.dev.verifyImage (s.dev.slotImg (s.dev.get F.NVL_UPD_STATUS_SLOT)) readErr ≠ 0 →
        d.get F.NVL_UPD_STATUS_REASON = 5) ∧
      d.flash.slot = s.dev.flash.slot ∧ s.dev.ChangesOnly d [.regs, .evt, .flash]) ∧
  (∀ (s : State) (m : Master), s.dev.passes m (R.NVL_UPD_CMD.addr 0 0) = true → s.dev.mayUpdate m = true →
    s.dev.updState = 4 → s.dev.flash.owner = some m.code → s.dev.csStaged = false →
    Completes (.updCommit m) s fun d =>
      d.updState = 5 ∧ d.flash.wrote = [s.dev.get F.NVL_UPD_STATUS_SLOT] ∧
      (d.recs (s.dev.get F.NVL_UPD_STATUS_SLOT)).getLast? =
        some (s.dev.newRec (s.dev.get F.NVL_UPD_STATUS_SLOT) (s.dev.slotImg (s.dev.get F.NVL_UPD_STATUS_SLOT))) ∧
      d.recs (1 - s.dev.get F.NVL_UPD_STATUS_SLOT) = s.dev.recs (1 - s.dev.get F.NVL_UPD_STATUS_SLOT) ∧
      d.flash.slot = s.dev.flash.slot ∧ s.dev.ChangesOnly d [.regs, .mon, .evt, .flash]) ∧
  (∀ (s : State) (r : Bytes), s.dev.updState = 5 → (s.dev.recs (s.dev.get F.NVL_UPD_STATUS_SLOT)).getLast? = some r →
    Completes (.updComplete none) s fun d =>
      d.updState = 6 ∧ d.flash.owner = none ∧ d.on F.NVL_STATUS_UPD_BUSY = false ∧
      (d.recs (1 - s.dev.get F.NVL_UPD_STATUS_SLOT)).getLast? = some r ∧ d.flash.slot = s.dev.flash.slot ∧
      s.dev.ChangesOnly d [.regs, .evt, .flash]) ∧
  (∀ (s : State) (cs a : Nat), s.dev.updState = 5 →
    Completes (.updComplete (some (cs, a))) s fun d =>
      d.updState = 7 ∧ d.get F.NVL_UPD_STATUS_REASON = 6 ∧ d.flash.owner = none ∧ d.flash.slot = s.dev.flash.slot ∧
      s.dev.ChangesOnly d [.regs, .evt, .flash]) ∧
  (∀ (s : State) (ticket : Nat) (m : Master), s.dev.passes m (R.NVL_UPD_CMD.addr 0 0) = true → s.dev.mayUpdate m = true →
    (ticket % 2 ^ 16 = s.dev.get F.NVL_UPD_STATUS_TICKET → 1 ≤ s.dev.updState → s.dev.updState ≤ 5 →
      Completes (.updAbort ticket m) s fun d =>
        d.updState = 7 ∧ d.get F.NVL_UPD_STATUS_REASON = 8 ∧ d.get F.NVL_UPD_STATUS_ABORT_RESULT = 1 ∧
        d.flash.owner = none ∧ s.dev.ChangesOnly d [.regs, .mon, .evt, .flash]) ∧
    (ticket % 2 ^ 16 = s.dev.get F.NVL_UPD_STATUS_TICKET → 6 ≤ s.dev.updState →
      Completes (.updAbort ticket m) s fun d =>
        d.updState = s.dev.updState ∧ d.get F.NVL_UPD_STATUS_ABORT_RESULT = 2 ∧ s.dev.ChangesOnly d [.regs, .mon, .evt]) ∧
    (ticket % 2 ^ 16 ≠ s.dev.get F.NVL_UPD_STATUS_TICKET →
      Completes (.updAbort ticket m) s fun d =>
        d.updState = s.dev.updState ∧ d.get F.NVL_UPD_STATUS_ABORT_RESULT = 3 ∧ s.dev.ChangesOnly d [.regs, .mon, .evt])) ∧
  (∀ (s : State) (value : Nat) (m : Master), s.dev.isActive m = true → s.dev.on F.NVL_STATUS_SVN_BUSY = false →
    s.dev.fuse.svn < value % 64 →
    Completes (.svnAdvance value m) s fun d =>
      d.flash.svnNew = (if s.dev.verifyImage (s.dev.slotImg 0) false = 0 ∧ value % 64 ≤ numAt (s.dev.slotImg 0) 20 1 ∧
          s.dev.verifyImage (s.dev.slotImg 1) false = 0 ∧ value % 64 ≤ numAt (s.dev.slotImg 1) 20 1
        then some (value % 64) else s.dev.flash.svnNew) ∧
      d.fuse = s.dev.fuse ∧ s.dev.ChangesOnly d [.regs, .mon, .evt, .flash]) ∧
  ∀ (s : State) (v : Nat), s.dev.flash.svnNew = some v → v < 64 →
    Completes .svnDone s fun d =>
      d.fuse = { s.dev.fuse with svn := v } ∧ d.get F.NVL_SVN_SVN = v ∧ d.on F.NVL_STATUS_SVN_BUSY = false ∧
      d.flash.svnNew = none ∧ s.dev.ChangesOnly d [.regs, .evt, .mon, .rsm, .fuse, .flash, .free]

/-- A change set (R416-R419, R421): the mailbox gathers it; a load takes it into verification under a ticket of its own unless
another is handled; it is staged in time or ends; past its cut-off it cannot be aborted; when its entries have fired the new
version holds.
The model's choices in it stand in log entries 10, 27 and 59. -/
def Obligations.ChangeSetsServed : Prop :=
  (∀ (s : State) (m : Master), s.dev.passes m (R.SAGE_MBOX_CTRL.addr 0 0) = true → s.dev.mayWrite m = true →
    Completes (.sageMboxClear m) s fun d =>
      d.sage.mbox = [] ∧ d.num R.SAGE_MBOX_STATUS = 0 ∧ s.dev.ChangesOnly d [.regs, .mon, .evt, .sage]) ∧
  (∀ (s : State) (word : Nat) (m : Master), s.dev.passes m (R.SAGE_MBOX_DATA.addr 0 0) = true → s.dev.mayWrite m = true →
    (s.dev.sage.mbox.length < 262144 →
      Completes (.sageMboxData word m) s fun d =>
        d.sage.mbox = s.dev.sage.mbox ++ [word % 2 ^ 32] ∧
        d.on F.SAGE_MBOX_STATUS_FULL = decide (s.dev.sage.mbox.length + 1 = 262144) ∧
        s.dev.ChangesOnly d [.regs, .mon, .evt, .sage]) ∧
    (262144 ≤ s.dev.sage.mbox.length →
      Completes (.sageMboxData word m) s fun d =>
        d.sage = s.dev.sage ∧ s.dev.ChangesOnly d [.regs, .mon, .evt] ∧ s.dev.WritesOnly d sideAddrs)) ∧
  (∀ (s : State) (m : Master), s.dev.passes m (R.SAGE_CS_CMD.addr 0 0) = true → s.dev.mayWrite m = true →
    s.dev.rst.step = 9 → s.dev.active.isSome = true → s.dev.updState ≠ 5 →
    (s.dev.csState = 0 ∨ 4 ≤ s.dev.csState →
      Completes (.csLoad m) s fun d =>
        d.csState = 1 ∧ d.get F.SAGE_CS_STATUS_TICKET = (s.dev.sage.csTicket + 1) % 2 ^ 16 ∧
        d.sage.cs = { bytes := wordsToBytes s.dev.sage.mbox } ∧ s.dev.ChangesOnly d [.regs, .mon, .evt, .sage]) ∧
    (1 ≤ s.dev.csState → s.dev.csState ≤ 3 →
      Completes (.csLoad m) s fun d =>
        d.csState = s.dev.csState ∧ d.get F.SAGE_CS_STATUS_REASON = 1 ∧ d.sage = s.dev.sage ∧
        s.dev.ChangesOnly d [.regs, .mon, .evt])) ∧
  (∀ s : State, s.dev.csState = 1 → s.dev.active.isSome = true → csForm s.dev.sage.cs.bytes = true →
    Completes .csVerifyDone s fun d =>
      d.csState =
        (if ((((s.dev.setCs (fun c => { c with ver := csVer c.bytes, at_ := csAt c.bytes })).putNum R.SAGE_CS_AT_WRAP
            (csAt s.dev.sage.cs.bytes / 2 ^ 32)).putNum R.SAGE_CS_AT_NS (csAt s.dev.sage.cs.bytes % 2 ^ 32)).csCheck
            s.dev.sage.cs.bytes (s.dev.num R.SAGE_CFG_VERSION) false) = 0
         then 2 else 5)) ∧
  (∀ s : State, s.dev.csState = 1 → s.dev.active.isSome = true → csForm s.dev.sage.cs.bytes = false →
    s.dev.sage.cs = { bytes := s.dev.sage.cs.bytes } →
    Completes .csVerifyDone s fun d =>
      d.csState = 5 ∧ d.get F.SAGE_CS_STATUS_REASON = 2 ∧
      d.num R.SAGE_CNT_CS_ABORTED = min 0xFFFFFFFF (s.dev.num R.SAGE_CNT_CS_ABORTED + 1) ∧
      d.tbl = s.dev.tbl ∧ d.num R.SAGE_CFG_VERSION = s.dev.num R.SAGE_CFG_VERSION) ∧
  (∀ (s : State) (e : Dev), s.dev.csState = 2 → s.dev.active.isSome = true → s.dev.csLate = false →
    s.dev.jrnlPut s.dev.sage.cs.bytes = some e →
    ((e.setCs (fun c => { c with filed := true })).csUnits s.dev.sage.cs.bytes).2 = 0 →
    Gives (.csStagingDone none) s
      (((e.setCs (fun c => { c with filed := true })).csUnits s.dev.sage.cs.bytes).1.set F.SAGE_CS_STATUS_STATE 3)) ∧
  (∀ (s : State) (fail : Option Nat), s.dev.csState = 2 → s.dev.active.isSome = true → s.dev.csLate = true →
    Completes (.csStagingDone fail) s fun d => d.csState = 5 ∧ d.get F.SAGE_CS_STATUS_REASON = 9) ∧
  (∀ s : State, s.dev.csState = 3 → s.dev.sage.cs.cut = false →
    Completes .csCutoff s fun d =>
      d.sage.cs = { s.dev.sage.cs with cut := true } ∧ d.csState = 3 ∧
      d.tim.clk = max s.dev.tim.clk (s.dev.netReach s.dev.csCutNet) ∧ s.dev.ChangesOnly d [.regs, .tim, .sage]) ∧
  (∀ s : State, s.dev.csState = 2 → s.dev.sage.cs.cut = false → s.dev.active.isSome = true →
    Completes .csCutoff s fun d => d.csState = 5 ∧ d.get F.SAGE_CS_STATUS_REASON = 9) ∧
  (∀ (s : State) (ticket : Nat) (m : Master), s.dev.passes m (R.SAGE_CS_CMD.addr 0 0) = true → s.dev.mayWrite m = true →
    (s.dev.csState ≠ 0 → ticket % 2 ^ 16 = s.dev.get F.SAGE_CS_STATUS_TICKET →
      s.dev.csState = 1 ∨ s.dev.csState ≤ 3 ∧ s.dev.csLate = false →
      Completes (.csAbort ticket m) s fun d =>
        d.csState = 5 ∧ d.get F.SAGE_CS_STATUS_REASON = 10 ∧ d.get F.SAGE_CS_STATUS_ABORT_RESULT = 1) ∧
    (s.dev.csState ≠ 0 → ticket % 2 ^ 16 = s.dev.get F.SAGE_CS_STATUS_TICKET →
      4 ≤ s.dev.csState ∨ 2 ≤ s.dev.csState ∧ s.dev.csLate = true →
      Completes (.csAbort ticket m) s fun d =>
        d.csState = s.dev.csState ∧ d.get F.SAGE_CS_STATUS_ABORT_RESULT = 2 ∧ s.dev.ChangesOnly d [.regs, .mon, .evt]) ∧
    (ticket % 2 ^ 16 ≠ s.dev.get F.SAGE_CS_STATUS_TICKET →
      Completes (.csAbort ticket m) s fun d =>
        d.csState = s.dev.csState ∧ d.get F.SAGE_CS_STATUS_ABORT_RESULT = 3 ∧ s.dev.ChangesOnly d [.regs, .mon, .evt])) ∧
  (∀ s : State, s.dev.csState = 3 → s.dev.active.isSome = true → s.dev.csWaits = false → s.dev.csFell = false →
    Completes .csPostAndMark s fun d =>
      d.csState = 4 ∧ d.get F.SAGE_CS_STATUS_REASON = 0 ∧ d.num R.SAGE_CFG_VERSION = s.dev.sage.cs.ver % 2 ^ 32 ∧
      d.fleet.commit = (s.dev.sage.cs.ver, s.dev.sage.cs.at_)) ∧
  ∀ s : State, s.dev.csState = 3 → s.dev.active.isSome = true → s.dev.csWaits = false → s.dev.csFell = true →
    Completes .csPostAndMark s fun d => d.csState = 5 ∧ d.get F.SAGE_CS_STATUS_REASON = 11

/-! Events, tamper and Rosemary (R478-R500). -/

/-- The event arbiter (R480-R483, R499, R500): occurrences of a cycle are numbered in the order of their places; the FIFO gives
its records back in that order; the active core and EVT_FORCE raise what their sources allow.
The model's choices in it stand in log entry 50. -/
def Obligations.EventsOrdered : Prop :=
  (∀ (s : State) (o : Occ), s.dev.evt.occ = [o] → isAlarm o.src = false → o.src < 1536 →
    bit (s.dev.num R.EVT_GRP_LOG_EN (o.src / 32)) (o.src % 32) = false →
    Completes .eventOrdering s fun d =>
      d.num R.EVT_SEQ = (s.dev.num R.EVT_SEQ + 1) % 2 ^ 32 ∧
      bit (d.num R.EVT_GRP_LATCH (o.src / 32)) (o.src % 32) = true ∧
      (bit (s.dev.num R.EVT_GRP_IRQ_EN (o.src / 32)) (o.src % 32) = true → s.dev.on F.EVT_CTRL_FIFO_EN = true →
        s.dev.evt.fifo.length < 1024 →
        d.evt.fifo = s.dev.evt.fifo ++
          [{ seq := (s.dev.num R.EVT_SEQ + 1) % 2 ^ 32, net := o.net, src := o.src, bit := o.bit, forced := o.forced }]) ∧
      d.tim.clk = max s.dev.tim.clk (o.clk + 2) ∧ d.rsm = s.dev.rsm ∧
      s.dev.ChangesOnly d [.regs, .evt, .tim, .mon]) ∧
  (∀ (s : State) (a b : Occ), s.dev.evt.occ = [a, b] → a.clk = b.clk → b.rank < a.rank →
    isAlarm a.src = false → isAlarm b.src = false → a.src < 1536 → b.src < 1536 → s.dev.on F.EVT_CTRL_FIFO_EN = true →
    bit (s.dev.num R.EVT_GRP_IRQ_EN (a.src / 32)) (a.src % 32) = true →
    bit (s.dev.num R.EVT_GRP_IRQ_EN (b.src / 32)) (b.src % 32) = true →
    (∀ g, g < 48 → s.dev.num R.EVT_GRP_LOG_EN g = 0) → s.dev.evt.fifo = [] →
    Completes .eventOrdering s fun d =>
      (d.evt.fifo.map (fun r => (r.seq, r.src, r.bit))) =
        [((s.dev.num R.EVT_SEQ + 1) % 2 ^ 32, b.src, b.bit), ((s.dev.num R.EVT_SEQ + 2) % 2 ^ 32, a.src, a.bit)] ∧
      s.dev.ChangesOnly d [.regs, .evt, .tim, .mon]) ∧
  (∀ (s : State) (r : EvtRec) (rest : List EvtRec), s.dev.evt.fifo = r :: rest →
    Completes .evtFifoRead s fun d =>
      d.evt.fifo = rest ∧ d.num R.EVT_FIFO_SEQ = r.seq % 2 ^ 32 ∧ d.num R.EVT_FIFO_NS = r.net % 2 ^ 32 ∧
      d.out = s.dev.out ++ [.read (BitVec.ofNat 32
        (2 ^ 31 + b2n s.dev.evt.lost * 2 ^ 30 + b2n r.forced * 2 ^ 29 + r.src * 2 ^ 16 + r.bit * 2 ^ 11))] ∧
      s.dev.ChangesOnly d [.regs, .mon, .evt, .out]) ∧
  (∀ s : State, s.dev.evt.fifo = [] →
    Completes .evtFifoRead s fun d => d.out = s.dev.out ++ [.read 0] ∧ s.dev.ChangesOnly d [.regs, .mon, .evt, .out]) ∧
  (∀ (s : State) (bit_ : Nat) (m : Master), s.dev.isActive m = true → bit_ % 32 < 8 →
    Completes (.evtSwRaise bit_ m) s fun d =>
      d.evt.occ.getLast? = some { clk := s.dev.tim.clk, net := s.dev.net, kind := 1, src := 416 + bit_ % 32 } ∧
      d.num R.EVT_CNT_SW_RAISE = min 0xFFFFFFFF (s.dev.num R.EVT_CNT_SW_RAISE + 1) ∧
      s.dev.ChangesOnly d [.regs, .mon, .evt]) ∧
  ∀ (s : State) (source evBit : Nat) (m : Master), s.dev.passes m (R.EVT_FORCE.addr 0 0) = true → s.dev.forceMay m = true →
    sourceExists (source % 2048) = true →
    Completes (.evtForce source evBit m) s fun d =>
      d.evt.occ.getLast? =
        some { clk := s.dev.tim.clk, net := s.dev.net, kind := 1, src := source % 2048, bit := evBit % 32, forced := true } ∧
      d.num R.EVT_CNT_FORCED = min 0xFFFFFFFF (s.dev.num R.EVT_CNT_FORCED + 1) ∧
      d.tamp = s.dev.tamp ∧ s.dev.ChangesOnly d [.regs, .mon, .evt]

/-- The detectors and their responses (R485-R493): an alarm of class 0 only sets its sticky flag, one of class 1 mutes its scope,
one of class 2 halts the module and erases its keys; a mute ends when its sources are quiet; a fuse takes a region out; a
sticky flag goes only by a write once its copy is kept.
The model's choices in it stand in log entries 22 and 51. -/
def Obligations.TamperAnswered : Prop :=
  (∀ (s : State) (region det : Nat), s.dev.fused (region % 12) = false →
    bit (SMap.get 0 s.dev.tamp.light (region % 12)) (det % 8) = false → 6 ≤ s.dev.rst.step → s.dev.calm = true →
    (s.dev.get F.TAMP_REG_CTRL_CLASS (region % 12) = 0 →
      Completes (.lightDetectorTrip region det) s fun d =>
        bit (SMap.get 0 d.tamp.light (region % 12)) (det % 8) = true ∧
        bit (d.num R.TAMP_REG_STICKY (region % 12)) (det % 8) = true ∧ d.muted = s.dev.muted ∧
        d.num R.TAMP_REG_CNT (region % 12) = min 0xFFFFFFFF (s.dev.num R.TAMP_REG_CNT (region % 12) + 1) ∧
        s.dev.ChangesOnly d [.regs, .evt, .mon, .tamp]) ∧
    (s.dev.get F.TAMP_REG_CTRL_CLASS (region % 12) = 1 → regionScope (region % 12) ≤ 1 →
      s.dev.on (muteF (regionScope (region % 12))) = false →
      Completes (.lightDetectorTrip region det) s fun d =>
        d.on (muteF (regionScope (region % 12))) = true ∧ bit (d.dom (regionScope (region % 12))).causes 2 = true ∧
        d.on (muteF (1 - regionScope (region % 12))) = s.dev.on (muteF (1 - regionScope (region % 12))) ∧
        d.dom 2 = s.dev.dom 2 ∧ d.on F.TAMP_STATUS_HALTED = s.dev.on F.TAMP_STATUS_HALTED ∧
        bit (d.num R.TAMP_REG_STICKY (region % 12)) (det % 8) = true) ∧
    (s.dev.get F.TAMP_REG_CTRL_CLASS (region % 12) = 2 → s.dev.on F.TAMP_STATUS_HALTED = false →
      Completes (.lightDetectorTrip region det) s fun d =>
        d.on F.TAMP_STATUS_HALTED = true ∧ d.active = none ∧ d.sage.mbox = [] ∧
        (∀ n i p, n < 8 → i < 8192 → p < 2 → d.tx n i p = {}) ∧
        (∀ p, p < 32 → d.on F.CPORT_CTRL_ENABLE p = false ∧ d.on F.LPORT_CTRL_ENABLE p = false) ∧ d.fuse = s.dev.fuse)) ∧
  (∀ (s : State) (region det : Nat), s.dev.fused (region % 12) = true →
    Completes (.lightDetectorTrip region det) s fun d => s.dev.ChangesOnly d [.regs]) ∧
  (∀ (s : State) (region c : Nat), SMap.get none s.dev.tamp.disagree (region % 12) = some c → 6 ≤ s.dev.rst.step →
    s.dev.fused (region % 12) = false → bit s.dev.tamp.detFault (region % 12) = false → s.dev.calm = true →
    s.dev.get F.TAMP_CLASS_MISC_DET_FAULT = 0 →
    Completes (.detectorDisagree region) s fun d =>
      bit d.tamp.detFault (region % 12) = true ∧ d.on F.TAMP_REG_STATUS_DISAGREE (region % 12) = true ∧
      bit (d.num R.TAMP_REG_STICKY (region % 12)) 8 = true ∧
      d.tim.clk = max s.dev.tim.clk (c + ms (s.dev.get F.TAMP_REG_CTRL_DISAGREE_MS (region % 12))) ∧
      s.dev.ChangesOnly d [.regs, .evt, .tim, .mon, .tamp]) ∧
  (∀ (s : State) (c : Nat), s.dev.tamp.class3 = some c → s.dev.tamp.hold = false →
    Completes .class3Hold s fun d =>
      d.tamp.hold = true ∧ d.rst.step = (if s.dev.pwr.up then 2 else 1) ∧ d.tbl = [] ∧ d.sat = {} ∧
      d.rsm.kept = s.dev.rsm.kept ∧ d.rsm.durable = s.dev.rsm.durable ∧ d.fuse = s.dev.fuse ∧
      s.dev.tim.clk ≤ d.tim.clk ∧ d.tim.clk ≤ max s.dev.tim.clk (c + ms 10)) ∧
  (∀ (s : State) (k : Nat) (m : Master), k < 3 → s.dev.isActive m = true → s.dev.on (muteF k) = true →
    (s.dev.muteQuiet k = true → (s.dev.dom k).causes = 4 →
      Completes (.tampUnmute (2 ^ k) m) s fun d =>
        d.on (muteF k) = false ∧ (d.dom k).causes = 32 ∧ d.muters k = [] ∧
        (∀ j, j < 3 → j ≠ k → d.on (muteF j) = s.dev.on (muteF j) ∧ d.dom j = s.dev.dom j) ∧
        s.dev.ChangesOnly d [.regs, .mon, .evt, .tamp, .rst, .rsm, .free]) ∧
    (s.dev.muteQuiet k = false →
      Completes (.tampUnmute (2 ^ k) m) s fun d =>
        d.on (muteF k) = true ∧ s.dev.ChangesOnly d [.regs, .mon, .evt])) ∧
  (∀ (s : State) (scope : Nat), s.dev.on F.TAMP_CTRL_AUTO_UNMUTE = true → s.dev.on (muteF (scope % 3)) = true →
    s.dev.on F.TAMP_STATUS_HALTED = false → (s.dev.muters (scope % 3)).all (fun x => !s.dev.tripped x) = true →
    (s.dev.dom (scope % 3)).causes = 4 →
    Completes (.autoUnmute scope) s fun d =>
      d.on (muteF (scope % 3)) = false ∧ (d.dom (scope % 3)).causes = 32 ∧
      d.tim.clk = max s.dev.tim.clk (s.dev.clearClk (scope % 3) + ms (s.dev.get F.TAMP_CTRL_MUTE_HOLD_MS)) ∧
      s.dev.ChangesOnly d [.regs, .mon, .evt, .tim, .tamp, .rst, .rsm, .free]) ∧
  (∀ (s : State) (value : Nat) (m : Master), s.dev.passes m (R.TAMP_FUSE_CONFIRM.addr 0 0) = true →
    s.dev.mayWrite m = true →
    Completes (.tampFuseConfirm value m) s fun d =>
      d.tamp.fuseArmed = (if value % 2 ^ 32 = 0x5E9F0C12 then some s.dev.tim.clk else none) ∧
      s.dev.ChangesOnly d [.regs, .mon, .evt, .tamp] ∧ s.dev.WritesOnly d sideAddrs) ∧
  (∀ (s : State) (regions : Nat) (m : Master), s.dev.passes m (R.TAMP_FUSE_CMD.addr 0 0) = true →
    (∀ c, s.dev.tamp.fuseArmed = some c → s.dev.tim.clk ≤ c + ms 1 → s.dev.fuseMay m = true →
      s.dev.on F.TAMP_FUSE_STATUS_BUSY = false →
      Completes (.tampFuseCmd regions m) s fun d =>
        d.tamp = { s.dev.tamp with fuseArmed := none, fuseRun := regions % 4096 } ∧
        d.on F.TAMP_FUSE_STATUS_BUSY = true ∧ d.fuse = s.dev.fuse ∧ s.dev.ChangesOnly d [.regs, .mon, .evt, .tamp]) ∧
    (s.dev.tamp.fuseArmed = none →
      Completes (.tampFuseCmd regions m) s fun d =>
        d.tamp = s.dev.tamp ∧ d.on F.TAMP_FUSE_STATUS_BUSY = s.dev.on F.TAMP_FUSE_STATUS_BUSY ∧
        s.dev.ChangesOnly d [.regs, .mon, .evt])) ∧
  (∀ s : State, s.dev.on F.TAMP_FUSE_STATUS_BUSY = true →
    Completes (.fuseDone true) s fun d =>
      d.fuse = { s.dev.fuse with light := s.dev.fuse.light ||| s.dev.tamp.fuseRun } ∧
      d.on F.TAMP_FUSE_STATUS_BUSY = false ∧ d.on F.TAMP_FUSE_STATUS_LAST_OK = true ∧
      (∀ r, r < 12 → bit s.dev.tamp.fuseRun r = true → SMap.get 0 d.tamp.light r = 0 ∧ d.fused r = true) ∧
      s.dev.ChangesOnly d [.regs, .evt, .mon, .tamp, .fuse, .rsm, .free]) ∧
  (∀ s : State, s.dev.on F.TAMP_FUSE_STATUS_BUSY = true →
    Completes (.fuseDone false) s fun d =>
      d.fuse = s.dev.fuse ∧ d.on F.TAMP_FUSE_STATUS_BUSY = false ∧ d.on F.TAMP_FUSE_STATUS_LAST_OK = false) ∧
  ∀ (s : State) (which mask : Nat) (m : Master), s.dev.passes m (stickyAddr which) = true → s.dev.mayWrite m = true →
    (s.dev.on F.TAMP_STATUS_COPY_PENDING = false →
      Completes (.stickyClear which mask m) s fun d =>
        d.word (stickyReg which).1 (stickyReg which).2 =
          s.dev.word (stickyReg which).1 (stickyReg which).2 &&& ~~~ (BitVec.ofNat 32 mask) ∧
        s.dev.ChangesOnly d [.regs, .mon, .evt] ∧ s.dev.WritesOnly d (stickyAddr which :: sideAddrs)) ∧
    (s.dev.on F.TAMP_STATUS_COPY_PENDING = true →
      Completes (.stickyClear which mask m) s fun d =>
        s.dev.ChangesOnly d [.regs, .mon, .evt] ∧ s.dev.WritesOnly d sideAddrs)

/-- The Rosemary writer (R496, R497): the next four records go to the region as one page and are then durable; the oldest segment
is erased ahead of the write point.
The model's choices in it stand in log entry 23. -/
def Obligations.RosemaryKeeps : Prop :=
  (∀ s : State, s.dev.rsm.wait ≠ [] → s.dev.rsm.flashOk = true → rsmThreshold ≤ s.dev.rsm.level →
    s.dev.rsm.level ≤ 14745600000000000 → s.dev.rsm.supCount = 0 → s.dev.rsm.segPages + 1 < segmentPages →
    Completes .rosemaryPageProgram s fun d =>
      d.rsm.wait = s.dev.rsm.wait.drop 4 ∧
      d.rsm.general = s.dev.rsm.general ++ ((s.dev.rsm.wait.take 4).map (fun l => (s.dev.ringRec l).bytes) ++
        List.replicate (4 - (s.dev.rsm.wait.take 4).length) padRecord) ∧
      (∀ l, l ∈ s.dev.rsm.wait.take 4 → (s.dev.ringRec l).lseq ≤ d.rsm.durable) ∧
      d.rsm.segPages = s.dev.rsm.segPages + 1 ∧ d.rsm.lseq = s.dev.rsm.lseq ∧
      d.tim.clk = max s.dev.tim.clk (s.dev.pageDue ((s.dev.rsm.wait.take 4).map s.dev.ringRec)) ∧
      s.dev.ChangesOnly d [.regs, .evt, .tim, .mon, .tamp, .rsm]) ∧
  (∀ s : State, s.dev.rsm.flashOk = false → s.dev.rsm.supCount = 0 →
    Completes .rosemaryPageProgram s fun d =>
      d.rsm.wait = s.dev.rsm.wait ∧ d.rsm.general = s.dev.rsm.general ∧ s.dev.ChangesOnly d [.regs, .rsm]) ∧
  ∀ s : State, s.dev.active.isSome = true → s.dev.rsm.flashOk = true → segmentPages * 3 < s.dev.rsm.segPages * 4 →
    (s.dev.rsmSegments - 1) * segmentPages < s.dev.rsm.general.length / 4 + (segmentPages - s.dev.rsm.segPages) →
    Completes .rosemaryCompaction s fun d =>
      d.rsm = { s.dev.rsm with general := s.dev.rsm.general.drop (segmentPages * 4) } ∧
      d.num R.NVL_ERASE_CNT = min 0xFFFFFFFF (s.dev.num R.NVL_ERASE_CNT + 64) ∧
      d.flash.slot = s.dev.flash.slot ∧ d.flash.jrnl = s.dev.flash.jrnl ∧ s.dev.ChangesOnly d [.regs, .evt, .rsm, .flash]

/-! Management (R544-R554, R579, R580). -/

/-- The SPI and I2C targets and the Ethernet port (R395, R505, R544-R549): a frame with a good check is read or written word by
word, one with a bad check changes no register of the map; writes are refused in the restricted state and wait in a takeover
gap; the reset command needs its key.
The model's choices in it stand in log entries 52 and 65. -/
def Obligations.TargetsServed : Prop :=
  (∀ s : State, s.dev.mgmtUp = true → s.dev.answers .spi = true →
    Completes .spiStatus s fun d =>
      d.out = s.dev.out ++ [.spi [s.dev.statusByte s.dev.mgmt.spiResult]] ∧ d.mgmt.spiResult = 0 ∧
      d.num R.GLB_CNT_SPI_FRAMES = min 0xFFFFFFFF (s.dev.num R.GLB_CNT_SPI_FRAMES + 1) ∧
      s.dev.ChangesOnly d [.regs, .mgmt, .out]) ∧
  (∀ (s : State) (rest : Bytes) (r : Dev × List Nat), s.dev.mgmtUp = true → s.dev.answers .spi = true → rest.length = 7 →
    crc16 (0x0B :: rest.take 5) = numAt rest 5 2 → numAt rest 4 1 < 16 →
    r = (s.dev.bump R.GLB_CNT_SPI_FRAMES).frameRead .spi (numAt rest 0 4) (numAt rest 4 1 + 1) →
    Completes (.spiRead rest) s fun d =>
      d.out = r.1.out ++ [.spi (s.dev.statusByte s.dev.mgmt.spiResult :: 0x5A ::
        wordsToBytes r.2 ++ beBytes 2 (crc16 (wordsToBytes r.2)))] ∧
      d.mgmt.spiResult = (if numAt rest 0 4 % 4 = 0 then 0 else 2)) ∧
  (∀ (s : State) (rest : Bytes), s.dev.mgmtUp = true → s.dev.answers .spi = true → rest.length = 7 →
    crc16 (0x0B :: rest.take 5) ≠ numAt rest 5 2 →
    Completes (.spiRead rest) s fun d =>
      d.out = s.dev.out ++ [.spi [s.dev.statusByte s.dev.mgmt.spiResult, 0xE1]] ∧ d.mgmt.spiResult = 1 ∧
      d.num R.GLB_CNT_SPI_CRC = min 0xFFFFFFFF (s.dev.num R.GLB_CNT_SPI_CRC + 1) ∧
      s.dev.ChangesOnly d [.regs, .evt, .mgmt, .out]) ∧
  (∀ (s : State) (rest : Bytes) (r : Dev × Nat), s.dev.mgmtUp = true → s.dev.answers .spi = true →
    numAt rest 4 1 < 16 → rest.length = 11 + 4 * numAt rest 4 1 →
    crc16 (0x02 :: rest.take (9 + 4 * numAt rest 4 1)) = numAt rest (9 + 4 * numAt rest 4 1) 2 →
    r = ((s.dev.emit (.spi [s.dev.statusByte s.dev.mgmt.spiResult])).bump R.GLB_CNT_SPI_FRAMES).frameWrite .spi
      (numAt rest 0 4) (bytesToWords (slice rest 5 (4 + 4 * numAt rest 4 1))) →
    Gives (.spiWrite rest) s (r.1.spiEnd r.2)) ∧
  (∀ (s : State) (rest : Bytes), s.dev.mgmtUp = true → s.dev.answers .spi = true →
    numAt rest 4 1 < 16 → rest.length = 11 + 4 * numAt rest 4 1 →
    crc16 (0x02 :: rest.take (9 + 4 * numAt rest 4 1)) ≠ numAt rest (9 + 4 * numAt rest 4 1) 2 →
    Completes (.spiWrite rest) s fun d =>
      d.mgmt = { s.dev.mgmt with spiResult := 1 } ∧ s.dev.ChangesOnly d [.regs, .evt, .mgmt, .out]) ∧
  (∀ (d : Dev) (m : Master) (addr w : Nat), addr % 4 = 0 → addr < 2 ^ 32 →
    (d.refused addr = true →
      d.frameWrite m addr [w] = (d.bump R.GLB_CNT_MGMT_REFUSED, 3)) ∧
    (d.refused addr = false → d.defers m = true → d.sage.defer.length < 64 →
      d.frameWrite m addr [w] = ({ d with sage := { d.sage with defer := d.sage.defer ++ [(m == Master.spi, addr, w)] } }, 4)) ∧
    (d.refused addr = false → d.defers m = false → d.frameWrite m addr [w] = (d.busWrite m addr w, 0))) ∧
  (∀ (s : State) (rest : Bytes), s.dev.mgmtUp = true → rest.length = 6 → crc16 (0x99 :: rest.take 4) = numAt rest 4 2 →
    (numAt rest 0 4 = s.dev.num R.RST_MGMT_KEY →
      Completes (.spiReset rest) s fun d =>
        d.rst.step = (if s.dev.pwr.up then 2 else 1) ∧ d.get F.RST_CAUSE_PRIMARY = 11 ∧ d.tbl = [] ∧ d.fuse = s.dev.fuse) ∧
    (numAt rest 0 4 ≠ s.dev.num R.RST_MGMT_KEY →
      Completes (.spiReset rest) s fun d =>
        d.num R.GLB_CNT_RESET_KEY_BAD = min 0xFFFFFFFF (s.dev.num R.GLB_CNT_RESET_KEY_BAD + 1) ∧
        s.dev.ChangesOnly d [.regs, .evt, .mgmt, .out])) ∧
  (∀ (s : State) (target : Nat), s.dev.mgmtUp = true → s.dev.answers .i2c = true → target % 128 = s.dev.i2cAddr →
    Completes (.i2cStatus target) s fun d =>
      d.out = s.dev.out ++ [.i2c [s.dev.statusByte s.dev.mgmt.i2cResult]] ∧ d.mgmt.i2cResult = 0 ∧
      s.dev.ChangesOnly d [.regs, .mgmt, .out]) ∧
  (∀ (s : State) (target : Nat) (rest : Bytes) (r : Dev × List Nat), s.dev.mgmtUp = true → s.dev.answers .i2c = true →
    target % 128 = s.dev.i2cAddr → rest.length = 6 →
    crc8 (i2cHead (target % 128) 0x0B ++ rest.take 5) = numAt rest 5 1 → numAt rest 4 1 < 16 →
    r = (s.dev.bump R.GLB_CNT_I2C_FRAMES).frameRead .i2c (numAt rest 0 4) (numAt rest 4 1 + 1) →
    Completes (.i2cRead target rest) s fun d =>
      d.out = r.1.out ++ [.i2c (wordsToBytes r.2 ++ beBytes 1 (crc8 (i2cHead (target % 128) 0x0B ++ rest ++
        BitVec.ofNat 8 (2 * (target % 128) + 1) :: wordsToBytes r.2)))] ∧
      d.mgmt.i2cResult = (if numAt rest 0 4 % 4 = 0 then 0 else 2)) ∧
  (∀ (s : State) (target : Nat) (rest : Bytes) (r : Dev × Nat), s.dev.mgmtUp = true → s.dev.answers .i2c = true →
    target % 128 = s.dev.i2cAddr → numAt rest 4 1 < 16 → rest.length = 10 + 4 * numAt rest 4 1 →
    crc8 (i2cHead (target % 128) 0x02 ++ rest.take (9 + 4 * numAt rest 4 1)) = numAt rest (9 + 4 * numAt rest 4 1) 1 →
    r = (s.dev.bump R.GLB_CNT_I2C_FRAMES).frameWrite .i2c (numAt rest 0 4)
      (bytesToWords (slice rest 5 (4 + 4 * numAt rest 4 1))) →
    Gives (.i2cWrite target rest) s (r.1.i2cEnd r.2)) ∧
  (∀ (s : State) (target : Nat) (rest : Bytes), s.dev.mgmtUp = true → target % 128 = s.dev.i2cAddr → rest.length = 5 →
    crc8 (i2cHead (target % 128) 0x99 ++ rest.take 4) = numAt rest 4 1 → numAt rest 0 4 = s.dev.num R.RST_MGMT_KEY →
    Completes (.i2cReset target rest) s fun d =>
      d.rst.step = (if s.dev.pwr.up then 2 else 1) ∧ d.get F.RST_CAUSE_PRIMARY = 11 ∧ d.tbl = [] ∧ d.fuse = s.dev.fuse) ∧
  (∀ s : State, s.dev.mgmtUp = true →
    Completes .i2cSclTimeout s fun d => d.mgmt.i2cResult = 6 ∧ s.dev.ChangesOnly d [.regs, .mgmt]) ∧
  (∀ s : State, s.dev.mgmtUp = true → s.dev.on F.GLB_ETH_CFG_EN = true →
    Completes .mgmtEthLinkUp s fun d =>
      d.on F.GLB_ETH_STATUS_LINK = true ∧ d.on F.GLB_STATUS_ETH_LINK = true ∧
      d.on F.GLB_ETH_STATUS_AN_DONE = s.dev.on F.GLB_ETH_CFG_AN_EN ∧ s.dev.ChangesOnly d [.regs]) ∧
  (∀ s : State,
    Completes .mgmtEthLinkDown s fun d =>
      d.on F.GLB_ETH_STATUS_LINK = false ∧ d.on F.GLB_STATUS_ETH_LINK = false ∧ s.dev.ChangesOnly d [.regs]) ∧
  (∀ (s : State) (b p : Bytes), s.dev.ethAnswers = true → 60 ≤ b.length → b.length ≤ 1514 →
    slice b 0 6 = beBytes 6 (2 ^ 48 - 1) → numAt b 12 2 = 0x0806 → p = b.drop 14 → s.dev.ownV6 = false →
    numAt p 0 4 = 0x00010800 → numAt p 4 4 = 0x06040001 → slice p 24 4 = s.dev.ownIp →
    Completes (.mgmtEthFrame (b ++ fcsBytes b)) s fun d =>
      d.out = (s.dev.ethSend (slice p 8 6) 0x0806
        (beBytes 4 0x00010800 ++ beBytes 4 0x06040002 ++ s.dev.ownMac ++ s.dev.ownIp ++ slice p 8 10)).out ∧
      s.dev.ChangesOnly d [.regs, .out]) ∧
  ∀ (s : State) (frame : Bytes), frame.drop (frame.length - 4) ≠ fcsBytes (frame.take (frame.length - 4)) →
    Completes (.mgmtEthFrame frame) s fun d => s.dev.ChangesOnly d [.regs]

/-- The sessions (R551-R554, R579, R580): a hello that passes opens a half-open slot and a right confirmation opens the session;
each request of an open session has its effect and its reply; other principals than the operator's cannot change anything; a
session ends by its close, its timeouts, and its exports follow its subscription.
The model's choices in it stand in log entries 24 and 66. -/
def Obligations.SessionsServed : Prop :=
  (∀ (s : State) (source k : Nat) (hdr body : Bytes) (e : Dev) (ws : List Nat), s.dev.sessUp = true →
    s.dev.blockedSrc source = false → s.dev.freeSlot = some k → s.dev.takeRandWords 8 = some (e, ws) →
    Completes (.clientHello source hdr body) s fun d =>
      (d.sess k).st = (if s.dev.clientOk hdr body then 1 else 0) ∧
      (s.dev.clientOk hdr body = true →
        (d.sess k).principal = hdrPrincipal hdr ∧ (d.sess k).addr = source ∧ (d.sess k).idleClk = s.dev.tim.clk) ∧
      (s.dev.clientOk hdr body = false →
        d.num R.GLB_CNT_SESSION_AUTH_FAIL = min 0xFFFFFFFF (s.dev.num R.GLB_CNT_SESSION_AUTH_FAIL + 1)) ∧
      ∀ j, j ≠ k → d.sess j = s.dev.sess j) ∧
  (∀ (s : State) (source : Nat) (hdr body : Bytes), s.dev.sessUp = true → s.dev.blockedSrc source = false →
    s.dev.hdrOk hdr 3 body.length = true → (s.dev.sess (hdrSess hdr)).st = 1 → (s.dev.sess (hdrSess hdr)).addr = source →
    (s.dev.sess (hdrSess hdr)).principal = hdrPrincipal hdr →
    Completes (.clientConfirm source hdr body) s fun d =>
      (d.sess (hdrSess hdr)).st =
        (if body = (gcmSeal (s.dev.sess (hdrSess hdr)).keyConf 0 (s.dev.sess (hdrSess hdr)).th []).2 then 2 else 0) ∧
      (∀ j, j ≠ hdrSess hdr → d.sess j = s.dev.sess j) ∧ s.dev.ChangesOnly d [.regs, .evt, .mgmt]) ∧
  (∀ (s : State) (source seq k : Nat) (hdr data t : Bytes) (x : Sess),
    (s.dev.Requests source hdr seq data 0x10 k x t → 10 ≤ t.length → 1 ≤ numAt (t.drop 4) 4 2 →
      numAt (t.drop 4) 4 2 ≤ 1024 →
      Gives (.sessionRead source hdr seq data) s (
        let r := (s.dev.begun k x).frameRead (.eth x.principal) (numAt (t.drop 4) 0 4) (numAt (t.drop 4) 4 2)
        r.1.replied s.dev k x t 0 (wordsToBytes r.2))) ∧
    (s.dev.Requests source hdr seq data 0x11 k x t → x.principal = 1 → 1 ≤ numAt (t.drop 4) 4 2 →
      numAt (t.drop 4) 4 2 ≤ 256 → t.length = 10 + 4 * numAt (t.drop 4) 4 2 →
      Gives (.sessionWrite source hdr seq data) s (
        ((bytesToWords ((t.drop 4).drop 6)).zipIdx.foldl (fun d w =>
          d.busWrite (.eth 1) ((numAt (t.drop 4) 0 4 + 4 * w.2) % 2 ^ 32) w.1) (s.dev.begun k x)).replied s.dev k x t 0 [])) ∧
    (s.dev.Requests source hdr seq data 0x11 k x t → x.principal ≠ 1 →
      Gives (.sessionWrite source hdr seq data) s
        (((s.dev.begun k x).violate (.eth x.principal) (numAt (t.drop 4) 0 4) true).replied s.dev k x t 0 [])) ∧
    (s.dev.Requests source hdr seq data 0x12 k x t → x.principal = 1 → t.length = 75 →
      Gives (.sessionTable source hdr seq data) s (
        let f := t.drop 4
        let d := (s.dev.begun k x).winRow (.eth 1) (numAt f 0 2) (numAt f 2 4) (bytesToWords (f.drop 7)) (numAt f 6 1 % 16)
        d.replied s.dev k x t 0
          (wordsToBytes (d.winGet (.eth 1) 0x54 :: (List.range 16).map (fun i => d.winGet (.eth 1) (0x10 + 4 * i)))))) ∧
    (s.dev.Requests source hdr seq data 0x13 k x t → x.principal = 1 → t.length = 13 → 1 ≤ numAt (t.drop 4) 8 1 →
      numAt (t.drop 4) 8 1 ≤ 64 →
      Gives (.sessionLog source hdr seq data) s
        ((s.dev.begun k x).replied s.dev k x t 0
          ((s.dev.begun k x).logFrom (numAt (t.drop 4) 0 8) (numAt (t.drop 4) 8 1)))) ∧
    (s.dev.Requests source hdr seq data 0x14 k x t → t.length = 36 →
      Gives (.attest source hdr seq data) s
        ((s.dev.begun k x).replied s.dev k x t 0 (
          let st := (s.dev.begun k x).statement ++ t.drop 4
          st ++ (Config.signHybrid 0 (ascii "SQ2ATTST" ++ st)).1 ++ (Config.signHybrid 0 (ascii "SQ2ATTST" ++ st)).2))) ∧
    (s.dev.Requests source hdr seq data 0x15 k x t → x.principal = 1 → numAt (t.drop 4) 0 4 = 0 → 13 ≤ t.length →
      t.length ≤ 16396 → t.length < 12 + numAt (t.drop 4) 4 4 → numAt (t.drop 4) 4 4 ≤ 1048576 →
      Completes (.sessionChangeSet source hdr seq data) s fun d =>
        (d.sess k).csBuf = (t.drop 4).drop 8 ∧ d.num R.SAGE_CS_STATUS = s.dev.num R.SAGE_CS_STATUS ∧
        d.sage = s.dev.sage) ∧
    (s.dev.Requests source hdr seq data 0x16 k x t → x.principal = 1 → 9 ≤ t.length → t.length ≤ 16393 →
      (t.length - 9) % 4 = 0 →
      Gives (.sessionImage source hdr seq data) s (
        let f := t.drop 4
        let d := (s.dev.begun k x).imageOp (numAt f 0 1) (numAt f 1 4) (f.drop 5)
        d.replied s.dev k x t 0 (wordsToBytes [d.num R.NVL_UPD_STATUS]))) ∧
    (s.dev.Requests source hdr seq data 0x17 k x t → x.principal = 1 → t.length = 6 →
      Gives (.sessionCsAbort source hdr seq data) s (
        let d := doCsAbort (numAt (t.drop 4) 0 2) (.eth 1) (s.dev.begun k x)
        d.replied s.dev k x t 0 (wordsToBytes [d.num R.SAGE_CS_STATUS]))) ∧
    (s.dev.Requests source hdr seq data 0x18 k x t → x.principal = 1 → t.length = 6 → 1 ≤ numAt (t.drop 4) 0 1 % 16 →
      1 ≤ numAt (t.drop 4) 1 1 → numAt (t.drop 4) 1 1 ≤ 60 →
      (s.dev.mgmt.sess.filter (fun e => e.1 ≠ k && e.2.sub.isSome)).length < 4 →
      Completes (.subscribe source hdr seq data) s fun d =>
        (d.sess k).sub = some { sets := numAt (t.drop 4) 0 1 % 16, period := numAt (t.drop 4) 1 1, tag := numAt t 2 2 }) ∧
    (s.dev.Requests source hdr seq data 0x1F k x t →
      Completes (.sessionClose source hdr seq data) s fun d =>
        (d.sess k).st = 0 ∧ ∀ j, j ≠ k → d.sess j = s.dev.sess j)) ∧
  (∀ (s : State) (session : Nat), (s.dev.sess (session % 8)).st ≠ 0 →
    Completes (.sessionIdleTimeout session) s fun d =>
      (d.sess (session % 8)).st = 0 ∧ d.tim.clk = max s.dev.tim.clk ((s.dev.sess (session % 8)).idleClk + sec 300) ∧
      (∀ j, j ≠ session % 8 → d.sess j = s.dev.sess j) ∧ s.dev.ChangesOnly d [.regs, .evt, .tim, .mgmt]) ∧
  (∀ (s : State) (session : Nat), (s.dev.sess (session % 8)).st = 2 →
    Completes (.sessionLifetimeExpiry session) s fun d =>
      (d.sess (session % 8)).st = 0 ∧ d.tim.clk = max s.dev.tim.clk ((s.dev.sess (session % 8)).openClk + sec 86400) ∧
      (∀ j, j ≠ session % 8 → d.sess j = s.dev.sess j) ∧ s.dev.ChangesOnly d [.regs, .evt, .tim, .mgmt]) ∧
  (∀ (s : State) (source at_ : Nat), s.dev.mgmt.blocked.find? (fun x => x.1 = source) = some (source, at_) →
    Completes (.sourceBlockExpiry source) s fun d =>
      d.blockedSrc source = false ∧ d.tim.clk = max s.dev.tim.clk at_ ∧
      d.mgmt.blocked = s.dev.mgmt.blocked.filter (fun y => y.1 ≠ source) ∧ s.dev.ChangesOnly d [.regs, .tim, .mgmt]) ∧
  ∀ (s : State) (session room : Nat) (b : Sub), (s.dev.sess (session % 8)).sub = some b → b.unsent = 0 →
    s.dev.sessUp = true → (s.dev.sess (session % 8)).st = 2 → s.dev.on F.MON_STATUS_VALID = true →
    (s.dev.num R.MON_SNAP_SEC_HI * 2 ^ 32 + s.dev.num R.MON_SNAP_SEC_LO) % max 1 b.period = 0 →
    b.done ≠ s.dev.num R.MON_SNAP_SEC_HI * 2 ^ 32 + s.dev.num R.MON_SNAP_SEC_LO + 1 →
    Completes (.telemetryExport session room) s fun d =>
      (d.sess (session % 8)).sub = some { b with
        unsent := (expParts (s.dev.expRecs b.sets (s.dev.sess (session % 8)).principal)).length -
          min room (expParts (s.dev.expRecs b.sets (s.dev.sess (session % 8)).principal)).length,
        done := s.dev.num R.MON_SNAP_SEC_HI * 2 ^ 32 + s.dev.num R.MON_SNAP_SEC_LO + 1 } ∧
      d.num R.MON_CNT_EXPORT_SENT = min 0xFFFFFFFF (s.dev.num R.MON_CNT_EXPORT_SENT +
        min room (expParts (s.dev.expRecs b.sets (s.dev.sess (session % 8)).principal)).length)

/-! Fleet keying and MKA (R290, R426-R454). -/

/-- The associations (R432-R437, R448): datagrams are put together into messages; each message of the handshake takes it on where
its check holds and ends it where it does not; the timers of the handshake, the renewal and the loss of a peer.
The model's choices in it stand in log entries 3, 47 and 48. -/
def Obligations.FleetAssociates : Prop :=
  (∀ (s : State) (b : Bytes), s.dev.fleetOn = true → s.dev.ethUp = true → 36 ≤ b.length → b.length ≤ 1236 →
    numAt b 0 4 = 0x5351464B → numAt b 4 1 = 0 → s.dev.fleet.frags = [] →
    (numAt b 5 1 = 0 → 1 ≤ numAt b 11 1 → numAt b 11 1 ≤ 4 →
      Completes (.oobDatagramRx b) s fun d =>
        d.fleet = { s.dev.fleet with inbox := s.dev.fleet.inbox ++ [⟨slice b 8 20, b.drop 36, false, 0, 0⟩] } ∧
        s.dev.ChangesOnly d [.regs, .fleet]) ∧
    (numAt b 5 1 = 1 →
      Completes (.oobDatagramRx b) s fun d =>
        d.fleet = { s.dev.fleet with frags :=
          [⟨numAt b 20 2 % 4096, numAt b 6 2, 0, 2, slice b 8 20, numAt b 28 8, [(0, b.drop 36)], s.dev.tim.clk⟩] } ∧
        s.dev.ChangesOnly d [.regs, .fleet])) ∧
  (∀ (s : State) (f : FragSet) (rest : List FragSet), s.dev.fleet.frags = f :: rest →
    Completes .fragmentTimeout s fun d =>
      d.fleet = { s.dev.fleet with frags := rest } ∧ d.tim.clk = max s.dev.tim.clk (f.clk + sec 1) ∧
      s.dev.ChangesOnly d [.regs, .tim, .fleet]) ∧
  (∀ (s : State) (at_ : FleetAt) (x : FleetMsg),
    (s.dev.Delivers at_ 1 x → x.src < s.dev.fleet.member → 8 ≤ s.dev.mint.randOut.length →
      Completes (.helloInit at_) s fun d =>
        (d.peer x.src).hs = (if (s.dev.delivered at_ 1).helloOk x.src 1 (ascii "SQ2HELO1") x.body then 2
          else (s.dev.peer x.src).hs)) ∧
    (s.dev.Delivers at_ 2 x → (s.dev.peer x.src).hs = 1 →
      Completes (.helloResp at_) s fun d =>
        (d.peer x.src).hs =
          (if (s.dev.delivered at_ 2).helloOk x.src 2 (ascii "SQ2HELO2" ++ (s.dev.peer x.src).h1) x.body then 3 else 0)) ∧
    (s.dev.Delivers at_ 3 x → (s.dev.peer x.src).hs = 2 →
      x.body = confirmTag (s.dev.peer x.src).newKeys (s.dev.peer x.src).th →
      Completes (.helloConfirm at_) s fun d =>
        d.assoc x.src = 2 ∧ (d.peer x.src).hs = 0 ∧ (d.peer x.src).keys = (s.dev.peer x.src).newKeys.take 128 ∧
        (d.peer x.src).old = (s.dev.peer x.src).keys ∧ (d.peer x.src).initiator = false) ∧
    (s.dev.Delivers at_ 3 x → (s.dev.peer x.src).hs = 2 →
      x.body ≠ confirmTag (s.dev.peer x.src).newKeys (s.dev.peer x.src).th →
      Completes (.helloConfirm at_) s fun d =>
        (d.peer x.src).hs = 0 ∧ (d.peer x.src).newKeys = [] ∧ (d.peer x.src).keys = (s.dev.peer x.src).keys) ∧
    (s.dev.Delivers at_ 4 x → s.dev.fleet.member < x.src → s.dev.assoc x.src ≠ 2 → (s.dev.peer x.src).nudgeClk = none →
      8 ≤ s.dev.mint.randOut.length →
      Completes (.nudge at_) s fun d =>
        d.assoc x.src = 1 ∧ (d.peer x.src).hs = 1 ∧ (d.peer x.src).nudgeClk = some s.dev.tim.clk)) ∧
  (∀ s : State, s.dev.fleetOn = true → s.dev.ethUp = true →
    (∀ m, m < s.dev.fleet.member → s.dev.ctlChan m = none ∧ s.dev.tf 0xF2 m 0 31 31 = 1) →
    Completes .nudgeTimer s fun d =>
      d.out.length = s.dev.out.length +
        ((List.range s.dev.fleet.member).filter (fun m => s.dev.associates m && s.dev.assoc m ≠ 2)).length ∧
      s.dev.ChangesOnly d [.regs, .fleet, .out]) ∧
  (∀ (s : State) (member : Nat), s.dev.fleetOn = true → s.dev.fleet.member < member % 4096 →
    s.dev.memberValid (member % 4096) = true →
    ((s.dev.peer (member % 4096)).hs = 1 ∨ (s.dev.peer (member % 4096)).hs = 3 →
      Completes (.helloWaitTimeout member) s fun d =>
        (d.peer (member % 4096)).hs = 0 ∧ (d.peer (member % 4096)).newKeys = [] ∧
        d.tim.clk = max s.dev.tim.clk ((s.dev.peer (member % 4096)).hsClk + sec 2)) ∧
    ((s.dev.peer (member % 4096)).hs = 0 → s.dev.assoc (member % 4096) ≠ 2 → 8 ≤ s.dev.mint.randOut.length →
      Completes (.helloWaitTimeout member) s fun d =>
        (d.peer (member % 4096)).hs = 1 ∧ d.assoc (member % 4096) = 1 ∧
        (d.peer (member % 4096)).retry =
          (if (s.dev.peer (member % 4096)).retry = 0 then 1 else min 32 (2 * (s.dev.peer (member % 4096)).retry)) ∧
        d.tim.clk = max s.dev.tim.clk ((s.dev.peer (member % 4096)).hsClk + sec (s.dev.peer (member % 4096)).retry))) ∧
  (∀ (s : State) (member : Nat), s.dev.fleetOn = true → s.dev.assoc (member % 4096) = 2 →
    s.dev.fleet.member < member % 4096 → (s.dev.peer (member % 4096)).hs = 0 → 8 ≤ s.dev.mint.randOut.length →
    Completes (.assocRenewal member) s fun d =>
      (d.peer (member % 4096)).hs = 1 ∧ d.assoc (member % 4096) = 2 ∧
      (d.peer (member % 4096)).keys = (s.dev.peer (member % 4096)).keys ∧
      d.tim.clk = max s.dev.tim.clk ((s.dev.peer (member % 4096)).upClk + sec (s.dev.fleetConst 7 7 0 * 3240))) ∧
  (∀ (s : State) (member : Nat), (s.dev.peer (member % 4096)).old ≠ [] →
    Completes (.oldKeysExpiry member) s fun d =>
      (d.peer (member % 4096)).old = [] ∧ (d.peer (member % 4096)).keys = (s.dev.peer (member % 4096)).keys ∧
      d.tim.clk = max s.dev.tim.clk ((s.dev.peer (member % 4096)).oldClk + sec 60) ∧
      s.dev.ChangesOnly d [.regs, .tim, .fleet]) ∧
  ∀ (s : State) (member : Nat), s.dev.fleetOn = true → s.dev.assoc (member % 4096) = 2 →
    Completes (.peerLost member) s fun d =>
      d.assoc (member % 4096) = 3 ∧ d.consensus (member % 4096) = 6 ∧ (d.peer (member % 4096)).keys = [] ∧
      (∀ o, o ∈ d.fleet.offers → o.member ≠ member % 4096) ∧
      d.tim.clk = max s.dev.tim.clk ((s.dev.peer (member % 4096)).lastClk + sec s.dev.peerLostS)

/-- The consensus and the key server (R446, R447, R453, R454): a heartbeat is sent and read; one that agrees lifts the gates of its
sender; the digests asked for gate what differs; the role is claimed, handed over and taken.
The model's choices in it stand in log entry 47. -/
def Obligations.FleetAgrees : Prop :=
  (∀ s : State, s.dev.fleetOn = true → s.dev.peersUp = [] →
    Completes .heartbeatSend s fun d =>
      (s.dev.fleet.claim = true →
        d.fleet.ks = s.dev.fleet.ks.map (fun k => (k.1, k.2.1, k.2.2.1, d.tim.clk + sec s.dev.ksLeaseS))) ∧
      (s.dev.fleet.claim = false → d.fleet = s.dev.fleet) ∧
      d.tim.clk = max s.dev.tim.clk (s.dev.netReach ((s.dev.tim.lastSecNet + s.dev.fleet.member * 244140) % twrap)) ∧
      s.dev.ChangesOnly d [.regs, .tim, .fleet]) ∧
  (∀ (s : State) (m : Nat), s.dev.fleetOn = true → s.dev.peersUp = [m] →
    Completes .heartbeatSend s fun d => (d.peer m).cseqTx = (s.dev.peer m).cseqTx + 1) ∧
  (∀ (s : State) (at_ : FleetAt) (x : FleetMsg),
    (s.dev.Delivers at_ 0x10 x → x.body.length = 184 →
      Completes (.heartbeat at_) s fun d =>
        d.tf 0xF8 x.src 1 31 0 = numAt x.body 0 4 ∧
        (numAt x.body 0 4 = s.dev.num R.SAGE_CFG_VERSION → slice x.body 4 48 = s.dev.fleet.digest →
          slice x.body 52 48 = (s.dev.delivered at_ 0x10).entryBytes 0xF1 x.src 0 12 →
          slice x.body 100 48 = (s.dev.delivered at_ 0x10).schedDigest →
          d.consensus x.src = 0 ∧ (d.peer x.src).gated = [])) ∧
    (s.dev.Delivers at_ 0x11 x → numAt x.body 0 2 ≤ 1024 → x.body.length = 2 + 2 * numAt x.body 0 2 →
      Completes (.digestReq at_) s fun d =>
        (d.peer x.src).cseqTx = ((s.dev.delivered at_ 0x11).peer x.src).cseqTx + (numAt x.body 0 2 + 299) / 300) ∧
    (s.dev.Delivers at_ 0x12 x → numAt x.body 0 2 = 1 → x.body.length = 52 →
      (s.dev.delivered at_ 0x12).shares (numAt x.body 2 2) x.src = true →
      Completes (.digestResp at_) s fun d =>
        d.isGated x.src (numAt x.body 2 2) =
          (if slice x.body 4 48 = (s.dev.delivered at_ 0x12).svcDigest (numAt x.body 2 2) then false
           else decide ((s.dev.delivered at_ 0x12).isGated x.src (numAt x.body 2 2) = true ∨
             (s.dev.delivered at_ 0x12).svcGate (numAt x.body 2 2) ≠ 0))) ∧
    (s.dev.Delivers at_ 0x30 x → s.dev.ksCapable = true → s.dev.ksKnown = some x.src →
      s.dev.fleet.term < numAt x.body 0 4 →
      Completes (.ksHandover at_) s fun d =>
        d.fleet.claim = true ∧ d.fleet.term = numAt x.body 0 4 ∧ d.fleet.ks.map (·.1) = some s.dev.fleet.member) ∧
    (s.dev.Delivers at_ 0x24 x → s.dev.fleet.claim = true → s.dev.svcMode (numAt x.body 0 2 % 16384) ≠ 0 →
      s.dev.fleet.offers = [] → numAt x.body 0 2 % 16384 ∉ s.dev.fleet.rekey →
      Completes (.rekeyReq at_) s fun d => d.fleet.rekey = s.dev.fleet.rekey ++ [numAt x.body 0 2 % 16384])) ∧
  (∀ (s : State) (member : Nat), s.dev.fleetOn = true → (s.dev.peer (member % 4096)).asked ≠ [] →
    Completes (.digestRespTimeout member) s fun d =>
      (∀ x, x ∈ (s.dev.peer (member % 4096)).asked → s.dev.svcGate x ≠ 0 → d.isGated (member % 4096) x = true) ∧
      (∀ x, s.dev.isGated (member % 4096) x = true → d.isGated (member % 4096) x = true) ∧
      d.tim.clk = max s.dev.tim.clk ((s.dev.peer (member % 4096)).askClk + sec 2)) ∧
  (∀ (s : State) (member service : Nat) (c : Chan), s.dev.fleetOn = true →
    s.dev.isGated (member % 4096) (service % 16384) = true → s.dev.svcGate (service % 16384) = 2 →
    s.dev.fleet.chans = [c] → c.member = member % 4096 → c.svc = service % 16384 → c.role = 2 ∨ c.role = 3 ∨ c.role = 5 →
    Gives (.gateGraceExpiry member service) s
      ((s.dev.advance (SMap.get 0 (s.dev.peer (member % 4096)).gated (service % 16384) +
        sec (s.dev.fleetConst 7 23 12))).satNow c.slice 7 0 c.entry).1) ∧
  (∀ s : State, s.dev.fleetOn = true → s.dev.fleet.claim = false → s.dev.ksCapable = true → s.dev.peersUp = [] →
    Completes .ksLeaseExpiry s fun d =>
      d.fleet.claim = true ∧ d.fleet.term = s.dev.fleet.term + 1 ∧ d.fleet.ks.map (·.1) = some s.dev.fleet.member) ∧
  ∀ (s : State) (member c : Nat), s.dev.fleetOn = true → s.dev.fleet.claim = true → s.dev.assoc (member % 4096) = 2 →
    (s.dev.peer (member % 4096)).capClk = some c → s.dev.fleet.offers = [] →
    ranksAbove (s.dev.tf 0xF0 (member % 4096) 0 7 0) (member % 4096) s.dev.ownPriority s.dev.fleet.member = true →
    Completes (.ksHoldoffMet member) s fun d =>
      d.fleet.claim = false ∧ d.fleet.rekey = [] ∧ (d.peer (member % 4096)).cseqTx = (s.dev.peer (member % 4096)).cseqTx + 1 ∧
      d.tim.clk = max s.dev.tim.clk (c + sec (s.dev.fleetConst 3 15 0))

/-- The keys between modules (R438-R445): a change draws a key from Mint and offers it; an offer is repeated and fails after its
sixth sending; it is answered, and its end, its cancel and its timers take it away.
The model's choices in it stand in log entry 20. -/
def Obligations.FleetKeysChange : Prop :=
  (∀ (s : State) (ch : Chan) (an suite : Nat) (soon : Bool) (put : Placement), s.dev.fleetOn = true → ch.role = 1 →
    s.dev.assoc ch.member = 2 → 11 ≤ s.dev.mint.keyOut.length →
    Completes (.keyChangeStart ch an suite soon put) s fun d =>
      ∃ o, d.fleet.offers = s.dev.fleet.offers ++ [o] ∧ o.member = ch.member ∧ o.role = 1 ∧ o.words.length = 11 ∧
        o.place = ch.slice % 8 ∧ o.entry = ch.entry % 8192 ∧ o.id = (s.dev.fleet.offerId + 1) % 2 ^ 32 ∧ o.sends = 1 ∧
        o.timed = ((s.dev.txLive (ch.slice % 8) (ch.entry % 8192)).isSome && s.dev.timeFit && s.dev.peerFit ch.member) ∧
        d.mint.keyOut = s.dev.mint.keyOut.drop 11) ∧
  (∀ (s : State) (index : Nat) (o : Offer), s.dev.fleet.offers[index]? = some o → s.dev.fleetOn = true → o.acked = false →
    (o.sends < 6 →
      Completes (.offerResend index) s fun d =>
        d.fleet.offers[index]? = some { o with sends := o.sends + 1, clk := d.tim.clk } ∧
        d.tim.clk = max s.dev.tim.clk (o.clk + sec 2)) ∧
    (6 ≤ o.sends → o.ticket = none →
      Completes (.offerResend index) s fun d =>
        (∀ x, x ∈ d.fleet.offers → ¬ (x.member = o.member ∧ x.id = o.id)) ∧
        d.tim.clk = max s.dev.tim.clk (o.clk + sec 2))) ∧
  (∀ (s : State) (at_ : FleetAt) (x : FleetMsg),
    (∀ o : Offer, s.dev.Delivers at_ 0x21 x →
      s.dev.fleet.offers.find? (fun o => o.member = x.src && o.id = numAt x.body 0 4 && !o.acked) = some o →
      (numAt x.body 4 1 ≠ 0 → o.ticket = none →
        Completes (.keyAck at_) s fun d => ∀ y, y ∈ d.fleet.offers → ¬ (y.member = o.member ∧ y.id = o.id)) ∧
      (numAt x.body 4 1 = 0 → o.role = 5 →
        Gives (.keyAck at_) s ((s.dev.delivered at_ 0x21).dropOffer o)) ∧
      (numAt x.body 4 1 = 0 → o.role = 1 → o.timed = false →
        Gives (.keyAck at_) s ((s.dev.delivered at_ 0x21).ackInstall o (numAt x.body 6 2)))) ∧
    (∀ put : Placement, s.dev.Delivers at_ 0x20 x → x.body.length = 112 → numAt x.body 4 1 = 1 →
      bit (numAt x.body 5 1) 7 = false → s.dev.fleet.taken = [] → put.emode = true →
      ((s.dev.delivered at_ 0x20).rx (put.slice % 8) (put.entry % 8192)).st = 0 →
      Gives (.keyOffer at_ put) s (
        let e := s.dev.delivered at_ 0x20
        let p := e.peer x.src
        let id := numAt x.body 0 4
        match keyUnwrap (dirKey (if p.keys = [] then p.old else p.keys) (!p.initiator) 64) (slice x.body 48 56) with
        | none => e.ackOffer x.src id 4 0
        | some k =>
          let r := e.satNow (put.slice % 8) 2 1 (put.entry % 8192)
            { attr := saAttr (nbits (numAt x.body 5 1) 6 6) (numAt x.body 9 1 % 4) 1 put.mode 1 put.group, link := put.window,
              sci := numAt x.body 40 8, ssci := numAt x.body 12 4, words := bytesToWords (k.take 44) }
          if r.2 then
            ({ r.1 with fleet := { r.1.fleet with taken :=
              [{ member := x.src, id := id, role := 1, svc := numAt x.body 6 2 % 16384, place := numAt x.body 8 1,
                 txEntry := numAt x.body 10 2, timed := false, at_ := numAt x.body 24 2 * 2 ^ 32 + numAt x.body 28 4,
                 lead := us (numAt x.body 32 4), lag := us (numAt x.body 36 4), put := put, clk := e.tim.clk,
                 tickets := [] }] } }).ackOffer x.src id 0 (put.slice % 8 * 8192 + put.entry % 8192)
          else r.1.ackOffer x.src id 1 0)) ∧
    (∀ put : Placement, s.dev.Delivers at_ 0x20 x → x.body.length ≠ 112 →
      Gives (.keyOffer at_ put) s ((s.dev.delivered at_ 0x20).ackOffer x.src (numAt x.body 0 4) 4 0)) ∧
    (∀ r : RxOffer, s.dev.Delivers at_ 0x22 x →
      s.dev.fleet.taken.find? (fun r => r.member = x.src && r.id = numAt x.body 0 4) = some r → r.tickets = [] → r.role = 1 →
      Gives (.keyCancel at_) s
        ((((s.dev.delivered at_ 0x22).dropTaken r).satNow (r.put.slice % 8) 7 1 (r.put.entry % 8192)).1)) ∧
    (∀ c : Chan, s.dev.Delivers at_ 0x23 x → numAt x.body 4 2 = 1 → x.body.length = 10 → s.dev.fleet.chans = [c] →
      c.role = 5 → c.member = x.src → c.slice = numAt x.body 6 1 % 8 → (s.dev.tx c.slice c.entry 0).st = 1 →
      Completes (.ksiNotice at_) s fun d =>
        d.tx c.slice c.entry 0 = { s.dev.tx c.slice c.entry 0 with peerKsi := numAt x.body 8 2 })) ∧
  ∀ (s : State) (index : Nat) (r : RxOffer), s.dev.fleet.taken[index]? = some r → s.dev.fleetOn = true →
    (r.timed = false → r.role ≠ 4 → r.olds = [] →
      Completes (.untimedRetireTimer index) s fun d =>
        d.fleet = { s.dev.fleet with taken := s.dev.fleet.taken.erase r } ∧
        d.tim.clk = max s.dev.tim.clk (r.clk + s.dev.lagNs) ∧ s.dev.ChangesOnly d [.regs, .tim, .fleet]) ∧
    (r.timed = true → r.role ≠ 4 → r.entries = [] →
      Completes (.unusedNewEntryTimeout index) s fun d =>
        d.fleet = { s.dev.fleet with taken := s.dev.fleet.taken.erase r } ∧
        d.tim.clk = max s.dev.tim.clk (s.dev.netReach ((r.at_ + r.lag) % twrap)) ∧
        s.dev.ChangesOnly d [.regs, .tim, .fleet]) ∧
    (∀ e : Nat × Nat, r.timed = true → r.role ≠ 4 → r.entries = [e] → (s.dev.rx e.1 e.2).st = 2 → (s.dev.rx e.1 e.2).ok = 0 →
      Gives (.unusedNewEntryTimeout index) s
        ((((s.dev.advance (s.dev.netReach ((r.at_ + r.lag) % twrap))).satNow e.1 7 1 e.2).1).dropTaken r)) ∧
    (r.timed = true → r.role = 5 → r.tickets = [] → r.half = false → r.put.floods = [] →
      Completes (.localGroupSwitch index) s fun d =>
        d.fleet.taken = s.dev.fleet.taken.map (fun x => if x = r then { r with half := true } else x) ∧
        d.tim.clk = max s.dev.tim.clk (s.dev.netReach ((r.at_ + r.lag / 2) % twrap)) ∧
        s.dev.ChangesOnly d [.regs, .tim, .fleet])

/-- MKA on an F-mode port (R290): an MKPDU leaves the exception buffer, and a live peer's is taken; the hello counts on; a peer not
heard is lost; the key server changes its SAK at its interval.
The model's choices in it stand in log entry 3. -/
def Obligations.MkaServed : Prop :=
  (∀ (s : State) (index : Nat) (r : ExcRec), s.dev.active.isSome = true → s.dev.fe.buf[index]? = some r → r.reason = 0x81 →
    s.dev.mkaOn r.port = true →
    Completes (.mkaMkpdu index) s fun d =>
      d.fe.buf = s.dev.fe.buf.eraseIdx index ∧
      (d.mkaPort r.port).peer =
        (match Config.mkaDecode (s.dev.mkaPort r.port).cfg.cak (s.dev.mkaPort r.port).cfg.ckn (r.data.drop 14) with
         | none => (s.dev.mkaPort r.port).peer
         | some u => some u.mi)) ∧
  (∀ (s : State) (port : Nat), s.dev.mkaOn (port % 32) = true →
    Completes (.mkaHelloTimer port) s fun d =>
      (d.mkaPort (port % 32)).mn = (s.dev.mkaPort (port % 32)).mn + 1 ∧
      (d.mkaPort (port % 32)).helloClk = d.tim.clk ∧
      d.tim.clk = max s.dev.tim.clk ((s.dev.mkaPort (port % 32)).helloClk + sec 2) ∧
      s.dev.ChangesOnly d [.regs, .tim, .fleet, .sch]) ∧
  (∀ (s : State) (port : Nat), s.dev.mkaOn (port % 32) = true → (s.dev.mkaPort (port % 32)).peer.isSome = true →
    Completes (.mkaLifeTimeExpiry port) s fun d =>
      (d.mkaPort (port % 32)).peer = none ∧ (d.mkaPort (port % 32)).sak = (s.dev.mkaPort (port % 32)).sak ∧
      d.tim.clk = max s.dev.tim.clk ((s.dev.mkaPort (port % 32)).peerClk + sec 6) ∧
      s.dev.ChangesOnly d [.regs, .evt, .tim, .fleet]) ∧
  ∀ (s : State) (port : Nat), s.dev.mkaOn (port % 32) = true → (s.dev.mkaPort (port % 32)).cfg.interval ≠ 0 →
    s.dev.mkaServer (port % 32) = true → (s.dev.mkaPort (port % 32)).peer.isSome = true →
    Gives (.sakChangeInterval port) s (
      let d := s.dev.advance ((s.dev.mkaPort (port % 32)).sakClk + sec (s.dev.mkaPort (port % 32)).cfg.interval)
      match d.takeKeyWords 11 with
      | none => d
      | some x =>
        let an := (((s.dev.mkaPort (port % 32)).sak.map (·.2)).getD 3 + 1) % 4
        (x.1.mkaInstall (port % 32) x.2 an 1 2).mkaSend (port % 32) (some (x.2, an, 1, 2)))

/-! The lifecycle (R558-R561). -/

/-- The lifecycle (R559-R561): a command runs only when confirmed, from a master and in a state that may send it, and takes effect in
the fuses when it is complete; a transition resets the module; the export is read once or ends.
The model's choices in it stand in log entries 5 and 62. -/
def Obligations.LifecycleServed : Prop :=
  (∀ (s : State) (value : Nat) (m : Master), s.dev.passes m (R.GLB_LCS_CONFIRM.addr 0 0) = true → s.dev.mayWrite m = true →
    Completes (.glbLcsConfirm value m) s fun d =>
      d.mgmt.lcsArmed = (if value % 2 ^ 32 = 0x4C435354 then some s.dev.tim.clk else none) ∧
      s.dev.ChangesOnly d [.regs, .mon, .evt, .mgmt] ∧ s.dev.WritesOnly d sideAddrs) ∧
  (∀ (s : State) (m : Master), s.dev.passes m (R.GLB_LCS_CMD.addr 0 0) = true → s.dev.lcsConfirmed = true →
    s.dev.lcsBusy = false →
    (s.dev.lcsMay 2 m = true → s.dev.locked = true →
      Completes (.operate m) s fun d =>
        d.mgmt.lcsOp = 2 ∧ d.mgmt.lcsPhase = 2 ∧ d.mgmt.lcsArmed = none ∧ d.get F.GLB_LCS_STATUS_TARGET = 2 ∧
        d.on F.GLB_LCS_STATUS_BUSY = true ∧ d.fuse = s.dev.fuse ∧
        s.dev.ChangesOnly d [.regs, .mon, .evt, .mgmt, .rsm, .free]) ∧
    (s.dev.lcsMay 3 m = true →
      Completes (.fieldReturn m) s fun d =>
        d.mgmt.lcsOp = 3 ∧ d.mgmt.lcsPhase = 2 ∧ d.get F.GLB_LCS_STATUS_TARGET = 3 ∧
        d.fuse = { s.dev.fuse with imageKeyBlown := true } ∧
        s.dev.ChangesOnly d [.regs, .mon, .evt, .mgmt, .rsm, .fuse, .free]) ∧
    (s.dev.lcsMay 4 m = true →
      Completes (.decommission m) s fun d =>
        d.mgmt.lcsOp = 4 ∧ d.mgmt.lcsPhase = 2 ∧ d.get F.GLB_LCS_STATUS_TARGET = 4 ∧ d.flash.slot = [] ∧ d.flash.jrnl = [] ∧
        d.flash.recs = [] ∧ d.fuse = { s.dev.fuse with secretBlown := true } ∧
        s.dev.ChangesOnly d [.regs, .mon, .evt, .mgmt, .rsm, .fuse, .flash, .free]) ∧
    (s.dev.lcsMay 1 m = true → s.dev.opLive ≠ [] → s.dev.get F.MNT_TEST_CTRL_INJECT = 0 →
      ((s.dev.provBytes.take 1665).all (· == 0)) = false →
      Completes (.provision m) s fun d =>
        d.mgmt.lcsOp = (if Config.keysValid ((s.dev.provBytes.take 1665).take 97) ((s.dev.provBytes.take 1665).drop 97)
          then 1 else 0) ∧
        (d.mgmt.lcsOp = 1 → d.mgmt.lcsPhase = 1 ∧ d.on F.GLB_LCS_STATUS_EXPORT_READY = true ∧
          d.get F.GLB_LCS_STATUS_TARGET = 1) ∧
        (d.mgmt.lcsOp = 0 → d.get F.GLB_LCS_STATUS_REASON = 5) ∧ d.fuse = s.dev.fuse)) ∧
  (∀ (s : State) (m : Master) (c : Instr), s.dev.passes m (R.GLB_LCS_CMD.addr 0 0) = true → s.dev.lcsConfirmed = false →
    s.dev.lcsBusy = false → c = .provision m ∨ c = .operate m ∨ c = .fieldReturn m ∨ c = .decommission m →
    Completes c s fun d =>
      d.get F.GLB_LCS_STATUS_REASON = 1 ∧ d.mgmt = { s.dev.mgmt with lcsArmed := none } ∧
      s.dev.ChangesOnly d [.regs, .mon, .evt, .mgmt]) ∧
  (∀ s : State, s.dev.mgmt.lcsPhase = 2 →
    Completes (.lcsTransitionComplete true) s fun d =>
      d.fuse = { s.dev.fuse with lcs := s.dev.get F.GLB_LCS_STATUS_TARGET } ∧
      d.rst.step = (if s.dev.pwr.up then 2 else 1) ∧ d.tbl = [] ∧ d.sat = {}) ∧
  (∀ s : State, s.dev.mgmt.lcsPhase = 2 →
    Completes (.lcsTransitionComplete false) s fun d =>
      d.fuse = s.dev.fuse ∧ d.mgmt.lcsOp = 0 ∧ d.mgmt.lcsPhase = 0 ∧ d.on F.GLB_LCS_STATUS_BUSY = false ∧
      d.get F.GLB_LCS_STATUS_REASON = 9 ∧ s.dev.ChangesOnly d [.regs, .evt, .tim, .mgmt]) ∧
  (∀ (s : State) (index : Nat) (m : Master), s.dev.provMay m = true → s.dev.principal m = some 0 → s.dev.mgmt.lcsPhase = 1 →
    (1 ≤ index % 256 → index % 256 ≤ 26 →
      Completes (.provisionBufferRead index m) s fun d =>
        d.out = s.dev.out ++ ((bytesToWords (SMap.get [] s.dev.mgmt.prov (index % 256)) ++ List.replicate 16 0).take 16).map
          (fun w => .read (BitVec.ofNat 32 w)) ∧
        SMap.get [] d.mgmt.prov (index % 256) = [] ∧ d.mgmt.lcsPhase = 1 ∧ s.dev.ChangesOnly d [.regs, .mgmt, .out]) ∧
    (index % 256 = 27 →
      Completes (.provisionBufferRead index m) s fun d =>
        d.on F.GLB_LCS_STATUS_EXPORT_READY = false ∧ d.mgmt.lcsPhase = 2 ∧ SMap.get [] d.mgmt.prov 27 = [])) ∧
  (∀ s : State, s.dev.mgmt.lcsPhase = 1 →
    Completes .exportTimeout s fun d =>
      d.mgmt.prov = [] ∧ d.mgmt.lcsOp = 0 ∧ d.get F.GLB_LCS_STATUS_REASON = 8 ∧ d.fuse = s.dev.fuse ∧
      d.tim.clk = max s.dev.tim.clk (s.dev.mgmt.lcsClk + sec 60) ∧ s.dev.ChangesOnly d [.regs, .evt, .tim, .mgmt]) ∧
  (∀ (s : State) (slot op : Nat) (m : Master) (c : Instr), s.dev.passes m (R.GLB_KEYSLOT_CMD.addr 0 0) = true →
    s.dev.keyslotMay m = true → s.dev.lcsConfirmed = true → s.dev.lcsBusy = false → s.dev.keyslotOk op (slot % 4) = true →
    (op = 1 ∧ c = .fuseOperator slot m) ∨ (op = 2 ∧ c = .revokeOperator slot m) ∨ (op = 3 ∧ c = .revokeVendor slot m) →
    Completes c s fun d =>
      d.mgmt.ksOp = op ∧ d.mgmt.ksSlot = slot % 4 ∧ d.mgmt.lcsArmed = none ∧ d.on F.GLB_KEYSLOT_STATUS_BUSY = true ∧
      d.fuse = s.dev.fuse ∧ s.dev.ChangesOnly d [.regs, .mon, .evt, .mgmt]) ∧
  ∀ (s : State) (ok : Bool), s.dev.mgmt.ksOp ≠ 0 →
    Completes (.keyslotDone ok) s fun d =>
      d.fuse = (if ok then s.dev.keyslotFuse else s.dev.fuse) ∧ d.mgmt.ksOp = 0 ∧ d.on F.GLB_KEYSLOT_STATUS_BUSY = false ∧
      d.on F.GLB_KEYSLOT_STATUS_LAST_OK = ok ∧ s.dev.ChangesOnly d [.regs, .evt, .mon, .mgmt, .rsm, .fuse, .free]
end

