-- ==== Sys2Proof/Laws/Tables.lean ====
section
/-! SUPPORT. The laws of sparse tables: a read after a write, and that writing keeps the canonical form. -/

namespace Sys2Proof

variable {α : Type}

/-- Erasing an index leaves every other index as it was. -/
theorem SMap.get_erase_ne (z : α) (m : SMap α) {k k' : Nat} (h : k' ≠ k) :
    SMap.get z (SMap.erase m k) k' = SMap.get z m k' := by
  induction m with
  | nil => rfl
  | cons e m ih =>
    obtain ⟨a, v⟩ := e
    by_cases hk : k = a
    · subst hk; simp [SMap.erase, SMap.get, h, ih]
    · by_cases hk' : k' = a
      · simp [SMap.erase, SMap.get, hk, hk']
      · simp [SMap.erase, SMap.get, hk, hk', ih]

/-- An erased index reads as the default. -/
@[simp] theorem SMap.get_erase_self (z : α) (m : SMap α) (k : Nat) : SMap.get z (SMap.erase m k) k = z := by
  induction m with
  | nil => rfl
  | cons e m ih =>
    obtain ⟨a, v⟩ := e
    by_cases hk : k = a
    · subst hk; simpa [SMap.erase] using ih
    · simp [SMap.erase, SMap.get, hk, ih]

/-- A read of an index just put in, where the index was absent. -/
theorem SMap.get_ins_self (z : α) (m : SMap α) (k : Nat) (v : α) (h : k ∉ m.map Prod.fst) :
    SMap.get z (SMap.ins m k v) k = v := by
  induction m with
  | nil => simp [SMap.ins, SMap.get]
  | cons e m ih =>
    obtain ⟨a, b⟩ := e
    simp only [List.map_cons, List.mem_cons, not_or] at h
    by_cases hk : k < a
    · simp [SMap.ins, SMap.get, hk]
    · simp [SMap.ins, SMap.get, hk, h.1, ih h.2]

/-- Putting an index in leaves every other index as it was. -/
theorem SMap.get_ins_ne (z : α) (m : SMap α) {k k' : Nat} (v : α) (h : k' ≠ k) :
    SMap.get z (SMap.ins m k v) k' = SMap.get z m k' := by
  induction m with
  | nil => simp [SMap.ins, SMap.get, h]
  | cons e m ih =>
    obtain ⟨a, b⟩ := e
    by_cases hk : k < a
    · simp [SMap.ins, SMap.get, hk, h]
    · by_cases hk' : k' = a
      · simp [SMap.ins, SMap.get, hk, hk']
      · simp [SMap.ins, SMap.get, hk, hk', ih]

/-- The index erased is gone. -/
theorem SMap.not_mem_erase (m : SMap α) (k : Nat) : k ∉ (SMap.erase m k).map Prod.fst := by
  induction m with
  | nil => simp [SMap.erase]
  | cons e m ih =>
    obtain ⟨a, v⟩ := e
    by_cases hk : k = a
    · subst hk; simpa [SMap.erase] using ih
    · simp only [SMap.erase, if_neg hk, List.map_cons, List.mem_cons, not_or]
      exact ⟨hk, ih⟩

/-- A read after a write to the same index gives the value written. -/
@[simp] theorem SMap.get_set_self [DecidableEq α] (z : α) (m : SMap α) (k : Nat) (v : α) :
    SMap.get z (SMap.set z m k v) k = v := by
  unfold SMap.set
  split
  · next h => simp [h]
  · exact SMap.get_ins_self z _ k v (SMap.not_mem_erase m k)

/-- A write leaves every other index as it was. -/
theorem SMap.get_set_ne [DecidableEq α] (z : α) (m : SMap α) {k k' : Nat} (v : α) (h : k' ≠ k) :
    SMap.get z (SMap.set z m k v) k' = SMap.get z m k' := by
  unfold SMap.set
  split
  · exact SMap.get_erase_ne z m h
  · rw [SMap.get_ins_ne z _ v h, SMap.get_erase_ne z m h]

/-- A read after a write, whichever the indices. -/
theorem SMap.get_set [DecidableEq α] (z : α) (m : SMap α) (k k' : Nat) (v : α) :
    SMap.get z (SMap.set z m k v) k' = if k' = k then v else SMap.get z m k' := by
  split
  · next h => subst h; simp
  · next h => exact SMap.get_set_ne z m v h

/-- A changed index reads as the change says. -/
@[simp] theorem SMap.get_upd_self [DecidableEq α] (z : α) (m : SMap α) (k : Nat) (f : α → α) :
    SMap.get z (SMap.upd z m k f) k = f (SMap.get z m k) := by
  simp [SMap.upd]

/-- A change at one index leaves every other index as it was. -/
theorem SMap.get_upd_ne [DecidableEq α] (z : α) (m : SMap α) {k k' : Nat} (f : α → α) (h : k' ≠ k) :
    SMap.get z (SMap.upd z m k f) k' = SMap.get z m k' := by
  simp [SMap.upd, SMap.get_set_ne z m _ h]

/-! The canonical form. -/

/-- A lower bound may be lowered. -/
theorem SMap.risingFrom_mono {lo lo' : Nat} (m : SMap α) (h : lo' ≤ lo) (hm : SMap.risingFrom lo m = true) :
    SMap.risingFrom lo' m = true := by
  cases m with
  | nil => rfl
  | cons e m =>
    obtain ⟨a, v⟩ := e
    simp only [SMap.risingFrom, Bool.and_eq_true, decide_eq_true_eq] at hm ⊢
    exact ⟨by omega, hm.2⟩

/-- Erasing keeps the order. -/
theorem SMap.erase_rising (m : SMap α) (k lo : Nat) (hm : SMap.risingFrom lo m = true) :
    SMap.risingFrom lo (SMap.erase m k) = true := by
  induction m generalizing lo with
  | nil => rfl
  | cons e m ih =>
    obtain ⟨a, v⟩ := e
    simp only [SMap.risingFrom, Bool.and_eq_true, decide_eq_true_eq] at hm
    by_cases hk : k = a
    · simp only [SMap.erase, if_pos hk]
      exact ih lo (SMap.risingFrom_mono m (by omega) hm.2)
    · simp only [SMap.erase, if_neg hk, SMap.risingFrom, Bool.and_eq_true, decide_eq_true_eq]
      exact ⟨hm.1, ih (a + 1) hm.2⟩

/-- Putting in an absent index keeps the order. -/
theorem SMap.ins_rising (m : SMap α) (k lo : Nat) (v : α) (hlo : lo ≤ k) (h : k ∉ m.map Prod.fst)
    (hm : SMap.risingFrom lo m = true) : SMap.risingFrom lo (SMap.ins m k v) = true := by
  induction m generalizing lo with
  | nil => simp [SMap.ins, SMap.risingFrom, hlo]
  | cons e m ih =>
    obtain ⟨a, b⟩ := e
    simp only [List.map_cons, List.mem_cons, not_or] at h
    simp only [SMap.risingFrom, Bool.and_eq_true, decide_eq_true_eq] at hm
    by_cases hk : k < a
    · simp only [SMap.ins, if_pos hk, SMap.risingFrom, Bool.and_eq_true, decide_eq_true_eq]
      exact ⟨hlo, by omega, hm.2⟩
    · simp only [SMap.ins, if_neg hk, SMap.risingFrom, Bool.and_eq_true, decide_eq_true_eq]
      have : k ≠ a := h.1
      exact ⟨hm.1, ih (a + 1) (by omega) h.2 hm.2⟩

/-- The entries of a table with an index put in. -/
theorem SMap.all_ins (p : Nat × α → Bool) (m : SMap α) (k : Nat) (v : α) (hv : p (k, v) = true)
    (hm : m.all p = true) : (SMap.ins m k v).all p = true := by
  induction m with
  | nil => simp [SMap.ins, hv]
  | cons e m ih =>
    obtain ⟨a, b⟩ := e
    simp only [List.all_cons, Bool.and_eq_true] at hm
    by_cases hk : k < a
    · simp [SMap.ins, hk, hv, hm]
    · simp [SMap.ins, hk, hm.1, ih hm.2]

/-- The entries left by an erasure. -/
theorem SMap.all_erase (p : Nat × α → Bool) (m : SMap α) (k : Nat) (hm : m.all p = true) :
    (SMap.erase m k).all p = true := by
  induction m with
  | nil => rfl
  | cons e m ih =>
    obtain ⟨a, b⟩ := e
    simp only [List.all_cons, Bool.and_eq_true] at hm
    by_cases hk : k = a
    · simpa [SMap.erase, hk] using ih hm.2
    · simp [SMap.erase, hk, hm.1, ih hm.2]

/-- Every write keeps the canonical form. -/
theorem SMap.set_wf [DecidableEq α] (z : α) (m : SMap α) (k : Nat) (v : α) (h : SMap.wf z m = true) :
    SMap.wf z (SMap.set z m k v) = true := by
  simp only [SMap.wf, Bool.and_eq_true] at h ⊢
  unfold SMap.set
  split
  · exact ⟨SMap.erase_rising m k 0 h.1, SMap.all_erase _ m k h.2⟩
  · next hv =>
    exact ⟨SMap.ins_rising _ k 0 v (Nat.zero_le k) (SMap.not_mem_erase m k) (SMap.erase_rising m k 0 h.1),
      SMap.all_ins _ _ k v (by simp [hv]) (SMap.all_erase _ m k h.2)⟩

/-- Every change at one index keeps the canonical form. -/
theorem SMap.upd_wf [DecidableEq α] (z : α) (m : SMap α) (k : Nat) (f : α → α) (h : SMap.wf z m = true) :
    SMap.wf z (SMap.upd z m k f) = true := SMap.set_wf z m k _ h

/-- An index below the lower bound is not listed. -/
theorem SMap.get_below (z : α) (m : SMap α) (lo k : Nat) (hk : k < lo) (hm : SMap.risingFrom lo m = true) :
    SMap.get z m k = z := by
  induction m generalizing lo with
  | nil => rfl
  | cons e m ih =>
    obtain ⟨a, v⟩ := e
    simp only [SMap.risingFrom, Bool.and_eq_true, decide_eq_true_eq] at hm
    have : k ≠ a := by omega
    simp only [SMap.get, if_neg this]
    exact ih (a + 1) (by omega) hm.2

/-- Two tables in canonical form that read the same at every index are the same table. -/
theorem SMap.ext_of_wf [DecidableEq α] (z : α) (m n : SMap α) (hm : SMap.wf z m = true) (hn : SMap.wf z n = true)
    (h : ∀ k, SMap.get z m k = SMap.get z n k) : m = n := by
  simp only [SMap.wf, Bool.and_eq_true] at hm hn
  obtain ⟨hmr, hma⟩ := hm
  obtain ⟨hnr, hna⟩ := hn
  generalize hl : (0 : Nat) = lo at hmr hnr
  clear hl
  induction m generalizing n lo with
  | nil =>
    cases n with
    | nil => rfl
    | cons e n =>
      obtain ⟨b, w⟩ := e
      have := h b
      simp only [List.all_cons, Bool.and_eq_true, decide_eq_true_eq] at hna
      simp [SMap.get] at this
      exact absurd this.symm hna.1
  | cons e m ih =>
    obtain ⟨a, v⟩ := e
    simp only [SMap.risingFrom, Bool.and_eq_true, decide_eq_true_eq] at hmr
    simp only [List.all_cons, Bool.and_eq_true, decide_eq_true_eq] at hma
    cases n with
    | nil =>
      have := h a
      simp [SMap.get] at this
      exact absurd this hma.1
    | cons e' n =>
      obtain ⟨b, w⟩ := e'
      simp only [SMap.risingFrom, Bool.and_eq_true, decide_eq_true_eq] at hnr
      simp only [List.all_cons, Bool.and_eq_true, decide_eq_true_eq] at hna
      have hab : a = b := by
        rcases Nat.lt_trichotomy a b with hlt | heq | hgt
        · have := h a
          have hne : a ≠ b := by omega
          simp only [SMap.get, if_true, if_neg hne] at this
          rw [SMap.get_below z n (b + 1) a (by omega) hnr.2] at this
          exact absurd this hma.1
        · exact heq
        · have := h b
          have hne : b ≠ a := by omega
          simp only [SMap.get, if_true, if_neg hne] at this
          rw [SMap.get_below z m (a + 1) b (by omega) hmr.2] at this
          exact absurd this.symm hna.1
      subst hab
      have hvw : v = w := by simpa [SMap.get] using h a
      subst hvw
      refine congrArg _ (ih n (fun k => ?_) hma.2 hna.2 (a + 1) hmr.2 hnr.2)
      by_cases hk : k = a
      · subst hk
        rw [SMap.get_below z m (k + 1) k (by omega) hmr.2, SMap.get_below z n (k + 1) k (by omega) hnr.2]
      · simpa [SMap.get, hk] using h k

end Sys2Proof
end

