-- ==== Sys2Proof/Laws/Registers.lean ====
section
/-! SUPPORT. The laws of registers and their fields: a read after a write, bit by bit. -/

namespace Sys2Proof

/-! Registers at different addresses. -/

/-- The stride that counts: none where there is one instance. -/
def strideOf (s n : Nat) : Nat := if n ≤ 1 then 0 else s

/-- The greatest common divisor of the strides of two registers. -/
def Reg.grid (r r' : Reg) : Nat :=
  Nat.gcd (Nat.gcd (strideOf r.s1 r.n1) (strideOf r.s2 r.n2)) (Nat.gcd (strideOf r'.s1 r'.n1) (strideOf r'.s2 r'.n2))

/-- The highest address of a register. -/
def Reg.last (r : Reg) : Nat := r.base + (r.n1 - 1) * r.s1 + (r.n2 - 1) * r.s2

/-- Two registers that share no address, by their ranges or by their places on the grid of their strides. -/
def Reg.apart (r r' : Reg) : Bool :=
  decide (r.last < r'.base) || decide (r'.last < r.base) || decide (r.base % r.grid r' ≠ r'.base % r.grid r')

/-- An address lies within its register's range. -/
theorem Reg.addr_le_last (r : Reg) (i j : Nat) (h : i < r.n1 ∧ j < r.n2) : r.addr i j ≤ r.last := by
  unfold Reg.addr Reg.last
  have h1 : i * r.s1 ≤ (r.n1 - 1) * r.s1 := Nat.mul_le_mul_right _ (by omega)
  have h2 : j * r.s2 ≤ (r.n2 - 1) * r.s2 := Nat.mul_le_mul_right _ (by omega)
  omega

/-- A grid that divides the strides sees only the base. -/
theorem Reg.addr_mod (r : Reg) (i j g : Nat) (h : i < r.n1 ∧ j < r.n2) (h1 : g ∣ strideOf r.s1 r.n1)
    (h2 : g ∣ strideOf r.s2 r.n2) : r.addr i j % g = r.base % g := by
  have ha : g ∣ i * r.s1 := by
    unfold strideOf at h1
    split at h1
    · have : i = 0 := by omega
      simp [this]
    · exact Dvd.dvd.mul_left h1 i
  have hb : g ∣ j * r.s2 := by
    unfold strideOf at h2
    split at h2
    · have : j = 0 := by omega
      simp [this]
    · exact Dvd.dvd.mul_left h2 j
  unfold Reg.addr
  obtain ⟨x, hx⟩ := ha
  obtain ⟨y, hy⟩ := hb
  rw [hx, hy, Nat.add_mul_mod_self_left, Nat.add_mul_mod_self_left]

/-- Registers apart share no address. -/
theorem Reg.addr_ne_of_apart {r r' : Reg} (h : r.apart r' = true) {i j i' j' : Nat} (hr : i < r.n1 ∧ j < r.n2)
    (hr' : i' < r'.n1 ∧ j' < r'.n2) : r'.addr i' j' ≠ r.addr i j := by
  have hl := Reg.addr_le_last r i j hr
  have hl' := Reg.addr_le_last r' i' j' hr'
  have hb : r.base ≤ r.addr i j := by unfold Reg.addr; omega
  have hb' : r'.base ≤ r'.addr i' j' := by unfold Reg.addr; omega
  simp only [Reg.apart, Bool.or_eq_true, decide_eq_true_eq] at h
  rcases h with (h | h) | h
  · omega
  · omega
  · intro he
    have hg1 : r.grid r' ∣ Nat.gcd (strideOf r.s1 r.n1) (strideOf r.s2 r.n2) := Nat.gcd_dvd_left _ _
    have hg2 : r.grid r' ∣ Nat.gcd (strideOf r'.s1 r'.n1) (strideOf r'.s2 r'.n2) := Nat.gcd_dvd_right _ _
    have h1 := Reg.addr_mod r i j _ hr (hg1.trans (Nat.gcd_dvd_left _ _)) (hg1.trans (Nat.gcd_dvd_right _ _))
    have h2 := Reg.addr_mod r' i' j' _ hr' (hg2.trans (Nat.gcd_dvd_left _ _)) (hg2.trans (Nat.gcd_dvd_right _ _))
    rw [he] at h2
    exact h (h1.symm.trans h2)

end Sys2Proof

namespace Sys2Proof.Machine

/-- Every operation on registers is a write of one word. -/
theorem Dev.put_regs_get (d : Dev) (r : Reg) (w : Word) (i j a : Nat) :
    SMap.get 0 (d.put r w i j).regs a =
      if (i < r.n1 ∧ j < r.n2) ∧ a = r.addr i j then w ^^^ r.reset i j else SMap.get 0 d.regs a := by
  unfold Dev.put
  split
  · next h => simp [SMap.get_set, h]
  · next h => simp [h]

/-- A register reads as the word written to it. -/
@[simp] theorem Dev.word_put_self (d : Dev) (r : Reg) (w : Word) (i j : Nat) (h : i < r.n1 ∧ j < r.n2) :
    (d.put r w i j).word r i j = w := by
  have hg := Dev.put_regs_get d r w i j (r.addr i j)
  rw [if_pos ⟨h, rfl⟩] at hg
  rw [Dev.word, if_pos h, hg, BitVec.xor_assoc, BitVec.xor_self, BitVec.xor_zero]

/-- A write leaves a register at another address as it was. -/
theorem Dev.word_put_ne (d : Dev) (r r' : Reg) (w : Word) (i j i' j' : Nat) (h : r'.addr i' j' ≠ r.addr i j) :
    (d.put r w i j).word r' i' j' = d.word r' i' j' := by
  have hg := Dev.put_regs_get d r w i j (r'.addr i' j')
  rw [if_neg (fun hc => h hc.2)] at hg
  rw [Dev.word, Dev.word, hg]

/-- A register that is not at the address written keeps its word; the premise is asked only where both instances exist. -/
theorem Dev.word_put_other (d : Dev) (r r' : Reg) (w : Word) (i j i' j' : Nat)
    (h : i < r.n1 → j < r.n2 → i' < r'.n1 → j' < r'.n2 → r'.addr i' j' ≠ r.addr i j) :
    (d.put r w i j).word r' i' j' = d.word r' i' j' := by
  by_cases hr' : i' < r'.n1 ∧ j' < r'.n2
  · by_cases hr : i < r.n1 ∧ j < r.n2
    · exact Dev.word_put_ne d r r' w i j i' j' (h hr.1 hr.2 hr'.1 hr'.2)
    · simp [Dev.put, hr]
  · simp [Dev.word, hr']

/-- A word as its table entry. -/
theorem Dev.word_congr {d d' : Dev} (r : Reg) (i j : Nat) (h : d'.regs = d.regs) : d'.word r i j = d.word r i j := by
  simp [Dev.word, h]

/-! Bits of a word. -/

/-- A bit of the mask of a field. -/
theorem fieldMask_getLsbD (hi lo k : Nat) (hk : k < 32) :
    (fieldMask hi lo).getLsbD k = (decide (lo ≤ k) && decide (k < hi + 1)) := by
  simp only [fieldMask, BitVec.getLsbD_ofNat, Nat.testBit_shiftLeft, Nat.testBit_two_pow_sub_one, hk, decide_true,
    Bool.true_and, ge_iff_le]
  by_cases h1 : lo ≤ k <;> simp [h1]
  omega

/-- A bit of a word with a field replaced. -/
theorem setBits_getLsbD (w : Word) (hi lo v k : Nat) (hk : k < 32) :
    (setBits w hi lo v).getLsbD k =
      if lo ≤ k ∧ k < hi + 1 then v.testBit (k - lo) else w.getLsbD k := by
  simp only [setBits, BitVec.getLsbD_or, BitVec.getLsbD_and, BitVec.getLsbD_not, fieldMask_getLsbD hi lo k hk, hk,
    decide_true, Bool.true_and, BitVec.getLsbD_ofNat, Nat.testBit_shiftLeft, ge_iff_le]
  by_cases h1 : lo ≤ k <;> by_cases h2 : k < hi + 1 <;> simp [h1, h2]

/-- A field reads as the value written to it, cut to its width. -/
theorem getBits_setBits_self (w : Word) (hi lo v : Nat) (h32 : hi < 32) :
    getBits (setBits w hi lo v) hi lo = v % 2 ^ (hi + 1 - lo) := by
  unfold getBits
  rw [← BitVec.toNat_ofNat]
  refine congrArg BitVec.toNat (BitVec.eq_of_getLsbD_eq fun k hk => ?_)
  rw [BitVec.getLsbD_extractLsb', setBits_getLsbD w hi lo v (lo + k) (by omega), if_pos (by omega), BitVec.getLsbD_ofNat,
    Nat.add_sub_cancel_left]

/-- A field reads the same after a write to another field of the word. -/
theorem getBits_setBits_other (w : Word) (hi lo hi' lo' v : Nat) (h32 : hi' < 32)
    (hd : hi < lo' ∨ hi' < lo) : getBits (setBits w hi lo v) hi' lo' = getBits w hi' lo' := by
  unfold getBits
  refine congrArg BitVec.toNat (BitVec.eq_of_getLsbD_eq fun k hk => ?_)
  rw [BitVec.getLsbD_extractLsb', BitVec.getLsbD_extractLsb', setBits_getLsbD w hi lo v (lo' + k) (by omega),
    if_neg (by omega)]

/-- A field's value fits its width. -/
theorem getBits_lt (w : Word) (hi lo : Nat) : getBits w hi lo < 2 ^ (hi + 1 - lo) := (w.extractLsb' lo (hi + 1 - lo)).isLt

/-! Fields. -/

/-- A field of an instance that exists reads as the value set, cut to its width. -/
theorem Dev.get_set_self (d : Dev) (f : Fld) (v i j : Nat) (hij : i < f.reg.n1 ∧ j < f.reg.n2)
    (h32 : f.hi < 32) : (d.set f v i j).get f i j = v % 2 ^ (f.hi + 1 - f.lo) := by
  simp [Dev.get, Dev.set, Dev.word_put_self _ _ _ _ _ hij, getBits_setBits_self _ _ _ _ h32]

/-- A field at another address keeps its value. -/
theorem Dev.get_put_other (d : Dev) (r : Reg) (f : Fld) (w : Word) (i j i' j' : Nat)
    (h : i < r.n1 → j < r.n2 → i' < f.reg.n1 → j' < f.reg.n2 → f.reg.addr i' j' ≠ r.addr i j) :
    (d.put r w i j).get f i' j' = d.get f i' j' := by
  simp [Dev.get, Dev.word_put_other d r f.reg w i j i' j' h]

/-- Two fields of one word keep out of each other's way. -/
theorem Dev.get_set_field (d : Dev) (f g : Fld) (v i j : Nat) (hr : g.reg = f.reg)
    (h32 : g.hi < 32) (hd : f.hi < g.lo ∨ g.hi < f.lo) : (d.set f v i j).get g i j = d.get g i j := by
  unfold Dev.get Dev.set
  rw [hr]
  by_cases hij : i < f.reg.n1 ∧ j < f.reg.n2
  · rw [Dev.word_put_self _ _ _ _ _ hij, getBits_setBits_other _ _ _ _ _ _ h32 hd]
  · simp [Dev.put, hij]

/-- A write leaves a register apart from it as it was. -/
theorem Dev.word_put_apart (d : Dev) {r r' : Reg} (w : Word) (i j i' j' : Nat) (h : r.apart r' = true) :
    (d.put r w i j).word r' i' j' = d.word r' i' j' :=
  Dev.word_put_other d r r' w i j i' j' fun a b c e => Reg.addr_ne_of_apart h ⟨a, b⟩ ⟨c, e⟩

/-- A write leaves another instance of the register as it was, where instances do not overlap. -/
theorem Dev.word_put_inst (d : Dev) (r : Reg) (w : Word) (i j i' j' : Nat) (h : r.addr i' j' ≠ r.addr i j) :
    (d.put r w i j).word r i' j' = d.word r i' j' := Dev.word_put_ne d r r w i j i' j' h

end Sys2Proof.Machine
end

