-- ==== Sys2Proof/Laws/State.lean ====
section
/-! SUPPORT. What the shared operations leave as it was: one lemma per operation and part of the state, and the laws of
`State.run` and of the queue. -/

namespace Sys2Proof.Machine

/-! A write of a register word changes `regs` alone. -/

@[simp] theorem Dev.put_tbl (d : Dev) (r : Reg) (w : Word) (i j : Nat) : (d.put r w i j).tbl = d.tbl := by
  unfold Dev.put; split <;> rfl
@[simp] theorem Dev.put_tim (d : Dev) (r : Reg) (w : Word) (i j : Nat) : (d.put r w i j).tim = d.tim := by
  unfold Dev.put; split <;> rfl
@[simp] theorem Dev.put_thy (d : Dev) (r : Reg) (w : Word) (i j : Nat) : (d.put r w i j).thy = d.thy := by
  unfold Dev.put; split <;> rfl
@[simp] theorem Dev.put_evt (d : Dev) (r : Reg) (w : Word) (i j : Nat) : (d.put r w i j).evt = d.evt := by
  unfold Dev.put; split <;> rfl
@[simp] theorem Dev.put_tamp (d : Dev) (r : Reg) (w : Word) (i j : Nat) : (d.put r w i j).tamp = d.tamp := by
  unfold Dev.put; split <;> rfl
@[simp] theorem Dev.put_rsm (d : Dev) (r : Reg) (w : Word) (i j : Nat) : (d.put r w i j).rsm = d.rsm := by
  unfold Dev.put; split <;> rfl
@[simp] theorem Dev.put_rst (d : Dev) (r : Reg) (w : Word) (i j : Nat) : (d.put r w i j).rst = d.rst := by
  unfold Dev.put; split <;> rfl
@[simp] theorem Dev.put_pwr (d : Dev) (r : Reg) (w : Word) (i j : Nat) : (d.put r w i j).pwr = d.pwr := by
  unfold Dev.put; split <;> rfl
@[simp] theorem Dev.put_fuse (d : Dev) (r : Reg) (w : Word) (i j : Nat) : (d.put r w i j).fuse = d.fuse := by
  unfold Dev.put; split <;> rfl
@[simp] theorem Dev.put_mgmt (d : Dev) (r : Reg) (w : Word) (i j : Nat) : (d.put r w i j).mgmt = d.mgmt := by
  unfold Dev.put; split <;> rfl
@[simp] theorem Dev.put_mon (d : Dev) (r : Reg) (w : Word) (i j : Nat) : (d.put r w i j).mon = d.mon := by
  unfold Dev.put; split <;> rfl
@[simp] theorem Dev.put_fe (d : Dev) (r : Reg) (w : Word) (i j : Nat) : (d.put r w i j).fe = d.fe := by
  unfold Dev.put; split <;> rfl
@[simp] theorem Dev.put_sat (d : Dev) (r : Reg) (w : Word) (i j : Nat) : (d.put r w i j).sat = d.sat := by
  unfold Dev.put; split <;> rfl
@[simp] theorem Dev.put_cip (d : Dev) (r : Reg) (w : Word) (i j : Nat) : (d.put r w i j).cip = d.cip := by
  unfold Dev.put; split <;> rfl
@[simp] theorem Dev.put_lrn (d : Dev) (r : Reg) (w : Word) (i j : Nat) : (d.put r w i j).lrn = d.lrn := by
  unfold Dev.put; split <;> rfl
@[simp] theorem Dev.put_sch (d : Dev) (r : Reg) (w : Word) (i j : Nat) : (d.put r w i j).sch = d.sch := by
  unfold Dev.put; split <;> rfl
@[simp] theorem Dev.put_bay (d : Dev) (r : Reg) (w : Word) (i j : Nat) : (d.put r w i j).bay = d.bay := by
  unfold Dev.put; split <;> rfl
@[simp] theorem Dev.put_env (d : Dev) (r : Reg) (w : Word) (i j : Nat) : (d.put r w i j).env = d.env := by
  unfold Dev.put; split <;> rfl
@[simp] theorem Dev.put_mrg (d : Dev) (r : Reg) (w : Word) (i j : Nat) : (d.put r w i j).mrg = d.mrg := by
  unfold Dev.put; split <;> rfl
@[simp] theorem Dev.put_port (d : Dev) (r : Reg) (w : Word) (i j : Nat) : (d.put r w i j).port = d.port := by
  unfold Dev.put; split <;> rfl
@[simp] theorem Dev.put_mint (d : Dev) (r : Reg) (w : Word) (i j : Nat) : (d.put r w i j).mint = d.mint := by
  unfold Dev.put; split <;> rfl
@[simp] theorem Dev.put_fleet (d : Dev) (r : Reg) (w : Word) (i j : Nat) : (d.put r w i j).fleet = d.fleet := by
  unfold Dev.put; split <;> rfl
@[simp] theorem Dev.put_sage (d : Dev) (r : Reg) (w : Word) (i j : Nat) : (d.put r w i j).sage = d.sage := by
  unfold Dev.put; split <;> rfl
@[simp] theorem Dev.put_flash (d : Dev) (r : Reg) (w : Word) (i j : Nat) : (d.put r w i j).flash = d.flash := by
  unfold Dev.put; split <;> rfl
@[simp] theorem Dev.put_out (d : Dev) (r : Reg) (w : Word) (i j : Nat) : (d.put r w i j).out = d.out := by
  unfold Dev.put; split <;> rfl
@[simp] theorem Dev.put_free (d : Dev) (r : Reg) (w : Word) (i j : Nat) : (d.put r w i j).free = d.free := by
  unfold Dev.put; split <;> rfl

/-! Time that passes changes `tim` alone. -/

@[simp] theorem Dev.advance_regs (d : Dev) (t : Nat) : (d.advance t).regs = d.regs := by
  unfold Dev.advance; split <;> rfl
@[simp] theorem Dev.advance_tbl (d : Dev) (t : Nat) : (d.advance t).tbl = d.tbl := by
  unfold Dev.advance; split <;> rfl
@[simp] theorem Dev.advance_thy (d : Dev) (t : Nat) : (d.advance t).thy = d.thy := by
  unfold Dev.advance; split <;> rfl
@[simp] theorem Dev.advance_evt (d : Dev) (t : Nat) : (d.advance t).evt = d.evt := by
  unfold Dev.advance; split <;> rfl
@[simp] theorem Dev.advance_tamp (d : Dev) (t : Nat) : (d.advance t).tamp = d.tamp := by
  unfold Dev.advance; split <;> rfl
@[simp] theorem Dev.advance_rsm (d : Dev) (t : Nat) : (d.advance t).rsm = d.rsm := by
  unfold Dev.advance; split <;> rfl
@[simp] theorem Dev.advance_rst (d : Dev) (t : Nat) : (d.advance t).rst = d.rst := by
  unfold Dev.advance; split <;> rfl
@[simp] theorem Dev.advance_pwr (d : Dev) (t : Nat) : (d.advance t).pwr = d.pwr := by
  unfold Dev.advance; split <;> rfl
@[simp] theorem Dev.advance_fuse (d : Dev) (t : Nat) : (d.advance t).fuse = d.fuse := by
  unfold Dev.advance; split <;> rfl
@[simp] theorem Dev.advance_mgmt (d : Dev) (t : Nat) : (d.advance t).mgmt = d.mgmt := by
  unfold Dev.advance; split <;> rfl
@[simp] theorem Dev.advance_mon (d : Dev) (t : Nat) : (d.advance t).mon = d.mon := by
  unfold Dev.advance; split <;> rfl
@[simp] theorem Dev.advance_fe (d : Dev) (t : Nat) : (d.advance t).fe = d.fe := by
  unfold Dev.advance; split <;> rfl
@[simp] theorem Dev.advance_sat (d : Dev) (t : Nat) : (d.advance t).sat = d.sat := by
  unfold Dev.advance; split <;> rfl
@[simp] theorem Dev.advance_cip (d : Dev) (t : Nat) : (d.advance t).cip = d.cip := by
  unfold Dev.advance; split <;> rfl
@[simp] theorem Dev.advance_lrn (d : Dev) (t : Nat) : (d.advance t).lrn = d.lrn := by
  unfold Dev.advance; split <;> rfl
@[simp] theorem Dev.advance_sch (d : Dev) (t : Nat) : (d.advance t).sch = d.sch := by
  unfold Dev.advance; split <;> rfl
@[simp] theorem Dev.advance_bay (d : Dev) (t : Nat) : (d.advance t).bay = d.bay := by
  unfold Dev.advance; split <;> rfl
@[simp] theorem Dev.advance_env (d : Dev) (t : Nat) : (d.advance t).env = d.env := by
  unfold Dev.advance; split <;> rfl
@[simp] theorem Dev.advance_mrg (d : Dev) (t : Nat) : (d.advance t).mrg = d.mrg := by
  unfold Dev.advance; split <;> rfl
@[simp] theorem Dev.advance_port (d : Dev) (t : Nat) : (d.advance t).port = d.port := by
  unfold Dev.advance; split <;> rfl
@[simp] theorem Dev.advance_mint (d : Dev) (t : Nat) : (d.advance t).mint = d.mint := by
  unfold Dev.advance; split <;> rfl
@[simp] theorem Dev.advance_fleet (d : Dev) (t : Nat) : (d.advance t).fleet = d.fleet := by
  unfold Dev.advance; split <;> rfl
@[simp] theorem Dev.advance_sage (d : Dev) (t : Nat) : (d.advance t).sage = d.sage := by
  unfold Dev.advance; split <;> rfl
@[simp] theorem Dev.advance_flash (d : Dev) (t : Nat) : (d.advance t).flash = d.flash := by
  unfold Dev.advance; split <;> rfl
@[simp] theorem Dev.advance_out (d : Dev) (t : Nat) : (d.advance t).out = d.out := by
  unfold Dev.advance; split <;> rfl
@[simp] theorem Dev.advance_free (d : Dev) (t : Nat) : (d.advance t).free = d.free := by
  unfold Dev.advance; split <;> rfl

/-- The clock stands at the later of the two instants. -/
@[simp] theorem Dev.advance_clk (d : Dev) (t : Nat) : (d.advance t).tim.clk = max d.tim.clk t := by
  unfold Dev.advance; split
  · next h => simp; omega
  · next h => simp; omega

/-! An event raised changes `regs` and `evt` alone. -/

@[simp] theorem Dev.raise_tbl (d : Dev) (e : Ev) (i : Nat) : (d.raise e i).tbl = d.tbl := by
  unfold Dev.raise; split
  · simp [Dev.occur, Dev.setBit]
  · split <;> simp [Dev.occur]
@[simp] theorem Dev.raise_tim (d : Dev) (e : Ev) (i : Nat) : (d.raise e i).tim = d.tim := by
  unfold Dev.raise; split
  · simp [Dev.occur, Dev.setBit]
  · split <;> simp [Dev.occur]
@[simp] theorem Dev.raise_thy (d : Dev) (e : Ev) (i : Nat) : (d.raise e i).thy = d.thy := by
  unfold Dev.raise; split
  · simp [Dev.occur, Dev.setBit]
  · split <;> simp [Dev.occur]
@[simp] theorem Dev.raise_tamp (d : Dev) (e : Ev) (i : Nat) : (d.raise e i).tamp = d.tamp := by
  unfold Dev.raise; split
  · simp [Dev.occur, Dev.setBit]
  · split <;> simp [Dev.occur]
@[simp] theorem Dev.raise_rsm (d : Dev) (e : Ev) (i : Nat) : (d.raise e i).rsm = d.rsm := by
  unfold Dev.raise; split
  · simp [Dev.occur, Dev.setBit]
  · split <;> simp [Dev.occur]
@[simp] theorem Dev.raise_rst (d : Dev) (e : Ev) (i : Nat) : (d.raise e i).rst = d.rst := by
  unfold Dev.raise; split
  · simp [Dev.occur, Dev.setBit]
  · split <;> simp [Dev.occur]
@[simp] theorem Dev.raise_pwr (d : Dev) (e : Ev) (i : Nat) : (d.raise e i).pwr = d.pwr := by
  unfold Dev.raise; split
  · simp [Dev.occur, Dev.setBit]
  · split <;> simp [Dev.occur]
@[simp] theorem Dev.raise_fuse (d : Dev) (e : Ev) (i : Nat) : (d.raise e i).fuse = d.fuse := by
  unfold Dev.raise; split
  · simp [Dev.occur, Dev.setBit]
  · split <;> simp [Dev.occur]
@[simp] theorem Dev.raise_mgmt (d : Dev) (e : Ev) (i : Nat) : (d.raise e i).mgmt = d.mgmt := by
  unfold Dev.raise; split
  · simp [Dev.occur, Dev.setBit]
  · split <;> simp [Dev.occur]
@[simp] theorem Dev.raise_mon (d : Dev) (e : Ev) (i : Nat) : (d.raise e i).mon = d.mon := by
  unfold Dev.raise; split
  · simp [Dev.occur, Dev.setBit]
  · split <;> simp [Dev.occur]
@[simp] theorem Dev.raise_fe (d : Dev) (e : Ev) (i : Nat) : (d.raise e i).fe = d.fe := by
  unfold Dev.raise; split
  · simp [Dev.occur, Dev.setBit]
  · split <;> simp [Dev.occur]
@[simp] theorem Dev.raise_sat (d : Dev) (e : Ev) (i : Nat) : (d.raise e i).sat = d.sat := by
  unfold Dev.raise; split
  · simp [Dev.occur, Dev.setBit]
  · split <;> simp [Dev.occur]
@[simp] theorem Dev.raise_cip (d : Dev) (e : Ev) (i : Nat) : (d.raise e i).cip = d.cip := by
  unfold Dev.raise; split
  · simp [Dev.occur, Dev.setBit]
  · split <;> simp [Dev.occur]
@[simp] theorem Dev.raise_lrn (d : Dev) (e : Ev) (i : Nat) : (d.raise e i).lrn = d.lrn := by
  unfold Dev.raise; split
  · simp [Dev.occur, Dev.setBit]
  · split <;> simp [Dev.occur]
@[simp] theorem Dev.raise_sch (d : Dev) (e : Ev) (i : Nat) : (d.raise e i).sch = d.sch := by
  unfold Dev.raise; split
  · simp [Dev.occur, Dev.setBit]
  · split <;> simp [Dev.occur]
@[simp] theorem Dev.raise_bay (d : Dev) (e : Ev) (i : Nat) : (d.raise e i).bay = d.bay := by
  unfold Dev.raise; split
  · simp [Dev.occur, Dev.setBit]
  · split <;> simp [Dev.occur]
@[simp] theorem Dev.raise_env (d : Dev) (e : Ev) (i : Nat) : (d.raise e i).env = d.env := by
  unfold Dev.raise; split
  · simp [Dev.occur, Dev.setBit]
  · split <;> simp [Dev.occur]
@[simp] theorem Dev.raise_mrg (d : Dev) (e : Ev) (i : Nat) : (d.raise e i).mrg = d.mrg := by
  unfold Dev.raise; split
  · simp [Dev.occur, Dev.setBit]
  · split <;> simp [Dev.occur]
@[simp] theorem Dev.raise_port (d : Dev) (e : Ev) (i : Nat) : (d.raise e i).port = d.port := by
  unfold Dev.raise; split
  · simp [Dev.occur, Dev.setBit]
  · split <;> simp [Dev.occur]
@[simp] theorem Dev.raise_mint (d : Dev) (e : Ev) (i : Nat) : (d.raise e i).mint = d.mint := by
  unfold Dev.raise; split
  · simp [Dev.occur, Dev.setBit]
  · split <;> simp [Dev.occur]
@[simp] theorem Dev.raise_fleet (d : Dev) (e : Ev) (i : Nat) : (d.raise e i).fleet = d.fleet := by
  unfold Dev.raise; split
  · simp [Dev.occur, Dev.setBit]
  · split <;> simp [Dev.occur]
@[simp] theorem Dev.raise_sage (d : Dev) (e : Ev) (i : Nat) : (d.raise e i).sage = d.sage := by
  unfold Dev.raise; split
  · simp [Dev.occur, Dev.setBit]
  · split <;> simp [Dev.occur]
@[simp] theorem Dev.raise_flash (d : Dev) (e : Ev) (i : Nat) : (d.raise e i).flash = d.flash := by
  unfold Dev.raise; split
  · simp [Dev.occur, Dev.setBit]
  · split <;> simp [Dev.occur]
@[simp] theorem Dev.raise_out (d : Dev) (e : Ev) (i : Nat) : (d.raise e i).out = d.out := by
  unfold Dev.raise; split
  · simp [Dev.occur, Dev.setBit]
  · split <;> simp [Dev.occur]
@[simp] theorem Dev.raise_free (d : Dev) (e : Ev) (i : Nat) : (d.raise e i).free = d.free := by
  unfold Dev.raise; split
  · simp [Dev.occur, Dev.setBit]
  · split <;> simp [Dev.occur]

/-! A counted event changes `mon`, `regs` and `evt` alone. -/

@[simp] theorem Dev.countOne_tbl (d : Dev) (u i code : Nat) (e : Seen) : (d.countOne u i code e).tbl = d.tbl := by
  unfold Dev.countOne; dsimp only; repeat' split
  all_goals simp [Dev.bump, Dev.putNum, Dev.setBit]
@[simp] theorem Dev.count_tbl (d : Dev) (u code : Nat) (e : Seen) : (d.count u code e).tbl = d.tbl := by
  unfold Dev.count
  induction List.range (unitCounters u) generalizing d with
  | nil => rfl
  | cons i l ih => simp [ih]
@[simp] theorem Dev.access_tbl (d : Dev) (m : Master) (a : Nat) (w : Bool) : (d.access m a w).tbl = d.tbl := by
  simp [Dev.access]
@[simp] theorem Dev.countOne_tim (d : Dev) (u i code : Nat) (e : Seen) : (d.countOne u i code e).tim = d.tim := by
  unfold Dev.countOne; dsimp only; repeat' split
  all_goals simp [Dev.bump, Dev.putNum, Dev.setBit]
@[simp] theorem Dev.count_tim (d : Dev) (u code : Nat) (e : Seen) : (d.count u code e).tim = d.tim := by
  unfold Dev.count
  induction List.range (unitCounters u) generalizing d with
  | nil => rfl
  | cons i l ih => simp [ih]
@[simp] theorem Dev.access_tim (d : Dev) (m : Master) (a : Nat) (w : Bool) : (d.access m a w).tim = d.tim := by
  simp [Dev.access]
@[simp] theorem Dev.countOne_thy (d : Dev) (u i code : Nat) (e : Seen) : (d.countOne u i code e).thy = d.thy := by
  unfold Dev.countOne; dsimp only; repeat' split
  all_goals simp [Dev.bump, Dev.putNum, Dev.setBit]
@[simp] theorem Dev.count_thy (d : Dev) (u code : Nat) (e : Seen) : (d.count u code e).thy = d.thy := by
  unfold Dev.count
  induction List.range (unitCounters u) generalizing d with
  | nil => rfl
  | cons i l ih => simp [ih]
@[simp] theorem Dev.access_thy (d : Dev) (m : Master) (a : Nat) (w : Bool) : (d.access m a w).thy = d.thy := by
  simp [Dev.access]
@[simp] theorem Dev.countOne_tamp (d : Dev) (u i code : Nat) (e : Seen) : (d.countOne u i code e).tamp = d.tamp := by
  unfold Dev.countOne; dsimp only; repeat' split
  all_goals simp [Dev.bump, Dev.putNum, Dev.setBit]
@[simp] theorem Dev.count_tamp (d : Dev) (u code : Nat) (e : Seen) : (d.count u code e).tamp = d.tamp := by
  unfold Dev.count
  induction List.range (unitCounters u) generalizing d with
  | nil => rfl
  | cons i l ih => simp [ih]
@[simp] theorem Dev.access_tamp (d : Dev) (m : Master) (a : Nat) (w : Bool) : (d.access m a w).tamp = d.tamp := by
  simp [Dev.access]
@[simp] theorem Dev.countOne_rsm (d : Dev) (u i code : Nat) (e : Seen) : (d.countOne u i code e).rsm = d.rsm := by
  unfold Dev.countOne; dsimp only; repeat' split
  all_goals simp [Dev.bump, Dev.putNum, Dev.setBit]
@[simp] theorem Dev.count_rsm (d : Dev) (u code : Nat) (e : Seen) : (d.count u code e).rsm = d.rsm := by
  unfold Dev.count
  induction List.range (unitCounters u) generalizing d with
  | nil => rfl
  | cons i l ih => simp [ih]
@[simp] theorem Dev.access_rsm (d : Dev) (m : Master) (a : Nat) (w : Bool) : (d.access m a w).rsm = d.rsm := by
  simp [Dev.access]
@[simp] theorem Dev.countOne_rst (d : Dev) (u i code : Nat) (e : Seen) : (d.countOne u i code e).rst = d.rst := by
  unfold Dev.countOne; dsimp only; repeat' split
  all_goals simp [Dev.bump, Dev.putNum, Dev.setBit]
@[simp] theorem Dev.count_rst (d : Dev) (u code : Nat) (e : Seen) : (d.count u code e).rst = d.rst := by
  unfold Dev.count
  induction List.range (unitCounters u) generalizing d with
  | nil => rfl
  | cons i l ih => simp [ih]
@[simp] theorem Dev.access_rst (d : Dev) (m : Master) (a : Nat) (w : Bool) : (d.access m a w).rst = d.rst := by
  simp [Dev.access]
@[simp] theorem Dev.countOne_pwr (d : Dev) (u i code : Nat) (e : Seen) : (d.countOne u i code e).pwr = d.pwr := by
  unfold Dev.countOne; dsimp only; repeat' split
  all_goals simp [Dev.bump, Dev.putNum, Dev.setBit]
@[simp] theorem Dev.count_pwr (d : Dev) (u code : Nat) (e : Seen) : (d.count u code e).pwr = d.pwr := by
  unfold Dev.count
  induction List.range (unitCounters u) generalizing d with
  | nil => rfl
  | cons i l ih => simp [ih]
@[simp] theorem Dev.access_pwr (d : Dev) (m : Master) (a : Nat) (w : Bool) : (d.access m a w).pwr = d.pwr := by
  simp [Dev.access]
@[simp] theorem Dev.countOne_fuse (d : Dev) (u i code : Nat) (e : Seen) : (d.countOne u i code e).fuse = d.fuse := by
  unfold Dev.countOne; dsimp only; repeat' split
  all_goals simp [Dev.bump, Dev.putNum, Dev.setBit]
@[simp] theorem Dev.count_fuse (d : Dev) (u code : Nat) (e : Seen) : (d.count u code e).fuse = d.fuse := by
  unfold Dev.count
  induction List.range (unitCounters u) generalizing d with
  | nil => rfl
  | cons i l ih => simp [ih]
@[simp] theorem Dev.access_fuse (d : Dev) (m : Master) (a : Nat) (w : Bool) : (d.access m a w).fuse = d.fuse := by
  simp [Dev.access]
@[simp] theorem Dev.countOne_mgmt (d : Dev) (u i code : Nat) (e : Seen) : (d.countOne u i code e).mgmt = d.mgmt := by
  unfold Dev.countOne; dsimp only; repeat' split
  all_goals simp [Dev.bump, Dev.putNum, Dev.setBit]
@[simp] theorem Dev.count_mgmt (d : Dev) (u code : Nat) (e : Seen) : (d.count u code e).mgmt = d.mgmt := by
  unfold Dev.count
  induction List.range (unitCounters u) generalizing d with
  | nil => rfl
  | cons i l ih => simp [ih]
@[simp] theorem Dev.access_mgmt (d : Dev) (m : Master) (a : Nat) (w : Bool) : (d.access m a w).mgmt = d.mgmt := by
  simp [Dev.access]
@[simp] theorem Dev.countOne_fe (d : Dev) (u i code : Nat) (e : Seen) : (d.countOne u i code e).fe = d.fe := by
  unfold Dev.countOne; dsimp only; repeat' split
  all_goals simp [Dev.bump, Dev.putNum, Dev.setBit]
@[simp] theorem Dev.count_fe (d : Dev) (u code : Nat) (e : Seen) : (d.count u code e).fe = d.fe := by
  unfold Dev.count
  induction List.range (unitCounters u) generalizing d with
  | nil => rfl
  | cons i l ih => simp [ih]
@[simp] theorem Dev.access_fe (d : Dev) (m : Master) (a : Nat) (w : Bool) : (d.access m a w).fe = d.fe := by
  simp [Dev.access]
@[simp] theorem Dev.countOne_sat (d : Dev) (u i code : Nat) (e : Seen) : (d.countOne u i code e).sat = d.sat := by
  unfold Dev.countOne; dsimp only; repeat' split
  all_goals simp [Dev.bump, Dev.putNum, Dev.setBit]
@[simp] theorem Dev.count_sat (d : Dev) (u code : Nat) (e : Seen) : (d.count u code e).sat = d.sat := by
  unfold Dev.count
  induction List.range (unitCounters u) generalizing d with
  | nil => rfl
  | cons i l ih => simp [ih]
@[simp] theorem Dev.access_sat (d : Dev) (m : Master) (a : Nat) (w : Bool) : (d.access m a w).sat = d.sat := by
  simp [Dev.access]
@[simp] theorem Dev.countOne_cip (d : Dev) (u i code : Nat) (e : Seen) : (d.countOne u i code e).cip = d.cip := by
  unfold Dev.countOne; dsimp only; repeat' split
  all_goals simp [Dev.bump, Dev.putNum, Dev.setBit]
@[simp] theorem Dev.count_cip (d : Dev) (u code : Nat) (e : Seen) : (d.count u code e).cip = d.cip := by
  unfold Dev.count
  induction List.range (unitCounters u) generalizing d with
  | nil => rfl
  | cons i l ih => simp [ih]
@[simp] theorem Dev.access_cip (d : Dev) (m : Master) (a : Nat) (w : Bool) : (d.access m a w).cip = d.cip := by
  simp [Dev.access]
@[simp] theorem Dev.countOne_lrn (d : Dev) (u i code : Nat) (e : Seen) : (d.countOne u i code e).lrn = d.lrn := by
  unfold Dev.countOne; dsimp only; repeat' split
  all_goals simp [Dev.bump, Dev.putNum, Dev.setBit]
@[simp] theorem Dev.count_lrn (d : Dev) (u code : Nat) (e : Seen) : (d.count u code e).lrn = d.lrn := by
  unfold Dev.count
  induction List.range (unitCounters u) generalizing d with
  | nil => rfl
  | cons i l ih => simp [ih]
@[simp] theorem Dev.access_lrn (d : Dev) (m : Master) (a : Nat) (w : Bool) : (d.access m a w).lrn = d.lrn := by
  simp [Dev.access]
@[simp] theorem Dev.countOne_sch (d : Dev) (u i code : Nat) (e : Seen) : (d.countOne u i code e).sch = d.sch := by
  unfold Dev.countOne; dsimp only; repeat' split
  all_goals simp [Dev.bump, Dev.putNum, Dev.setBit]
@[simp] theorem Dev.count_sch (d : Dev) (u code : Nat) (e : Seen) : (d.count u code e).sch = d.sch := by
  unfold Dev.count
  induction List.range (unitCounters u) generalizing d with
  | nil => rfl
  | cons i l ih => simp [ih]
@[simp] theorem Dev.access_sch (d : Dev) (m : Master) (a : Nat) (w : Bool) : (d.access m a w).sch = d.sch := by
  simp [Dev.access]
@[simp] theorem Dev.countOne_bay (d : Dev) (u i code : Nat) (e : Seen) : (d.countOne u i code e).bay = d.bay := by
  unfold Dev.countOne; dsimp only; repeat' split
  all_goals simp [Dev.bump, Dev.putNum, Dev.setBit]
@[simp] theorem Dev.count_bay (d : Dev) (u code : Nat) (e : Seen) : (d.count u code e).bay = d.bay := by
  unfold Dev.count
  induction List.range (unitCounters u) generalizing d with
  | nil => rfl
  | cons i l ih => simp [ih]
@[simp] theorem Dev.access_bay (d : Dev) (m : Master) (a : Nat) (w : Bool) : (d.access m a w).bay = d.bay := by
  simp [Dev.access]
@[simp] theorem Dev.countOne_env (d : Dev) (u i code : Nat) (e : Seen) : (d.countOne u i code e).env = d.env := by
  unfold Dev.countOne; dsimp only; repeat' split
  all_goals simp [Dev.bump, Dev.putNum, Dev.setBit]
@[simp] theorem Dev.count_env (d : Dev) (u code : Nat) (e : Seen) : (d.count u code e).env = d.env := by
  unfold Dev.count
  induction List.range (unitCounters u) generalizing d with
  | nil => rfl
  | cons i l ih => simp [ih]
@[simp] theorem Dev.access_env (d : Dev) (m : Master) (a : Nat) (w : Bool) : (d.access m a w).env = d.env := by
  simp [Dev.access]
@[simp] theorem Dev.countOne_mrg (d : Dev) (u i code : Nat) (e : Seen) : (d.countOne u i code e).mrg = d.mrg := by
  unfold Dev.countOne; dsimp only; repeat' split
  all_goals simp [Dev.bump, Dev.putNum, Dev.setBit]
@[simp] theorem Dev.count_mrg (d : Dev) (u code : Nat) (e : Seen) : (d.count u code e).mrg = d.mrg := by
  unfold Dev.count
  induction List.range (unitCounters u) generalizing d with
  | nil => rfl
  | cons i l ih => simp [ih]
@[simp] theorem Dev.access_mrg (d : Dev) (m : Master) (a : Nat) (w : Bool) : (d.access m a w).mrg = d.mrg := by
  simp [Dev.access]
@[simp] theorem Dev.countOne_port (d : Dev) (u i code : Nat) (e : Seen) : (d.countOne u i code e).port = d.port := by
  unfold Dev.countOne; dsimp only; repeat' split
  all_goals simp [Dev.bump, Dev.putNum, Dev.setBit]
@[simp] theorem Dev.count_port (d : Dev) (u code : Nat) (e : Seen) : (d.count u code e).port = d.port := by
  unfold Dev.count
  induction List.range (unitCounters u) generalizing d with
  | nil => rfl
  | cons i l ih => simp [ih]
@[simp] theorem Dev.access_port (d : Dev) (m : Master) (a : Nat) (w : Bool) : (d.access m a w).port = d.port := by
  simp [Dev.access]
@[simp] theorem Dev.countOne_mint (d : Dev) (u i code : Nat) (e : Seen) : (d.countOne u i code e).mint = d.mint := by
  unfold Dev.countOne; dsimp only; repeat' split
  all_goals simp [Dev.bump, Dev.putNum, Dev.setBit]
@[simp] theorem Dev.count_mint (d : Dev) (u code : Nat) (e : Seen) : (d.count u code e).mint = d.mint := by
  unfold Dev.count
  induction List.range (unitCounters u) generalizing d with
  | nil => rfl
  | cons i l ih => simp [ih]
@[simp] theorem Dev.access_mint (d : Dev) (m : Master) (a : Nat) (w : Bool) : (d.access m a w).mint = d.mint := by
  simp [Dev.access]
@[simp] theorem Dev.countOne_fleet (d : Dev) (u i code : Nat) (e : Seen) : (d.countOne u i code e).fleet = d.fleet := by
  unfold Dev.countOne; dsimp only; repeat' split
  all_goals simp [Dev.bump, Dev.putNum, Dev.setBit]
@[simp] theorem Dev.count_fleet (d : Dev) (u code : Nat) (e : Seen) : (d.count u code e).fleet = d.fleet := by
  unfold Dev.count
  induction List.range (unitCounters u) generalizing d with
  | nil => rfl
  | cons i l ih => simp [ih]
@[simp] theorem Dev.access_fleet (d : Dev) (m : Master) (a : Nat) (w : Bool) : (d.access m a w).fleet = d.fleet := by
  simp [Dev.access]
@[simp] theorem Dev.countOne_sage (d : Dev) (u i code : Nat) (e : Seen) : (d.countOne u i code e).sage = d.sage := by
  unfold Dev.countOne; dsimp only; repeat' split
  all_goals simp [Dev.bump, Dev.putNum, Dev.setBit]
@[simp] theorem Dev.count_sage (d : Dev) (u code : Nat) (e : Seen) : (d.count u code e).sage = d.sage := by
  unfold Dev.count
  induction List.range (unitCounters u) generalizing d with
  | nil => rfl
  | cons i l ih => simp [ih]
@[simp] theorem Dev.access_sage (d : Dev) (m : Master) (a : Nat) (w : Bool) : (d.access m a w).sage = d.sage := by
  simp [Dev.access]
@[simp] theorem Dev.countOne_flash (d : Dev) (u i code : Nat) (e : Seen) : (d.countOne u i code e).flash = d.flash := by
  unfold Dev.countOne; dsimp only; repeat' split
  all_goals simp [Dev.bump, Dev.putNum, Dev.setBit]
@[simp] theorem Dev.count_flash (d : Dev) (u code : Nat) (e : Seen) : (d.count u code e).flash = d.flash := by
  unfold Dev.count
  induction List.range (unitCounters u) generalizing d with
  | nil => rfl
  | cons i l ih => simp [ih]
@[simp] theorem Dev.access_flash (d : Dev) (m : Master) (a : Nat) (w : Bool) : (d.access m a w).flash = d.flash := by
  simp [Dev.access]
@[simp] theorem Dev.countOne_out (d : Dev) (u i code : Nat) (e : Seen) : (d.countOne u i code e).out = d.out := by
  unfold Dev.countOne; dsimp only; repeat' split
  all_goals simp [Dev.bump, Dev.putNum, Dev.setBit]
@[simp] theorem Dev.count_out (d : Dev) (u code : Nat) (e : Seen) : (d.count u code e).out = d.out := by
  unfold Dev.count
  induction List.range (unitCounters u) generalizing d with
  | nil => rfl
  | cons i l ih => simp [ih]
@[simp] theorem Dev.access_out (d : Dev) (m : Master) (a : Nat) (w : Bool) : (d.access m a w).out = d.out := by
  simp [Dev.access]
@[simp] theorem Dev.countOne_free (d : Dev) (u i code : Nat) (e : Seen) : (d.countOne u i code e).free = d.free := by
  unfold Dev.countOne; dsimp only; repeat' split
  all_goals simp [Dev.bump, Dev.putNum, Dev.setBit]
@[simp] theorem Dev.count_free (d : Dev) (u code : Nat) (e : Seen) : (d.count u code e).free = d.free := by
  unfold Dev.count
  induction List.range (unitCounters u) generalizing d with
  | nil => rfl
  | cons i l ih => simp [ih]
@[simp] theorem Dev.access_free (d : Dev) (m : Master) (a : Nat) (w : Bool) : (d.access m a w).free = d.free := by
  simp [Dev.access]

/-! The pins change `regs` alone. -/

@[simp] theorem Dev.pins_tbl (d : Dev) : d.pins.tbl = d.tbl := by
  unfold Dev.pins; dsimp only; repeat' split
  all_goals simp [Dev.flag, Dev.set, Dev.putNum]
@[simp] theorem Dev.pins_tim (d : Dev) : d.pins.tim = d.tim := by
  unfold Dev.pins; dsimp only; repeat' split
  all_goals simp [Dev.flag, Dev.set, Dev.putNum]
@[simp] theorem Dev.pins_thy (d : Dev) : d.pins.thy = d.thy := by
  unfold Dev.pins; dsimp only; repeat' split
  all_goals simp [Dev.flag, Dev.set, Dev.putNum]
@[simp] theorem Dev.pins_evt (d : Dev) : d.pins.evt = d.evt := by
  unfold Dev.pins; dsimp only; repeat' split
  all_goals simp [Dev.flag, Dev.set, Dev.putNum]
@[simp] theorem Dev.pins_tamp (d : Dev) : d.pins.tamp = d.tamp := by
  unfold Dev.pins; dsimp only; repeat' split
  all_goals simp [Dev.flag, Dev.set, Dev.putNum]
@[simp] theorem Dev.pins_rsm (d : Dev) : d.pins.rsm = d.rsm := by
  unfold Dev.pins; dsimp only; repeat' split
  all_goals simp [Dev.flag, Dev.set, Dev.putNum]
@[simp] theorem Dev.pins_rst (d : Dev) : d.pins.rst = d.rst := by
  unfold Dev.pins; dsimp only; repeat' split
  all_goals simp [Dev.flag, Dev.set, Dev.putNum]
@[simp] theorem Dev.pins_pwr (d : Dev) : d.pins.pwr = d.pwr := by
  unfold Dev.pins; dsimp only; repeat' split
  all_goals simp [Dev.flag, Dev.set, Dev.putNum]
@[simp] theorem Dev.pins_fuse (d : Dev) : d.pins.fuse = d.fuse := by
  unfold Dev.pins; dsimp only; repeat' split
  all_goals simp [Dev.flag, Dev.set, Dev.putNum]
@[simp] theorem Dev.pins_mgmt (d : Dev) : d.pins.mgmt = d.mgmt := by
  unfold Dev.pins; dsimp only; repeat' split
  all_goals simp [Dev.flag, Dev.set, Dev.putNum]
@[simp] theorem Dev.pins_mon (d : Dev) : d.pins.mon = d.mon := by
  unfold Dev.pins; dsimp only; repeat' split
  all_goals simp [Dev.flag, Dev.set, Dev.putNum]
@[simp] theorem Dev.pins_fe (d : Dev) : d.pins.fe = d.fe := by
  unfold Dev.pins; dsimp only; repeat' split
  all_goals simp [Dev.flag, Dev.set, Dev.putNum]
@[simp] theorem Dev.pins_sat (d : Dev) : d.pins.sat = d.sat := by
  unfold Dev.pins; dsimp only; repeat' split
  all_goals simp [Dev.flag, Dev.set, Dev.putNum]
@[simp] theorem Dev.pins_cip (d : Dev) : d.pins.cip = d.cip := by
  unfold Dev.pins; dsimp only; repeat' split
  all_goals simp [Dev.flag, Dev.set, Dev.putNum]
@[simp] theorem Dev.pins_lrn (d : Dev) : d.pins.lrn = d.lrn := by
  unfold Dev.pins; dsimp only; repeat' split
  all_goals simp [Dev.flag, Dev.set, Dev.putNum]
@[simp] theorem Dev.pins_sch (d : Dev) : d.pins.sch = d.sch := by
  unfold Dev.pins; dsimp only; repeat' split
  all_goals simp [Dev.flag, Dev.set, Dev.putNum]
@[simp] theorem Dev.pins_bay (d : Dev) : d.pins.bay = d.bay := by
  unfold Dev.pins; dsimp only; repeat' split
  all_goals simp [Dev.flag, Dev.set, Dev.putNum]
@[simp] theorem Dev.pins_env (d : Dev) : d.pins.env = d.env := by
  unfold Dev.pins; dsimp only; repeat' split
  all_goals simp [Dev.flag, Dev.set, Dev.putNum]
@[simp] theorem Dev.pins_mrg (d : Dev) : d.pins.mrg = d.mrg := by
  unfold Dev.pins; dsimp only; repeat' split
  all_goals simp [Dev.flag, Dev.set, Dev.putNum]
@[simp] theorem Dev.pins_port (d : Dev) : d.pins.port = d.port := by
  unfold Dev.pins; dsimp only; repeat' split
  all_goals simp [Dev.flag, Dev.set, Dev.putNum]
@[simp] theorem Dev.pins_mint (d : Dev) : d.pins.mint = d.mint := by
  unfold Dev.pins; dsimp only; repeat' split
  all_goals simp [Dev.flag, Dev.set, Dev.putNum]
@[simp] theorem Dev.pins_fleet (d : Dev) : d.pins.fleet = d.fleet := by
  unfold Dev.pins; dsimp only; repeat' split
  all_goals simp [Dev.flag, Dev.set, Dev.putNum]
@[simp] theorem Dev.pins_sage (d : Dev) : d.pins.sage = d.sage := by
  unfold Dev.pins; dsimp only; repeat' split
  all_goals simp [Dev.flag, Dev.set, Dev.putNum]
@[simp] theorem Dev.pins_flash (d : Dev) : d.pins.flash = d.flash := by
  unfold Dev.pins; dsimp only; repeat' split
  all_goals simp [Dev.flag, Dev.set, Dev.putNum]
@[simp] theorem Dev.pins_out (d : Dev) : d.pins.out = d.out := by
  unfold Dev.pins; dsimp only; repeat' split
  all_goals simp [Dev.flag, Dev.set, Dev.putNum]
@[simp] theorem Dev.pins_free (d : Dev) : d.pins.free = d.free := by
  unfold Dev.pins; dsimp only; repeat' split
  all_goals simp [Dev.flag, Dev.set, Dev.putNum]

/-- The machine is the same when each part is. -/
theorem Dev.eq_of_parts {d d' : Dev} (h_regs : d.regs = d'.regs) (h_tbl : d.tbl = d'.tbl) (h_tim : d.tim = d'.tim) (h_thy : d.thy = d'.thy) (h_evt : d.evt = d'.evt) (h_tamp : d.tamp = d'.tamp) (h_rsm : d.rsm = d'.rsm) (h_rst : d.rst = d'.rst) (h_pwr : d.pwr = d'.pwr) (h_fuse : d.fuse = d'.fuse) (h_mgmt : d.mgmt = d'.mgmt) (h_mon : d.mon = d'.mon) (h_fe : d.fe = d'.fe) (h_sat : d.sat = d'.sat) (h_cip : d.cip = d'.cip) (h_lrn : d.lrn = d'.lrn) (h_sch : d.sch = d'.sch) (h_bay : d.bay = d'.bay) (h_env : d.env = d'.env) (h_mrg : d.mrg = d'.mrg) (h_port : d.port = d'.port) (h_mint : d.mint = d'.mint) (h_fleet : d.fleet = d'.fleet) (h_sage : d.sage = d'.sage) (h_flash : d.flash = d'.flash) (h_out : d.out = d'.out) (h_free : d.free = d'.free) : d = d' := by
  cases d; cases d'; simp_all

end Sys2Proof.Machine
end

