-- ==== Sys2Proof/Laws/Words.lean ====
section
/-! SUPPORT. Which register words the shared operations leave as they were: a register apart from those an operation
writes keeps its word. -/

namespace Sys2Proof.Machine

/-- A write of one field keeps the words of the registers apart from its own. -/
theorem Dev.set_word_apart (d : Dev) (f : Fld) {r : Reg} (v i j i' j' : Nat) (h : f.reg.apart r = true) :
    (d.set f v i j).word r i' j' = d.word r i' j' := Dev.word_put_apart d _ i j i' j' h

/-- As for any value of a one-bit field. -/
theorem Dev.flag_word_apart (d : Dev) (f : Fld) {r : Reg} (b : Bool) (i j i' j' : Nat) (h : f.reg.apart r = true) :
    (d.flag f b i j).word r i' j' = d.word r i' j' := Dev.word_put_apart d _ i j i' j' h

/-- A whole word written as a number. -/
theorem Dev.putNum_word_apart (d : Dev) {r r' : Reg} (v i j i' j' : Nat) (h : r.apart r' = true) :
    (d.putNum r v i j).word r' i' j' = d.word r' i' j' := Dev.word_put_apart d _ i j i' j' h

/-- One bit set. -/
theorem Dev.setBit_word_apart (d : Dev) {r r' : Reg} (b i j i' j' : Nat) (h : r.apart r' = true) :
    (d.setBit r b i j).word r' i' j' = d.word r' i' j' := Dev.word_put_apart d _ i j i' j' h

/-- One bit cleared. -/
theorem Dev.clrBit_word_apart (d : Dev) {r r' : Reg} (b i j i' j' : Nat) (h : r.apart r' = true) :
    (d.clrBit r b i j).word r' i' j' = d.word r' i' j' := Dev.word_put_apart d _ i j i' j' h

/-- A counter counted. -/
theorem Dev.bump_word_apart (d : Dev) {r r' : Reg} (n i j i' j' : Nat) (h : r.apart r' = true) :
    (d.bump r i j n).word r' i' j' = d.word r' i' j' := Dev.word_put_apart d _ i j i' j' h

/-- Time that passes writes no register. -/
@[simp] theorem Dev.advance_word (d : Dev) (t : Nat) (r : Reg) (i j : Nat) : (d.advance t).word r i j = d.word r i j :=
  Dev.word_congr r i j (Dev.advance_regs d t)

/-- An occurrence queued writes no register. -/
@[simp] theorem Dev.occur_word (d : Dev) (k src b st : Nat) (fo : Bool) (r : Reg) (i j : Nat) :
    (d.occur k src b st fo).word r i j = d.word r i j := rfl

/-- An output emitted writes no register. -/
@[simp] theorem Dev.emit_word (d : Dev) (o : Output) (r : Reg) (i j : Nat) : (d.emit o).word r i j = d.word r i j := rfl

/-- A table entry written writes no register. -/
@[simp] theorem Dev.setEntry_word (d : Dev) (sel idx : Nat) (ws : List Nat) (r : Reg) (i j : Nat) :
    (d.setEntry sel idx ws).word r i j = d.word r i j := rfl

/-- An event raised writes its own event register alone. -/
theorem Dev.raise_word_apart (d : Dev) (e : Ev) {r : Reg} (k i j : Nat) (h : e.reg.apart r = true) :
    (d.raise e k).word r i j = d.word r i j := by
  unfold Dev.raise; split
  · simp [Dev.setBit_word_apart _ _ _ _ _ _ h]
  · split <;> simp

/-- The registers a counted event may write: those of the counters' wraps (R571). -/
def countRegs : List Reg := [R.MON_UNIT_WRAP, R.MON_CNT_WRAPS, E.MON_WRAP.reg]

/-- A counted event keeps the words of the registers apart from those of the counters' wraps. -/
theorem Dev.countOne_word_apart (d : Dev) (u k code : Nat) (e : Seen) {r : Reg} (i j : Nat)
    (h : countRegs.all (fun x => x.apart r) = true) : (d.countOne u k code e).word r i j = d.word r i j := by
  simp only [countRegs, List.all_cons, List.all_nil, Bool.and_true, Bool.and_eq_true] at h
  unfold Dev.countOne; dsimp only
  repeat' split
  all_goals first
    | rfl
    | rw [Dev.raise_word_apart _ _ _ _ _ h.2.2, Dev.bump_word_apart _ _ _ _ _ _ h.2.1, Dev.setBit_word_apart _ _ _ _ _ _ h.1]
      rfl

/-- The same for every counter of a unit. -/
theorem Dev.count_word_apart (d : Dev) (u code : Nat) (e : Seen) {r : Reg} (i j : Nat)
    (h : countRegs.all (fun x => x.apart r) = true) : (d.count u code e).word r i j = d.word r i j := by
  unfold Dev.count
  induction List.range (unitCounters u) generalizing d with
  | nil => rfl
  | cons k l ih => rw [List.foldl_cons, ih, Dev.countOne_word_apart d u k code e i j h]

/-- The same for an access to the address map. -/
theorem Dev.access_word_apart (d : Dev) (m : Master) (a : Nat) (w : Bool) {r : Reg} (i j : Nat)
    (h : countRegs.all (fun x => x.apart r) = true) : (d.access m a w).word r i j = d.word r i j :=
  Dev.count_word_apart d _ _ _ i j h

/-- The registers that show the pins (R482, R500). -/
def pinRegs : List Reg := [R.EVT_IRQ_SUM_LO, R.EVT_IRQ_SUM_HI, R.EVT_ALARM_SUM_LO, R.EVT_ALARM_SUM_HI, R.EVT_STATUS]

/-- The pins write no other register. -/
theorem Dev.pins_word_apart (d : Dev) {r : Reg} (i j : Nat) (h : pinRegs.all (fun x => x.apart r) = true) :
    d.pins.word r i j = d.word r i j := by
  simp only [pinRegs, List.all_cons, List.all_nil, Bool.and_true, Bool.and_eq_true] at h
  obtain ⟨h1, h2, h3, h4, h5⟩ := h
  unfold Dev.pins; dsimp only
  repeat' split
  all_goals
    simp only [Dev.flag_word_apart _ F.EVT_STATUS_IRQ _ _ _ _ _ h5, Dev.flag_word_apart _ F.EVT_STATUS_ALARM _ _ _ _ _ h5,
      Dev.set_word_apart _ F.EVT_STATUS_ALARM _ _ _ _ _ h5, Dev.putNum_word_apart _ _ _ _ _ _ h1,
      Dev.putNum_word_apart _ _ _ _ _ _ h2, Dev.putNum_word_apart _ _ _ _ _ _ h3, Dev.putNum_word_apart _ _ _ _ _ _ h4]

/-- A field's value follows from its word. -/
theorem Dev.get_congr {d d' : Dev} {f : Fld} {i j : Nat} (h : d'.word f.reg i j = d.word f.reg i j) :
    d'.get f i j = d.get f i j := by simp [Dev.get, h]

/-! The gate before a command that stands for a register write (R395, R535, R548). -/

/-- A write that passes is counted as an access and has its effect. -/
theorem Dev.gated_of_passes (d : Dev) (m : Master) (a w : Nat) (f : Dev → Dev) (h : d.passes m a = true) :
    d.gated m a w f = f (d.access m a true) := by
  unfold Dev.gated
  unfold Dev.passes at h
  by_cases hm : (m == Master.spi || m == Master.i2c) = true
  · simp only [hm, Bool.not_true, Bool.false_or, Bool.and_eq_true, Bool.not_eq_true'] at h
    simp [h.1.1, h.1.2, h.2]
  · simp [hm]

/-- A command without a master operand has its effect on the module, or on the module with the access counted. -/
theorem Dev.coreAccess_eq (d : Dev) (a : Nat) (w : Bool) (f : Dev → Dev) :
    d.coreAccess a w f = f d ∨ ∃ m, d.coreAccess a w f = f (d.access m a w) := by
  unfold Dev.coreAccess
  split
  · next m _ => exact .inr ⟨m, rfl⟩
  · exact .inl rfl

/-! Commands that complete. -/

/-- A command whose meaning runs an operation completes with what the operation and the pins leave. -/
theorem completes_of_run {c : Instr} {s : State} {f : Dev → Dev} {Q : Dev → Prop} (h : exec c s = .next (s.run f))
    (hq : Q (f s.dev).pins) : Completes c s Q := ⟨s.run f, h, rfl, hq⟩

/-! Register words at the addresses an operation does not write. -/

/-- Nothing written. -/
theorem Dev.WritesOnly.refl (d : Dev) (as : List Nat) : d.WritesOnly d as := fun _ _ => rfl

/-- One word more, at an address of the list. -/
theorem Dev.WritesOnly.put {d d' : Dev} {as : List Nat} (h : d.WritesOnly d' as) (r : Reg) (w : Word) (i j : Nat)
    (ha : i < r.n1 → r.addr i j ∈ as) : d.WritesOnly (d'.put r w i j) as := by
  intro a hn
  rw [Dev.put_regs_get, if_neg, h a hn]
  rintro ⟨hi, rfl⟩
  exact hn (ha hi.1)

/-- The same for each way to write a word. -/
theorem Dev.WritesOnly.set {d d' : Dev} {as : List Nat} (h : d.WritesOnly d' as) (f : Fld) (v i j : Nat)
    (ha : i < f.reg.n1 → f.reg.addr i j ∈ as) : d.WritesOnly (d'.set f v i j) as := h.put f.reg _ i j ha

theorem Dev.WritesOnly.flag {d d' : Dev} {as : List Nat} (h : d.WritesOnly d' as) (f : Fld) (b : Bool) (i j : Nat)
    (ha : i < f.reg.n1 → f.reg.addr i j ∈ as) : d.WritesOnly (d'.flag f b i j) as := h.put f.reg _ i j ha

theorem Dev.WritesOnly.putNum {d d' : Dev} {as : List Nat} (h : d.WritesOnly d' as) (r : Reg) (v i j : Nat)
    (ha : i < r.n1 → r.addr i j ∈ as) : d.WritesOnly (d'.putNum r v i j) as := h.put r _ i j ha

theorem Dev.WritesOnly.setBit {d d' : Dev} {as : List Nat} (h : d.WritesOnly d' as) (r : Reg) (b i j : Nat)
    (ha : i < r.n1 → r.addr i j ∈ as) : d.WritesOnly (d'.setBit r b i j) as := h.put r _ i j ha

theorem Dev.WritesOnly.clrBit {d d' : Dev} {as : List Nat} (h : d.WritesOnly d' as) (r : Reg) (b i j : Nat)
    (ha : i < r.n1 → r.addr i j ∈ as) : d.WritesOnly (d'.clrBit r b i j) as := h.put r _ i j ha

theorem Dev.WritesOnly.bump {d d' : Dev} {as : List Nat} (h : d.WritesOnly d' as) (r : Reg) (i j n : Nat)
    (ha : i < r.n1 → r.addr i j ∈ as) : d.WritesOnly (d'.bump r i j n) as := h.put r _ i j ha

/-- An operation that writes no register follows. -/
theorem Dev.WritesOnly.same {d d' d'' : Dev} {as : List Nat} (h : d.WritesOnly d' as) (he : d''.regs = d'.regs) :
    d.WritesOnly d'' as := by
  intro a hn
  rw [he, h a hn]

/-- An operation that writes no register. -/
theorem Dev.WritesOnly.of_regs {d d' : Dev} (as : List Nat) (h : d'.regs = d.regs) : d.WritesOnly d' as := by
  intro a _; rw [h]

/-- An event raised, whose register's address is of the list. -/
theorem Dev.WritesOnly.raise {d d' : Dev} {as : List Nat} (h : d.WritesOnly d' as) (e : Ev) (i : Nat)
    (ha : i < e.reg.n1 → e.reg.addr i 0 ∈ as) : d.WritesOnly (d'.raise e i) as := by
  unfold Dev.raise; split
  · exact (h.put e.reg _ i 0 ha).same rfl
  · split
    · exact h.same rfl
    · exact h

/-- What two operations write, one after the other. -/
theorem Dev.WritesOnly.trans {d d' d'' : Dev} {as : List Nat} (h : d.WritesOnly d' as) (h' : d'.WritesOnly d'' as) :
    d.WritesOnly d'' as := by
  intro a hn
  rw [h' a hn, h a hn]

/-- A longer list of addresses says less. -/
theorem Dev.WritesOnly.mono {d d' : Dev} {as bs : List Nat} (h : d.WritesOnly d' as) (hs : ∀ a ∈ as, a ∈ bs) :
    d.WritesOnly d' bs := fun a ha => h a fun hc => ha (hs a hc)

/-- A register of a unit's wraps is of the list. -/
theorem wrapAddrs_unit (u : Nat) (h : u < 30) : R.MON_UNIT_WRAP.addr u 0 ∈ wrapAddrs := by
  unfold wrapAddrs
  exact List.mem_append_left _ (List.mem_map.2 ⟨u, List.mem_range.2 (by omega), rfl⟩)

/-- A counted event writes the registers of the wraps alone. -/
theorem Dev.countOne_writesOnly (d : Dev) (u k code : Nat) (e : Seen) : d.WritesOnly (d.countOne u k code e) wrapAddrs := by
  have h1 : R.MON_CNT_WRAPS.addr 0 0 ∈ wrapAddrs := by
    unfold wrapAddrs; exact List.mem_append_right _ (List.mem_cons_self ..)
  have h2 : E.MON_WRAP.reg.addr 0 0 ∈ wrapAddrs := by
    unfold wrapAddrs; exact List.mem_append_right _ (List.mem_cons_of_mem _ (List.mem_cons_self ..))
  unfold Dev.countOne; dsimp only
  generalize (SMap.get {} d.mon.cnt (u * 16 + k)).value + (if cfgWord (SMap.get {} d.mon.cnt (u * 16 + k)).cfg 0 30 30 = 1 then e.bytes else 1) = v
  split
  · split
    · apply Dev.WritesOnly.raise _ E.MON_WRAP 0 (fun _ => h2)
      apply Dev.WritesOnly.bump _ R.MON_CNT_WRAPS 0 0 1 (fun _ => h1)
      apply Dev.WritesOnly.setBit _ R.MON_UNIT_WRAP k u 0 (wrapAddrs_unit u)
      exact Dev.WritesOnly.of_regs _ rfl
    · exact Dev.WritesOnly.of_regs _ rfl
  · exact Dev.WritesOnly.refl d _

/-- So does an event counted by every counter of a unit. -/
theorem Dev.count_writesOnly (d : Dev) (u code : Nat) (e : Seen) : d.WritesOnly (d.count u code e) wrapAddrs := by
  unfold Dev.count
  induction List.range (unitCounters u) generalizing d with
  | nil => exact Dev.WritesOnly.refl d _
  | cons k l ih => exact (Dev.countOne_writesOnly d u k code e).trans (ih _)

/-- So does an access. -/
theorem Dev.access_writesOnly (d : Dev) (m : Master) (a : Nat) (w : Bool) : d.WritesOnly (d.access m a w) wrapAddrs :=
  Dev.count_writesOnly d _ _ _

/-- The pins write their own registers alone. -/
theorem Dev.pins_writesOnly (d : Dev) : d.WritesOnly d.pins pinAddrs := by
  have h1 : R.EVT_IRQ_SUM_LO.addr 0 0 ∈ pinAddrs := by simp [pinAddrs]
  have h2 : R.EVT_IRQ_SUM_HI.addr 0 0 ∈ pinAddrs := by simp [pinAddrs]
  have h3 : R.EVT_ALARM_SUM_LO.addr 0 0 ∈ pinAddrs := by simp [pinAddrs]
  have h4 : R.EVT_ALARM_SUM_HI.addr 0 0 ∈ pinAddrs := by simp [pinAddrs]
  have h5 : R.EVT_STATUS.addr 0 0 ∈ pinAddrs := by simp [pinAddrs]
  have hs := (((((Dev.WritesOnly.refl d pinAddrs).put R.EVT_IRQ_SUM_LO
    (BitVec.ofNat 32 (d.groupsOn R.EVT_GRP_IRQ_EN % 2 ^ 32)) 0 0 (fun _ => h1)).put R.EVT_IRQ_SUM_HI
    (BitVec.ofNat 32 (d.groupsOn R.EVT_GRP_IRQ_EN / 2 ^ 32)) 0 0 (fun _ => h2)).put R.EVT_ALARM_SUM_LO
    (BitVec.ofNat 32 (d.groupsOn R.EVT_GRP_ALARM_EN % 2 ^ 32)) 0 0 (fun _ => h3)).put R.EVT_ALARM_SUM_HI
    (BitVec.ofNat 32 (d.groupsOn R.EVT_GRP_ALARM_EN / 2 ^ 32)) 0 0 (fun _ => h4))
  unfold Dev.pins; dsimp only
  repeat' split
  · exact hs.put R.EVT_STATUS _ 0 0 (fun _ => h5)
  · exact (hs.put R.EVT_STATUS _ 0 0 (fun _ => h5)).put R.EVT_STATUS _ 0 0 (fun _ => h5)
  · exact hs
  · exact (hs.put R.EVT_STATUS _ 0 0 (fun _ => h5)).put R.EVT_STATUS _ 0 0 (fun _ => h5)

end Sys2Proof.Machine
end

