-- ==== Sys2Proof/Laws/Access.lean ====
section
/-! SUPPORT. A command that stands for a register access: what it sees is the module itself, but for the programmable counters
that count the access. -/

namespace Sys2Proof.Machine

/-- The module as a command finds it after its access is counted. -/
structure Dev.AccessedAs (d d' : Dev) : Prop where
  parts : d.ChangesOnly d' [.regs, .mon, .evt]
  writes : d.WritesOnly d' wrapAddrs
  words : ∀ (r : Reg) (i j : Nat), countRegs.all (fun x => x.apart r) = true → d'.word r i j = d.word r i j

/-- Nothing counted. -/
theorem Dev.AccessedAs.refl (d : Dev) : d.AccessedAs d :=
  ⟨fun p _ => by cases p <;> rfl, Dev.WritesOnly.refl d _, fun _ _ _ _ => rfl⟩

/-- An access counted. -/
theorem Dev.access_accessedAs (d : Dev) (m : Master) (a : Nat) (w : Bool) : d.AccessedAs (d.access m a w) where
  parts := by
    intro p hp
    cases p <;> simp_all [Dev.Agrees]
  writes := Dev.access_writesOnly d m a w
  words := fun r i j h => Dev.access_word_apart d m a w i j h

/-- A field outside the counters' registers keeps its value. -/
theorem Dev.AccessedAs.get {d d' : Dev} (h : d.AccessedAs d') (f : Fld) (i j : Nat)
    (ha : countRegs.all (fun x => x.apart f.reg) = true) : d'.get f i j = d.get f i j :=
  Dev.get_congr (h.words f.reg i j ha)

/-- So does a one-bit field. -/
theorem Dev.AccessedAs.on {d d' : Dev} (h : d.AccessedAs d') (f : Fld) (i j : Nat)
    (ha : countRegs.all (fun x => x.apart f.reg) = true) : d'.on f i j = d.on f i j := by
  unfold Dev.on; rw [h.get f i j ha]

/-- A command of the active core runs on the accessed module. -/
theorem Dev.coreAccess_as (d : Dev) (a : Nat) (w : Bool) (f : Dev → Dev) :
    ∃ d', d.AccessedAs d' ∧ d.coreAccess a w f = f d' := by
  unfold Dev.coreAccess
  split
  · next m _ => exact ⟨_, Dev.access_accessedAs d m a w, rfl⟩
  · exact ⟨d, Dev.AccessedAs.refl d, rfl⟩

/-- A command whose write passes the gate runs on the accessed module. -/
theorem Dev.gated_as (d : Dev) (m : Master) (a w : Nat) (f : Dev → Dev) (h : d.passes m a = true) :
    ∃ d', d.AccessedAs d' ∧ d.gated m a w f = f d' :=
  ⟨_, Dev.access_accessedAs d m a true, Dev.gated_of_passes d m a w f h⟩

/-- A command that stands for a read runs on the accessed module. -/
theorem Dev.readBy_as (d : Dev) (m : Master) (a : Nat) (f : Dev → Dev) : ∃ d', d.AccessedAs d' ∧ d.readBy m a f = f d' :=
  ⟨_, Dev.access_accessedAs d m a false, rfl⟩

/-! Words as entries of the register table. -/

/-- The word of an instance in a register table. -/
def wordOf (regs : SMap Word) (r : Reg) (i j : Nat) : Word :=
  if i < r.n1 ∧ j < r.n2 then SMap.get 0 regs (r.addr i j) ^^^ r.reset i j else 0

/-- The word of a module put together from its parts. -/
theorem Dev.word_mk (regs : SMap Word) (tbl) (tim) (thy) (evt) (tamp) (rsm) (rst) (pwr) (fuse) (mgmt) (mon) (fe) (sat) (cip) (lrn) (sch) (bay) (env) (mrg) (port) (mint) (fleet) (sage) (flash) (out) (free) (r : Reg) (i j : Nat) :
    (Dev.mk regs tbl tim thy evt tamp rsm rst pwr fuse mgmt mon fe sat cip lrn sch bay env mrg port mint fleet sage flash out free).word r i j = wordOf regs r i j := rfl

/-- The word of a module. -/
theorem wordOf_regs (d : Dev) (r : Reg) (i j : Nat) : wordOf d.regs r i j = d.word r i j := rfl

/-- The module an access leaves, written out: three parts of it are new, and its words are those of before but for the
counters' registers. -/
theorem Dev.AccessedAs.split {d d' : Dev} (h : d.AccessedAs d') :
    ∃ rg mo ev, d' = { d with regs := rg, mon := mo, evt := ev } ∧
      (∀ (r : Reg) (i j : Nat), countRegs.all (fun x => x.apart r) = true → wordOf rg r i j = d.word r i j) ∧
      ∀ a, a ∉ wrapAddrs → SMap.get 0 rg a = SMap.get 0 d.regs a := by
  refine ⟨d'.regs, d'.mon, d'.evt, ?_, h.words, h.writes⟩
  have hp := h.parts
  apply Dev.eq_of_parts
  · rfl
  · exact hp .tbl (by decide)
  · exact hp .tim (by decide)
  · exact hp .thy (by decide)
  · rfl
  · exact hp .tamp (by decide)
  · exact hp .rsm (by decide)
  · exact hp .rst (by decide)
  · exact hp .pwr (by decide)
  · exact hp .fuse (by decide)
  · exact hp .mgmt (by decide)
  · rfl
  · exact hp .fe (by decide)
  · exact hp .sat (by decide)
  · exact hp .cip (by decide)
  · exact hp .lrn (by decide)
  · exact hp .sch (by decide)
  · exact hp .bay (by decide)
  · exact hp .env (by decide)
  · exact hp .mrg (by decide)
  · exact hp .port (by decide)
  · exact hp .mint (by decide)
  · exact hp .fleet (by decide)
  · exact hp .sage (by decide)
  · exact hp .flash (by decide)
  · exact hp .out (by decide)
  · exact hp .free (by decide)

/-! Commands that complete: the effect on the module written out, whatever the counters that count the access hold. -/

/-- A register table in which an access has been counted. -/
def Counted (d : Dev) (rg : SMap Word) : Prop :=
  (∀ (r : Reg) (i j : Nat), countRegs.all (fun x => x.apart r) = true → wordOf rg r i j = d.word r i j) ∧
    ∀ a, a ∉ wrapAddrs → SMap.get 0 rg a = SMap.get 0 d.regs a

/-- A command of the active core. -/
theorem completes_of_core {c : Instr} {s : State} {a : Nat} {w : Bool} {f : Dev → Dev} {Q : Dev → Prop}
    (h : exec c s = .next (s.run fun d => d.coreAccess a w f))
    (hq : ∀ rg mo ev, Counted s.dev rg → Q (f { s.dev with regs := rg, mon := mo, evt := ev }).pins) : Completes c s Q := by
  obtain ⟨d', hd, he⟩ := Dev.coreAccess_as s.dev a w f
  obtain ⟨rg, mo, ev, rfl, h1, h2⟩ := hd.split
  exact completes_of_run h (he ▸ hq rg mo ev ⟨h1, h2⟩)

/-- A register write that passes the gate. -/
theorem completes_of_gated {c : Instr} {s : State} {m : Master} {a w : Nat} {f : Dev → Dev} {Q : Dev → Prop}
    (h : exec c s = .next (s.run fun d => d.gated m a w f)) (hp : s.dev.passes m a = true)
    (hq : ∀ rg mo ev, Counted s.dev rg → Q (f { s.dev with regs := rg, mon := mo, evt := ev }).pins) : Completes c s Q := by
  obtain ⟨d', hd, he⟩ := Dev.gated_as s.dev m a w f hp
  obtain ⟨rg, mo, ev, rfl, h1, h2⟩ := hd.split
  exact completes_of_run h (he ▸ hq rg mo ev ⟨h1, h2⟩)

/-- A register read. -/
theorem completes_of_read {c : Instr} {s : State} {m : Master} {a : Nat} {f : Dev → Dev} {Q : Dev → Prop}
    (h : exec c s = .next (s.run fun d => d.readBy m a f))
    (hq : ∀ rg mo ev, Counted s.dev rg → Q (f { s.dev with regs := rg, mon := mo, evt := ev }).pins) : Completes c s Q := by
  obtain ⟨d', hd, he⟩ := Dev.readBy_as s.dev m a f
  obtain ⟨rg, mo, ev, rfl, h1, h2⟩ := hd.split
  exact completes_of_run h (he ▸ hq rg mo ev ⟨h1, h2⟩)

/-- The active core is no management interface, so its writes pass the gate. -/
theorem Dev.passes_of_active (d : Dev) (m : Master) (a : Nat) (h : d.isActive m = true) : d.passes m a = true := by
  unfold Dev.isActive Dev.active at h
  have hm : m = .sageA ∨ m = .sageB := by
    split at h
    · simp at h
    · split at h
      · simp only [beq_iff_eq, Option.some.injEq] at h; exact .inl h.symm
      · simp only [beq_iff_eq, Option.some.injEq] at h; exact .inr h.symm
      · simp at h
  rcases hm with rfl | rfl <;> rfl

/-- The active core is the same after an access is counted. -/
theorem Counted.isActive {d : Dev} {rg : SMap Word} (h : Counted d rg) (mo : MonSt) (ev : EvtSt) (m : Master) :
    ({ d with regs := rg, mon := mo, evt := ev } : Dev).isActive m = d.isActive m := by
  unfold Dev.isActive Dev.active Dev.on Dev.get
  rw [Dev.word_mk, Dev.word_mk, h.1 _ _ _ (by decide), h.1 _ _ _ (by decide)]

/-! What the pins leave. -/

/-- A field outside the pins' registers keeps its value. -/
theorem Dev.pins_get (d : Dev) (f : Fld) (i j : Nat) (h : pinRegs.all (fun x => x.apart f.reg) = true) :
    d.pins.get f i j = d.get f i j := Dev.get_congr (Dev.pins_word_apart d i j h)

/-- So does a one-bit field. -/
theorem Dev.pins_on (d : Dev) (f : Fld) (i j : Nat) (h : pinRegs.all (fun x => x.apart f.reg) = true) :
    d.pins.on f i j = d.on f i j := by
  unfold Dev.on; rw [Dev.pins_get d f i j h]

/-- So does a word. -/
theorem Dev.pins_num (d : Dev) (r : Reg) (i j : Nat) (h : pinRegs.all (fun x => x.apart r) = true) :
    d.pins.num r i j = d.num r i j := by
  unfold Dev.num; rw [Dev.pins_word_apart d i j h]

/-- The parts an operation may change, with the pins after it. -/
theorem Dev.ChangesOnly.pins {d d' : Dev} {ps : List Part} (h : d.ChangesOnly d' ps) (hr : Part.regs ∈ ps) :
    d.ChangesOnly d'.pins ps := by
  intro p hp
  have hp' : p ≠ .regs := fun hc => hp (hc ▸ hr)
  have := h p hp
  cases p <;> simp_all [Dev.Agrees]

/-- The parts two operations may change, one after the other. -/
theorem Dev.ChangesOnly.trans {d d' d'' : Dev} {ps : List Part} (h : d.ChangesOnly d' ps) (h' : d'.ChangesOnly d'' ps) :
    d.ChangesOnly d'' ps := by
  intro p hp
  have h1 := h p hp
  have h2 := h' p hp
  cases p <;> simp only [Dev.Agrees] at h1 h2 ⊢ <;> rw [h2, h1]

/-- A longer list of parts says less. -/
theorem Dev.ChangesOnly.mono {d d' : Dev} {ps qs : List Part} (h : d.ChangesOnly d' ps) (hs : ∀ p ∈ ps, p ∈ qs) :
    d.ChangesOnly d' qs := fun p hp => h p fun hc => hp (hs p hc)

/-- The words an operation may write, with the pins after it. -/
theorem Dev.WritesOnly.pins {d d' : Dev} {as : List Nat} (h : d.WritesOnly d' as) (ha : ∀ a ∈ pinAddrs, a ∈ as) :
    d.WritesOnly d'.pins as := h.trans ((Dev.pins_writesOnly d').mono ha)

/-! Values read back. -/

/-- A one-bit field set to 1 reads 1. -/
theorem Dev.on_set_one (d : Dev) (f : Fld) (i j : Nat) (hi : i < f.reg.n1) (hj : j < f.reg.n2)
    (h : f.hi = f.lo) (h32 : f.hi < 32) : (d.set f 1 i j).on f i j = true := by
  simp [Dev.on, Dev.get_set_self d f 1 i j ⟨hi, hj⟩ h32, h]

/-- A one-bit field set to 0 reads 0. -/
theorem Dev.on_set_zero (d : Dev) (f : Fld) (i j : Nat) (hi : i < f.reg.n1) (hj : j < f.reg.n2)
    (h32 : f.hi < 32) : (d.set f 0 i j).on f i j = false := by
  simp [Dev.on, Dev.get_set_self d f 0 i j ⟨hi, hj⟩ h32]

/-- A one-bit field reads as the flag written. -/
theorem Dev.on_flag (d : Dev) (f : Fld) (b : Bool) (i j : Nat) (hi : i < f.reg.n1) (hj : j < f.reg.n2)
    (h : f.hi = f.lo) (h32 : f.hi < 32) : (d.flag f b i j).on f i j = b := by
  cases b
  · simpa [Dev.flag, b2n] using Dev.on_set_zero d f i j hi hj h32
  · simpa [Dev.flag, b2n] using Dev.on_set_one d f i j hi hj h h32

end Sys2Proof.Machine
end

