-- ==== Sys2Proof/Laws/Crypto.lean ====
section
/-! SUPPORT. Counter mode undoes itself, so that opening what was sealed gives it back (R138). -/

namespace Sys2Proof.Machine

@[simp] theorem beBytes_length (n v : Nat) : (beBytes n v).length = n := by
  induction n with
  | zero => rfl
  | succ n ih => simp [beBytes, ih]

theorem ctrStream_length (ks : List Nat) (iv n c : Nat) : (ctrStream ks iv n c).length = 16 * n := by
  induction n generalizing c with
  | zero => rfl
  | succ n ih => simp [ctrStream, ih]; omega

@[simp] theorem gctr_length (ks : List Nat) (iv : Nat) (t : Bytes) : (gctr ks iv t).length = t.length := by
  simp only [gctr, xorBytes, List.length_zipWith, ctrStream_length]
  omega

theorem xorBytes_twice (a b : Bytes) (h : a.length ≤ b.length) : xorBytes (xorBytes a b) b = a := by
  induction a generalizing b with
  | nil => rfl
  | cons x a ih =>
    cases b with
    | nil => simp at h
    | cons y b =>
      have := ih b (by simpa using h)
      simp only [xorBytes] at this
      simp [xorBytes, this, BitVec.xor_assoc]

/-- Counter mode applied twice gives the text back. -/
theorem gctr_twice (ks : List Nat) (iv : Nat) (t : Bytes) : gctr ks iv (gctr ks iv t) = t := by
  have h : gctr ks iv (gctr ks iv t) = xorBytes (gctr ks iv t) (ctrStream ks iv ((t.length + 15) / 16) 2) := by
    rw [gctr, gctr_length]
  rw [h, gctr, xorBytes_twice]
  rw [ctrStream_length]
  omega

@[simp] theorem gcmSeal_length (key : Bytes) (iv : Nat) (aad t : Bytes) : (gcmSeal key iv aad t).1.length = t.length := by
  simp [gcmSeal]

@[simp] theorem gcmSeal_tag_length (key : Bytes) (iv : Nat) (aad t : Bytes) : (gcmSeal key iv aad t).2.length = 16 := by
  simp [gcmSeal]

/-- Opening a sealed text gives the text, and the tag it was sealed with (R138). -/
theorem gcmOpen_gcmSeal (key : Bytes) (iv : Nat) (aad t : Bytes) :
    gcmOpen key iv aad (gcmSeal key iv aad t).1 = (t, (gcmSeal key iv aad t).2) := by
  simp [gcmOpen, gcmSeal, gctr_twice]

end Sys2Proof.Machine
end

