-- ==== Sys2Proof/Tests/States.lean ====
section
/-! SUPPORT. States for the tests: a module that runs its image, with fields, registers and table entries set. -/

open Sys2Proof Sys2Proof.Machine
namespace Sys2Proof.Tests

/-- Fields set: field, index, value. -/
def fs (d : Dev) (l : List (Fld × Nat × Nat)) : Dev := l.foldl (fun d x => d.set x.1 x.2.2 x.2.1) d

/-- Registers set: register, index, value. -/
def rs (d : Dev) (l : List (Reg × Nat × Nat)) : Dev := l.foldl (fun d x => d.putNum x.1 x.2.2 x.2.1) d

/-- Table entries set: table, index, words. -/
def ts (d : Dev) (l : List (Nat × Nat × List Nat)) : Dev := l.foldl (fun d x => d.setEntry x.1 x.2.1 x.2.2) d

/-- A module that runs its image, Sage A active. -/
def up : Dev :=
  fs { rst := { step := 9, pinsOn := true } } [(F.SAGE_STATUS_HOLDER, 0, 1), (F.SAGE_LEASE_HOLDER, 0, 1), (F.SAGE_STATUS_IMAGE_COMMITTED, 0, 1)]

/-- A state with nothing waiting. -/
def on (d : Dev) : State := { dev := d }

end Sys2Proof.Tests
end

