-- ==== Sys2Proof/WellFormed.lean ====
section
/-! DEFINITION. Which commands the hardware can receive: the numbers of slices, ports, lanes, bays, entries and the like
within the module (R3), words of 32 bits, and byte strings of the length their rule gives.  A command that is not well
formed has no counterpart in the hardware; `exec` takes its operands modulo their range. -/

namespace Sys2Proof

/-- Is every operand of a command within the range its rule gives? -/
def Instr.wf : Instr → Bool
  | .clientFrameArrival port _ _ _ => decide (port < 32)
  | .crossbarTransfer fe _ _ _ => decide (fe < 4)
  | .steer slice _ _ => decide (slice < 8)
  | .lineDequeue port _ _ => decide (port < 32)
  | .sealStart slice port => decide (slice < 8) && decide (port < 32)
  | .sealResume slice port => decide (slice < 8) && decide (port < 32)
  | .sealTagComplete slice port _ => decide (slice < 8) && decide (port < 32)
  | .itemEmit port => decide (port < 32)
  | .timedLaunch port => decide (port < 32)
  | .envelopeFrameTx port => decide (port < 32)
  | .envelopeFrameRx port bytes _ _ => decide (port < 32) && decide (bytes.length = 16384)
  | .segmentDispatch port => decide (port < 32)
  | .fmodeFrameRx port _ _ => decide (port < 32)
  | .tagCheckDone slice _ _ => decide (slice < 8)
  | .segmentTimeout slice port => decide (slice < 8) && decide (port < 32)
  | .verifyHoldRelease slice _ _ => decide (slice < 8)
  | .holdRelease _ => true
  | .holdIntervalEnd stream => decide (stream < 32768)
  | .clientEgressDequeue port _ => decide (port < 32)
  | .learnRequest slice => decide (slice < 8)
  | .controlQueueSend port _ _ => decide (port < 32)
  | .timeMessageSend port _ _ => decide (port < 32)
  | .patrolScrub bay part index err => decide (bay < 4) && decide (part < 2) && decide (index < 2 ^ 26) && decide (err < 4)
  | .counterLineLoad bay line err => decide (bay < 4) && decide (line < 2 ^ 20) && decide (err < 4)
  | .counterLineWriteback bay line _ => decide (bay < 4) && decide (line < 2 ^ 20)
  | .orphanReclaim bay group => decide (bay < 4) && decide (group < 2 ^ 20)
  | .saTableScrub slice dir entry pos _ => decide (slice < 8) && decide (dir < 2) && decide (entry < 8192) && decide (pos < 2)
  | .sweeperVisit slice bucket _ => decide (slice < 8) && decide (bucket < 8192)
  | .laneAdaptationUpdate lane _ _ => decide (lane < 64)
  | .regulatorCalibration _ _ => true
  | .telemetrySample _ => true
  | .rosemaryCompaction => true
  | .openVersion version => decide (version < 2 ^ 16)
  | .closeVersion => true
  | .discardVersion => true
  | .commitNow => true
  | .openPassDone => true
  | .closePassDone => true
  | .versionRetire => true
  | .feResync fe source => decide (fe < 4) && decide (source < 4)
  | .resyncDone fe => decide (fe < 4)
  | .exactMatchInsert words _ => decide (words.all (· < 2 ^ 32) = true)
  | .exactMatchDelete words _ => decide (words.all (· < 2 ^ 32) = true)
  | .ternaryWrite rule part words _ => decide (rule < 8192) && decide (part < 4) && decide (words.all (· < 2 ^ 32) = true)
  | .ternaryDelete rule _ => decide (rule < 8192)
  | .tblRead sel index _ => decide (sel < 2 ^ 32) && decide (index < 2 ^ 32)
  | .tblWrite sel index words _ => decide (sel < 2 ^ 32) && decide (index < 2 ^ 32) && decide (words.all (· < 2 ^ 32) = true)
  | .installTx slice entry _ => decide (slice < 8) && decide (entry < 8192)
  | .installRx slice entry _ => decide (slice < 8) && decide (entry < 8192)
  | .switchNowTx slice entry _ => decide (slice < 8) && decide (entry < 8192)
  | .openNowRx slice entry _ => decide (slice < 8) && decide (entry < 8192)
  | .retireRx slice entry _ => decide (slice < 8) && decide (entry < 8192)
  | .setLimits slice entry _ => decide (slice < 8) && decide (entry < 8192)
  | .zeroize slice dir entry _ => decide (slice < 8) && decide (dir < 2) && decide (entry < 8192)
  | .zeroizeAll slice _ => decide (slice < 8)
  | .satCmdAbort slice ticket _ => decide (slice < 8) && decide (ticket < 2 ^ 16)
  | .saCmdComplete slice => decide (slice < 8)
  | .satKeyStage slice word _ => decide (slice < 8) && decide (word < 2 ^ 32)
  | .rxClosingEnd slice entry => decide (slice < 8) && decide (entry < 8192)
  | .satTriggerFifoRead slice => decide (slice < 8)
  | .diagOpen slice _ => decide (slice < 8)
  | .diagClose slice _ => decide (slice < 8)
  | .diagGo slice op _ => decide (slice < 8) && decide (op < 2)
  | .pipelineFault slice dir pipe kind => decide (slice < 8) && decide (dir < 2) && decide (pipe < 8) && decide (kind < 4)
  | .pipeKatDone slice dir _ => decide (slice < 8) && decide (dir < 2)
  | .katGo slice dir pipe _ => decide (slice < 8) && decide (dir < 2) && decide (pipe < 8)
  | .katDone slice _ => decide (slice < 8)
  | .maskReseedRequest gen => decide (gen < 384)
  | .maskGeneratorStop gen => decide (gen < 384)
  | .lrnFlush slice value => decide (slice < 8) && decide (value < 2 ^ 32)
  | .flushDone slice => decide (slice < 8)
  | .fill meter => decide (meter < 32768)
  | .flushQueue slice queue => decide (slice < 8) && decide (queue < 8192)
  | .flushQueueDone => true
  | .boundSwitch entry => decide (entry < 4096)
  | .boundBankCopy => true
  | .envInstallTx port pos group _ => decide (port < 32) && decide (pos < 2) && decide (group < 1024)
  | .envInstallRx port pos _ => decide (port < 32) && decide (pos < 2)
  | .envSwitchNowTx port _ => decide (port < 32)
  | .envZeroize port dir pos _ => decide (port < 32) && decide (dir < 2) && decide (pos < 2)
  | .envZeroizeAll port _ => decide (port < 32)
  | .envKeyAbort port ticket _ => decide (port < 32) && decide (ticket < 2 ^ 16)
  | .envKeyStage port word _ => decide (port < 32) && decide (word < 2 ^ 32)
  | .multiframeBoundary port => decide (port < 32)
  | .defectTimer port defect => decide (port < 32) && decide (defect < 8)
  | .engineFault port dir pipe block => decide (port < 32) && decide (dir < 2) && decide (pipe < 14) && decide (block < 2048)
  | .restartSeq _ => true
  | .restartMerge _ => true
  | .restartSelfCheckDone _ => true
  | .quietTimeMet pair => decide (pair < 2)
  | .sliceRelocation slice target => decide (slice < 8) && decide (target < 4)
  | .newEpoch bay _ => decide (bay < 4)
  | .epochStart bay => decide (bay < 4)
  | .prevKeyErase bay => decide (bay < 4)
  | .epochAutoTimer bay => decide (bay < 4)
  | .epochPeriodTimer bay => decide (bay < 4)
  | .bayTrainingDone bay _ _ => decide (bay < 4)
  | .bayStackFault bay => decide (bay < 4)
  | .portForm _ port r width => decide (port < 32) && decide (r < 4) && decide (width < 16)
  | .portEnable _ port => decide (port < 32)
  | .portDisable _ port _ => decide (port < 32)
  | .lanePllLock group => decide (group < 16)
  | .cdrLock lane => decide (lane < 64)
  | .adaptDone lane => decide (lane < 64)
  | .adaptRestart lane => decide (lane < 64)
  | .linkUp _ port _ _ => decide (port < 32)
  | .linkDown _ port _ => decide (port < 32)
  | .fecWindowEnd _ port _ _ _ _ _ _ => decide (port < 32)
  | .refclkLoss group _ => decide (group < 16)
  | .los lane => decide (lane < 64)
  | .preemptVerifyAttempt port _ => decide (port < 32)
  | .prbsClear lane => decide (lane < 64)
  | .step _ _ => true
  | .rate _ => true
  | .stepAndRate _ _ => true
  | .thymeSecond => true
  | .rawNsWrap => true
  | .ppsInEdge _ => true
  | .ppsInLoss => true
  | .todInMessage _ _ at_ => decide (at_ < 2 ^ 32)
  | .timeclkGate _ => true
  | .clkLoss => true
  | .thyWrite _ => true
  | .thyAbort ticket _ => decide (ticket < 2 ^ 16)
  | .thyRelease entry _ => decide (entry < 4096)
  | .entryHoldExpiry entry => decide (entry < 4096)
  | .thyDoneFifoRead => true
  | .ruleCommit entry => decide (entry < 4096)
  | .keyAccept entry => decide (entry < 4096)
  | .keySwitch entry => decide (entry < 4096)
  | .keyRetire entry => decide (entry < 4096)
  | .pulseOne entry => decide (entry < 4096)
  | .pulseStart entry => decide (entry < 4096)
  | .pulseStop entry => decide (entry < 4096)
  | .event entry => decide (entry < 4096)
  | .pulseEdge pin => decide (pin < 4)
  | .pulseEnd pin => decide (pin < 4)
  | .ppsOutCtrlWrite pin value => decide (pin < 4) && decide (value < 2 ^ 32)
  | .snapshotCapture => true
  | .txsFifoRead => true
  | .ppsInStatusRead => true
  | .todStatusRead => true
  | .sageRenew value _ => decide (value < 2 ^ 32)
  | .sageAlive value _ => decide (value < 2 ^ 32)
  | .aliveTimeout core => decide (core < 2)
  | .leaseExpiry => true
  | .leaseGrant => true
  | .sageHandover value _ => decide (value < 2 ^ 32)
  | .revertHoldoffMet => true
  | .sageWdtKick value _ => decide (value < 2 ^ 32)
  | .coreWatchdogExpiry core => decide (core < 2)
  | .globalWatchdogExpiry => true
  | .imageCommit _ => true
  | .bootConfiguration => true
  | .updStart _ => true
  | .updEraseDone _ => true
  | .updData word _ _ => decide (word < 2 ^ 32)
  | .updFinish _ => true
  | .updVerifyDone _ => true
  | .updCommit _ => true
  | .updComplete _ => true
  | .updAbort ticket _ => decide (ticket < 2 ^ 16)
  | .svnAdvance value _ => decide (value < 64)
  | .svnDone => true
  | .csLoad _ => true
  | .sageMboxClear _ => true
  | .sageMboxData word _ => decide (word < 2 ^ 32)
  | .csVerifyDone => true
  | .csStagingDone _ => true
  | .csCutoff => true
  | .csAbort ticket _ => decide (ticket < 2 ^ 16)
  | .csPostAndMark => true
  | .oobDatagramRx _ => true
  | .fragmentTimeout => true
  | .helloInit _ => true
  | .helloResp _ => true
  | .helloConfirm _ => true
  | .nudge _ => true
  | .nudgeTimer => true
  | .helloWaitTimeout member => decide (member < 4096)
  | .assocRenewal member => decide (member < 4096)
  | .oldKeysExpiry member => decide (member < 4096)
  | .heartbeat _ => true
  | .heartbeatSend => true
  | .peerLost member => decide (member < 4096)
  | .digestReq _ => true
  | .digestResp _ => true
  | .digestRespTimeout member => decide (member < 4096)
  | .gateGraceExpiry member service => decide (member < 4096) && decide (service < 16384)
  | .keyOffer _ _ => true
  | .keyAck _ => true
  | .keyCancel _ => true
  | .ksiNotice _ => true
  | .rekeyReq _ => true
  | .ksHandover _ => true
  | .offerResend _ => true
  | .keyChangeStart _ an suite _ _ => decide (an < 4) && decide (suite < 2)
  | .ksLeaseExpiry => true
  | .ksHoldoffMet member => decide (member < 4096)
  | .mkaMkpdu _ => true
  | .mkaHelloTimer port => decide (port < 32)
  | .noiseBlockComplete source samples => decide (source < 4) && decide (samples.length = 128)
  | .startupTestDone source samples => decide (source < 4) && decide (samples.length = 128)
  | .sourceRestartDone source samples => decide (source < 4) && decide (samples.length = 32)
  | .drbgInstantiate => true
  | .mintRequestServe => true
  | .mintReseed => true
  | .reseedTimer => true
  | .mntCmdKey words _ => decide (words < 32)
  | .mntCmdRand words _ => decide (words < 32)
  | .mntCmdReseed _ => true
  | .mntCmdKat _ => true
  | .mntKeyOutRead _ => true
  | .mntRandOutRead _ => true
  | .sourceRestart mask _ => decide (mask < 16)
  | .sourceEnable enable => decide (enable < 2 ^ 32)
  | .testCtrlWrite value _ => decide (value < 2 ^ 32)
  | .mntTestData word _ => decide (word < 2 ^ 32)
  | .mntTestOutRead _ => true
  | .rawCaptureRead _ => true
  | .eventOrdering => true
  | .evtFifoRead => true
  | .evtSwRaise bit _ => decide (bit < 8)
  | .evtForce source eventBit _ => decide (source < 2048) && decide (eventBit < 32)
  | .lightDetectorTrip region detector => decide (region < 12) && decide (detector < 8)
  | .detectorDisagree region => decide (region < 12)
  | .environmentTrip source => decide (source < 22)
  | .class3Hold => true
  | .tampUnmute scopes _ => decide (scopes < 8)
  | .autoUnmute scope => decide (scope < 3)
  | .tampFuseConfirm value _ => decide (value < 2 ^ 32)
  | .tampFuseCmd regions _ => decide (regions < 4096)
  | .fuseDone _ => true
  | .stickyClear which mask _ => decide (which < 14) && decide (mask < 2 ^ 32)
  | .rosemaryPageProgram => true
  | .powerOn _ => true
  | .borVin _ => true
  | .borVaux _ => true
  | .resetPin _ => true
  | .swReset key scope _ => decide (key < 2 ^ 16) && decide (scope < 2 ^ 16)
  | .debugReset => true
  | .clockFailure domain => decide (domain < 5)
  | .lockupCore core target => decide (core < 2) && decide (target < 8)
  | .lockupFabric master target => decide (master < 7) && decide (target < 8)
  | .railFault rail => decide (rail < 12)
  | .railRecovered rail => decide (rail < 12)
  | .phaseOcp phase => decide (phase < 90)
  | .railPowerUp _ => true
  | .trimLoad _ => true
  | .clocksGood mask => decide (mask < 16)
  | .zeroizationDone _ _ => true
  | .domainRelease => true
  | .slotChoice _ _ _ _ => true
  | .imageVerifyDone _ _ => true
  | .domainResetEnd domain _ _ => decide (domain < 5)
  | .spiRead _ => true
  | .spiWrite _ => true
  | .spiReset _ => true
  | .spiStatus => true
  | .i2cRead target _ => decide (target < 128)
  | .i2cWrite target _ => decide (target < 128)
  | .i2cReset target _ => decide (target < 128)
  | .i2cStatus target => decide (target < 128)
  | .i2cSclTimeout => true
  | .mgmtEthFrame _ => true
  | .clientHello _ hdr _ => decide (hdr.length = 20)
  | .clientConfirm _ hdr _ => decide (hdr.length = 20)
  | .sessionRead _ hdr _ _ => decide (hdr.length = 20)
  | .sessionWrite _ hdr _ _ => decide (hdr.length = 20)
  | .sessionTable _ hdr _ _ => decide (hdr.length = 20)
  | .sessionLog _ hdr _ _ => decide (hdr.length = 20)
  | .attest _ hdr _ _ => decide (hdr.length = 20)
  | .sessionChangeSet _ hdr _ _ => decide (hdr.length = 20)
  | .sessionImage _ hdr _ _ => decide (hdr.length = 20)
  | .sessionCsAbort _ hdr _ _ => decide (hdr.length = 20)
  | .sessionClose _ hdr _ _ => decide (hdr.length = 20)
  | .subscribe _ hdr _ _ => decide (hdr.length = 20)
  | .sessionIdleTimeout session => decide (session < 8)
  | .sessionLifetimeExpiry session => decide (session < 8)
  | .sourceBlockExpiry _ => true
  | .glbLcsConfirm value _ => decide (value < 2 ^ 32)
  | .provision _ => true
  | .operate _ => true
  | .fieldReturn _ => true
  | .decommission _ => true
  | .lcsTransitionComplete _ => true
  | .provisionBufferRead index _ => decide (index < 256)
  | .exportTimeout => true
  | .fuseOperator slot _ => decide (slot < 4)
  | .revokeOperator slot _ => decide (slot < 4)
  | .revokeVendor slot _ => decide (slot < 4)
  | .keyslotDone _ => true
  | .snapshotBankSwitch => true
  | .telemetryExport session _ => decide (session < 8)
  | .readClear addr _ => decide (addr < 2 ^ 32)
  | .w1cWrite addr mask _ => decide (addr < 2 ^ 32) && decide (mask < 2 ^ 32)
  | .loLatchRead addr _ => decide (addr < 2 ^ 32)
  | .registerWrite addr word _ => decide (addr < 2 ^ 32) && decide (word < 2 ^ 32)
  | .noiseSampleTestFailure source => decide (source < 4)
  | .alignmentSearchBlock port block _ => decide (port < 32) && decide (block.length = 8)
  | .cdrUnlock lane => decide (lane < 64)
  | .prbsLockGained lane => decide (lane < 64)
  | .prbsLockLost lane _ => decide (lane < 64)
  | .mgmtEthLinkUp => true
  | .mgmtEthLinkDown => true
  | .mkaLifeTimeExpiry port => decide (port < 32)
  | .sakChangeInterval port => decide (port < 32)
  | .todInLoss => true
  | .announceReceiptTimeout => true
  | .ptpSlaveMessage _ _ => true
  | .alarmConditionEnd _ _ => true
  | .envKeyCmdComplete port => decide (port < 32)
  | .boundCopyDone => true
  | .untimedRetireTimer _ => true
  | .unusedNewEntryTimeout _ => true
  | .localGroupSwitch _ => true

end Sys2Proof
end

