-- ==== Sys2Proof/Tests/Slice0.lean ====
section
/-! SUPPORT. Tests.  Expected values come from the worked examples of the manual, from its reset tables, or from the
published vectors of the standards it names. -/

open Sys2Proof Sys2Proof.Machine
namespace Sys2Proof.Tests
set_option Elab.async false

/-! Well-formed commands: one operand just outside its range is refused, the largest inside is not. -/

theorem test_wf_refuses_1 :
    Instr.wf (.readClear 4294967296 .sageA) = false ∧
    Instr.wf (.keyChangeStart {} 4 0 false {}) = false ∧
    Instr.wf (.todInMessage [] 0 4294967296) = false ∧
    Instr.wf (.patrolScrub 4 0 0 0) = false ∧
    Instr.wf (.evtSwRaise 8 .sageA) = false ∧
    Instr.wf (.engineFault 0 0 0 2048) = false ∧
    Instr.wf (.alignmentSearchBlock 0 (zeros 7) false) = false ∧
    Instr.wf (.sweeperVisit 0 8192 none) = false ∧
    Instr.wf (.envelopeFrameRx 0 [] 0 false) = false ∧
    Instr.wf (.aliveTimeout 2) = false ∧
    Instr.wf (.defectTimer 0 8) = false ∧
    Instr.wf (.lightDetectorTrip 0 8) = false ∧
    Instr.wf (.saTableScrub 0 2 0 0 0) = false ∧
    Instr.wf (.clockFailure 5) = false ∧
    Instr.wf (.sourceEnable 4294967296) = false ∧
    Instr.wf (.boundSwitch 4096) = false ∧
    Instr.wf (.saTableScrub 0 0 8192 0 0) = false ∧
    Instr.wf (.patrolScrub 0 0 0 4) = false ∧
    Instr.wf (.evtForce 0 32 .sageA) = false ∧
    Instr.wf (.crossbarTransfer 4 false 0 none) = false := by decide +kernel

theorem test_wf_refuses_2 :
    Instr.wf (.maskReseedRequest 384) = false ∧
    Instr.wf (.envInstallTx 0 0 1024 .sageA) = false ∧
    Instr.wf (.lanePllLock 16) = false ∧
    Instr.wf (.orphanReclaim 0 1048576) = false ∧
    Instr.wf (.clientHello 0 (zeros 19) []) = false ∧
    Instr.wf (.patrolScrub 0 0 67108864 0) = false ∧
    Instr.wf (.tblRead 0 4294967296 .sageA) = false ∧
    Instr.wf (.provisionBufferRead 256 .sageA) = false ∧
    Instr.wf (.swReset 65536 0 .sageA) = false ∧
    Instr.wf (.pipelineFault 0 0 0 4) = false ∧
    Instr.wf (.laneAdaptationUpdate 64 0 0) = false ∧
    Instr.wf (.counterLineLoad 0 1048576 0) = false ∧
    Instr.wf (.sourceRestart 16 .sageA) = false ∧
    Instr.wf (.stickyClear 0 4294967296 .sageA) = false ∧
    Instr.wf (.lockupFabric 7 0) = false ∧
    Instr.wf (.helloWaitTimeout 4096) = false ∧
    Instr.wf (.fill 32768) = false ∧
    Instr.wf (.diagGo 0 2 0) = false ∧
    Instr.wf (.quietTimeMet 2) = false ∧
    Instr.wf (.patrolScrub 0 2 0 0) = false := by decide +kernel

theorem test_wf_refuses_3 :
    Instr.wf (.ternaryWrite 0 4 [] .sageA) = false ∧
    Instr.wf (.phaseOcp 90) = false ∧
    Instr.wf (.pulseEdge 4) = false ∧
    Instr.wf (.engineFault 0 0 14 0) = false ∧
    Instr.wf (.pipelineFault 0 0 8 0) = false ∧
    Instr.wf (.clientFrameArrival 32 [] 0 none) = false ∧
    Instr.wf (.saTableScrub 0 0 0 2 0) = false ∧
    Instr.wf (.flushQueue 0 8192) = false ∧
    Instr.wf (.portForm false 0 4 0) = false ∧
    Instr.wf (.railFault 12) = false ∧
    Instr.wf (.lightDetectorTrip 12 0) = false ∧
    Instr.wf (.tampFuseCmd 4096 .sageA) = false ∧
    Instr.wf (.ternaryWrite 8192 0 [] .sageA) = false ∧
    Instr.wf (.noiseBlockComplete 0 (zeros 127)) = false ∧
    Instr.wf (.sourceRestartDone 0 (zeros 31)) = false ∧
    Instr.wf (.swReset 0 65536 .sageA) = false ∧
    Instr.wf (.autoUnmute 3) = false ∧
    Instr.wf (.tampUnmute 8 .sageA) = false ∧
    Instr.wf (.tblRead 4294967296 0 .sageA) = false ∧
    Instr.wf (.gateGraceExpiry 0 16384) = false := by decide +kernel

theorem test_wf_refuses_4 :
    Instr.wf (.sessionIdleTimeout 8) = false ∧
    Instr.wf (.steer 8 false none) = false ∧
    Instr.wf (.fuseOperator 4 .sageA) = false ∧
    Instr.wf (.evtForce 2048 0 .sageA) = false ∧
    Instr.wf (.environmentTrip 22) = false ∧
    Instr.wf (.feResync 0 4) = false ∧
    Instr.wf (.holdIntervalEnd 32768) = false ∧
    Instr.wf (.keyChangeStart {} 0 2 false {}) = false ∧
    Instr.wf (.i2cRead 128 []) = false ∧
    Instr.wf (.sliceRelocation 0 4) = false ∧
    Instr.wf (.lockupCore 0 8) = false ∧
    Instr.wf (.satCmdAbort 0 65536 .sageA) = false ∧
    Instr.wf (.lrnFlush 0 4294967296) = false ∧
    Instr.wf (.svnAdvance 64 .sageA) = false ∧
    Instr.wf (.openVersion 65536) = false ∧
    Instr.wf (.stickyClear 14 0 .sageA) = false ∧
    Instr.wf (.portForm false 0 0 16) = false ∧
    Instr.wf (.satKeyStage 0 4294967296 .sageA) = false ∧
    Instr.wf (.mntCmdKey 32 .sageA) = false ∧
    Instr.wf (.exactMatchInsert [2 ^ 32] .sageA) = false := by decide +kernel

theorem test_wf_admits_1 :
    Instr.wf (.readClear 4294967295 .sageA) = true ∧
    Instr.wf (.keyChangeStart {} 3 0 false {}) = true ∧
    Instr.wf (.todInMessage [] 0 4294967295) = true ∧
    Instr.wf (.patrolScrub 3 0 0 0) = true ∧
    Instr.wf (.evtSwRaise 7 .sageA) = true ∧
    Instr.wf (.engineFault 0 0 0 2047) = true ∧
    Instr.wf (.alignmentSearchBlock 0 (zeros 8) false) = true ∧
    Instr.wf (.sweeperVisit 0 8191 none) = true ∧
    Instr.wf (.aliveTimeout 1) = true ∧
    Instr.wf (.defectTimer 0 7) = true ∧
    Instr.wf (.lightDetectorTrip 0 7) = true ∧
    Instr.wf (.saTableScrub 0 1 0 0 0) = true ∧
    Instr.wf (.clockFailure 4) = true ∧
    Instr.wf (.sourceEnable 4294967295) = true ∧
    Instr.wf (.boundSwitch 4095) = true ∧
    Instr.wf (.saTableScrub 0 0 8191 0 0) = true ∧
    Instr.wf (.patrolScrub 0 0 0 3) = true ∧
    Instr.wf (.evtForce 0 31 .sageA) = true ∧
    Instr.wf (.crossbarTransfer 3 false 0 none) = true ∧
    Instr.wf (.maskReseedRequest 383) = true := by decide +kernel

theorem test_wf_admits_2 :
    Instr.wf (.envInstallTx 0 0 1023 .sageA) = true ∧
    Instr.wf (.lanePllLock 15) = true ∧
    Instr.wf (.orphanReclaim 0 1048575) = true ∧
    Instr.wf (.clientHello 0 (zeros 20) []) = true ∧
    Instr.wf (.patrolScrub 0 0 67108863 0) = true ∧
    Instr.wf (.tblRead 0 4294967295 .sageA) = true ∧
    Instr.wf (.provisionBufferRead 255 .sageA) = true ∧
    Instr.wf (.swReset 65535 0 .sageA) = true ∧
    Instr.wf (.pipelineFault 0 0 0 3) = true ∧
    Instr.wf (.laneAdaptationUpdate 63 0 0) = true ∧
    Instr.wf (.counterLineLoad 0 1048575 0) = true ∧
    Instr.wf (.sourceRestart 15 .sageA) = true ∧
    Instr.wf (.stickyClear 0 4294967295 .sageA) = true ∧
    Instr.wf (.lockupFabric 6 0) = true ∧
    Instr.wf (.helloWaitTimeout 4095) = true ∧
    Instr.wf (.fill 32767) = true ∧
    Instr.wf (.diagGo 0 1 0) = true ∧
    Instr.wf (.quietTimeMet 1) = true ∧
    Instr.wf (.patrolScrub 0 1 0 0) = true ∧
    Instr.wf (.ternaryWrite 0 3 [] .sageA) = true := by decide +kernel

theorem test_wf_admits_3 :
    Instr.wf (.phaseOcp 89) = true ∧
    Instr.wf (.pulseEdge 3) = true ∧
    Instr.wf (.engineFault 0 0 13 0) = true ∧
    Instr.wf (.pipelineFault 0 0 7 0) = true ∧
    Instr.wf (.clientFrameArrival 31 [] 0 none) = true ∧
    Instr.wf (.saTableScrub 0 0 0 1 0) = true ∧
    Instr.wf (.flushQueue 0 8191) = true ∧
    Instr.wf (.portForm false 0 3 0) = true ∧
    Instr.wf (.railFault 11) = true ∧
    Instr.wf (.lightDetectorTrip 11 0) = true ∧
    Instr.wf (.tampFuseCmd 4095 .sageA) = true ∧
    Instr.wf (.ternaryWrite 8191 0 [] .sageA) = true ∧
    Instr.wf (.noiseBlockComplete 0 (zeros 128)) = true ∧
    Instr.wf (.sourceRestartDone 0 (zeros 32)) = true ∧
    Instr.wf (.swReset 0 65535 .sageA) = true ∧
    Instr.wf (.autoUnmute 2) = true ∧
    Instr.wf (.tampUnmute 7 .sageA) = true ∧
    Instr.wf (.tblRead 4294967295 0 .sageA) = true ∧
    Instr.wf (.gateGraceExpiry 0 16383) = true ∧
    Instr.wf (.sessionIdleTimeout 7) = true := by decide +kernel

theorem test_wf_admits_4 :
    Instr.wf (.steer 7 false none) = true ∧
    Instr.wf (.fuseOperator 3 .sageA) = true ∧
    Instr.wf (.evtForce 2047 0 .sageA) = true ∧
    Instr.wf (.environmentTrip 21) = true ∧
    Instr.wf (.feResync 0 3) = true ∧
    Instr.wf (.holdIntervalEnd 32767) = true ∧
    Instr.wf (.keyChangeStart {} 0 1 false {}) = true ∧
    Instr.wf (.i2cRead 127 []) = true ∧
    Instr.wf (.sliceRelocation 0 3) = true ∧
    Instr.wf (.lockupCore 0 7) = true ∧
    Instr.wf (.satCmdAbort 0 65535 .sageA) = true ∧
    Instr.wf (.lrnFlush 0 4294967295) = true ∧
    Instr.wf (.svnAdvance 63 .sageA) = true ∧
    Instr.wf (.openVersion 65535) = true ∧
    Instr.wf (.stickyClear 13 0 .sageA) = true ∧
    Instr.wf (.portForm false 0 0 15) = true ∧
    Instr.wf (.satKeyStage 0 4294967295 .sageA) = true ∧
    Instr.wf (.mntCmdKey 31 .sageA) = true ∧
    Instr.wf (.exactMatchInsert [2 ^ 32 - 1] .sageA) = true := by decide +kernel

/-! The statements about the queue and the whole machine: states that meet their hypotheses. -/

theorem wit_StepRunsFrontCommand :
    (∃ (s : State) (c : Instr) (rest : List Instr), s.pending = c :: rest) ∧ (∃ s : State, s.pending = []) :=
  ⟨⟨{ dev := up, pending := [.thymeSecond] }, .thymeSecond, [], rfl⟩, ⟨on up, rfl⟩⟩

theorem wit_QueueDrainsInOrder :
    ∃ (cs rest : List Instr) (s : State), s.pending = cs ++ rest ∧ cs ≠ [] ∧ rest ≠ [] :=
  ⟨[.thymeSecond], [.rawNsWrap], { dev := up, pending := [.thymeSecond, .rawNsWrap] }, rfl, by simp, by simp⟩

theorem wit_EveryStepKeepsPins : ∃ s t : State, step s = .next t := ⟨on up, _, rfl⟩

/-- A word spells no command (log entry 16). -/
theorem test_decode_none (n w : Nat) : decodeTableWord n w = none := rfl

/-! Worked examples of the manual. -/

/-- ELEN of 128, 1,024 and 8,000 bytes in E-mode (chapter 6, an oversubscribed port at Ostrel). -/
theorem test_elen : elenOf false true 128 = 169 ∧ elenOf false true 1024 = 1069 ∧ elenOf false true 8000 = 8072 := by decide

/-- The shim of the first frame after the Ostrel rekey (chapter 4). -/
theorem test_shim :
    shimBytes { prot := true, path := false, cls := 1, bound := 200000, msn := 0x00010A3C } =
      [0x88#8, 0xB5#8, 0x65#8, 0x90#8, 0x00#8, 0x01#8, 0x0A#8, 0x3C#8] := by decide

/-- Its encoded bound. -/
theorem test_bound : boundOf 12 16 = 196608 := by decide

/-- Its nonce, from SSCI, PN and salt. -/
theorem test_nonce : gcmIv 1 0 0x01740040 1 (beBytes 12 0x1D229F046B10A3C75E08C291) = 0x1C569F446B10A3C75E08C290 := by
  decide +kernel

/-- Its associated data and its record header. -/
theorem test_record :
    beNat (recordAad 0x6106 2 1504 1) = 0x61068001000005E00000000000000001 ∧
    beNat (segHeader 0x6106 2 0 1504 1504 1 true false) = 0x6106B00005E005E00000000000000001 := by decide +kernel

/-- The SecTAG of the same frame on an F-mode port. -/
theorem test_sectag : beNat (secTag 2 1 0x025A0C1100024040) = 0x88E52E0000000001025A0C1100024040 := by decide +kernel

/-- Two delays and their bins (chapter 19, queue delay at Ostrel). -/
theorem test_bins : monBin 40000 0 10 = 6 ∧ monBin 190000 0 10 = 8 := by decide

/-- The counter of tag failures on slice 3's receive entries 0x0100-0x01FF (chapter 19) counts one on entry 0x0106 and none
on 0x0206. -/
theorem test_counter :
    up.cntMatch [0x80120000, 0, 0x30000000, 0x100, 0x1FF] 0x12 { rxe := some 0x106 } = true ∧
    up.cntMatch [0x80120000, 0, 0x30000000, 0x100, 0x1FF] 0x12 { rxe := some 0x206 } = false := by decide +kernel

/-- Ostrel's module at raw 2.180 s, the step and the second staged (chapter 12). -/
def ostrel : Dev :=
  rs (fs { up with tim := { clk := 2180000000 } }
    [(F.TIM_STAGE_NS_STEP_LO, 0, 43905059504109 % 2 ^ 32), (F.TIM_STAGE_WRAP_STEP_HI, 0, 43905059504109 / 2 ^ 32),
     (F.TIM_STAGE_SECNEXT_WRAP_WRAP, 0, 0x27EF), (F.TIM_STAGE_SECNEXT_NS_NS, 0, 0x2CD8CA00)])
    [(R.TIM_STAGE_SEC_LO, 0, 1900000000)]

/-- STEP with LOAD_SEC: network time becomes (0x27EE, 0xF369_E8ED). -/
theorem test_step_net : (doStep true .sageA ostrel).net = 0x27EEF369E8ED := by decide +kernel

/-- STEP with LOAD_SEC: the second count is 0x713F_B300. -/
theorem test_step_sec : (doStep true .sageA ostrel).tim.sec = 0x713FB300 := by decide +kernel

/-! Published vectors of the standards that the manual names. -/

/-- AES-256, FIPS 197, appendix C.3. -/
theorem test_aes : aes256 (beBytes 32 0x000102030405060708090a0b0c0d0e0f101112131415161718191a1b1c1d1e1f)
    0x00112233445566778899aabbccddeeff = 0x8ea2b7ca516745bfeafc49904b496089 := by decide +kernel

/-- The check values of the CRCs over the digits 1 to 9 (R60, R73, R375, R546). -/
theorem test_crcs :
    crc32 (ascii "123456789") = 0xCBF43926 ∧ crc16 (ascii "123456789") = 0x29B1 ∧ crc8 (ascii "123456789") = 0xF4 ∧
    crc64 (ascii "123456789") = 0x6C40DF5F0B497347 := by decide +kernel

/-! One step. -/

/-- A slice with key words, a PN and limits staged. -/
def staged : Dev :=
  rs (fs { up with sat := { sl := [(2, { words := List.replicate 11 7 })] } } [(F.LPORT_CTRL_WIDTH, 0, 4)])
    [(R.SAT_STAGE_ATTR, 2, 2 ^ 31), (R.SAT_STAGE_PN_LO, 2, 1), (R.SAT_USAGE_LIMIT_FRM, 2, 5), (R.SAT_USAGE_LIMIT_BLK, 2, 5)]

/-- An INSTALL_TX with its words staged puts SAT_CMD_STATUS into RUN with ticket 1 (R115). -/
theorem test_install :
    (match step { dev := staged, pending := [.installTx 2 1 .sageA] } with
     | .next t => (t.dev.get F.SAT_CMD_STATUS_TICKET 2, t.pending.length)
     | _ => (0, 1)) = (1, 0) := by decide +kernel

/-- A write of 1 clears, of 0 leaves (R14). -/
theorem test_w1c :
    (match step { dev := rs up [(R.SAT_EVT_STATUS, 3, 7)], pending := [.w1cWrite (R.SAT_EVT_STATUS.addr 3 0) 5 .sageA] } with
     | .next t => t.dev.num R.SAT_EVT_STATUS 3
     | _ => 0) = 2 := by decide +kernel

end Sys2Proof.Tests
end

