-- ==== Sys2Proof/Tests/Witness1.lean ====
section
/-! SUPPORT. States and operands that meet the hypotheses of the statements, group 1: for each clause of a
statement one state in which all its hypotheses hold together. -/

open Sys2Proof Sys2Proof.Machine
namespace Sys2Proof.Tests.W1
set_option Elab.async false

def lreq : LrnReq := { entry := 0, mpi := 3, mac := 5, peer := 2, tx := 1 }
def lb : Nat := lrnBucket 3 5
def stg : Dev := { rs up [(R.SAT_STAGE_ATTR, 1, 2^31), (R.SAT_STAGE_PN_LO, 1, 1), (R.SAT_USAGE_LIMIT_FRM, 1, 5), (R.SAT_USAGE_LIMIT_BLK, 1, 5)] with sat := { sl := [(1, { words := List.replicate 11 7 })] } }
def cm (op dir : Nat) : SatCmd := { op := op, dir := dir, entry := 1, ticket := 4, attr := 2^31, pn := 1, frm := 5, blk := 5, words := List.replicate 11 7 }
def cd (op dir : Nat) : Dev := { up with sat := { sl := [(1, { cmd := some (cm op dir), ticket := 4 })] } }
def fac : Dev := { up with fuse := { lcs := 0 } }

theorem wit_LearningServes :
    (∃ (s : State) (slice : Nat),
      s.dev.sliceOff (slice % 8) = false ∧
      s.dev.on F.LRN_FLUSH_BUSY (slice % 8) = false ∧
      s.dev.on F.LRN_CTRL_SWEEP_EN (slice % 8) = true) ∧
    (∃ (s : State) (slice : Nat) (w : Nat) (r : LrnReq) (q : List LrnReq),
      s.dev.sliceOff (slice % 8) = false ∧
      SMap.get [] s.dev.lrn.queue (slice % 8) = r :: q ∧
      s.dev.lrnFind (slice % 8) r.mpi r.mac = none ∧
      (s.dev.tf (80 + slice % 8) r.mpi 0 31 16 = 0 ∨ s.dev.lrnCount (slice % 8) r.mpi < s.dev.tf (80 + slice % 8) r.mpi 0 31 16) ∧
      w < 4 ∧
      (s.dev.lrnEnt (slice % 8) (lrnBucket r.mpi r.mac * 4 + w)).valid = false) ∧
    (∃ (s : State) (slice : Nat) (value : Nat),
      s.dev.sliceOff (slice % 8) = false ∧
      bit value 31 = true ∧
      s.dev.on F.LRN_FLUSH_BUSY (slice % 8) = false) ∧
    (∃ (s : State) (slice : Nat),
      s.dev.sliceOff (slice % 8) = false ∧
      s.dev.on F.LRN_FLUSH_BUSY (slice % 8) = true) :=
  ⟨⟨on { fs up [(F.LRN_CTRL_SWEEP_EN, 1, 1)] with lrn := { tab := [(32768, { valid := true, mac := 1 }), (32769, { valid := true, hit := true, mac := 2 }), (32770, { valid := true, static := true, mac := 4 }), (32772, { valid := true, mac := 7 })] } }, 9, by decide +kernel, by decide +kernel, by decide +kernel⟩,
    ⟨on { up with lrn := { queue := [(1, [lreq])], tab := [(32768 + lb * 4, { valid := true, mac := 9 })] } }, 9, 3, lreq, [], by decide +kernel, by decide +kernel, by decide +kernel, by decide +kernel, by decide +kernel, by decide +kernel⟩,
    ⟨on up, 9, 2^31 + 5, by decide +kernel, by decide +kernel, by decide +kernel⟩,
    ⟨on { fs up [(F.LRN_FLUSH_BUSY, 1, 1)] with lrn := { flushSel := [(1, 2^28)], tab := [(32768, { valid := true, mac := 1 }), (32772, { valid := true, static := true, mac := 7 })] } }, 9, by decide +kernel, by decide +kernel⟩⟩

theorem wit_SaCommandsServed :
    (∃ (s : State) (slice : Nat) (entry : Nat) (m : Master),
      s.dev.isActive m = true ∧
      (s.dev.sl (slice % 8)).cmd = none ∧
      s.dev.satStop (slice % 8) (s.dev.saStaged (slice % 8) 1 0 entry) = 0) ∧
    (∃ (s : State) (slice : Nat) (entry : Nat) (m : Master),
      s.dev.isActive m = true ∧
      (s.dev.sl (slice % 8)).cmd = none ∧
      s.dev.satStop (slice % 8) (s.dev.saStaged (slice % 8) 2 1 entry) = 0) ∧
    (∃ (s : State) (slice : Nat) (entry : Nat) (m : Master),
      s.dev.isActive m = true ∧
      (s.dev.sl (slice % 8)).cmd = none ∧
      s.dev.satStop (slice % 8) (s.dev.saStaged (slice % 8) 3 0 entry) = 0) ∧
    (∃ (s : State) (slice : Nat) (entry : Nat) (m : Master),
      s.dev.isActive m = true ∧
      (s.dev.sl (slice % 8)).cmd = none ∧
      s.dev.satStop (slice % 8) (s.dev.saStaged (slice % 8) 4 1 entry) = 0) ∧
    (∃ (s : State) (slice : Nat) (entry : Nat) (m : Master),
      s.dev.isActive m = true ∧
      (s.dev.sl (slice % 8)).cmd = none ∧
      s.dev.satStop (slice % 8) (s.dev.saStaged (slice % 8) 5 1 entry) = 0) ∧
    (∃ (s : State) (slice : Nat) (entry : Nat) (m : Master),
      s.dev.isActive m = true ∧
      (s.dev.sl (slice % 8)).cmd = none ∧
      s.dev.satStop (slice % 8) (s.dev.saStaged (slice % 8) 6 0 entry) = 0) ∧
    (∃ (dir : Nat) (s : State) (slice : Nat) (entry : Nat) (m : Master),
      s.dev.isActive m = true ∧
      (s.dev.sl (slice % 8)).cmd = none ∧
      s.dev.satStop (slice % 8) (s.dev.saStaged (slice % 8) 7 (dir % 2) entry) = 0) ∧
    (∃ (s : State) (slice : Nat) (m : Master),
      s.dev.isActive m = true ∧
      (s.dev.sl (slice % 8)).cmd = none ∧
      s.dev.satStop (slice % 8) (s.dev.saStaged (slice % 8) 8 0 0) = 0) ∧
    (∃ (s : State) (slice : Nat) (entry : Nat) (m : Master),
      s.dev.isActive m = true ∧
      (s.dev.sl (slice % 8)).cmd = none ∧
      s.dev.satStop (slice % 8) (s.dev.saStaged (slice % 8) 1 0 entry) ≠ 0) ∧
    (∃ (s : State) (slice : Nat) (entry : Nat) (m : Master),
      s.dev.isActive m = true ∧
      (s.dev.sl (slice % 8)).cmd = none ∧
      s.dev.satStop (slice % 8) (s.dev.saStaged (slice % 8) 2 1 entry) ≠ 0) ∧
    (∃ (s : State) (slice : Nat) (entry : Nat) (m : Master),
      s.dev.isActive m = true ∧
      (s.dev.sl (slice % 8)).cmd = none ∧
      s.dev.satStop (slice % 8) (s.dev.saStaged (slice % 8) 3 0 entry) ≠ 0) ∧
    (∃ (s : State) (slice : Nat) (entry : Nat) (m : Master),
      s.dev.isActive m = true ∧
      (s.dev.sl (slice % 8)).cmd = none ∧
      s.dev.satStop (slice % 8) (s.dev.saStaged (slice % 8) 4 1 entry) ≠ 0) ∧
    (∃ (s : State) (slice : Nat) (entry : Nat) (m : Master),
      s.dev.isActive m = true ∧
      (s.dev.sl (slice % 8)).cmd = none ∧
      s.dev.satStop (slice % 8) (s.dev.saStaged (slice % 8) 5 1 entry) ≠ 0) ∧
    (∃ (s : State) (slice : Nat) (entry : Nat) (m : Master),
      s.dev.isActive m = true ∧
      (s.dev.sl (slice % 8)).cmd = none ∧
      s.dev.satStop (slice % 8) (s.dev.saStaged (slice % 8) 6 0 entry) ≠ 0) ∧
    (∃ (dir : Nat) (s : State) (slice : Nat) (entry : Nat) (m : Master),
      s.dev.isActive m = true ∧
      (s.dev.sl (slice % 8)).cmd = none ∧
      s.dev.satStop (slice % 8) (s.dev.saStaged (slice % 8) 7 (dir % 2) entry) ≠ 0) :=
  ⟨⟨on (fs stg [(F.LPORT_CTRL_WIDTH, 0, 4)]), 9, 8193, .sageA, by decide +kernel, by decide +kernel, by decide +kernel⟩,
    ⟨on stg, 9, 1, .sageA, by decide +kernel, by decide +kernel, by decide +kernel⟩,
    ⟨on (up.setTx 1 1 0 { st := 1 }), 9, 1, .sageA, by decide +kernel, by decide +kernel, by decide +kernel⟩,
    ⟨on (up.setRx 1 1 { st := 1 }), 9, 1, .sageA, by decide +kernel, by decide +kernel, by decide +kernel⟩,
    ⟨on (up.setRx 1 1 { st := 2 }), 9, 1, .sageA, by decide +kernel, by decide +kernel, by decide +kernel⟩,
    ⟨on (stg.setTx 1 1 0 { st := 2 }), 9, 1, .sageA, by decide +kernel, by decide +kernel, by decide +kernel⟩,
    ⟨3, on up, 9, 1, .sageA, by decide +kernel, by decide +kernel, by decide +kernel⟩,
    ⟨on up, 9, .sageA, by decide +kernel, by decide +kernel, by decide +kernel⟩,
    ⟨on up, 9, 1, .sageA, by decide +kernel, by decide +kernel, by decide +kernel⟩,
    ⟨on up, 9, 1, .sageA, by decide +kernel, by decide +kernel, by decide +kernel⟩,
    ⟨on up, 9, 1, .sageA, by decide +kernel, by decide +kernel, by decide +kernel⟩,
    ⟨on up, 9, 1, .sageA, by decide +kernel, by decide +kernel, by decide +kernel⟩,
    ⟨on up, 9, 1, .sageA, by decide +kernel, by decide +kernel, by decide +kernel⟩,
    ⟨on up, 9, 1, .sageA, by decide +kernel, by decide +kernel, by decide +kernel⟩,
    ⟨1, on (fs up [(F.SAT_STATUS_DIAG_OPEN, 1, 1)]), 9, 1, .sageA, by decide +kernel, by decide +kernel, by decide +kernel⟩⟩

theorem wit_SaCommandTakesEffect :
    (∃ (s : State) (slice : Nat) (c : SatCmd),
      (s.dev.sl (slice % 8)).cmd = some c ∧
      s.dev.satWaits (slice % 8) c = false ∧
      s.dev.on F.SAT_STATUS_FENCED (slice % 8) = false ∧
      c.op = 1 ∧
      (s.dev.tx (slice % 8) c.entry 0).st = 0) ∧
    (∃ (s : State) (slice : Nat) (c : SatCmd),
      (s.dev.sl (slice % 8)).cmd = some c ∧
      s.dev.satWaits (slice % 8) c = false ∧
      s.dev.on F.SAT_STATUS_FENCED (slice % 8) = false ∧
      c.op = 2 ∧
      (s.dev.rx (slice % 8) c.entry).st = 0) ∧
    (∃ (s : State) (slice : Nat) (c : SatCmd),
      (s.dev.sl (slice % 8)).cmd = some c ∧
      s.dev.satWaits (slice % 8) c = false ∧
      s.dev.on F.SAT_STATUS_FENCED (slice % 8) = false ∧
      c.op = 3 ∧
      (s.dev.tx (slice % 8) c.entry 0).st = 1) ∧
    (∃ (s : State) (slice : Nat) (c : SatCmd),
      (s.dev.sl (slice % 8)).cmd = some c ∧
      s.dev.satWaits (slice % 8) c = false ∧
      s.dev.on F.SAT_STATUS_FENCED (slice % 8) = false ∧
      c.op = 4 ∧
      (s.dev.rx (slice % 8) c.entry).st = 1) ∧
    (∃ (s : State) (slice : Nat) (c : SatCmd),
      (s.dev.sl (slice % 8)).cmd = some c ∧
      s.dev.satWaits (slice % 8) c = false ∧
      s.dev.on F.SAT_STATUS_FENCED (slice % 8) = false ∧
      c.op = 5 ∧
      (s.dev.rx (slice % 8) c.entry).st = 2) ∧
    (∃ (s : State) (slice : Nat) (c : SatCmd),
      (s.dev.sl (slice % 8)).cmd = some c ∧
      s.dev.satWaits (slice % 8) c = false ∧
      s.dev.on F.SAT_STATUS_FENCED (slice % 8) = false ∧
      c.op = 7 ∧
      c.dir = 0) ∧
    (∃ (s : State) (slice : Nat) (c : SatCmd),
      (s.dev.sl (slice % 8)).cmd = some c ∧
      s.dev.satWaits (slice % 8) c = false ∧
      s.dev.on F.SAT_STATUS_FENCED (slice % 8) = false ∧
      c.op = 7 ∧
      c.dir = 1) ∧
    (∃ (s : State) (slice : Nat) (c : SatCmd),
      (s.dev.sl (slice % 8)).cmd = some c ∧
      s.dev.satWaits (slice % 8) c = false ∧
      s.dev.on F.SAT_STATUS_FENCED (slice % 8) = false ∧
      c.op = 8) :=
  ⟨⟨on (cd 1 0), 9, cm 1 0, by decide +kernel, by decide +kernel, by decide +kernel, by decide +kernel, by decide +kernel⟩,
    ⟨on (cd 2 1), 9, cm 2 1, by decide +kernel, by decide +kernel, by decide +kernel, by decide +kernel, by decide +kernel⟩,
    ⟨on ((cd 3 0).setTx 1 1 0 { st := 1 }), 9, cm 3 0, by decide +kernel, by decide +kernel, by decide +kernel, by decide +kernel, by decide +kernel⟩,
    ⟨on ((cd 4 1).setRx 1 1 { st := 1 }), 9, cm 4 1, by decide +kernel, by decide +kernel, by decide +kernel, by decide +kernel, by decide +kernel⟩,
    ⟨on ((cd 5 1).setRx 1 1 { st := 2 }), 9, cm 5 1, by decide +kernel, by decide +kernel, by decide +kernel, by decide +kernel, by decide +kernel⟩,
    ⟨on ((cd 7 0).setTx 1 1 1 { st := 2 }), 9, cm 7 0, by decide +kernel, by decide +kernel, by decide +kernel, by decide +kernel, by decide +kernel⟩,
    ⟨on ((cd 7 1).setRx 1 1 { st := 2 }), 9, cm 7 1, by decide +kernel, by decide +kernel, by decide +kernel, by decide +kernel, by decide +kernel⟩,
    ⟨on (((cd 8 0).setRx 1 1 { st := 2 }).setTx 2 1 0 { st := 2 }), 9, cm 8 0, by decide +kernel, by decide +kernel, by decide +kernel, by decide +kernel⟩⟩

theorem wit_SaRecordsServed :
    (∃ (s : State) (slice : Nat) (ticket : Nat) (m : Master) (c : SatCmd),
      s.dev.isActive m = true ∧
      (s.dev.sl (slice % 8)).cmd = some c ∧
      c.ticket = ticket % 2 ^ 16) ∧
    (∃ (s : State) (slice : Nat) (m : Master),
      s.dev.isActive m = true ∧
      (s.dev.sl (slice % 8)).words.length < 11) ∧
    (∃ (s : State) (slice : Nat) (entry : Nat),
      (s.dev.rx (slice % 8) (entry % 8192)).st = 3 ∧
      (s.dev.rx (slice % 8) (entry % 8192)).busy = 0 ∧
      (s.dev.sl (slice % 8)).fifo.length < 256) ∧
    (∃ (s : State) (slice : Nat) (r : Nat) (rest : List Nat),
      (s.dev.sl (slice % 8)).fifo = r :: rest) ∧
    (∃ (s : State) (slice : Nat) (err : Nat),
      s.dev.on F.SAT_CTRL_SCRUB_EN (slice % 8) = true ∧
      s.dev.domHeld (slice % 8 / 4) = false ∧
      2 ≤ err) ∧
    (∃ (s : State) (slice : Nat) (dir : Nat) (err : Nat),
      s.dev.on F.SAT_CTRL_SCRUB_EN (slice % 8) = true ∧
      s.dev.domHeld (slice % 8 / 4) = false ∧
      dir ≠ 0 ∧
      2 ≤ err) :=
  ⟨⟨on (cd 3 0), 9, 65540, .sageA, cm 3 0, by decide +kernel, by decide +kernel, by decide +kernel⟩,
    ⟨on up, 9, .sageA, by decide +kernel, by decide +kernel⟩,
    ⟨on (up.setRx 1 1 { st := 3 }), 9, 8193, by decide +kernel, by decide +kernel, by decide +kernel⟩,
    ⟨on { up with sat := { sl := [(1, { fifo := [5, 6] })] } }, 9, 5, [6], by decide +kernel⟩,
    ⟨on (fs (up.setTx 1 1 0 { st := 2 }) [(F.SAT_CTRL_SCRUB_EN, 1, 1)]), 9, 2, by decide +kernel, by decide +kernel, by decide +kernel⟩,
    ⟨on (fs (up.setRx 1 1 { st := 2 }) [(F.SAT_CTRL_SCRUB_EN, 1, 1)]), 9, 1, 2, by decide +kernel, by decide +kernel, by decide +kernel, by decide +kernel⟩⟩

theorem wit_DiagWindowServes :
    (∃ (s : State) (slice : Nat) (m : Master),
      s.dev.passes m (R.SAT_DIAG_CTRL.addr (slice % 8) 0) = true ∧
      s.dev.diagMay (slice % 8) m = 0 ∧
      s.dev.on F.SAT_DIAG_CTRL_OPEN (slice % 8) = false) ∧
    (∃ (s : State) (slice : Nat) (m : Master),
      s.dev.passes m (R.SAT_DIAG_CTRL.addr (slice % 8) 0) = true ∧
      s.dev.diagMay (slice % 8) m ≠ 1 ∧
      s.dev.on F.SAT_DIAG_CTRL_OPEN (slice % 8) = true) ∧
    (∃ (s : State) (slice : Nat),
      s.dev.on F.SAT_DIAG_CTRL_OPEN (slice % 8) = true ∧
      s.dev.tf (56 + slice % 8) 0 11 10 0 + s.dev.tf (56 + slice % 8) 0 12 10 0 ≤ 1920) :=
  ⟨⟨on fac, 9, .sageA, by decide +kernel, by decide +kernel, by decide +kernel⟩,
    ⟨on (fs fac [(F.SAT_DIAG_CTRL_OPEN, 1, 1), (F.SAT_STATUS_DIAG_OPEN, 1, 1)]), 9, .sageA, by decide +kernel, by decide +kernel, by decide +kernel⟩,
    ⟨on (fs fac [(F.SAT_DIAG_CTRL_OPEN, 1, 1), (F.SAT_STATUS_DIAG_OPEN, 1, 1)]), 9, by decide +kernel, by decide +kernel⟩⟩

end Sys2Proof.Tests.W1
end

