-- ==== Sys2Proof/Tests/Witness2.lean ====
section
/-! SUPPORT. States and operands that meet the hypotheses of the statements, group 2: for each clause of a
statement one state in which all its hypotheses hold together. -/

open Sys2Proof Sys2Proof.Machine
namespace Sys2Proof.Tests.W2
set_option Elab.async false

def gens : SMap MaskGen := (List.range 384).map (fun g => (g, { seeded := true, askClk := 1 }))
def fr : Frame := { data := List.replicate 64 0x55#8, lport := 2, txEntry := 1, cls := 1, slice := 1, svc := 7 }
def fre : Frame := { fr with cls := 0 }
def txp : TxPos := { st := 2, key := List.replicate 32 1#8, salt := List.replicate 12 2#8, pn := 3, frmLim := 9, blkLim := 9, lport := 2 }
def sd (c : SealCtx) : Dev := { up with cip := { ctx := [(1 * 32 + 2, c)], gen := gens } }
def ks : Seal := { f := fr, entry := 1, pn := 3, ct := List.replicate 64 9#8, tag := List.replicate 16 8#8 }
def ct0 : Bytes := List.replicate 72 0x21#8
def orec : OpenRec := { ksi := 5, entry := 5, textlen := 72, pn := 9, ct := ct0, port := 2, units := 1, shim := false, key := List.replicate 32 1#8, iv := 77, tag := (gcmOpen (List.replicate 32 1#8) 77 [] ct0).2 }
def rxe : RxEnt := { st := 2, mode := 0, busy := 1 }
def od (r : OpenRec) : Dev := ({ up with cip := { opened := [(1, [r])], gen := gens } }).setRx 1 5 rxe
def smp (n : Nat) : Bytes := List.replicate n 0x55#8
def nz (st : Nat) : Dev := fs { up with mint := { src := [(1, { st := st })] } } [(F.MNT_SRC_CTRL_EN, 0, 15)]
def dg : Drbg := { key := List.replicate 32 3#8, v := 5 }
def blk : Nat × Bytes := (1, List.replicate 48 4#8)
def mi (m : MintSt) : State := on { up with mint := m }
def f0 (m : MintSt) : State := on { up with mint := m, fuse := { lcs := 0 } }

theorem smp_run (n : Nat) :
    (samplesOf (smp n)).foldl (fun a x => if x == a.1 then (x, a.2.1 + 1, max a.2.2 (a.2.1 + 1)) else (x, 1, max a.2.2 1))
      (true, 1, 1) = (true, 1, 1) := by
  induction n with
  | zero => rfl
  | succ n ih => exact ih

theorem smp_false (n : Nat) : ((samplesOf (smp n)).filter (· == false)).length = 4 * n := by
  induction n with
  | zero => rfl
  | succ n ih =>
    have h : ((samplesOf (smp (n + 1))).filter (· == false)).length = ((samplesOf (smp n)).filter (· == false)).length + 4 := rfl
    omega

/-- Alternating samples pass both health tests. -/
theorem healthOk_smp (s : NoiseSrc) (cut n : Nat) (hs : (s.last, s.run) = (false, 0)) (hn : 4 * n < cut) :
    healthOk s cut (samplesOf (smp n)) = true := by
  cases n with
  | zero =>
    obtain ⟨h1, h2⟩ := Prod.mk.inj hs
    simp [healthOk, smp, samplesOf, repCount, propCount, h2]
    omega
  | succ n =>
    have h1 : repCount s.last s.run (samplesOf (smp (n + 1))) = (true, 1, 1) := by
      obtain ⟨h1, h2⟩ := Prod.mk.inj hs
      rw [h1, h2]
      exact smp_run n
    have h2 : propCount (samplesOf (smp (n + 1))) = 4 * (n + 1) := smp_false (n + 1)
    simp [healthOk, h1, h2, hn]

theorem wit_SealingAdvances :
    (∃ (s : State) (slice : Nat) (port : Nat) (pos : Nat) (f : Frame) (rest : List Frame),
      (s.dev.ctx (slice % 8) (port % 32)).ready = f :: rest ∧
      s.dev.sliceOff (slice % 8) = false ∧
      (∀ (k : Seal),
     (s.dev.ctx (slice % 8) (port % 32)).park = some k → f.cls = 0 ∧ f.ctl = false ∧ k.passes < 63) ∧
      s.dev.txLive (slice % 8) f.txEntry = some pos ∧
      s.dev.satStopped (slice % 8) 0 f.txEntry = false ∧
      s.dev.katBusy (slice % 8) 0 = false ∧
      s.dev.masksFor (slice % 8) 0
       (blockCount (List.length (s.dev.sealText (slice % 8) (port % 32) pos f))) =
     true ∧
      limitsHold (s.dev.tx (slice % 8) f.txEntry pos)
       (blockCount (List.length (s.dev.sealText (slice % 8) (port % 32) pos f))) =
     true) ∧
    (∃ (s : State) (slice : Nat) (port : Nat) (k : Seal),
      (s.dev.ctx (slice % 8) (port % 32)).park = some k ∧
      s.dev.sliceOff (slice % 8) = false ∧
      s.dev.katBusy (slice % 8) 0 = false ∧
      (∀ (f : Frame) (rest : List Frame),
     (s.dev.ctx (slice % 8) (port % 32)).ready = f :: rest → ¬(f.cls = 0 ∧ f.ctl = false ∧ k.passes < 63))) ∧
    (∃ (s : State) (slice : Nat) (port : Nat) (x : Seal) (rest : List Seal),
      (s.dev.ctx (slice % 8) (port % 32)).tail = x :: rest ∧
      s.dev.katBusy (slice % 8) 0 = false) :=
  ⟨⟨on ((sd { ready := [fr] }).setTx 1 1 0 txp), 9, 2, 0, fr, [], by decide +kernel, by decide +kernel, by decide +kernel, by decide +kernel, by decide +kernel, by decide +kernel, by decide +kernel, by decide +kernel⟩,
    ⟨on ((sd { park := some ks }).setTx 1 1 0 txp), 9, 2, ks, by decide +kernel, by decide +kernel, by decide +kernel, fun _ _ h => absurd ((by decide +kernel : ((on ((sd { park := some ks }).setTx 1 1 0 txp)).dev.ctx (9 % 8) (2 % 32)).ready = []).symm.trans h) (by simp)⟩,
    ⟨on ((sd { tail := [ks] }).setTx 1 1 0 { txp with busy := 1 }), 9, 2, ks, [], by decide +kernel, by decide +kernel⟩⟩

theorem wit_OpeningChecksTags :
    (∃ (s : State) (slice : Nat) (r : OpenRec) (rest : List OpenRec),
      s.dev.openedOf (slice % 8) = r :: rest ∧
      s.dev.katBusy (slice % 8) 1 = false ∧
      (gcmOpen r.key r.iv r.aad r.ct).snd = r.tag ∧
      r.fault = false ∧
      r.refused = false ∧
      (r.shim = true →
     numAt (gcmOpen r.key r.iv r.aad r.ct).fst 0 2 = 34997 ∧
       nbits (numAt (gcmOpen r.key r.iv r.aad r.ct).fst 2 2) 15 14 = 1 ∧
         nbits (numAt (gcmOpen r.key r.iv r.aad r.ct).fst 2 2) 9 5 ≤ 24) ∧
      (r.emode = true ∨
     List.length (s.dev.openedFrame (slice % 8) r (gcmOpen r.key r.iv r.aad r.ct).fst).data + 4 ≤ 16000) ∧
      replayOk (s.dev.rx (slice % 8) r.entry) r.pn = true) ∧
    (∃ (s : State) (slice : Nat) (r : OpenRec) (rest : List OpenRec),
      s.dev.openedOf (slice % 8) = r :: rest ∧
      s.dev.katBusy (slice % 8) 1 = false ∧
      (gcmOpen r.key r.iv r.aad r.ct).snd ≠ r.tag) ∧
    (∃ (s : State) (slice : Nat) (port : Nat) (r : OpenRec),
      s.dev.parked (slice % 8) (port % 32) = some r ∧
      r.refused = false) :=
  ⟨⟨on (od orec), 9, orec, [], by decide +kernel, by decide +kernel, by decide +kernel, by decide +kernel, by decide +kernel, by decide +kernel, by decide +kernel, by decide +kernel⟩,
    ⟨on (od { orec with tag := [] }), 9, { orec with tag := [] }, [], by decide +kernel, by decide +kernel, by decide +kernel⟩,
    ⟨on (({ up with cip := { park := [(34, some orec)] } }).setRx 1 5 rxe), 9, 2, orec, by decide +kernel, by decide +kernel⟩⟩

theorem wit_PipelineTests :
    (∃ (s : State) (slice : Nat) (kind : Nat),
      s.dev.sliceOff (slice % 8) = false ∧
      1 ≤ kind ∧
      kind ≤ 3 ∧
      SMap.get none s.dev.cip.kat (slice % 8) = none) ∧
    (∃ (s : State) (slice : Nat) (k : KatRun),
      SMap.get none s.dev.cip.kat (slice % 8) = some k ∧
      k.auto = true ∧
      (s.dev.transients (slice % 8)).length < 3) ∧
    (∃ (s : State) (slice : Nat) (k : KatRun),
      SMap.get none s.dev.cip.kat (slice % 8) = some k ∧
      k.auto = true) ∧
    (∃ (s : State) (slice : Nat),
      s.dev.on F.CIP_STATUS_FENCED (slice % 8) = true ∧
      SMap.get none s.dev.cip.kat (slice % 8) = none) ∧
    (∃ (s : State) (slice : Nat) (k : KatRun),
      SMap.get none s.dev.cip.kat (slice % 8) = some k ∧
      k.auto = false) ∧
    (∃ (s : State) (gen : Nat),
      s.dev.genUp (gen % 384) = true ∧
      (s.dev.mgen (gen % 384)).seeded = true ∧
      2 ^ 20 ≤ (s.dev.mgen (gen % 384)).drawn ∧
      (s.dev.mgen (gen % 384)).pending = false) ∧
    (∃ (s : State) (gen : Nat),
      (s.dev.mgen (gen % 384)).seeded = true ∧
      (s.dev.mgen (gen % 384)).stopped = false ∧
      2 ^ 24 ≤ (s.dev.mgen (gen % 384)).drawn) :=
  ⟨⟨on up, 9, 1, by decide +kernel, by decide +kernel, by decide +kernel, by decide +kernel⟩,
    ⟨on { up with cip := { kat := [(1, some { dir := 1, pipe := 2, auto := true })] } }, 9, { dir := 1, pipe := 2, auto := true }, by decide +kernel, by decide +kernel, by decide +kernel⟩,
    ⟨on { up with cip := { kat := [(1, some { dir := 1, pipe := 2, auto := true })] } }, 9, { dir := 1, pipe := 2, auto := true }, by decide +kernel, by decide +kernel⟩,
    ⟨on (fs up [(F.CIP_STATUS_FENCED, 1, 1)]), 9, by decide +kernel, by decide +kernel⟩,
    ⟨on { up with cip := { kat := [(1, some { dir := 1, pipe := 2 })] } }, 9, { dir := 1, pipe := 2 }, by decide +kernel, by decide +kernel⟩,
    ⟨on { up with cip := { gen := [(3, { seeded := true, drawn := 2^20 })] } }, 3, by decide +kernel, by decide +kernel, by decide +kernel, by decide +kernel⟩,
    ⟨on { up with cip := { gen := [(3, { seeded := true, drawn := 2^24 })] } }, 3, by decide +kernel, by decide +kernel, by decide +kernel⟩⟩

theorem wit_NoiseSourcesRun :
    (∃ (s : State) (source : Nat) (samples : Bytes),
      (s.dev.src (source % 4)).st = 1 ∧
      bit (s.dev.get F.MNT_SRC_CTRL_EN) (source % 4) = true ∧
      s.dev.mint.erased = false ∧
      ¬(s.dev.on F.MNT_TEST_CTRL_CAPTURE_EN = true ∧
       s.dev.get F.MNT_TEST_CTRL_CAPTURE_SRC = source % 4) ∧
      bit (s.dev.get F.MNT_TEST_CTRL_INJECT) (source % 4) = false ∧
      List.length samples = 128 ∧
      healthOk (s.dev.src (source % 4)) 832 (samplesOf samples) = true ∧
      s.dev.mint.pool.length < 8 ∧
      s.dev.calm = true) ∧
    (∃ (s : State) (source : Nat) (samples : Bytes),
      (s.dev.src (source % 4)).st = 0 ∧
      bit (s.dev.get F.MNT_SRC_CTRL_EN) (source % 4) = true ∧
      bit (s.dev.get F.MNT_TEST_CTRL_INJECT) (source % 4) = false ∧
      List.length samples = 128 ∧
      healthOk
       (have __src := s.dev.src (source % 4);
       { st := __src.st, fails := __src.fails, last := __src.last, fifo := __src.fifo, sec := __src.sec })
       832 (samplesOf samples) =
     true ∧
      s.dev.calm = true) ∧
    (∃ (s : State) (source : Nat) (samples : Bytes),
      (s.dev.src (source % 4)).st = 2 ∧
      bit (s.dev.get F.MNT_TEST_CTRL_INJECT) (source % 4) = false ∧
      List.length samples = 32 ∧
      healthOk
       (have __src := s.dev.src (source % 4);
       { st := __src.st, fails := __src.fails, last := __src.last, fifo := __src.fifo, sec := __src.sec })
       233 (samplesOf samples) =
     true ∧
      s.dev.calm = true) ∧
    (∃ (s : State) (source : Nat),
      (s.dev.src (source % 4)).st = 1) ∧
    (∃ (m : Master),
      m.sage = true) ∧
    (∃ (s : State),
      s.dev.fuse.lcs = 0) :=
  ⟨⟨on (nz 1), 5, smp 128, by decide +kernel, by decide +kernel, by decide +kernel, by decide +kernel, by decide +kernel, by decide +kernel, healthOk_smp _ 832 128 rfl (by decide), by decide +kernel, by decide +kernel⟩,
    ⟨on (nz 0), 5, smp 128, by decide +kernel, by decide +kernel, by decide +kernel, by decide +kernel, healthOk_smp _ 832 128 rfl (by decide), by decide +kernel⟩,
    ⟨on (nz 2), 5, smp 32, by decide +kernel, by decide +kernel, by decide +kernel, healthOk_smp _ 233 32 rfl (by decide), by decide +kernel⟩,
    ⟨on (nz 1), 5, by decide +kernel⟩,
    ⟨.sageA, by decide +kernel⟩,
    ⟨on { up with fuse := { lcs := 0 } }, by decide +kernel⟩⟩

theorem wit_DrbgServes :
    (∃ (s : State) (b : Nat × Bytes) (rest : List (Nat × Bytes)),
      s.dev.mint.drbg = none ∧
      s.dev.mint.pool = b :: rest ∧
      s.dev.mint.erased = false ∧
      s.dev.mint.settling = false ∧
      s.dev.mint.zeroPers = false) ∧
    (∃ (s : State) (g : Drbg) (r : MintReq),
      s.dev.mint.erased = false ∧
      s.dev.reseedDue = false ∧
      s.dev.mint.drbg = some g ∧
      nextReq s.dev.mint.reqs = some r ∧
      s.dev.mint.served < 2 ^ 20 ∧
      s.dev.get F.MNT_STATUS_STATE ≠ 3 ∧
      r.kind = 3) ∧
    (∃ (s : State) (g : Drbg) (b : Nat × Bytes) (rest : List (Nat × Bytes)),
      s.dev.reseedDue = true ∧
      s.dev.mint.drbg = some g ∧
      s.dev.mint.pool = b :: rest) ∧
    (∃ (s : State),
      s.dev.mint.drbg.isSome = true) ∧
    (∃ (s : State) (words : Nat) (m : Master),
      m.sage = true ∧
      s.dev.get F.MNT_CMD_STATUS_STATE ≠ 1 ∧
      s.dev.mint.keyOut = [] ∧
      s.dev.mint.erased = false ∧
      s.dev.get F.MNT_STATUS_STATE ≠ 3 ∧
      8 ≤ words ∧
      words ≤ 16) ∧
    (∃ (s : State) (words : Nat) (m : Master),
      m.sage = true ∧
      s.dev.get F.MNT_CMD_STATUS_STATE ≠ 1 ∧
      s.dev.mint.randOut = [] ∧
      s.dev.mint.erased = false ∧
      s.dev.get F.MNT_STATUS_STATE ≠ 3 ∧
      1 ≤ words ∧
      words ≤ 16) ∧
    (∃ (s : State) (m : Master),
      m.sage = true ∧
      s.dev.get F.MNT_CMD_STATUS_STATE ≠ 1 ∧
      s.dev.mint.erased = false ∧
      s.dev.get F.MNT_STATUS_STATE ≠ 3) :=
  ⟨⟨mi { pool := [blk] }, blk, [], by decide +kernel, by decide +kernel, by decide +kernel, by decide +kernel, by decide +kernel⟩,
    ⟨mi { drbg := some dg, reqs := [{ prio := 3, kind := 3, words := 8 }] }, dg, { prio := 3, kind := 3, words := 8 }, by decide +kernel, by decide +kernel, by decide +kernel, by decide +kernel, by decide +kernel, by decide +kernel, by decide +kernel⟩,
    ⟨mi { drbg := some dg, pool := [blk], reseedCmd := true }, dg, blk, [], by decide +kernel, by decide +kernel, by decide +kernel⟩,
    ⟨mi { drbg := some dg }, by decide +kernel⟩,
    ⟨mi { drbg := some dg }, 8, .sageA, by decide +kernel, by decide +kernel, by decide +kernel, by decide +kernel, by decide +kernel, by decide +kernel, by decide +kernel⟩,
    ⟨mi { drbg := some dg }, 8, .sageA, by decide +kernel, by decide +kernel, by decide +kernel, by decide +kernel, by decide +kernel, by decide +kernel, by decide +kernel⟩,
    ⟨mi { drbg := some dg }, .sageA, by decide +kernel, by decide +kernel, by decide +kernel, by decide +kernel⟩⟩

theorem wit_MintOutputs :
    (∃ (s : State) (m : Master) (w : Nat) (rest : List Nat),
      m.sage = true ∧
      s.dev.mint.keyOut = w :: rest) ∧
    (∃ (s : State) (m : Master) (w : Nat) (rest : List Nat),
      m.sage = true ∧
      s.dev.mint.randOut = w :: rest) ∧
    (∃ (m : Master),
      m.sage = false) ∧
    (∃ (s : State) (m : Master) (w : Nat) (rest : List Nat),
      s.dev.fuse.lcs = 0 ∧
      s.dev.testMay m false = true ∧
      s.dev.mint.testOut = w :: rest) ∧
    (∃ (s : State) (m : Master) (v : Nat),
      (s.dev.fuse.lcs = 0 ∨ s.dev.fuse.lcs = 3) ∧
      s.dev.testMay m true = true ∧
      s.dev.mint.cap = some v) ∧
    (∃ (s : State) (m : Master) (g : Drbg),
      s.dev.passes m (R.MNT_CMD.addr 0 0) = true ∧
      s.dev.testMay m false = true ∧
      s.dev.fuse.lcs = 0 ∧
      s.dev.mint.kat = some g) ∧
    (∃ (s : State) (m : Master),
      s.dev.passes m (R.MNT_TEST_CTRL.addr 0 0) = true ∧
      (s.dev.fuse.lcs = 0 ∨ s.dev.fuse.lcs = 3) ∧
      s.dev.testMay m true = true) ∧
    (∃ (s : State) (m : Master),
      s.dev.passes m (R.MNT_TEST_DATA.addr 0 0) = true ∧
      s.dev.fuse.lcs = 0 ∧
      s.dev.testMay m false = true ∧
      s.dev.on F.MNT_TEST_CTRL_KAT_LOAD = false ∧
      s.dev.mint.testSrc = none) ∧
    (∃ (s : State) (m : Master) (n : Nat),
      s.dev.passes m (R.MNT_TEST_DATA.addr 0 0) = true ∧
      s.dev.fuse.lcs = 0 ∧
      s.dev.testMay m false = true ∧
      s.dev.on F.MNT_TEST_CTRL_KAT_LOAD = false ∧
      s.dev.mint.testSrc = some n ∧
      (s.dev.src n).fifo.length < 64) :=
  ⟨⟨mi { keyOut := [7, 8] }, .sageA, 7, [8], by decide +kernel, by decide +kernel⟩,
    ⟨mi { randOut := [7, 8] }, .sageA, 7, [8], by decide +kernel, by decide +kernel⟩,
    ⟨.eth 0, by decide +kernel⟩,
    ⟨f0 { testOut := [7, 8] }, .sageA, 7, [8], by decide +kernel, by decide +kernel, by decide +kernel⟩,
    ⟨f0 { cap := some 7 }, .sageA, 7, by decide +kernel, by decide +kernel, by decide +kernel⟩,
    ⟨f0 { kat := some dg }, .sageA, dg, by decide +kernel, by decide +kernel, by decide +kernel, by decide +kernel⟩,
    ⟨f0 {}, .sageA, by decide +kernel, by decide +kernel, by decide +kernel⟩,
    ⟨f0 {}, .sageA, by decide +kernel, by decide +kernel, by decide +kernel, by decide +kernel, by decide +kernel⟩,
    ⟨f0 { testSrc := some 1 }, .sageA, 1, by decide +kernel, by decide +kernel, by decide +kernel, by decide +kernel, by decide +kernel, by decide +kernel⟩⟩

end Sys2Proof.Tests.W2
end

