-- ==== Sys2Proof/Tests/Witness3.lean ====
section
/-! SUPPORT. States and operands that meet the hypotheses of the statements, group 3: for each clause of a
statement one state in which all its hypotheses hold together. -/

open Sys2Proof Sys2Proof.Machine
namespace Sys2Proof.Tests.W3
set_option Elab.async false

def rdy : Dev := fs up [(F.BAY_STATUS_READY, 1, 1), (F.BAY_CTRL_RECLAIM_EN, 1, 1), (F.BAY_CTRL_PATROL_EN, 1, 1)]
def gk : Nat := 2^20 + 7
def pk : Dev := { fs rdy [(F.BAY_STATUS_PREV_KEY_LIVE, 1, 1)] with bay := { key := [(2, [5#8]), (3, [6#8])] } }
def trn : Dev := fs up [(F.BAY_STATUS_TRAINING, 1, 1)]
def port : Dev := fs up [(F.LPORT_CTRL_ENABLE, 2, 1), (F.LPORT_CTRL_WIDTH, 2, 4), (F.LPORT_CTRL_LANE_RATE, 2, 3), (F.LPORT_STATUS_TX_ACTIVE, 2, 1), (F.ENV_STATUS_TX_STATE, 2, 1), (F.LFE_CTRL_ENABLE, 0, 1)]
def xf (p : Bool) (sl : List Nat) : Frame := { data := List.replicate 64 7#8, cls := 1, svc := 7, slices := sl, prot := p, port := 8 }
def xd (p : Bool) (sl : List Nat) : Dev := { up with fe := { hold := [(1, [xf p sl])] } }
def sf (c : Nat) : Frame := { data := List.replicate 64 7#8, cls := c, svc := 7 }
def txp : TxPos := { st := 2, suite := 1, key := List.replicate 32 1#8, salt := List.replicate 12 2#8, pn := 3, frmLim := 9, blkLim := 9, lport := 2 }
def sch (c : Nat) (d : Dev) : Dev := ts (d.setTx 1 1 0 txp) [(0x21, 7, [2^31 + 1]), (0x69, 7, [2^31 + 2^16 * (4 - c) + 4]), (0x71, 4, [2^31 + c * 2^29 + 2 * 2^24 + 3, 7]), (0x79, 3, [2^31 + 2 * 2^16]), (0x81, 2, [2^31 + 2 * 2^24])]
def qf : Frame := { sf 1 with slice := 1, txEntry := 1, lport := 2, queue := 4, elen := 100, deadline := some (2^40) }
def qd : Dev := sch 1 { port with sch := { q := [(8192 + 4, [qf])] } }
def pkk : Nat × Path × (List Nat × Bool) × (List Nat × Bool) := (qd.linePlane 2).getD (0, {}, ([], false), ([], false))
def cq : CtlFrame := { sa := some (1, 1), data := List.replicate 64 7#8 }
def seen : StreamSt := (firstVerified {} 4096 1000000 0 5 100).1
def vf : Frame := { data := List.replicate 64 7#8, cls := 1, svc := 7, slice := 1, rxEntry := 5, lport := 2, msn := 5, arr := 100, units := 1 }
def egt (d : Dev) : Dev := ts (fs d [(F.CPORT_CTRL_ENABLE, 3, 1)]) [(0x91, 5, [2^31 + 3])]
def vp : Frame := { vf with prot := true }
def md (st : StreamSt) : Dev := ts { up with cip := { vhold := [(1, [vp])] }, mrg := { stream := [(9, st)] } } [(201, 5, [2^31 + 9]), (192, 9, [2^31])]
def hc : HeldCopy := { f := { vf with prot := true, release := 500 }, stream := 9 }
def cpo : Dev := fs up [(F.CPORT_CTRL_ENABLE, 3, 1), (F.CPORT_CTRL_WIDTH, 3, 4), (F.CPORT_CTRL_LANE_RATE, 3, 2), (F.CPORT_STATUS_TX_ACTIVE, 3, 1)]
def ef (b : Nat) : Frame := { vf with outPort := 3, bound := b }
def pr (s m : Nat) : Dev := { fs up [(F.MRG_STATUS_SEQ_FENCED, 0, s), (F.MRG_STATUS_MERGE_FENCED, 0, m)] with tim := { clk := 10^10 } }
def it : Item := { bytes := List.replicate 80 7#8, id := 1 }
def fmo : Dev := fs port [(F.ENV_CTRL_MODE, 2, 1)]
def gens : SMap MaskGen := (List.range 384).map (fun g => (g, { seeded := true, askClk := 1 }))
def ep0 : EnvPort := { stag := List.replicate 16 3#8, efn := 0x110 }
def efb : Bytes := beBytes 6 66681890757315 ++ beBytes 1 16 ++ zeros 1 ++ beBytes 7 1 ++ beBytes 1 16 ++ zeros 16368
def rxd : Dev := { fs port [(F.ENV_STATUS_ALIGN, 2, 2)] with env := { port := [(2, ep0)], pos := [(10, { st := 1, key := List.replicate 32 1#8, salt := List.replicate 12 2#8, limit := 9 })] }, cip := { gen := gens } }
def segb : Bytes := beBytes 2 (1 * 8192 + 5) ++ beBytes 1 0x30 ++ beBytes 1 0 ++ beBytes 2 80 ++ beBytes 2 80 ++ beBytes 8 9 ++ zeros 80 ++ zeros 16
def ch : RxChunk := { bytes := segb, start := 10 }
def dl : Dev := { port with env := { port := [(2, { strm := [ch], delin := true })] }, cip := { gen := gens } }
def sfr : Bytes := zeros 12 ++ beBytes 2 35045 ++ beBytes 1 0x2C ++ zeros 85
def fmu : Dev := fs fmo [(F.LPORT_STATUS_LINK_UP, 2, 1)]

theorem wit_BayLinesServed :
    (∃ (s : State) (bay : Nat) (line : Nat),
      (s.dev.grp (bay % 4) (line % 2 ^ 20)).cached = false ∧
      (s.dev.grp (bay % 4) (line % 2 ^ 20)).st ≠ 3 ∧
      s.dev.on F.BAY_STATUS_READY (bay % 4) = true ∧
      (List.filter (fun e => e.snd.cached) (s.dev.groups (bay % 4))).length < 3840) ∧
    (∃ (s : State) (bay : Nat) (line : Nat) (err : Nat),
      2 ≤ err ∧
      (s.dev.grp (bay % 4) (line % 2 ^ 20)).cached = false ∧
      (s.dev.grp (bay % 4) (line % 2 ^ 20)).st ≠ 3 ∧
      s.dev.on F.BAY_STATUS_READY (bay % 4) = true ∧
      (List.filter (fun e => e.snd.cached) (s.dev.groups (bay % 4))).length < 3840) ∧
    (∃ (s : State) (bay : Nat) (line : Nat),
      (s.dev.grp (bay % 4) (line % 2 ^ 20)).cached = true) ∧
    (∃ (s : State) (bay : Nat) (group : Nat),
      (s.dev.grp (bay % 4) (group % 2 ^ 20)).st = 2 ∧
      (s.dev.grp (bay % 4) (group % 2 ^ 20)).live ≠ 0 ∧
      s.dev.on F.BAY_CTRL_RECLAIM_EN (bay % 4) = true) ∧
    (∃ (s : State) (bay : Nat) (index : Nat) (err : Nat),
      2 ≤ err ∧
      s.dev.on F.BAY_CTRL_PATROL_EN (bay % 4) = true ∧
      s.dev.on F.BAY_STATUS_READY (bay % 4) = true ∧
      (s.dev.cellOf (bay % 4) (index % 2 ^ 26)).live = true) ∧
    (∃ (part : Nat),
      part ≠ 0) :=
  ⟨⟨on { rdy with bay := { grp := [(gk, { st := 1 })] } }, 1, 7, by decide +kernel, by decide +kernel, by decide +kernel, by decide +kernel⟩,
    ⟨on { rdy with bay := { grp := [(gk, { st := 1 })] } }, 1, 7, 2, by decide +kernel, by decide +kernel, by decide +kernel, by decide +kernel, by decide +kernel⟩,
    ⟨on { rdy with bay := { grp := [(gk, { st := 1, cached := true, dirty := true })] } }, 1, 7, by decide +kernel⟩,
    ⟨on { rdy with bay := { grp := [(gk, { st := 2, live := 2 })] } }, 1, 7, by decide +kernel, by decide +kernel, by decide +kernel⟩,
    ⟨on { rdy with bay := { cell := [(2^26 + 7, { live := true, ctr := 4 })] } }, 1, 7, 2, by decide +kernel, by decide +kernel, by decide +kernel, by decide +kernel⟩,
    ⟨1, by decide +kernel⟩⟩

theorem wit_BayEpochsServed :
    (∃ (s : State) (bay : Nat) (m : Master),
      s.dev.isActive m = true ∧
      s.dev.on F.BAY_STATUS_READY (bay % 4) = true) ∧
    (∃ (s : State) (bay : Nat),
      s.dev.on F.BAY_STATUS_READY (bay % 4) = true ∧
      s.dev.on F.BAY_STATUS_EPOCH_PENDING (bay % 4) = true ∧
      SMap.get [] s.dev.bay.newKey (bay % 4) ≠ [] ∧
      s.dev.prevLive (bay % 4) = false) ∧
    (∃ (s : State) (bay : Nat),
      s.dev.prevLive (bay % 4) = true ∧
      s.dev.on F.BAY_STATUS_PREV_KEY_LIVE (bay % 4) = true) ∧
    (∃ (s : State) (bay : Nat) (c : Nat),
      SMap.get none s.dev.bay.quarClk (bay % 4) = some c ∧
      s.dev.on F.BAY_CTRL_EPOCH_AUTO (bay % 4) = true ∧
      s.dev.on F.BAY_STATUS_EPOCH_PENDING (bay % 4) = false) ∧
    (∃ (s : State) (bay : Nat),
      s.dev.get F.BAY_CTRL_EPOCH_PERIOD_H (bay % 4) ≠ 0 ∧
      s.dev.on F.BAY_STATUS_READY (bay % 4) = true ∧
      s.dev.on F.BAY_STATUS_EPOCH_PENDING (bay % 4) = false) ∧
    (∃ (s : State) (bay : Nat),
      s.dev.on F.BAY_STATUS_TRAINING (bay % 4) = true ∧
      s.dev.domHeld (bay % 4 / 2) = false ∧
      SMap.get [] s.dev.bay.newKey (bay % 4) ≠ []) ∧
    (∃ (s : State) (bay : Nat),
      s.dev.on F.BAY_STATUS_TRAINING (bay % 4) = true ∧
      s.dev.domHeld (bay % 4 / 2) = false) ∧
    (∃ (s : State) (bay : Nat),
      s.dev.domHeld (bay % 4 / 2) = false ∧
      s.dev.on F.BAY_STATUS_FAILED (bay % 4) = false ∧
      (∀ (c : HeldCopy), c ∈ s.dev.mrg.held → c.f.slice / 4 ≠ bay % 4 / 2)) :=
  ⟨⟨on rdy, 1, .sageA, by decide +kernel, by decide +kernel⟩,
    ⟨on { fs rdy [(F.BAY_STATUS_EPOCH_PENDING, 1, 1)] with bay := { newKey := [(1, [7#8])], key := [(2, [5#8])] } }, 1, by decide +kernel, by decide +kernel, by decide +kernel, by decide +kernel⟩,
    ⟨on pk, 1, by decide +kernel, by decide +kernel⟩,
    ⟨on { fs rdy [(F.BAY_CTRL_EPOCH_AUTO, 1, 1)] with bay := { quarClk := [(1, some 5)] } }, 1, 5, by decide +kernel, by decide +kernel, by decide +kernel⟩,
    ⟨on (fs rdy [(F.BAY_CTRL_EPOCH_PERIOD_H, 1, 1)]), 1, by decide +kernel, by decide +kernel, by decide +kernel⟩,
    ⟨on { trn with bay := { newKey := [(1, [7#8])] } }, 1, by decide +kernel, by decide +kernel, by decide +kernel⟩,
    ⟨on trn, 1, by decide +kernel, by decide +kernel⟩,
    ⟨on rdy, 1, by decide +kernel, by decide +kernel, by decide +kernel⟩⟩

theorem wit_QueueCommandsServed :
    (∃ (s : State),
      s.dev.sch.flush = none) ∧
    (∃ (s : State) (a : Nat) (b : Nat) (n : Nat),
      s.dev.sch.flush = some (a, b, n)) ∧
    (∃ (s : State),
      s.dev.fe.copyWait = true) ∧
    (∃ (s : State),
      s.dev.fe.copyBusy = true) ∧
    (∃ (s : State) (port : Nat) (sa : Option (Nat × Nat)),
      s.dev.portOpen (port % 32) = true ∧
      (sa.isSome = true ∨ s.dev.fMode (port % 32) = true) ∧
      s.dev.active.isSome = true) :=
  ⟨⟨on up, by decide +kernel⟩,
    ⟨on { up with sch := { flush := some (1, 5, 3) } }, 1, 5, 3, by decide +kernel⟩,
    ⟨on { up with fe := { copyWait := true } }, by decide +kernel⟩,
    ⟨on { up with fe := { copyBusy := true } }, by decide +kernel⟩,
    ⟨on port, 2, some (1, 1), by decide +kernel, by decide +kernel, by decide +kernel⟩⟩

theorem wit_FramesQueued :
    (∃ (s : State) (fe : Nat) (sl : Nat) (express : Bool) (f : Frame),
      s.dev.xbarPick (fe % 4) express (SMap.get [] s.dev.fe.hold (fe % 4)) [] = some f ∧
      f.prot = false ∧
      f.slices = [sl] ∧
      s.dev.sliceOff sl = false ∧
      s.dev.calm = true) ∧
    (∃ (s : State) (fe : Nat) (a : Nat) (b : Nat) (express : Bool) (f : Frame),
      s.dev.xbarPick (fe % 4) express (SMap.get [] s.dev.fe.hold (fe % 4)) [] = some f ∧
      f.prot = true ∧
      f.slices = [a, b] ∧
      a ≠ b ∧
      s.dev.sliceOff a = false ∧
      s.dev.sliceOff b = false ∧
      s.dev.pairFenced 0 = false ∧
      s.dev.mrg.bad.contains (193, f.svc) = false ∧
      s.dev.calm = true) ∧
    (∃ (s : State) (slice : Nat) (q : Nat) (p : Nat) (express : Bool) (f : Frame),
      List.find? (fun f => decide (f.cls = 0) == express) (SMap.get [] s.dev.fe.steer (slice % 8)) = some f ∧
      s.dev.sliceOff (slice % 8) = false ∧
      f.cls = 0 ∧
      bit (s.dev.tw (32 + slice % 8) (f.tag * 2 ^ 24 + f.svc) 0) 31 = true ∧
      bit (s.dev.tw (32 + slice % 8) (f.tag * 2 ^ 24 + f.svc) 0) 30 = false ∧
      s.dev.txLive (slice % 8) (nbits (s.dev.tw (32 + slice % 8) (f.tag * 2 ^ 24 + f.svc) 0) 12 0) = some p ∧
      s.dev.suiteOk (s.dev.tx (slice % 8) (nbits (s.dev.tw (32 + slice % 8) (f.tag * 2 ^ 24 + f.svc) 0) 12 0) p) =
     true ∧
      s.dev.satStopped (slice % 8) 0 (nbits (s.dev.tw (32 + slice % 8) (f.tag * 2 ^ 24 + f.svc) 0) 12 0) = false ∧
      s.dev.portOpen
       (s.dev.tx (slice % 8) (nbits (s.dev.tw (32 + slice % 8) (f.tag * 2 ^ 24 + f.svc) 0) 12 0) p).lport =
     true ∧
      s.dev.queueFor (slice % 8)
       { data := f.data, port := f.port, arr := f.arr, arrNet := f.arrNet, tag := f.tag, svc := f.svc, cls := f.cls,
         yellow := f.yellow, slice := slice % 8, slices := f.slices, prot := f.prot, work := f.work, msn := f.msn,
         deadline := f.deadline, ptp := f.ptp,
         txEntry := nbits (s.dev.tw (32 + slice % 8) (f.tag * 2 ^ 24 + f.svc) 0) 12 0,
         lport :=
           (s.dev.tx (slice % 8) (nbits (s.dev.tw (32 + slice % 8) (f.tag * 2 ^ 24 + f.svc) 0) 12 0) p).lport,
         queue := f.queue, rxEntry := f.rxEntry, cells := f.cells, outPort := f.outPort, path := f.path, bound := f.bound,
         units := f.units, holdNs := f.holdNs, release := f.release, waited := f.waited, elen := f.elen, ctl := f.ctl } =
     some q ∧
      s.dev.sch.flush = none ∧
      s.dev.turnAway (slice % 8) q
       { data := f.data, port := f.port, arr := f.arr, arrNet := f.arrNet, tag := f.tag, svc := f.svc, cls := f.cls,
         yellow := f.yellow, slice := slice % 8, slices := f.slices, prot := f.prot, work := f.work, msn := f.msn,
         deadline := f.deadline, ptp := f.ptp,
         txEntry := nbits (s.dev.tw (32 + slice % 8) (f.tag * 2 ^ 24 + f.svc) 0) 12 0,
         lport :=
           (s.dev.tx (slice % 8) (nbits (s.dev.tw (32 + slice % 8) (f.tag * 2 ^ 24 + f.svc) 0) 12 0) p).lport,
         queue := f.queue, rxEntry := f.rxEntry, cells := f.cells, outPort := f.outPort, path := f.path, bound := f.bound,
         units := f.units, holdNs := f.holdNs, release := f.release, waited := f.waited, elen := f.elen, ctl := f.ctl } =
     none) ∧
    (∃ (s : State) (port : Nat) (plane : Nat) (err : Option (Nat × Nat)) (pk : Path × (List Nat × Bool) × List Nat × Bool) (f : Frame),
      s.dev.lineReady (port % 32) = true ∧
      s.dev.ctlHead (port % 32) = none ∧
      s.dev.linePlane (port % 32) = some (plane, pk) ∧
      (s.dev.planeDequeue (port % 32) plane pk err).snd = some f ∧
      f.cls ≠ 0) ∧
    (∃ (s : State) (port : Nat) (slice : Nat) (entry : Nat) (c : CtlFrame),
      s.dev.lineReady (port % 32) = true ∧
      s.dev.ctlHead (port % 32) = some c ∧
      c.sa = some (slice, entry) ∧
      s.dev.calm = true) :=
  ⟨⟨on (xd false [1]), 1, 1, false, xf false [1], by decide +kernel, by decide +kernel, by decide +kernel, by decide +kernel, by decide +kernel⟩,
    ⟨on (xd true [1, 5]), 1, 1, 5, false, xf true [1, 5], by decide +kernel, by decide +kernel, by decide +kernel, by decide +kernel, by decide +kernel, by decide +kernel, by decide +kernel, by decide +kernel, by decide +kernel⟩,
    ⟨on (sch 0 { port with fe := { steer := [(1, [sf 0])] } }), 1, 4, 0, true, sf 0, by decide +kernel, by decide +kernel, by decide +kernel, by decide +kernel, by decide +kernel, by decide +kernel, by decide +kernel, by decide +kernel, by decide +kernel, by decide +kernel, by decide +kernel, by decide +kernel⟩,
    ⟨on qd, 2, pkk.1, none, pkk.2, qf, by decide +kernel, by decide +kernel, by decide +kernel, by decide +kernel, by decide +kernel⟩,
    ⟨on (sch 1 { port with sch := { ctl := [(2, [cq])] } }), 2, 1, 1, cq, by decide +kernel, by decide +kernel, by decide +kernel, by decide +kernel⟩⟩

theorem wit_FirstVerifiedPassesOnce :
    (∃ (s : StreamSt) (w : Nat) (resync : Nat) (deskew : Nat) (msn : Nat) (t : Nat) (t' : Nat),
      1 ≤ w ∧
      (firstVerified s w resync deskew msn t).snd.fst = 0 ∧
      t' - (firstVerified s w resync deskew msn t).fst.lastPass ≤ resync) :=
  ⟨{}, 4096, 1000000, 0, 5, 100, 150, by decide +kernel, by decide +kernel, by decide +kernel⟩

theorem wit_CopiesMerged :
    (∃ (s : State) (slice : Nat) (c : Nat) (f : Frame) (rest : List Frame),
      s.dev.vheld (slice % 8) = f :: rest ∧
      s.dev.domHeld 2 = false ∧
      f.prot = false ∧
      s.dev.EgressOpen f c ∧
      s.dev.calm = true) ∧
    (∃ (s : State) (slice : Nat) (f : Frame) (rest : List Frame),
      s.dev.vheld (slice % 8) = f :: rest ∧
      s.dev.domHeld 2 = false ∧
      f.prot = true ∧
      s.dev.pairFenced 1 = false ∧
      bit (s.dev.tw (200 + f.slice) f.rxEntry 0) 31 = true ∧
      s.dev.tf 192 (nbits (s.dev.tw (200 + f.slice) f.rxEntry 0) 14 0) 0 31 31 = 1 ∧
      bit (s.dev.tw (200 + f.slice) f.rxEntry 0) 30 = f.path ∧
      s.dev.mrg.bad = [] ∧
      s.dev.mAligned (nbits (s.dev.tw (200 + f.slice) f.rxEntry 0) 14 0) = false ∧
      (firstVerified (s.dev.stream (nbits (s.dev.tw (200 + f.slice) f.rxEntry 0) 14 0))
           (s.dev.mWin (nbits (s.dev.tw (200 + f.slice) f.rxEntry 0) 14 0))
           (s.dev.mResync (nbits (s.dev.tw (200 + f.slice) f.rxEntry 0) 14 0))
           (s.dev.mDeskew (nbits (s.dev.tw (200 + f.slice) f.rxEntry 0) 14 0)) f.msn f.arr).snd.fst =
     1 ∧
      s.dev.calm = true) ∧
    (∃ (s : State) (c : HeldCopy) (p : Nat),
      s.dev.nextHeld = some c ∧
      s.dev.linesReady c.f.cells = true ∧
      (∀ (x : Nat × Nat), x ∈ c.f.cells → s.dev.cellLost x = false) ∧
      (∀ (x : HeldCopy), x ∈ s.dev.mrg.held → x.twin = false) ∧
      s.dev.EgressOpen c.f p ∧
      s.dev.calm = true) ∧
    (∃ (s : State) (stream : Nat),
      (s.dev.stream (stream % 32768)).seeded = true ∧
      s.dev.mAligned (stream % 32768) = true) :=
  ⟨⟨on (egt { up with cip := { vhold := [(1, [vf])] } }), 1, 3, vf, [], by decide +kernel, by decide +kernel, by decide +kernel, ⟨by decide +kernel, by decide +kernel, by decide +kernel, by decide +kernel, by decide +kernel⟩, by decide +kernel⟩,
    ⟨on (md seen), 1, vp, [], by decide +kernel, by decide +kernel, by decide +kernel, by decide +kernel, by decide +kernel, by decide +kernel, by decide +kernel, by decide +kernel, by decide +kernel, by decide +kernel, by decide +kernel⟩,
    ⟨on (egt { up with mrg := { held := [hc] } }), hc, 3, by decide +kernel, by decide +kernel, by decide +kernel, by decide +kernel, ⟨by decide +kernel, by decide +kernel, by decide +kernel, by decide +kernel, by decide +kernel⟩, by decide +kernel⟩,
    ⟨on (ts { up with mrg := { stream := [(9, { seeded := true })] } } [(192, 9, [2^31 + 2^30])]), 9, by decide +kernel, by decide +kernel⟩⟩

theorem wit_EgressServed :
    (∃ (s : State) (port : Nat) (k : Nat) (add : Bool) (list : List Nat) (f : Frame) (rest : List Frame),
      s.dev.clientReady (port % 32) = true ∧
      s.dev.egrPick (port % 32) = some (k, list, add) ∧
      SMap.get [] s.dev.sch.egr (port % 32 * 4 + k) = f :: rest ∧
      (s.dev.clientGuard (port % 32) f).snd.fst ≤ (s.dev.clientGuard (port % 32) f).snd.snd) ∧
    (∃ (s : State) (port : Nat) (k : Nat) (add : Bool) (list : List Nat) (f : Frame) (rest : List Frame),
      s.dev.clientReady (port % 32) = true ∧
      s.dev.egrPick (port % 32) = some (k, list, add) ∧
      SMap.get [] s.dev.sch.egr (port % 32 * 4 + k) = f :: rest ∧
      k < 4 ∧
      (s.dev.clientGuard (port % 32) f).snd.snd < (s.dev.clientGuard (port % 32) f).snd.fst) :=
  ⟨⟨on { cpo with sch := { egr := [(13, [ef 100000])] } }, 3, 1, false, [], ef 100000, [], by decide +kernel, by decide +kernel, by decide +kernel, by decide +kernel⟩,
    ⟨on { cpo with tim := { clk := 100000 }, sch := { egr := [(13, [ef 10])] } }, 3, 1, false, [], ef 10, [], by decide +kernel, by decide +kernel, by decide +kernel, by decide +kernel, by decide +kernel⟩⟩

theorem wit_PairsRestart :
    (∃ (s : State) (m : Master),
      s.dev.isActive m = true ∧
      s.dev.mrg.run = 0 ∧
      s.dev.pairFenced 0 = true ∧
      s.dev.mrg.seqLocked = false ∧
      s.dev.mrg.seqClk + s.dev.quietNs ≤ s.dev.tim.clk) ∧
    (∃ (s : State) (m : Master),
      s.dev.isActive m = true ∧
      s.dev.mrg.run = 0 ∧
      s.dev.pairFenced 1 = true ∧
      s.dev.mrg.mergeLocked = false ∧
      s.dev.mrg.mergeClk + s.dev.quietNs ≤ s.dev.tim.clk) ∧
    (∃ (s : State) (m : Master),
      s.dev.isActive m = true ∧
      s.dev.mrg.run = 0 ∧
      s.dev.pairFenced 0 = true ∧
      s.dev.mrg.seqLocked = false ∧
      s.dev.tim.clk < s.dev.mrg.seqClk + s.dev.quietNs) ∧
    (∃ (s : State),
      s.dev.mrg.run = 1) ∧
    (∃ (s : State),
      s.dev.mrg.run ≠ 0) ∧
    (∃ (s : State) (pair : Nat),
      pair % 2 = 0 ∧
      s.dev.pairFenced 0 = true ∧
      s.dev.on F.MRG_CTRL_AUTO_RESTART = false) ∧
    (∃ (s : State) (slice : Nat) (target : Nat),
      s.dev.on F.SAT_STATUS_FENCED (slice % 8) = true ∧
      target % 4 ≠ slice % 8 % 4 ∧
      s.dev.sliceOff (slice % 8 / 4 * 4 + target % 4) = false ∧
      s.dev.active.isSome = true) :=
  ⟨⟨on (pr 1 0), .sageA, by decide +kernel, by decide +kernel, by decide +kernel, by decide +kernel, by decide +kernel⟩,
    ⟨on (pr 0 1), .sageA, by decide +kernel, by decide +kernel, by decide +kernel, by decide +kernel, by decide +kernel⟩,
    ⟨on { pr 1 0 with mrg := { seqClk := 10^10 } }, .sageA, by decide +kernel, by decide +kernel, by decide +kernel, by decide +kernel, by decide +kernel⟩,
    ⟨on { pr 1 0 with mrg := { run := 1 } }, by decide +kernel⟩,
    ⟨on { pr 1 0 with mrg := { run := 1 } }, by decide +kernel⟩,
    ⟨on (fs (pr 1 0) [(F.MRG_CTRL_AUTO_RESTART, 0, 0)]), 0, by decide +kernel, by decide +kernel, by decide +kernel⟩,
    ⟨on (fs up [(F.SAT_STATUS_FENCED, 1, 1)]), 1, 2, by decide +kernel, by decide +kernel, by decide +kernel, by decide +kernel⟩⟩

theorem wit_ItemsLeave :
    (∃ (s : State) (port : Nat) (it : Item) (rest : List Item),
      s.dev.backEnd (port % 32) = it :: rest ∧
      it.ready = true ∧
      it.launch = none ∧
      s.dev.lineIdle (port % 32) = true) ∧
    (∃ (s : State) (port : Nat) (it : Item) (rest : List Item),
      s.dev.backEnd (port % 32) = it :: rest ∧
      it.ready = true ∧
      it.launch = none ∧
      s.dev.eMode (port % 32) = true ∧
      s.dev.get F.ENV_STATUS_TX_STATE (port % 32) = 1 ∧
      max (s.dev.payBlock (port % 32) s.dev.now25) (List.length (s.dev.ep (port % 32)).pay / 8) < 2040) ∧
    (∃ (s : State) (port : Nat) (t : Nat) (it : Item) (rest : List Item),
      s.dev.backEnd (port % 32) = it :: rest ∧
      it.ready = true ∧
      it.launch = some t ∧
      (s.dev.advance t).lineIdle (port % 32) = true) :=
  ⟨⟨on { fmo with env := { be := [(2, [it])] } }, 2, it, [], by decide +kernel, by decide +kernel, by decide +kernel, by decide +kernel⟩,
    ⟨on { port with env := { be := [(2, [it])] } }, 2, it, [], by decide +kernel, by decide +kernel, by decide +kernel, by decide +kernel, by decide +kernel, by decide +kernel⟩,
    ⟨on { fmo with env := { be := [(2, [{ it with launch := some 900 }])] } }, 2, 900, { it with launch := some 900 }, [], by decide +kernel, by decide +kernel, by decide +kernel, by decide +kernel⟩⟩

theorem wit_EnvelopeFrames :
    (∃ (s : State) (port : Nat) (k : Nat),
      s.dev.envActive (port % 32) = some k ∧
      s.dev.eMode (port % 32) = true ∧
      s.dev.get F.ENV_STATUS_TX_STATE (port % 32) = 1 ∧
      s.dev.on F.LPORT_STATUS_TX_ACTIVE (port % 32) = true ∧
      s.dev.engineMasks (port % 32 / 8) 0 = true ∧
      s.dev.on F.LFE_STATUS_TX_ENGINE_FAILED (port % 32 / 8) = false ∧
      (s.dev.ep (port % 32)).stag ≠ [] ∧
      (s.dev.ep (port % 32)).efn % 256 ≠ 255 ∧
      (s.dev.epos (port % 32) 0 k).frames + 1 < (s.dev.epos (port % 32) 0 k).limit * 65536) ∧
    (∃ (s : State) (port : Nat) (bytes : Bytes),
      s.dev.eMode (port % 32) = true ∧
      s.dev.on F.LPORT_CTRL_ENABLE (port % 32) = true ∧
      s.dev.get F.ENV_STATUS_ALIGN (port % 32) = 2 ∧
      popCount (numAt bytes 0 6 ^^^ 66681890757315) < 4 ∧
      numAt bytes 15 1 % 128 = 16 ∧
      s.dev.on F.LFE_STATUS_RX_ENGINE_FAILED (port % 32 / 8) = false ∧
      s.dev.engineMasks (port % 32 / 8) 1 = true ∧
      (s.dev.epos (port % 32) 1 (numAt bytes 15 1 / 128)).st = 1 ∧
      ((s.dev.ep (port % 32)).rxPrev = true →
     numAt bytes 8 7 * 256 + numAt bytes 6 1 = (s.dev.ep (port % 32)).rxEfn + 1) ∧
      ((s.dev.ep (port % 32)).rxPrev = false →
     (s.dev.epos (port % 32) 1 (numAt bytes 15 1 / 128)).highest <
       numAt bytes 8 7 * 256 + numAt bytes 6 1)) ∧
    (∃ (s : State) (port : Nat) (bytes : Bytes),
      s.dev.eMode (port % 32) = true ∧
      s.dev.on F.LPORT_CTRL_ENABLE (port % 32) = true ∧
      s.dev.get F.ENV_STATUS_ALIGN (port % 32) = 2 ∧
      4 ≤ popCount (numAt bytes 0 6 ^^^ 66681890757315) ∧
      (s.dev.ep (port % 32)).badPos < 3) :=
  ⟨⟨on { port with env := { port := [(2, ep0)], pos := [(8, { st := 2, key := List.replicate 32 1#8, salt := List.replicate 12 2#8, limit := 9 })] }, cip := { gen := gens } }, 2, 0, by decide +kernel, by decide +kernel, by decide +kernel, by decide +kernel, by decide +kernel, by decide +kernel, by decide +kernel, by decide +kernel, by decide +kernel⟩,
    ⟨on rxd, 2, efb, by decide +kernel, by decide +kernel, by decide +kernel, by decide +kernel, by decide +kernel, by decide +kernel, by decide +kernel, by decide +kernel, by decide +kernel, by decide +kernel⟩,
    ⟨on rxd, 2, zeros 16384, by decide +kernel, by decide +kernel, by decide +kernel, by decide +kernel, by decide +kernel⟩⟩

theorem wit_RecordsDispatched :
    (∃ (s : State) (port : Nat) (c : RxChunk) (bs : Bytes),
      s.dev.domHeld (port % 32 / 16) = false ∧
      s.dev.lRate (port % 32) ≠ 0 ∧
      s.dev.fMode (port % 32) = false ∧
      (Dev.delineate (streamFuel (s.dev.ep (port % 32))) s.dev (port % 32)).snd =
     Found.segment c bs) ∧
    (∃ (s : State) (port : Nat) (x : Bytes × Nat) (rest : List (Bytes × Nat)),
      s.dev.domHeld (port % 32 / 16) = false ∧
      s.dev.lRate (port % 32) ≠ 0 ∧
      s.dev.fMode (port % 32) = true ∧
      (s.dev.ep (port % 32)).pend = x :: rest ∧
      (s.dev.securedFrame (port % 32) x.fst x.snd).snd = false) ∧
    (∃ (s : State) (port : Nat) (frame : Bytes),
      s.dev.fMode (port % 32) = true ∧
      s.dev.lRate (port % 32) ≠ 0 ∧
      s.dev.on F.LPORT_CTRL_ENABLE (port % 32) = true ∧
      s.dev.on F.LPORT_STATUS_LINK_UP (port % 32) = true ∧
      s.dev.domHeld (port % 32 / 16) = false ∧
      64 ≤ List.length frame ∧
      List.length frame ≤ 16040 ∧
      List.drop (List.length frame - 4) frame = fcsBytes (List.take (List.length frame - 4) frame) ∧
      numAt (List.take (List.length frame - 4) frame) 12 2 = 35045 ∧
      (s.dev.ep (port % 32)).pend ≠ []) ∧
    (∃ (frame : Bytes),
      64 ≤ List.length frame ∧
      List.length frame ≤ 16040 ∧
      List.drop (List.length frame - 4) frame ≠ fcsBytes (List.take (List.length frame - 4) frame)) :=
  ⟨⟨on dl, 2, ch, segb, by decide +kernel, by decide +kernel, by decide +kernel, by decide +kernel⟩,
    ⟨on { fmo with env := { port := [(2, { pend := [(sfr, 50)] })] } }, 2, (sfr, 50), [], by decide +kernel, by decide +kernel, by decide +kernel, by decide +kernel, by decide +kernel⟩,
    ⟨on { fmu with env := { port := [(2, { pend := [(sfr, 50)] })] } }, 2, sfr ++ fcsBytes sfr, by decide +kernel, by decide +kernel, by decide +kernel, by decide +kernel, by decide +kernel, by decide +kernel, by decide +kernel, by decide +kernel, by decide +kernel, by decide +kernel⟩,
    ⟨sfr ++ zeros 4, by decide +kernel, by decide +kernel, by decide +kernel⟩⟩

end Sys2Proof.Tests.W3
end

