-- ==== Sys2Proof/Tests/Witness4.lean ====
section
/-! SUPPORT. States and operands that meet the hypotheses of the statements, group 4: for each clause of a
statement one state in which all its hypotheses hold together. -/

open Sys2Proof Sys2Proof.Machine
namespace Sys2Proof.Tests.W4
set_option Elab.async false

def port : Dev := fs up [(F.LPORT_CTRL_ENABLE, 2, 1), (F.LPORT_CTRL_WIDTH, 2, 4), (F.LPORT_CTRL_LANE_RATE, 2, 3), (F.LPORT_STATUS_TX_ACTIVE, 2, 1), (F.ENV_STATUS_TX_STATE, 2, 1), (F.LFE_CTRL_ENABLE, 0, 1)]
def w11 : List Nat := List.replicate 11 7
def ek (e : EnvPort) (pos : SMap EnvPos) : Dev := { port with env := { port := [(2, e)], pos := pos } }
def ekl (pos : SMap EnvPos) : Dev := rs (ek { words := w11 } pos) [(R.ENV_KEY_LIMIT, 2, 100)]
def ec (op dir : Nat) : EnvCmd := ⟨op, dir, 0, 5, 9⟩
def ecd (op dir : Nat) (pos : SMap EnvPos) : Dev := ek { cmd := some (ec op dir), words := w11 } pos
def cfr : Bytes := beBytes 6 0x020304050607 ++ beBytes 6 0x0A0B0C0D0E0F ++ beBytes 2 0x1234 ++ zeros 60
def cd : Dev := ts (fs up [(F.CPORT_CTRL_ENABLE, 3, 1), (F.CPORT_STATUS_LINK_UP, 3, 1), (F.FE_CTRL_ENABLE, 0, 1), (F.FE_STATUS_RUNNING, 0, 1), (F.FE_STATUS_IN_SYNC, 0, 1), (F.FE_VER_CURRENT_VERSION, 0, 1)]) [(0x13, 3, [0, 2^30 + 2^26 + 7]), (0x12, 7, [2^31 + 15 * 2^20 + 2^24])]
def prm : Parsed := parseFrame { altTpid := cd.get F.FE_PARSE_CTRL_ALT_TPID, altEn := cd.on F.FE_PARSE_CTRL_ALT_TPID_EN, ptpL2 := cd.on F.FE_PTP_CTRL_L2_EN, ptpUdp4 := cd.on F.FE_PTP_CTRL_UDP4_EN, ptpUdp6 := cd.on F.FE_PTP_CTRL_UDP6_EN } cfr
def ccf : Bytes := beBytes 6 0x020304050607 ++ beBytes 6 0x0A0B0C0D0E0F ++ beBytes 2 0x8100 ++ beBytes 2 5 ++ beBytes 2 0x88B5 ++ zeros 60
def cct (e : Nat) : Bool := e = 0x88A8 || e = 0x8100
def vd (l : List (Fld × Nat × Nat)) : Dev := fs up ([(F.FE_CTRL_ENABLE, 0, 1), (F.FE_STATUS_RUNNING, 0, 1), (F.FE_STATUS_IN_SYNC, 0, 1), (F.FE_STATUS_RUNNING, 1, 1), (F.FE_STATUS_IN_SYNC, 1, 1)] ++ l)
def stv : List (Fld × Nat × Nat) := [(F.FE_VER_STAGED_VALID, 0, 1), (F.FE_VER_STAGED_VERSION, 0, 3), (F.FE_VER_STAGED_TAG, 0, 1)]
def pfo : Dev := fs up [(F.LPORT_CTRL_ENABLE, 4, 1), (F.LPORT_CTRL_WIDTH, 4, 1), (F.LPORT_CTRL_LANE_RATE, 4, 3), (F.LPORT_STATUS_TX_ACTIVE, 4, 1), (F.LANE_STATUS_CDR_LOCK, 36, 1), (F.LANE_STATUS_ADAPT_DONE, 36, 1)]
def pal : Dev := fs pfo [(F.LPORT_STATUS_PCS_ALIGNED, 4, 1), (F.LPORT_STATUS_LINK_UP, 4, 1)]
def lk : Dev := fs up [(F.LANE_STATUS_PLL_LOCK, 12, 1), (F.LANE_STATUS_CDR_LOCK, 12, 1), (F.LANE_STATUS_SIGNAL_DETECT, 12, 1)]
def pv : Dev := fs up [(F.CPORT_PREEMPT_STATUS_VERIFY_STATE, 3, 2)]

theorem wit_EnvKeyCommandsAccepted :
    (∃ (s : State) (port : Nat) (pos : Nat) (m : Master),
      s.dev.isActive m = true ∧
      (s.dev.ep (port % 32)).cmd = none ∧
      s.dev.lRate (port % 32) ≠ 0 ∧
      s.dev.envRefuse (port % 32) 1 0 (pos % 2) (s.dev.ep (port % 32)).words.length
       (s.dev.num R.ENV_KEY_LIMIT (port % 32)) =
     0) ∧
    (∃ (s : State) (port : Nat) (pos : Nat) (m : Master),
      s.dev.isActive m = true ∧
      (s.dev.ep (port % 32)).cmd = none ∧
      s.dev.lRate (port % 32) ≠ 0 ∧
      s.dev.envRefuse (port % 32) 2 1 (pos % 2) (s.dev.ep (port % 32)).words.length
       (s.dev.num R.ENV_KEY_LIMIT (port % 32)) =
     0) ∧
    (∃ (s : State) (port : Nat) (m : Master),
      s.dev.isActive m = true ∧
      (s.dev.ep (port % 32)).cmd = none ∧
      s.dev.lRate (port % 32) ≠ 0 ∧
      s.dev.envRefuse (port % 32) 3 0 0 (s.dev.ep (port % 32)).words.length
       (s.dev.num R.ENV_KEY_LIMIT (port % 32)) =
     0) ∧
    (∃ (s : State) (port : Nat) (dir : Nat) (pos : Nat) (m : Master),
      s.dev.isActive m = true ∧
      (s.dev.ep (port % 32)).cmd = none ∧
      s.dev.lRate (port % 32) ≠ 0 ∧
      s.dev.envRefuse (port % 32) 4 (dir % 2) (pos % 2) (s.dev.ep (port % 32)).words.length
       (s.dev.num R.ENV_KEY_LIMIT (port % 32)) =
     0) ∧
    (∃ (s : State) (port : Nat) (m : Master),
      s.dev.isActive m = true ∧
      (s.dev.ep (port % 32)).cmd = none ∧
      s.dev.lRate (port % 32) ≠ 0 ∧
      s.dev.envRefuse (port % 32) 5 0 0 (s.dev.ep (port % 32)).words.length
       (s.dev.num R.ENV_KEY_LIMIT (port % 32)) =
     0) ∧
    (∃ (s : State) (port : Nat) (ticket : Nat) (m : Master) (c : EnvCmd),
      s.dev.isActive m = true ∧
      s.dev.lRate (port % 32) ≠ 0 ∧
      (s.dev.ep (port % 32)).cmd = some c ∧
      c.ticket = ticket % 2 ^ 16) ∧
    (∃ (s : State) (port : Nat) (m : Master),
      s.dev.passes m (R.ENV_KEY_STAGE.addr (port % 32) 0) = true ∧
      s.dev.mayWrite m = true ∧
      (s.dev.ep (port % 32)).words.length < 11) :=
  ⟨⟨on (ekl []), 2, 0, .sageA, by decide +kernel, by decide +kernel, by decide +kernel, by decide +kernel⟩,
    ⟨on (ekl []), 2, 1, .sageA, by decide +kernel, by decide +kernel, by decide +kernel, by decide +kernel⟩,
    ⟨on (ekl [(8, { st := 1 })]), 2, .sageA, by decide +kernel, by decide +kernel, by decide +kernel, by decide +kernel⟩,
    ⟨on (ekl [(8, { st := 1 })]), 2, 0, 0, .sageA, by decide +kernel, by decide +kernel, by decide +kernel, by decide +kernel⟩,
    ⟨on (ekl [(8, { st := 1 })]), 2, .sageA, by decide +kernel, by decide +kernel, by decide +kernel, by decide +kernel⟩,
    ⟨on (ecd 1 0 []), 2, 9, .sageA, ec 1 0, by decide +kernel, by decide +kernel, by decide +kernel, by decide +kernel⟩,
    ⟨on port, 2, .sageA, by decide +kernel, by decide +kernel, by decide +kernel⟩⟩

theorem wit_EnvKeyCommandsComplete :
    (∃ (s : State) (port : Nat) (c : EnvCmd),
      (s.dev.ep (port % 32)).cmd = some c ∧
      c.pos < 2 ∧
      c.op = 1) ∧
    (∃ (s : State) (port : Nat) (c : EnvCmd),
      (s.dev.ep (port % 32)).cmd = some c ∧
      c.pos < 2 ∧
      c.op = 2) ∧
    (∃ (s : State) (port : Nat) (c : EnvCmd),
      (s.dev.ep (port % 32)).cmd = some c ∧
      c.pos < 2 ∧
      c.op = 3 ∧
      (s.dev.epos (port % 32) 0 0).due = false ∧
      (s.dev.epos (port % 32) 0 1).due = false) ∧
    (∃ (s : State) (port : Nat) (c : EnvCmd),
      (s.dev.ep (port % 32)).cmd = some c ∧
      c.pos < 2 ∧
      c.op = 4 ∧
      c.dir = 0) ∧
    (∃ (s : State) (port : Nat) (c : EnvCmd),
      (s.dev.ep (port % 32)).cmd = some c ∧
      c.pos < 2 ∧
      c.op = 4 ∧
      c.dir = 1) ∧
    (∃ (s : State) (port : Nat) (c : EnvCmd),
      (s.dev.ep (port % 32)).cmd = some c ∧
      c.pos < 2 ∧
      c.op = 5) :=
  ⟨⟨on (ecd 1 0 []), 2, ec 1 0, by decide +kernel, by decide +kernel, by decide +kernel⟩,
    ⟨on (ecd 2 1 []), 2, ec 2 1, by decide +kernel, by decide +kernel, by decide +kernel⟩,
    ⟨on (ecd 3 0 [(8, { st := 1, key := [1#8] })]), 2, ec 3 0, by decide +kernel, by decide +kernel, by decide +kernel, by decide +kernel, by decide +kernel⟩,
    ⟨on (ecd 4 0 [(8, { st := 2, key := [1#8] })]), 2, ec 4 0, by decide +kernel, by decide +kernel, by decide +kernel, by decide +kernel⟩,
    ⟨on (ecd 4 1 [(10, { st := 1, key := [1#8] })]), 2, ec 4 1, by decide +kernel, by decide +kernel, by decide +kernel, by decide +kernel⟩,
    ⟨on (ecd 5 0 [(8, { st := 2, key := [1#8] })]), 2, ec 5 0, by decide +kernel, by decide +kernel, by decide +kernel⟩⟩

theorem wit_EnvelopeEngines :
    (∃ (s : State) (port : Nat) (k : Nat),
      s.dev.eMode (port % 32) = true ∧
      s.dev.get F.ENV_STATUS_TX_STATE (port % 32) ≠ 1 ∧
      List.find? (fun k => (s.dev.epos (port % 32) 0 k).due) [0, 1] = some k) ∧
    (∃ (s : State) (port : Nat),
      s.dev.eMode (port % 32) = true ∧
      s.dev.on F.LPORT_CTRL_ENABLE (port % 32) = true ∧
      bit (s.dev.ep (port % 32)).raw 1 = true ∧
      bit (s.dev.get F.ENV_STATUS_DEFECTS (port % 32)) 1 = false) ∧
    (∃ (s : State) (port : Nat),
      s.dev.eMode (port % 32) = true ∧
      s.dev.on F.LFE_STATUS_TX_ENGINE_FAILED (port % 32 / 8) = false ∧
      SMap.get 0 s.dev.env.spare (port % 32 / 8 * 2) = 0) ∧
    (∃ (s : State) (port : Nat),
      s.dev.eMode (port % 32) = true ∧
      s.dev.on F.LFE_STATUS_TX_ENGINE_FAILED (port % 32 / 8) = false ∧
      SMap.get 0 s.dev.env.spare (port % 32 / 8 * 2) ≠ 0) ∧
    (∃ (s : State) (port : Nat) (block : Bytes) (x : Nat × Nat),
      s.dev.eMode (port % 32) = true ∧
      s.dev.on F.LPORT_CTRL_ENABLE (port % 32) = true ∧
      s.dev.get F.ENV_STATUS_ALIGN (port % 32) ≠ 2 ∧
      bit (s.dev.get F.ENV_STATUS_DEFECTS (port % 32)) 0 = false ∧
      numAt block 0 6 = 66681890757315 ∧
      x ∈ (s.dev.ep (port % 32)).cand ∧
      x.fst + 2048 = (s.dev.ep (port % 32)).blk ∧
      numAt block 6 1 = (x.snd + 1) % 256) :=
  ⟨⟨on (fs (ek {} [(8, { st := 1, due := true })]) [(F.ENV_STATUS_TX_STATE, 2, 0)]), 2, 0, by decide +kernel, by decide +kernel, by decide +kernel⟩,
    ⟨on (ek { raw := 2 } []), 2, by decide +kernel, by decide +kernel, by decide +kernel, by decide +kernel⟩,
    ⟨on port, 2, by decide +kernel, by decide +kernel, by decide +kernel⟩,
    ⟨on { port with env := { spare := [(0, 2)] } }, 2, by decide +kernel, by decide +kernel, by decide +kernel⟩,
    ⟨on (ek { cand := [(4, 9)], blk := 2052 } []), 2, beBytes 6 66681890757315 ++ beBytes 1 10 ++ zeros 1, (4, 9), by decide +kernel, by decide +kernel, by decide +kernel, by decide +kernel, by decide +kernel, by decide +kernel, by decide +kernel, by decide +kernel⟩⟩

theorem wit_ClientFramesClassified :
    (∃ (frame : Bytes),
      List.drop (List.length frame - 4) frame ≠ fcsBytes (List.take (List.length frame - 4) frame)) ∧
    (∃ (s : State) (port : Nat) (at_ : Nat) (t : Nat) (sl : Nat) (frame : Bytes) (data : Bytes) (p : Parsed),
      s.dev.on F.CPORT_CTRL_ENABLE (port % 32) = true ∧
      s.dev.on F.CPORT_STATUS_LINK_UP (port % 32) = true ∧
      s.dev.domHeld 2 = false ∧
      s.dev.domHeld (port % 32 / 16) = false ∧
      List.length frame = List.length data + 4 ∧
      64 ≤ List.length frame ∧
      List.length frame ≤ 16000 ∧
      frame = data ++ fcsBytes data ∧
      numAt data 12 2 ≠ 34824 ∧
      s.dev.on F.FE_CTRL_ENABLE (port % 32 / 8) = true ∧
      s.dev.feUp (port % 32 / 8) = true ∧
      s.dev.get F.FE_VER_CURRENT_VERSION ≠ 0 ∧
      p =
     parseFrame
       { altTpid := s.dev.get F.FE_PARSE_CTRL_ALT_TPID,
         altEn := s.dev.on F.FE_PARSE_CTRL_ALT_TPID_EN,
         ptpL2 := s.dev.on F.FE_PTP_CTRL_L2_EN,
         ptpUdp4 := s.dev.on F.FE_PTP_CTRL_UDP4_EN,
         ptpUdp6 := s.dev.on F.FE_PTP_CTRL_UDP6_EN }
       data ∧
      p.ctrl = false ∧
      p.ptpEvent = false ∧
      s.dev.tagAt at_ = some t ∧
      s.dev.fe.bad = [] ∧
      nbits (s.dev.lookup (port % 32 / 8) t (port % 32) data p).fst 31 30 = 1 ∧
      bit
       (s.dev.tw (feSel 18 (port % 32 / 8))
         (nbits (s.dev.lookup (port % 32 / 8) t (port % 32) data p).fst 13 0 + t * 2 ^ 24) 0)
       31 =
     true ∧
      bit
       (nbits
         (s.dev.tw (feSel 18 (port % 32 / 8))
           (nbits (s.dev.lookup (port % 32 / 8) t (port % 32) data p).fst 13 0 + t * 2 ^ 24) 0)
         23 20)
       (s.dev.classOf (port % 32 / 8) t (s.dev.lookup (port % 32 / 8) t (port % 32) data p).fst
         (s.dev.tw (feSel 18 (port % 32 / 8))
           (nbits (s.dev.lookup (port % 32 / 8) t (port % 32) data p).fst 13 0 + t * 2 ^ 24) 0)
         p) =
     true ∧
      bit
       (s.dev.tw (feSel 18 (port % 32 / 8))
         (nbits (s.dev.lookup (port % 32 / 8) t (port % 32) data p).fst 13 0 + t * 2 ^ 24) 1)
       15 =
     false ∧
      s.dev.chooseSlices
       (s.dev.tw (feSel 18 (port % 32 / 8))
         (nbits (s.dev.lookup (port % 32 / 8) t (port % 32) data p).fst 13 0 + t * 2 ^ 24) 0)
       data =
     [sl] ∧
      s.dev.sliceOff sl = false ∧
      (∀ (ex : Bool),
     heldBytes (SMap.get [] s.dev.fe.hold (port % 32 / 8)) ex + List.length data + 4 ≤ 32768)) ∧
    (∃ (s : State) (port : Nat) (frame : Bytes) (data : Bytes) (tag : Nat → Bool),
      (∀ (e : Nat),
     tag e = true ↔
       e = 34984 ∨
         e = 33024 ∨
           s.dev.on F.FE_PARSE_CTRL_ALT_TPID_EN = true ∧
             e = s.dev.get F.FE_PARSE_CTRL_ALT_TPID) ∧
      (tag (numAt data 12 2) = false ∧ numAt data 12 2 = 34997 ∨
     tag (numAt data 12 2) = true ∧ numAt data 16 2 = 34997 ∨
       tag (numAt data 12 2) = true ∧
         numAt data 16 2 = 33024 ∧ tag (numAt data 20 2) = false ∧ numAt data 20 2 = 34997) ∧
      s.dev.on F.CPORT_CTRL_ENABLE (port % 32) = true ∧
      s.dev.on F.CPORT_STATUS_LINK_UP (port % 32) = true ∧
      s.dev.domHeld 2 = false ∧
      s.dev.domHeld (port % 32 / 16) = false ∧
      frame = data ++ fcsBytes data ∧
      List.length frame = List.length data + 4 ∧
      64 ≤ List.length frame ∧
      List.length frame ≤ 16000 ∧
      numAt data 12 2 ≠ 34824 ∧
      s.dev.on F.FE_CTRL_ENABLE (port % 32 / 8) = true ∧
      s.dev.feUp (port % 32 / 8) = true ∧
      s.dev.get F.FE_VER_CURRENT_VERSION ≠ 0) :=
  ⟨⟨cfr, by decide +kernel⟩,
    ⟨on cd, 3, 100, 0, 1, cfr ++ fcsBytes cfr, cfr, prm, by decide +kernel, by decide +kernel, by decide +kernel, by decide +kernel, by decide +kernel, by decide +kernel, by decide +kernel, by decide +kernel, by decide +kernel, by decide +kernel, by decide +kernel, by decide +kernel, by decide +kernel, by decide +kernel, by decide +kernel, by decide +kernel, by decide +kernel, by decide +kernel, by decide +kernel, by decide +kernel, by decide +kernel, by decide +kernel, by decide +kernel, by decide +kernel⟩,
    ⟨on cd, 3, ccf ++ fcsBytes ccf, ccf, cct, fun e => by simp [cct, show (on cd).dev.on F.FE_PARSE_CTRL_ALT_TPID_EN = false by decide +kernel], by decide +kernel, by decide +kernel, by decide +kernel, by decide +kernel, by decide +kernel, by decide +kernel, by decide +kernel, by decide +kernel, by decide +kernel, by decide +kernel, by decide +kernel, by decide +kernel, by decide +kernel⟩⟩

theorem wit_VersionsStaged :
    (∃ (s : State) (version : Nat),
      s.dev.feBusy = false ∧
      s.dev.staged = false ∧
      s.dev.on F.FE_VER_DRAINING_VALID = false ∧
      version % 2 ^ 16 ≠ 0 ∧
      (s.dev.get F.FE_VER_CURRENT_VERSION = 0 ∨
     version % 2 ^ 16 =
       if s.dev.get F.FE_VER_CURRENT_VERSION = 65535 then 1
       else s.dev.get F.FE_VER_CURRENT_VERSION + 1)) ∧
    (∃ (s : State),
      s.dev.feBusy = false ∧
      s.dev.staged = true) ∧
    (∃ (s : State),
      s.dev.fe.pass = 1) ∧
    (∃ (s : State),
      s.dev.feBusy = false ∧
      s.dev.staged = true ∧
      s.dev.stagedClosed = false) ∧
    (∃ (s : State),
      s.dev.fe.pass = 2 ∧
      s.dev.staged = true ∧
      s.dev.feRunning ≠ [] ∧
      (∀ (n : Nat), n ∈ s.dev.feRunning → s.dev.stagedOk n (s.dev.get F.FE_VER_STAGED_TAG) = true) ∧
      (∀ (n : Nat),
     n ∈ s.dev.feRunning →
       ∀ (m : Nat),
         m ∈ s.dev.feRunning →
           s.dev.stagedDigest n (s.dev.get F.FE_VER_STAGED_TAG) =
             s.dev.stagedDigest m (s.dev.get F.FE_VER_STAGED_TAG))) ∧
    (∃ (s : State),
      s.dev.fe.pass = 2 ∧
      (∃ n, n ∈ s.dev.feRunning ∧ s.dev.stagedOk n (s.dev.get F.FE_VER_STAGED_TAG) = false)) ∧
    (∃ (s : State),
      s.dev.feBusy = false ∧
      s.dev.staged = true ∧
      s.dev.thyPending 1 = false) ∧
    (∃ (s : State),
      s.dev.feBusy = false ∧
      s.dev.stagedClosed = true ∧
      (∀ (p : Nat), p < 32 → s.dev.on F.CPORT_CTRL_ENABLE p = false)) ∧
    (∃ (s : State),
      s.dev.on F.FE_VER_DRAINING_VALID = true ∧
      s.dev.drainCount = 0) ∧
    (∃ (s : State) (fe : Nat) (source : Nat),
      source % 4 ≠ fe % 4 ∧
      s.dev.on F.FE_STATUS_RUNNING (source % 4) = true ∧
      s.dev.on F.FE_STATUS_RUNNING (fe % 4) = true ∧
      s.dev.on F.FE_STATUS_RESYNC_BUSY (fe % 4) = false) ∧
    (∃ (s : State) (fe : Nat),
      s.dev.on F.FE_STATUS_RESYNC_BUSY (fe % 4) = true ∧
      s.dev.get F.FE_RESYNC_SOURCE (fe % 4) ≠ fe % 4 ∧
      SMap.wf [] s.dev.tbl = true) ∧
    (∃ (s : State),
      s.dev.feBusy = false ∧
      s.dev.staged = true ∧
      s.dev.thyPending 1 = true) :=
  ⟨⟨on (vd []), 5, by decide +kernel, by decide +kernel, by decide +kernel, by decide +kernel, by decide +kernel⟩,
    ⟨on (vd stv), by decide +kernel, by decide +kernel⟩,
    ⟨on { vd stv with fe := { pass := 1 } }, by decide +kernel⟩,
    ⟨on (vd stv), by decide +kernel, by decide +kernel, by decide +kernel⟩,
    ⟨on { vd stv with fe := { pass := 2 } }, by decide +kernel, by decide +kernel, by decide +kernel, by decide +kernel, by decide +kernel⟩,
    ⟨on (ts { vd stv with fe := { pass := 2 } } [(0x12, 7 + 2^24, [2^30 + 2^28])]), by decide +kernel, by decide +kernel⟩,
    ⟨on (vd stv), by decide +kernel, by decide +kernel, by decide +kernel⟩,
    ⟨on (vd (stv ++ [(F.FE_VER_STAGED_CLOSED, 0, 1)])), by decide +kernel, by decide +kernel, by decide +kernel⟩,
    ⟨on (vd [(F.FE_VER_DRAINING_VALID, 0, 1)]), by decide +kernel, by decide +kernel⟩,
    ⟨on (vd []), 0, 1, by decide +kernel, by decide +kernel, by decide +kernel, by decide +kernel⟩,
    ⟨on (ts (vd [(F.FE_STATUS_RESYNC_BUSY, 0, 1), (F.FE_RESYNC_SOURCE, 0, 1)]) [(0x10012, 3, [5])]), 0, by decide +kernel, by decide +kernel, by decide +kernel⟩,
    ⟨on { vd stv with thy := { ent := [(2, { st := 1, action := 1 })] } }, by decide +kernel, by decide +kernel, by decide +kernel⟩⟩

theorem wit_MatchEntriesWritten :
    (∃ (s : State) (m : Master) (words : List Nat),
      s.dev.isActive m = true ∧
      s.dev.feWriteStop = none ∧
      s.dev.fe.bad = [] ∧
      (s.dev.win m).data.length ≤ 16 ∧
      (∀ (n : Nat), n ∈ s.dev.feRunning → s.dev.emPlace n 0 ≠ none ∧ s.dev.emFind n words = [])) ∧
    (∃ (s : State) (m : Master),
      s.dev.isActive m = true ∧
      s.dev.feWriteStop = none ∧
      s.dev.fe.bad = [] ∧
      (s.dev.win m).data.length ≤ 16) ∧
    (∃ (s : State) (m : Master) (rule : Nat) (part : Nat),
      s.dev.isActive m = true ∧
      s.dev.feWriteStop = none ∧
      s.dev.fe.bad = [] ∧
      (s.dev.win m).data.length ≤ 16 ∧
      part < 2 ∧
      (∀ (n : Nat), n ∈ s.dev.feRunning → s.dev.mask 17 n (rule % 8192 * 4 + 2) &&& s.dev.liveTags = 0)) ∧
    (∃ (s : State) (m : Master),
      s.dev.isActive m = true ∧
      s.dev.feWriteStop = none ∧
      s.dev.fe.bad = [] ∧
      (s.dev.win m).data.length ≤ 16) :=
  ⟨⟨on (vd stv), .sageA, [1, 2, 3, 4, 5, 6], by decide +kernel, by decide +kernel, by decide +kernel, by decide +kernel, by decide +kernel⟩,
    ⟨on (vd stv), .sageA, by decide +kernel, by decide +kernel, by decide +kernel, by decide +kernel⟩,
    ⟨on (vd stv), .sageA, 5, 1, by decide +kernel, by decide +kernel, by decide +kernel, by decide +kernel, by decide +kernel, by decide +kernel⟩,
    ⟨on (ts (vd stv) [(0x11, 22, [1, 2, 2])]), .sageA, by decide +kernel, by decide +kernel, by decide +kernel, by decide +kernel⟩⟩

theorem wit_WindowServes :
    (∃ (s : State) (m : Master) (sel : Nat) (index : Nat),
      s.dev.isActive m = true ∧
      72 ≤ sel ∧
      sel < 88 ∧
      index < 2 ^ 32 ∧
      tblStop sel index = 0 ∧
      (s.dev.win m).data.length ≤ 16) ∧
    (∃ (s : State) (m : Master) (sel : Nat) (index : Nat),
      s.dev.isActive m = true ∧
      72 ≤ sel ∧
      sel < 88 ∧
      index < 2 ^ 32 ∧
      tblStop sel index = 0 ∧
      (s.dev.win m).data.length ≤ 16) :=
  ⟨⟨on up, .sageA, 73, 5, by decide +kernel, by decide +kernel, by decide +kernel, by decide +kernel, by decide +kernel, by decide +kernel⟩,
    ⟨on (ts up [(73, 5, [1, 2])]), .sageA, 73, 5, by decide +kernel, by decide +kernel, by decide +kernel, by decide +kernel, by decide +kernel, by decide +kernel⟩⟩

theorem wit_RegistersServed :
    (∃ (s : State) (m : Master),
      s.dev.isActive m = true) ∧
    (∃ (s : State) (m : Master) (n : Nat),
      s.dev.isActive m = true ∧
      n < 8) ∧
    (∃ (s : State) (m : Master) (n : Nat),
      s.dev.isActive m = true ∧
      n < 4) ∧
    (∃ (s : State) (m : Master),
      s.dev.isActive m = true) :=
  ⟨⟨on up, .sageA, by decide +kernel⟩,
    ⟨on (rs up [(R.SAT_EVT_STATUS, 3, 7)]), .sageA, 3, by decide +kernel, by decide +kernel⟩,
    ⟨on (rs up [(R.FE_CNT_NOT_READY, 3, 7)]), .sageA, 3, by decide +kernel, by decide +kernel⟩,
    ⟨on (rs up [(R.MRG_CNT_PASSED_LO, 0, 7), (R.MRG_CNT_PASSED_HI, 0, 9)]), .sageA, by decide +kernel⟩⟩

theorem wit_TenantsConfined :
    (∃ (s : State) (m : Master) (addr : Nat) (p : Nat),
      s.dev.principal m = some p ∧
      2 ≤ p ∧
      s.dev.answers m = true ∧
      addr < 2 ^ 32 ∧
      ¬(isPage addr = true ∧ addr / 1048576 % 16 = p)) ∧
    (∃ (s : State) (m : Master) (addr : Nat) (p : Nat),
      s.dev.principal m = some p ∧
      2 ≤ p ∧
      s.dev.passes m addr = true ∧
      addr < 2 ^ 32 ∧
      m ≠ Master.spi ∧
      m ≠ Master.i2c ∧
      m.sage = false) :=
  ⟨⟨on up, .eth 3, 0x1000, 3, by decide +kernel, by decide +kernel, by decide +kernel, by decide +kernel, by decide +kernel⟩,
    ⟨on up, .eth 3, 0x1000, 3, by decide +kernel, by decide +kernel, by decide +kernel, by decide +kernel, by decide +kernel, by decide +kernel, by decide +kernel⟩⟩

theorem wit_PortsServed :
    (∃ (s : State) (line : Bool) (port : Nat) (rate : Nat) (width : Nat),
      rate % 4 ≠ 0 ∧
      s.dev.on (pfEnable line) (port % 32) = false ∧
      s.dev.formOk line (port % 32) (rate % 4) (width % 16) = true) ∧
    (∃ (s : State) (line : Bool) (port : Nat) (rate : Nat) (width : Nat),
      rate % 4 ≠ 0 ∧
      s.dev.formOk line (port % 32) (rate % 4) (width % 16) = false) ∧
    (∃ (s : State),
      s.dev.on F.TAMP_STATUS_HALTED = false ∧
      s.dev.tamp.hold = false) ∧
    (∃ (s : State) (line : Bool) (port : Nat),
      s.dev.pRate line (port % 32) ≠ 0 ∧
      s.dev.on (pfEnable line) (port % 32) = true) ∧
    (∃ (s : State) (line : Bool) (port : Nat) (skew : Nat),
      s.dev.on (pfEnable line) (port % 32) = true ∧
      s.dev.on (pfTx line) (port % 32) = true ∧
      s.dev.on (pfAligned line) (port % 32) = false ∧
      s.dev.on (pfHiSer line) (port % 32) = false ∧
      s.dev.domHeld (port % 32 / 16) = false ∧
      skew ≤ 180 ∧
      s.dev.lanesOf line (port % 32) ≠ [] ∧
      (∀ (l : Nat),
     l ∈ s.dev.lanesOf line (port % 32) →
       s.dev.on F.LANE_STATUS_CDR_LOCK l = true ∧
         s.dev.on F.LANE_STATUS_ADAPT_DONE l = true)) ∧
    (∃ (s : State) (line : Bool) (port : Nat),
      s.dev.on (pfAligned line) (port % 32) = true) ∧
    (∃ (s : State) (line : Bool) (port : Nat),
      s.dev.on (pfAligned line) (port % 32) = true) :=
  ⟨⟨on up, true, 4, 3, 4, by decide +kernel, by decide +kernel, by decide +kernel⟩,
    ⟨on up, true, 5, 3, 4, by decide +kernel, by decide +kernel⟩,
    ⟨on (fs port [(F.LPORT_CTRL_ENABLE, 2, 0)]), by decide +kernel, by decide +kernel⟩,
    ⟨on port, true, 2, by decide +kernel, by decide +kernel⟩,
    ⟨on pfo, true, 4, 10, by decide +kernel, by decide +kernel, by decide +kernel, by decide +kernel, by decide +kernel, by decide +kernel, by decide +kernel, by decide +kernel⟩,
    ⟨on pal, true, 4, by decide +kernel⟩,
    ⟨on pal, true, 4, by decide +kernel⟩⟩

theorem wit_LanesServed :
    (∃ (s : State) (group : Nat) (i : Nat),
      s.dev.laneUp (group % 16 * 4) = true ∧
      i < 4) ∧
    (∃ (s : State) (lane : Nat),
      s.dev.rxMay (lane % 64) = true) ∧
    (∃ (s : State) (lane : Nat),
      s.dev.laneUp (lane % 64) = true ∧
      s.dev.on F.LANE_STATUS_CDR_LOCK (lane % 64) = true) ∧
    (∃ (s : State) (lane : Nat),
      s.dev.laneUp (lane % 64) = true ∧
      s.dev.on F.LANE_STATUS_CDR_LOCK (lane % 64) = true ∧
      s.dev.on F.LANE_STATUS_ADAPT_DONE (lane % 64) = false) ∧
    (∃ (s : State) (group : Nat) (i : Nat),
      s.dev.on F.LANE_STATUS_PLL_LOCK (group % 16 * 4) = true ∧
      i < 4) ∧
    (∃ (s : State) (lane : Nat),
      s.dev.on F.LANE_STATUS_SIGNAL_DETECT (lane % 64) = true) ∧
    (∃ (s : State) (lane : Nat),
      s.dev.on F.LANE_STATUS_CDR_LOCK (lane % 64) = true) ∧
    (∃ (s : State) (lane : Nat),
      s.dev.laneUp (lane % 64) = true ∧
      s.dev.on F.LANE_CTRL_ADAPT_FREEZE (lane % 64) = false) ∧
    (∃ (s : State) (lane : Nat),
      s.dev.laneUp (lane % 64) = true ∧
      s.dev.on F.LANE_PRBS_CTRL_CHK_EN (lane % 64) = true) ∧
    (∃ (s : State) (lane : Nat),
      s.dev.on F.LANE_STATUS_PRBS_LOCK (lane % 64) = true) ∧
    (∃ (s : State) (port : Nat),
      s.dev.get F.CPORT_PREEMPT_STATUS_VERIFY_STATE (port % 32) = 2) ∧
    (∃ (s : State) (port : Nat),
      s.dev.get F.CPORT_PREEMPT_STATUS_VERIFY_STATE (port % 32) = 2 ∧
      SMap.get 0 s.dev.port.tries (port % 32) = 2) :=
  ⟨⟨on up, 3, 1, by decide +kernel, by decide +kernel⟩,
    ⟨on (fs up [(F.LANE_STATUS_PLL_LOCK, 12, 1)]), 12, by decide +kernel⟩,
    ⟨on lk, 12, by decide +kernel, by decide +kernel⟩,
    ⟨on lk, 12, by decide +kernel, by decide +kernel, by decide +kernel⟩,
    ⟨on lk, 3, 2, by decide +kernel, by decide +kernel⟩,
    ⟨on lk, 12, by decide +kernel⟩,
    ⟨on lk, 12, by decide +kernel⟩,
    ⟨on lk, 12, by decide +kernel, by decide +kernel⟩,
    ⟨on (fs lk [(F.LANE_PRBS_CTRL_CHK_EN, 12, 1)]), 12, by decide +kernel, by decide +kernel⟩,
    ⟨on (fs lk [(F.LANE_PRBS_CTRL_CHK_EN, 12, 1), (F.LANE_STATUS_PRBS_LOCK, 12, 1)]), 12, by decide +kernel⟩,
    ⟨on pv, 3, by decide +kernel⟩,
    ⟨on { pv with port := { tries := [(3, 2)] } }, 3, by decide +kernel, by decide +kernel⟩⟩

end Sys2Proof.Tests.W4
end

