-- ==== Sys2Proof/Tests/Witness5.lean ====
section
/-! SUPPORT. States and operands that meet the hypotheses of the statements, group 5: for each clause of a
statement one state in which all its hypotheses hold together. -/

open Sys2Proof Sys2Proof.Machine
namespace Sys2Proof.Tests.W5
set_option Elab.async false

def tk (c : Nat) (d : Dev) : Dev := { d with tim := { clk := c } }
def ti : Dev := fs up [(F.TIM_PPS_IN_CTRL_EN, 0, 1), (F.TIM_TOD_CTRL_EN, 0, 1), (F.TIM_CLK_CTRL_EN, 0, 1), (F.TIM_STATUS_PPS_IN_PRESENT, 0, 1), (F.TIM_STATUS_TIMECLK_PRESENT, 0, 1)]
def tip : Dev := { ti with tim := { ppsClk := some 5, gateClk := some 7, todClk := some 9 } }
def msg0 : Bytes := beBytes 2 49980 ++ beBytes 1 1 ++ beBytes 1 20 ++ beBytes 14 77
def ex0 : ExcRec := { reason := 2, port := 3, data := zeros 70 }
def sv : Dev := { fs up [(F.TIM_CTRL_SOURCE, 0, 2), (F.TIM_SYNC_SYNC_STATE, 0, 1)] with tim := { goodUpdates := 2 }, fe := { buf := [ex0] } }
def cpo : Dev := fs up [(F.CPORT_CTRL_ENABLE, 3, 1), (F.CPORT_CTRL_WIDTH, 3, 4), (F.CPORT_CTRL_LANE_RATE, 3, 2), (F.CPORT_STATUS_TX_ACTIVE, 3, 1)]
def tw9 : Dev := rs (fs up [(F.THY_STAGE_ACTION_ACTION, 0, 9)]) [(R.THY_STAGE_AT_NS, 0, 1000000), (R.THY_STAGE_ARG, 0, 5)]
def en (st : Nat) (a t : Nat) : ThyEnt := { st := st, action := a, ticket := 4, at_ := t }
def te (st a t : Nat) (d : Dev) : Dev := { d with thy := { ent := [(7, en st a t)] } }
def sn (d : Dev) : Dev := fs d [(F.TIM_SEC_NEXT_NS_NS, 0, 1000000000)]
def fn (a : Nat) (d : Dev) : Dev := te 1 a 1000 (sn d)
def stv : Dev := fs up [(F.FE_VER_STAGED_VALID, 0, 1), (F.FE_VER_STAGED_VERSION, 0, 3), (F.FE_VER_STAGED_TAG, 0, 1), (F.FE_VER_STAGED_CLOSED, 0, 1)]
def pn (p : PinSt) : Dev := { up with tim := { pins := [(2, p)] } }
def ld : Dev := { up with sage := { alive := [(0, some 0), (1, some 0)] } }
def nh : Dev := fs ld [(F.SAGE_STATUS_HOLDER, 0, 0), (coreHealthF 0, 0, 1), (coreHealthF 1, 0, 1)]
def hv : Dev := fs nh [(F.SAGE_STATUS_HOLDER, 0, 1)]

theorem wit_TimeAdjusted :
    (∃ (s : State) (load : Bool) (m : Master),
      s.dev.isActive m = true ∧
      s.dev.stepStop load = 0 ∧
      s.dev.stepDue s.dev.stageStep = []) ∧
    (∃ (s : State) (load : Bool) (m : Master),
      s.dev.isActive m = true ∧
      s.dev.stepStop load ≠ 0) ∧
    (∃ (s : State) (m : Master),
      s.dev.isActive m = true) ∧
    (∃ (s : State) (load : Bool) (m : Master),
      s.dev.isActive m = true ∧
      s.dev.stepStop load = 0 ∧
      s.dev.stepDue s.dev.stageStep = []) ∧
    (∃ (s : State),
      s.dev.tim.rawOrigin ≤ s.dev.tim.clk) ∧
    (∃ (s : State),
      s.dev.running = true ∧
      (∀ (k : Nat),
     s.dev.thyDue = some k → s.dev.netReach s.dev.secNext ≤ s.dev.netReach (SMap.get { } s.dev.thy.ent k).at_)) ∧
    (∃ (s : State),
      s.dev.on F.MON_STATUS_READING = true) :=
  ⟨⟨on up, false, .sageA, by decide +kernel, by decide +kernel, by decide +kernel⟩,
    ⟨on up, true, .sageA, by decide +kernel, by decide +kernel⟩,
    ⟨on up, .sageA, by decide +kernel⟩,
    ⟨on up, false, .sageA, by decide +kernel, by decide +kernel, by decide +kernel⟩,
    ⟨on (tk 500 up), by decide +kernel⟩,
    ⟨on up, by decide +kernel, by decide +kernel⟩,
    ⟨on (fs up [(F.MON_STATUS_READING, 0, 1)]), by decide +kernel⟩⟩

theorem wit_TimeInputsServed :
    (∃ (s : State) (at_ : Nat),
      s.dev.on F.TIM_PPS_IN_CTRL_EN = true ∧
      (∀ (c : Nat), s.dev.tim.ppsClk = some c → c + ms 500 ≤ at_)) ∧
    (∃ (s : State) (at_ : Nat) (c : Nat),
      s.dev.on F.TIM_PPS_IN_CTRL_EN = true ∧
      s.dev.tim.ppsClk = some c ∧
      at_ < c + ms 500) ∧
    (∃ (s : State) (c : Nat),
      s.dev.tim.ppsClk = some c ∧
      s.dev.on F.TIM_STATUS_PPS_IN_PRESENT = true) ∧
    (∃ (s : State) (msg : Bytes),
      s.dev.on F.TIM_TOD_CTRL_EN = true ∧
      List.length msg = 20 ∧
      numAt msg 0 2 = 49980 ∧
      numAt msg 2 1 = 1 ∧
      numAt msg 3 1 = 20 ∧
      crc16 (List.take 18 msg) = numAt msg 18 2) ∧
    (∃ (s : State) (msg : Bytes),
      s.dev.on F.TIM_TOD_CTRL_EN = true ∧
      List.length msg = 20 ∧
      numAt msg 0 2 = 49980 ∧
      crc16 (List.take 18 msg) ≠ numAt msg 18 2) ∧
    (∃ (s : State) (c : Nat),
      s.dev.tim.todClk = some c ∧
      s.dev.get F.TIM_CTRL_SOURCE = 1 ∧
      s.dev.get F.TIM_SYNC_SYNC_STATE = 2) ∧
    (∃ (s : State),
      s.dev.get F.TIM_CTRL_SOURCE = 2 ∧
      s.dev.get F.TIM_SYNC_SYNC_STATE = 2) ∧
    (∃ (s : State) (c : Nat),
      s.dev.on F.TIM_CLK_CTRL_EN = true ∧
      s.dev.tim.gateClk = some c) ∧
    (∃ (s : State),
      s.dev.on F.TIM_STATUS_TIMECLK_PRESENT = true) ∧
    (∃ (s : State) (index : Nat) (err : Nat) (r : ExcRec),
      s.dev.active.isSome = true ∧
      s.dev.fe.buf[index]? = some r ∧
      s.dev.get F.TIM_CTRL_SOURCE = 2 ∧
      s.dev.get F.TIM_SYNC_SYNC_STATE = 1 ∧
      err < 100 ∧
      2 ≤ s.dev.tim.goodUpdates) ∧
    (∃ (s : State) (port : Nat) (frame : Bytes),
      List.length frame ≤ 124 ∧
      s.dev.clientReady (port % 32) = true ∧
      s.dev.active.isSome = true ∧
      (SMap.get (0, 0) s.dev.tim.slotRate (port % 32)).fst + sec 1 ≤ s.dev.tim.clk ∧
      s.dev.tim.txs.length < 16) :=
  ⟨⟨on ti, 900, by decide +kernel, by decide +kernel⟩,
    ⟨on tip, 900, 5, by decide +kernel, by decide +kernel, by decide +kernel⟩,
    ⟨on tip, 5, by decide +kernel, by decide +kernel⟩,
    ⟨on ti, msg0 ++ beBytes 2 (crc16 msg0), by decide +kernel, by decide +kernel, by decide +kernel, by decide +kernel, by decide +kernel, by decide +kernel⟩,
    ⟨on ti, msg0 ++ beBytes 2 (crc16 msg0 ^^^ 1), by decide +kernel, by decide +kernel, by decide +kernel, by decide +kernel⟩,
    ⟨on (fs tip [(F.TIM_CTRL_SOURCE, 0, 1), (F.TIM_SYNC_SYNC_STATE, 0, 2)]), 9, by decide +kernel, by decide +kernel, by decide +kernel⟩,
    ⟨on (fs tip [(F.TIM_CTRL_SOURCE, 0, 2), (F.TIM_SYNC_SYNC_STATE, 0, 2)]), by decide +kernel, by decide +kernel⟩,
    ⟨on tip, 7, by decide +kernel, by decide +kernel⟩,
    ⟨on tip, by decide +kernel⟩,
    ⟨on sv, 0, 30, ex0, by decide +kernel, by decide +kernel, by decide +kernel, by decide +kernel, by decide +kernel, by decide +kernel⟩,
    ⟨on (tk (10^10) cpo), 3, zeros 70, by decide +kernel, by decide +kernel, by decide +kernel, by decide +kernel, by decide +kernel⟩⟩

theorem wit_TimeReadsTake :
    (∃ (s : State) (r : TxStamp) (rest : List TxStamp),
      s.dev.tim.txs = r :: rest) :=
  ⟨on { up with tim := { txs := [{ port := 3, tag := 4, net := 9 }] } }, { port := 3, tag := 4, net := 9 }, [], by decide +kernel⟩

theorem wit_ThymeCommandsServed :
    (∃ (s : State) (m : Master) (k : Nat),
      s.dev.isActive m = true ∧
      s.dev.thyStop = 0 ∧
      s.dev.thyFree = some k) ∧
    (∃ (s : State) (m : Master),
      s.dev.isActive m = true ∧
      s.dev.thyStop ≠ 0) ∧
    (∃ (s : State) (m : Master) (ticket : Nat) (k : Nat) (e : ThyEnt),
      s.dev.isActive m = true ∧
      List.find? (fun e => decide (e.snd.st = 1) && decide (e.snd.ticket = ticket % 2 ^ 16)) s.dev.thy.ent = some (k, e) ∧
      s.dev.netReached e.at_ = false) ∧
    (∃ (s : State) (m : Master) (ticket : Nat) (k : Nat) (e : ThyEnt),
      s.dev.isActive m = true ∧
      List.find? (fun e => decide (e.snd.st = 1) && decide (e.snd.ticket = ticket % 2 ^ 16)) s.dev.thy.ent = some (k, e) ∧
      s.dev.netReached e.at_ = true) ∧
    (∃ (s : State) (m : Master) (entry : Nat),
      s.dev.isActive m = true ∧
      2 ≤ (SMap.get { } s.dev.thy.ent (entry % 4096)).st) ∧
    (∃ (s : State) (m : Master) (entry : Nat),
      s.dev.isActive m = true ∧
      (SMap.get { } s.dev.thy.ent (entry % 4096)).st < 2) ∧
    (∃ (s : State) (entry : Nat),
      2 ≤ (SMap.get { } s.dev.thy.ent (entry % 4096)).st) ∧
    (∃ (s : State) (r : ThyRec) (rest : List ThyRec),
      s.dev.thy.fifo = r :: rest) ∧
    (∃ (d : Dev) (k : Nat) (reason : Nat) (count : Nat) (missed : Nat) (stepped : Bool) (fired : Bool) (e : ThyEnt) (e' : ThyEnt),
      e = SMap.get { } d.thy.ent k ∧
      e' = SMap.get { } (d.thyEnd k reason count missed stepped fired).thy.ent k ∧
      d.thy.fifo.length < 256) ∧
    (∃ (d : Dev) (k : Nat) (reason : Nat) (count : Nat) (missed : Nat) (stepped : Bool) (fired : Bool) (e : ThyEnt) (e' : ThyEnt),
      e = SMap.get { } d.thy.ent k ∧
      e' = SMap.get { } (d.thyEnd k reason count missed stepped fired).thy.ent k ∧
      256 ≤ d.thy.fifo.length) ∧
    (∃ (d : Dev) (k : Nat) (reason : Nat) (count : Nat) (missed : Nat) (stepped : Bool) (fired : Bool) (e : ThyEnt) (e' : ThyEnt),
      e = SMap.get { } d.thy.ent k ∧
      e' = SMap.get { } (d.thyEnd k reason count missed stepped fired).thy.ent k ∧
      256 ≤ d.thy.fifo.length) :=
  ⟨⟨on tw9, .sageA, 0, by decide +kernel, by decide +kernel, by decide +kernel⟩,
    ⟨on up, .sageA, by decide +kernel, by decide +kernel⟩,
    ⟨on (te 1 9 1000 up), .sageA, 4, 7, en 1 9 1000, by decide +kernel, by decide +kernel, by decide +kernel⟩,
    ⟨on (te 1 9 1000 (tk 5000 up)), .sageA, 4, 7, en 1 9 1000, by decide +kernel, by decide +kernel, by decide +kernel⟩,
    ⟨on (te 2 9 1000 up), .sageA, 7, by decide +kernel, by decide +kernel⟩,
    ⟨on (te 1 9 1000 up), .sageA, 7, by decide +kernel, by decide +kernel⟩,
    ⟨on (te 2 9 1000 up), 7, by decide +kernel⟩,
    ⟨on { up with thy := { fifo := [{ entry := 3 }] } }, { entry := 3 }, [], by decide +kernel⟩,
    ⟨{ up with thy := { ent := [(7, en 1 9 1000)], fifo := [{ entry := 3 }] } }, 7, 11, 0, 0, false, false, en 1 9 1000, { en 1 9 1000 with st := 3, reason := 11, endNet := up.net, endClk := up.tim.clk }, by decide +kernel, by decide +kernel, by decide +kernel⟩,
    ⟨{ up with thy := { ent := [(7, en 1 9 1000)], fifo := List.replicate 256 { entry := 3 } } }, 7, 11, 0, 0, false, false, en 1 9 1000, { en 1 9 1000 with st := 3, reason := 11, endNet := up.net, endClk := up.tim.clk }, by decide +kernel, by decide +kernel, by decide +kernel⟩,
    ⟨{ up with thy := { ent := [(7, en 1 9 1000)], fifo := List.replicate 256 { entry := 3 } } }, 7, 11, 0, 0, false, false, en 1 9 1000, { en 1 9 1000 with st := 3, reason := 11, endNet := up.net, endClk := up.tim.clk }, by decide +kernel, by decide +kernel, by decide +kernel⟩⟩

theorem wit_ThymeEntriesFire :
    (∃ (s : State) (k : Nat) (e : ThyEnt),
      e = SMap.get { } s.dev.thy.ent (k % 4096) ∧
      s.dev.FiresNext 1 (k % 4096) ∧
      s.dev.stagedClosed = true ∧
      s.dev.fe.pass = 0) ∧
    (∃ (s : State) (k : Nat) (e : ThyEnt),
      e = SMap.get { } s.dev.thy.ent (k % 4096) ∧
      s.dev.FiresNext 1 (k % 4096) ∧
      s.dev.stagedClosed = false) ∧
    (∃ (s : State) (k : Nat) (e : ThyEnt),
      e = SMap.get { } s.dev.thy.ent (k % 4096) ∧
      s.dev.FiresNext 2 (k % 4096)) ∧
    (∃ (s : State) (k : Nat) (e : ThyEnt),
      e = SMap.get { } s.dev.thy.ent (k % 4096) ∧
      s.dev.FiresNext 3 (k % 4096) ∧
      SMap.wf { } s.dev.sat.tx = true) ∧
    (∃ (s : State) (k : Nat) (e : ThyEnt),
      e = SMap.get { } s.dev.thy.ent (k % 4096) ∧
      s.dev.FiresNext 4 (k % 4096)) ∧
    (∃ (s : State) (k : Nat) (e : ThyEnt),
      e = SMap.get { } s.dev.thy.ent (k % 4096) ∧
      s.dev.FiresNext 5 (k % 4096)) ∧
    (∃ (s : State) (k : Nat) (e : ThyEnt),
      e = SMap.get { } s.dev.thy.ent (k % 4096) ∧
      s.dev.FiresNext 6 (k % 4096) ∧
      (SMap.get { } s.dev.tim.pins (e.arg % 4)).modeGen = e.gen) ∧
    (∃ (s : State) (k : Nat) (e : ThyEnt),
      e = SMap.get { } s.dev.thy.ent (k % 4096) ∧
      s.dev.FiresNext 7 (k % 4096) ∧
      (SMap.get { } s.dev.tim.pins (e.arg % 4)).modeGen = e.gen) ∧
    (∃ (s : State) (k : Nat) (e : ThyEnt),
      e = SMap.get { } s.dev.thy.ent (k % 4096) ∧
      s.dev.FiresNext 8 (k % 4096)) ∧
    (∃ (s : State) (k : Nat) (e : ThyEnt),
      e = SMap.get { } s.dev.thy.ent (k % 4096) ∧
      s.dev.FiresNext 9 (k % 4096)) :=
  ⟨⟨on (fn 1 stv), 7, en 1 1 1000, by decide +kernel, ⟨by decide +kernel, by decide +kernel, by decide +kernel, by decide +kernel⟩, by decide +kernel, by decide +kernel⟩,
    ⟨on (fn 1 up), 7, en 1 1 1000, by decide +kernel, ⟨by decide +kernel, by decide +kernel, by decide +kernel, by decide +kernel⟩, by decide +kernel⟩,
    ⟨on (fn 2 (up.setRx 1 5 { st := 1 })), 7, en 1 2 1000, by decide +kernel, ⟨by decide +kernel, by decide +kernel, by decide +kernel, by decide +kernel⟩⟩,
    ⟨on (fn 3 (up.setTx 1 5 0 { st := 1 })), 7, en 1 3 1000, by decide +kernel, ⟨by decide +kernel, by decide +kernel, by decide +kernel, by decide +kernel⟩, by decide +kernel⟩,
    ⟨on (fn 4 (up.setRx 1 5 { st := 2 })), 7, en 1 4 1000, by decide +kernel, ⟨by decide +kernel, by decide +kernel, by decide +kernel, by decide +kernel⟩⟩,
    ⟨on (fn 5 up), 7, en 1 5 1000, by decide +kernel, ⟨by decide +kernel, by decide +kernel, by decide +kernel, by decide +kernel⟩⟩,
    ⟨on (fn 6 up), 7, en 1 6 1000, by decide +kernel, ⟨by decide +kernel, by decide +kernel, by decide +kernel, by decide +kernel⟩, by decide +kernel⟩,
    ⟨on (fn 7 up), 7, en 1 7 1000, by decide +kernel, ⟨by decide +kernel, by decide +kernel, by decide +kernel, by decide +kernel⟩, by decide +kernel⟩,
    ⟨on (fn 8 up), 7, en 1 8 1000, by decide +kernel, ⟨by decide +kernel, by decide +kernel, by decide +kernel, by decide +kernel⟩⟩,
    ⟨on (fn 9 up), 7, en 1 9 1000, by decide +kernel, ⟨by decide +kernel, by decide +kernel, by decide +kernel, by decide +kernel⟩⟩⟩

theorem wit_PulsesRun :
    (∃ (s : State) (pin : Nat),
      (SMap.get { } s.dev.tim.pins (pin % 4)).train = true) ∧
    (∃ (s : State) (pin : Nat),
      (SMap.get { } s.dev.tim.pins (pin % 4)).pulse = true) :=
  ⟨⟨on (pn { train := true, nextNet := 900 }), 2, by decide +kernel⟩,
    ⟨on (pn { pulse := true, endClk := 900 }), 2, by decide +kernel⟩⟩

theorem wit_LeaseServed :
    (∃ (s : State) (value : Nat) (m : Master) (c : Nat),
      m.core = some c ∧
      s.dev.holder = some c ∧
      value % 2 = 1 ∧
      s.dev.coreUp c = true ∧
      SMap.get false s.dev.sage.lapsed c = false ∧
      s.dev.on F.TAMP_STATUS_HALTED = false ∧
      s.dev.gap = false ∧
      s.dev.tim.clk < s.dev.sage.renewClk + ms (s.dev.get F.SAGE_LEASE_CFG_LEASE_MS) ∧
      s.dev.on F.SAGE_STATUS_REVERT_PENDING = false) ∧
    (∃ (s : State) (value : Nat) (m : Master) (c : Nat),
      m.core = some c ∧
      value % 2 = 1 ∧
      s.dev.coreUp c = true ∧
      s.dev.on F.TAMP_STATUS_HALTED = false) ∧
    (∃ (s : State) (core : Nat) (t : Nat),
      SMap.get none s.dev.sage.alive (core % 2) = some t) ∧
    (∃ (s : State) (c : Nat),
      s.dev.holder = some c ∧
      8 ≤ s.dev.rst.step) ∧
    (∃ (s : State) (c : Nat),
      s.dev.noHolder = true ∧
      8 ≤ s.dev.rst.step ∧
      s.dev.grantee = some c ∧
      s.dev.get F.SAGE_CS_STATUS_STATE = 0 ∧
      s.dev.sage.defer = []) ∧
    (∃ (s : State) (value : Nat) (m : Master) (c : Nat),
      m.core = some c ∧
      s.dev.holder = some c ∧
      value % 2 = 1 ∧
      s.dev.eligible (1 - c) = true) ∧
    (∃ (s : State) (c : Nat),
      s.dev.sage.eligClk = some c ∧
      s.dev.holder = some 1 ∧
      s.dev.on F.SAGE_CTRL_REVERT_EN = true) ∧
    (∃ (s : State) (value : Nat) (m : Master) (c : Nat),
      m.core = some c ∧
      value % 2 = 1 ∧
      s.dev.coreUp c = true) ∧
    (∃ (s : State) (core : Nat),
      s.dev.coreUp (core % 2) = true) ∧
    (∃ (s : State),
      6 ≤ s.dev.rst.step ∧
      s.dev.noHolder = true ∧
      s.dev.on F.RST_CTRL_GLOBAL_WDT_EN = true) :=
  ⟨⟨on ld, 1, .sageA, 0, by decide +kernel, by decide +kernel, by decide +kernel, by decide +kernel, by decide +kernel, by decide +kernel, by decide +kernel, by decide +kernel, by decide +kernel⟩,
    ⟨on ld, 1, .sageA, 0, by decide +kernel, by decide +kernel, by decide +kernel, by decide +kernel⟩,
    ⟨on ld, 0, 0, by decide +kernel⟩,
    ⟨on ld, 0, by decide +kernel, by decide +kernel⟩,
    ⟨on nh, 0, by decide +kernel, by decide +kernel, by decide +kernel, by decide +kernel, by decide +kernel⟩,
    ⟨on hv, 1, .sageA, 0, by decide +kernel, by decide +kernel, by decide +kernel, by decide +kernel⟩,
    ⟨on { fs nh [(F.SAGE_STATUS_HOLDER, 0, 2), (F.SAGE_CTRL_REVERT_EN, 0, 1)] with sage := { eligClk := some 5, alive := [(0, some 0), (1, some 0)] } }, 5, by decide +kernel, by decide +kernel, by decide +kernel⟩,
    ⟨on ld, 1, .sageB, 1, by decide +kernel, by decide +kernel, by decide +kernel⟩,
    ⟨on ld, 1, by decide +kernel⟩,
    ⟨on (fs nh [(F.RST_CTRL_GLOBAL_WDT_EN, 0, 1)]), by decide +kernel, by decide +kernel, by decide +kernel⟩⟩

end Sys2Proof.Tests.W5
end

