-- ==== Sys2Proof/Tests/Witness6.lean ====
section
/-! SUPPORT. States and operands that meet the hypotheses of the statements, group 6: for each clause of a
statement one state in which all its hypotheses hold together. -/

open Sys2Proof Sys2Proof.Machine
namespace Sys2Proof.Tests.W6
set_option Elab.async false

def cfg1 : Dev := { rs (up.setTx 1 1 0 { st := 2 }) [(R.GLB_SCRATCH, 0, 7)] with mint := { keyOut := [1] } }
def dbg (l : Nat) : Dev := { fs up [(F.RST_STATUS_DEBUG_OPEN, 0, 1)] with fuse := { lcs := l } }
def st (k : Nat) : Dev := { rst := { step := k } }
def dom1 (k c : Nat) : Dev := { up with rst := { step := 9, pinsOn := true, dom := [(k, { causes := c })] } }
def bt : Dev := fs { rst := { step := 8, pinsOn := true } } [(F.SAGE_STATUS_HOLDER, 0, 1)]
def badImg : Bytes := zeros 34 ++ beBytes 2 1 ++ zeros 92 ++ beBytes 2 2 ++ zeros 2 ++ beBytes 4 192 ++ beBytes 4 3 ++ zeros 52 ++ zeros 3
def us (k : Nat) (d : Dev) : Dev := { fs d [(F.NVL_UPD_STATUS_STATE, 0, k), (F.NVL_UPD_LEN_BYTES, 0, 1572864), (F.NVL_UPD_STATUS_TICKET, 0, 5)] with flash := { owner := some (Master.code .sageA), recs := [(0, [zeros 256]), (1, [zeros 256])] } }
def pg : Dev := { us 2 up with flash := { owner := some (Master.code .sageA), page := zeros 252 } }

theorem wit_ResetsTaken :
    (∃ (s : State),
      6 ≤ s.dev.rst.step) ∧
    (∃ (s : State),
      6 ≤ s.dev.rst.step) ∧
    (∃ (s : State) (ns : Nat),
      1000 ≤ ns ∧
      s.dev.tamp.hold = false ∧
      6 ≤ s.dev.rst.step) ∧
    (∃ (s : State) (ns : Nat),
      (ns < 100 ∨ s.dev.tamp.hold = true)) ∧
    (∃ (s : State) (scope : Nat) (m : Master),
      s.dev.tamp.hold = false ∧
      6 ≤ s.dev.rst.step ∧
      s.dev.isActive m = true ∧
      scope % 8 = 1) ∧
    (∃ (s : State) (scope : Nat) (m : Master),
      s.dev.tamp.hold = false ∧
      6 ≤ s.dev.rst.step ∧
      s.dev.isActive m = true ∧
      scope % 8 = 4 ∧
      (s.dev.dom 2).causes = 0) ∧
    (∃ (s : State) (scope : Nat) (m : Master),
      s.dev.tamp.hold = false ∧
      6 ≤ s.dev.rst.step ∧
      s.dev.isActive m = true ∧
      2 ≤ scope % 8 ∧
      scope % 8 ≤ 3 ∧
      (s.dev.dom (scope % 8 - 2)).causes = 0) ∧
    (∃ (s : State) (scope : Nat) (m : Master),
      s.dev.tamp.hold = false ∧
      6 ≤ s.dev.rst.step ∧
      s.dev.isActive m = true ∧
      5 ≤ scope % 8 ∧
      scope % 8 ≤ 6) ∧
    (∃ (s : State) (m : Master) (key : Nat),
      s.dev.tamp.hold = false ∧
      6 ≤ s.dev.rst.step ∧
      s.dev.isActive m = true ∧
      key % 2 ^ 16 ≠ 42435) ∧
    (∃ (s : State),
      s.dev.tamp.hold = false ∧
      (s.dev.fuse.lcs = 0 ∨ s.dev.fuse.lcs = 3) ∧
      s.dev.on F.RST_STATUS_DEBUG_OPEN = true ∧
      6 ≤ s.dev.rst.step) ∧
    (∃ (s : State),
      s.dev.fuse.lcs ≠ 0 ∧
      s.dev.fuse.lcs ≠ 3) ∧
    (∃ (s : State) (domain : Nat),
      domain % 5 = 2 ∧
      6 ≤ s.dev.rst.step ∧
      s.dev.tamp.hold = false ∧
      (s.dev.dom 2).causes = 0) ∧
    (∃ (s : State) (core : Nat),
      s.dev.on F.RST_CTRL_CORE_LOCKUP_EN = true ∧
      s.dev.coreUp (core % 2) = true) ∧
    (∃ (s : State),
      s.dev.on F.RST_CTRL_FABRIC_LOCKUP_EN = true ∧
      6 ≤ s.dev.rst.step) :=
  ⟨⟨on up, by decide +kernel⟩,
    ⟨on up, by decide +kernel⟩,
    ⟨on up, 1000, by decide +kernel, by decide +kernel, by decide +kernel⟩,
    ⟨on up, 99, by decide +kernel⟩,
    ⟨on cfg1, 1, .sageA, by decide +kernel, by decide +kernel, by decide +kernel, by decide +kernel⟩,
    ⟨on cfg1, 4, .sageA, by decide +kernel, by decide +kernel, by decide +kernel, by decide +kernel, by decide +kernel⟩,
    ⟨on cfg1, 2, .sageA, by decide +kernel, by decide +kernel, by decide +kernel, by decide +kernel, by decide +kernel, by decide +kernel⟩,
    ⟨on cfg1, 6, .sageA, by decide +kernel, by decide +kernel, by decide +kernel, by decide +kernel, by decide +kernel⟩,
    ⟨on cfg1, .sageA, 5, by decide +kernel, by decide +kernel, by decide +kernel, by decide +kernel⟩,
    ⟨on (dbg 0), by decide +kernel, by decide +kernel, by decide +kernel, by decide +kernel⟩,
    ⟨on (dbg 2), by decide +kernel, by decide +kernel⟩,
    ⟨on up, 2, by decide +kernel, by decide +kernel, by decide +kernel, by decide +kernel⟩,
    ⟨on (fs up [(F.RST_CTRL_CORE_LOCKUP_EN, 0, 1)]), 0, by decide +kernel, by decide +kernel⟩,
    ⟨on (fs up [(F.RST_CTRL_FABRIC_LOCKUP_EN, 0, 1)]), by decide +kernel, by decide +kernel⟩⟩

theorem wit_ReleaseProceeds :
    (∃ (s : State),
      s.dev.rst.step = 1 ∧
      s.dev.pwr.vin = true ∧
      s.dev.pwr.vaux = true ∧
      s.dev.tamp.hold = false ∧
      s.dev.rst.zeroDead = false) ∧
    (∃ (s : State) (ohms : Nat) (c : Nat),
      s.dev.rst.step = 2 ∧
      s.dev.pwr.up = true ∧
      s.dev.tamp.hold = false ∧
      s.dev.rst.zeroDead = false ∧
      strapCode ohms = some c ∧
      c ≠ 0) ∧
    (∃ (s : State),
      s.dev.rst.step = 3 ∧
      s.dev.tamp.hold = false ∧
      s.dev.rst.zeroDead = false ∧
      bit s.dev.pwr.fault 3 = false) ∧
    (∃ (s : State) (mask : Nat),
      6 ≤ s.dev.rst.step ∧
      s.dev.tamp.hold = false ∧
      s.dev.rst.zeroDead = false ∧
      bit mask 1 = true ∧
      (s.dev.dom 2).causes = 1) ∧
    (∃ (s : State),
      s.dev.rst.step = 4 ∧
      s.dev.tamp.hold = false ∧
      s.dev.rst.zeroDead = false) ∧
    (∃ (s : State),
      s.dev.rst.step = 5 ∧
      s.dev.tamp.hold = false ∧
      s.dev.rst.zeroDead = false) ∧
    (∃ (s : State),
      s.dev.rst.step = 6 ∧
      s.dev.fuse.lcs ≠ 4) ∧
    (∃ (s : State),
      s.dev.rst.step = 7 ∧
      s.dev.rst.bootTry = 1 ∧
      s.dev.rst.bootRec = none) ∧
    (∃ (s : State),
      s.dev.rst.step = 7 ∧
      s.dev.rst.bootTry = 2) ∧
    (∃ (s : State) (p : List CfgRec) (r : List CfgRec) (t : List CfgRec),
      s.dev.rst.step = 8 ∧
      s.dev.rst.noImage = false ∧
      s.dev.sage.booted = false ∧
      s.dev.holder = some 0 ∧
      s.dev.on F.TAMP_STATUS_HALTED = false ∧
      imageRecs (s.dev.slotImg s.dev.bootedSlot) = some (p, r, t)) ∧
    (∃ (s : State),
      s.dev.rst.step = 8 ∧
      s.dev.rst.noImage = false ∧
      s.dev.sage.booted = false ∧
      s.dev.active.isSome = true ∧
      imageRecs (s.dev.slotImg s.dev.bootedSlot) = none ∧
      s.dev.validRecs = []) ∧
    (∃ (s : State) (m : Master),
      s.dev.isActive m = true ∧
      s.dev.locked = false ∧
      s.dev.rst.step = 8 ∧
      s.dev.rst.noImage = false) ∧
    (∃ (s : State) (domain : Nat) (fails : Nat),
      domain % 5 ≤ 2 ∧
      6 ≤ s.dev.rst.step ∧
      ((s.dev.dom (domain % 5)).causes = 8 ∨ (s.dev.dom (domain % 5)).causes = 32) ∧
      fails < 2) ∧
    (∃ (s : State) (domain : Nat) (fails : Nat),
      3 ≤ domain % 5 ∧
      6 ≤ s.dev.rst.step ∧
      ((s.dev.dom (domain % 5)).causes = 8 ∨ (s.dev.dom (domain % 5)).causes = 32) ∧
      fails < 2 ∧
      s.dev.on F.TAMP_STATUS_HALTED = false) :=
  ⟨⟨on { st 1 with pwr := { vin := true, vaux := true } }, by decide +kernel, by decide +kernel, by decide +kernel, by decide +kernel, by decide +kernel⟩,
    ⟨on { st 2 with pwr := { up := true } }, 1000, (strapCode 1000).getD 0, by decide +kernel, by decide +kernel, by decide +kernel, by decide +kernel, by decide +kernel, by decide +kernel⟩,
    ⟨on (st 3), by decide +kernel, by decide +kernel, by decide +kernel, by decide +kernel⟩,
    ⟨on (dom1 2 1), 2, by decide +kernel, by decide +kernel, by decide +kernel, by decide +kernel, by decide +kernel⟩,
    ⟨on (st 4), by decide +kernel, by decide +kernel, by decide +kernel⟩,
    ⟨on (st 5), by decide +kernel, by decide +kernel, by decide +kernel⟩,
    ⟨on (st 6), by decide +kernel, by decide +kernel⟩,
    ⟨on { rst := { step := 7, bootTry := 1 } }, by decide +kernel, by decide +kernel, by decide +kernel⟩,
    ⟨on { rst := { step := 7, bootTry := 2 } }, by decide +kernel, by decide +kernel⟩,
    ⟨on bt, [], [], [], by decide +kernel, by decide +kernel, by decide +kernel, by decide +kernel, by decide +kernel, by decide +kernel⟩,
    ⟨on { bt with flash := { slot := [(0, badImg)] } }, by decide +kernel, by decide +kernel, by decide +kernel, by decide +kernel, by decide +kernel, by decide +kernel⟩,
    ⟨on bt, .sageA, by decide +kernel, by decide +kernel, by decide +kernel, by decide +kernel⟩,
    ⟨on (dom1 1 8), 1, 0, by decide +kernel, by decide +kernel, by decide +kernel, by decide +kernel⟩,
    ⟨on (dom1 4 8), 4, 0, by decide +kernel, by decide +kernel, by decide +kernel, by decide +kernel, by decide +kernel⟩⟩

theorem wit_RailsWatched :
    (∃ (s : State) (rail : Nat),
      bit s.dev.pwr.fault (rail % 12) = false ∧
      s.dev.tamp.hold = false ∧
      6 ≤ s.dev.rst.step ∧
      s.dev.calm = true ∧
      s.dev.alarmClass (392 + railDomain (rail % 12)) = 0 ∧
      railDomain (rail % 12) ≤ 2 ∧
      (s.dev.dom (railDomain (rail % 12))).causes = 0) ∧
    (∃ (s : State),
      bit s.dev.pwr.fault 3 = false ∧
      s.dev.tamp.hold = false ∧
      6 ≤ s.dev.rst.step ∧
      s.dev.calm = true ∧
      s.dev.alarmClass 395 = 0) ∧
    (∃ (s : State) (rail : Nat),
      s.dev.pwr.fault = 2 ^ (rail % 12) ∧
      railDomain (rail % 12) ≤ 2 ∧
      (s.dev.dom (railDomain (rail % 12))).causes = 2) ∧
    (∃ (s : State) (phase : Nat),
      s.dev.isShed (phase % 90) = false ∧
      6 ≤ s.dev.rst.step) ∧
    (∃ (s : State),
      s.dev.on F.PWR_CTRL_CAL_EN = true ∧
      6 ≤ s.dev.rst.step) ∧
    (∃ (s : State),
      6 ≤ s.dev.rst.step ∧
      s.dev.rst.relClk ≤ s.dev.tim.clk) ∧
    (∃ (s : State) (source : Nat),
      (source % 22 < 12 ∨ 17 ≤ source % 22) ∧
      bit s.dev.tamp.env (source % 22) = false ∧
      6 ≤ s.dev.rst.step ∧
      s.dev.calm = true ∧
      s.dev.alarmClass (384 + source % 22) = 0) ∧
    (∃ (source : Nat),
      12 ≤ source % 22 ∧
      source % 22 < 17) ∧
    (∃ (s : State) (k : Nat),
      k < 17 ∧
      bit s.dev.tamp.env k = true) ∧
    (∃ (s : State) (r : Nat) (k : Nat),
      r < 12 ∧
      k < 8 ∧
      bit (SMap.get 0 s.dev.tamp.light r) k = true) :=
  ⟨⟨on (fs up [(F.TAMP_CLASS_ENV_LO_CLASS, 0, 0)]), 0, by decide +kernel, by decide +kernel, by decide +kernel, by decide +kernel, by decide +kernel, by decide +kernel, by decide +kernel⟩,
    ⟨on (fs up [(F.TAMP_CLASS_ENV_LO_CLASS, 0, 0)]), by decide +kernel, by decide +kernel, by decide +kernel, by decide +kernel, by decide +kernel⟩,
    ⟨on { dom1 0 2 with pwr := { fault := 1 } }, 0, by decide +kernel, by decide +kernel, by decide +kernel⟩,
    ⟨on up, 5, by decide +kernel, by decide +kernel⟩,
    ⟨on (fs up [(F.PWR_CTRL_CAL_EN, 0, 1)]), by decide +kernel, by decide +kernel⟩,
    ⟨on { up with tim := { clk := 1000000 } }, by decide +kernel, by decide +kernel⟩,
    ⟨on (fs up [(F.TAMP_CLASS_ENV_LO_CLASS, 0, 0)]), 3, by decide +kernel, by decide +kernel, by decide +kernel, by decide +kernel, by decide +kernel⟩,
    ⟨13, by decide +kernel, by decide +kernel⟩,
    ⟨on { up with tamp := { env := 8 } }, 3, by decide +kernel, by decide +kernel⟩,
    ⟨on { up with tamp := { light := [(2, 8)] } }, 2, 3, by decide +kernel, by decide +kernel, by decide +kernel⟩⟩

theorem wit_UpdatesServed :
    (∃ (s : State) (m : Master),
      s.dev.passes m (R.NVL_UPD_CMD.addr 0 0) = true ∧
      s.dev.mayUpdate m = true ∧
      (s.dev.updState = 0 ∨ 6 ≤ s.dev.updState) ∧
      s.dev.csStaged = false ∧
      1572864 ≤ s.dev.get F.NVL_UPD_LEN_BYTES ∧
      s.dev.get F.NVL_UPD_LEN_BYTES ≤ 16777216 ∧
      s.dev.get F.NVL_UPD_LEN_BYTES % 256 = 0) ∧
    (∃ (s : State) (m : Master),
      s.dev.passes m (R.NVL_UPD_CMD.addr 0 0) = true ∧
      s.dev.mayUpdate m = true ∧
      1 ≤ s.dev.updState ∧
      s.dev.updState ≤ 5) ∧
    (∃ (s : State),
      s.dev.updState = 1) ∧
    (∃ (s : State),
      s.dev.updState = 1) ∧
    (∃ (s : State) (m : Master),
      s.dev.passes m (R.NVL_UPD_DATA.addr 0 0) = true ∧
      s.dev.mayUpdate m = true ∧
      s.dev.updState = 2 ∧
      s.dev.flash.owner = some m.code ∧
      s.dev.get F.NVL_UPD_OFFSET_BYTES + List.length s.dev.flash.page + 4 ≤
     s.dev.get F.NVL_UPD_LEN_BYTES ∧
      List.length s.dev.flash.page < 252) ∧
    (∃ (s : State) (m : Master),
      s.dev.passes m (R.NVL_UPD_DATA.addr 0 0) = true ∧
      s.dev.mayUpdate m = true ∧
      s.dev.updState = 2 ∧
      s.dev.flash.owner = some m.code ∧
      s.dev.get F.NVL_UPD_OFFSET_BYTES + 256 ≤ s.dev.get F.NVL_UPD_LEN_BYTES ∧
      List.length s.dev.flash.page = 252 ∧
      s.dev.get F.NVL_UPD_LEN_BYTES ≤ 16777216) ∧
    (∃ (s : State) (m : Master),
      s.dev.passes m (R.NVL_UPD_CMD.addr 0 0) = true ∧
      s.dev.mayUpdate m = true ∧
      s.dev.updState = 2 ∧
      s.dev.flash.owner = some m.code ∧
      s.dev.get F.NVL_UPD_OFFSET_BYTES = s.dev.get F.NVL_UPD_LEN_BYTES) ∧
    (∃ (s : State),
      s.dev.updState = 3) ∧
    (∃ (s : State) (m : Master),
      s.dev.passes m (R.NVL_UPD_CMD.addr 0 0) = true ∧
      s.dev.mayUpdate m = true ∧
      s.dev.updState = 4 ∧
      s.dev.flash.owner = some m.code ∧
      s.dev.csStaged = false) ∧
    (∃ (s : State) (r : Bytes),
      s.dev.updState = 5 ∧
      (s.dev.recs (s.dev.get F.NVL_UPD_STATUS_SLOT)).getLast? = some r) ∧
    (∃ (s : State),
      s.dev.updState = 5) ∧
    (∃ (s : State) (ticket : Nat) (m : Master),
      s.dev.passes m (R.NVL_UPD_CMD.addr 0 0) = true ∧
      s.dev.mayUpdate m = true ∧
      ticket % 2 ^ 16 = s.dev.get F.NVL_UPD_STATUS_TICKET ∧
      1 ≤ s.dev.updState ∧
      s.dev.updState ≤ 5) ∧
    (∃ (s : State) (ticket : Nat) (m : Master),
      s.dev.passes m (R.NVL_UPD_CMD.addr 0 0) = true ∧
      s.dev.mayUpdate m = true ∧
      ticket % 2 ^ 16 = s.dev.get F.NVL_UPD_STATUS_TICKET ∧
      6 ≤ s.dev.updState) ∧
    (∃ (s : State) (ticket : Nat) (m : Master),
      s.dev.passes m (R.NVL_UPD_CMD.addr 0 0) = true ∧
      s.dev.mayUpdate m = true ∧
      ticket % 2 ^ 16 ≠ s.dev.get F.NVL_UPD_STATUS_TICKET) ∧
    (∃ (s : State) (value : Nat) (m : Master),
      s.dev.isActive m = true ∧
      s.dev.on F.NVL_STATUS_SVN_BUSY = false ∧
      s.dev.fuse.svn < value % 64) ∧
    (∃ (s : State) (v : Nat),
      s.dev.flash.svnNew = some v ∧
      v < 64) :=
  ⟨⟨on (us 0 up), .sageA, by decide +kernel, by decide +kernel, by decide +kernel, by decide +kernel, by decide +kernel, by decide +kernel, by decide +kernel⟩,
    ⟨on (us 2 up), .sageA, by decide +kernel, by decide +kernel, by decide +kernel, by decide +kernel⟩,
    ⟨on (us 1 up), by decide +kernel⟩,
    ⟨on (us 1 up), by decide +kernel⟩,
    ⟨on (us 2 up), .sageA, by decide +kernel, by decide +kernel, by decide +kernel, by decide +kernel, by decide +kernel, by decide +kernel⟩,
    ⟨on pg, .sageA, by decide +kernel, by decide +kernel, by decide +kernel, by decide +kernel, by decide +kernel, by decide +kernel, by decide +kernel⟩,
    ⟨on (fs (us 2 up) [(F.NVL_UPD_OFFSET_BYTES, 0, 1572864)]), .sageA, by decide +kernel, by decide +kernel, by decide +kernel, by decide +kernel, by decide +kernel⟩,
    ⟨on (us 3 up), by decide +kernel⟩,
    ⟨on (us 4 up), .sageA, by decide +kernel, by decide +kernel, by decide +kernel, by decide +kernel, by decide +kernel⟩,
    ⟨on (us 5 up), zeros 256, by decide +kernel, by decide +kernel⟩,
    ⟨on (us 5 up), by decide +kernel⟩,
    ⟨on (us 3 up), 5, .sageA, by decide +kernel, by decide +kernel, by decide +kernel, by decide +kernel, by decide +kernel⟩,
    ⟨on (us 6 up), 5, .sageA, by decide +kernel, by decide +kernel, by decide +kernel, by decide +kernel⟩,
    ⟨on (us 3 up), 6, .sageA, by decide +kernel, by decide +kernel, by decide +kernel⟩,
    ⟨on up, 5, .sageA, by decide +kernel, by decide +kernel, by decide +kernel⟩,
    ⟨on { fs up [(F.NVL_STATUS_SVN_BUSY, 0, 1)] with flash := { svnNew := some 5 } }, 5, by decide +kernel, by decide +kernel⟩⟩

end Sys2Proof.Tests.W6
end

