-- ==== Sys2Proof/Tests/Witness7.lean ====
section
/-! SUPPORT. States and operands that meet the hypotheses of the statements, group 7: for each clause of a
statement one state in which all its hypotheses hold together. -/

open Sys2Proof Sys2Proof.Machine
namespace Sys2Proof.Tests.W7
set_option Elab.async false

def cs0 : Bytes := beBytes 4 0x56594353 ++ beBytes 2 1 ++ zeros 2 ++ zeros 4 ++ beBytes 4 1 ++ zeros 7664
def csd (k : Nat) (bs : Bytes) : Dev := { fs up [(F.SAGE_CS_STATUS_STATE, 0, k), (F.SAGE_CS_STATUS_TICKET, 0, 5)] with sage := { cs := { bytes := bs, at_ := 10^9 } } }
def cut (k : Nat) : Dev := { csd k cs0 with sage := { cs := { bytes := cs0, cut := true } } }
def jp : Dev := ((csd 2 []).jrnlPut []).getD {}
def fell : Dev := { csd 3 cs0 with thy := { ent := [(4, { st := 3, ticket := 9 })] }, sage := { cs := { bytes := cs0, at_ := 10^9, tickets := [9] } } }
def oc (src b : Nat) : Occ := { clk := 5, net := 5, src := src, bit := b }
def oo : Dev := { rs (fs up [(F.EVT_CTRL_FIFO_EN, 0, 1)]) ([(R.EVT_GRP_IRQ_EN, 1, 2^32 - 1)] ++ (List.range 48).map (fun g => (R.EVT_GRP_LOG_EN, g, 0))) with evt := { occ := [oc 41 2, oc 40 3] } }
def lt (c : Nat) : Dev := fs up [(F.TAMP_REG_CTRL_CLASS, 2, c), (F.TAMP_CLASS_MISC_DET_FAULT, 0, 0)]
def mu (t : TampSt) : Dev := { fs up [(muteF 1, 0, 1), (F.TAMP_CTRL_AUTO_UNMUTE, 0, 1)] with rst := { step := 9, pinsOn := true, dom := [(1, { causes := 4 })] }, tamp := t, tim := { clk := 10^10 } }
def fu (l : Nat) : Dev := { up with fuse := { lcs := l }, tamp := { fuseArmed := some 5 } }
def fb : Dev := { fs up [(F.TAMP_FUSE_STATUS_BUSY, 0, 1)] with tamp := { fuseRun := 4, light := [(2, 1)] } }
def mg : Dev := { fs up [(F.GLB_MGMT_CFG_SPI_EN, 0, 1), (F.GLB_MGMT_CFG_I2C_EN, 0, 1), (F.GLB_ETH_CFG_EN, 0, 1), (F.GLB_ETH_STATUS_LINK, 0, 1)] with fuse := { lcs := 2 } }
def rd0 : Bytes := beBytes 4 0x1000 ++ beBytes 1 0
def rd : Bytes := rd0 ++ beBytes 2 (crc16 (11 :: rd0))
def wr0 : Bytes := beBytes 4 (R.GLB_SCRATCH.addr 0 0) ++ beBytes 1 0 ++ beBytes 4 77
def wr : Bytes := wr0 ++ beBytes 2 (crc16 (2 :: wr0))
def rk : Dev := rs mg [(R.RST_MGMT_KEY, 0, 77)]
def rst0 : Bytes := beBytes 4 77
def rst1 : Bytes := beBytes 4 78
def arpd : Dev := ts mg [(0xF2, 0, [2^31, 0, 0, 0, 0x0A000001])]
def arpb : Bytes := beBytes 6 (2^48 - 1) ++ beBytes 6 9 ++ beBytes 2 2054 ++ beBytes 4 67584 ++ beBytes 4 100925441 ++ zeros 16 ++ arpd.ownIp ++ zeros 18

theorem some_getD {α : Type} {o : Option α} {x : α} (h : o.isSome = true) : o = some (o.getD x) := by
  cases o with
  | none => cases h
  | some _ => rfl

theorem jp_eq : (csd 2 []).jrnlPut [] = some jp := some_getD (by decide +kernel)

/-- As many empty records. -/
@[irreducible] def long : List Bytes := List.replicate 2883584 []

theorem long_length : long.length = 2883584 := by
  unfold long
  exact List.length_replicate

/-- A region whose segments are filled by pages of empty records. -/
def filled (l : List Bytes) : Dev := { up with rsm := { segPages := 13000, general := l } }

theorem active_rsm (d : Dev) (x : RsmSt) : ({ d with rsm := x } : Dev).active = d.active := rfl

theorem filled_compacts (l : List Bytes) (h : l.length = 2883584) :
    ∃ s : State, s.dev.active.isSome = true ∧ s.dev.rsm.flashOk = true ∧ segmentPages * 3 < s.dev.rsm.segPages * 4 ∧
      (s.dev.rsmSegments - 1) * segmentPages < s.dev.rsm.general.length / 4 + (segmentPages - s.dev.rsm.segPages) := by
  refine ⟨on (filled l), (congrArg Option.isSome (active_rsm up _)).trans (by decide +kernel), rfl, (by decide +kernel : 16384 * 3 < 13000 * 4), ?_⟩
  have e : (on (filled l)).dev.rsm.general.length = 2883584 := h
  have e' : (on (filled l)).dev.rsmSegments = up.rsmSegments := rfl
  have e'' : (on (filled l)).dev.rsm.segPages = 13000 := rfl
  rw [e, e', e'']
  decide +kernel

theorem wit_ChangeSetsServed :
    (∃ (s : State) (m : Master),
      s.dev.passes m (R.SAGE_MBOX_CTRL.addr 0 0) = true ∧
      s.dev.mayWrite m = true) ∧
    (∃ (s : State) (m : Master),
      s.dev.passes m (R.SAGE_MBOX_DATA.addr 0 0) = true ∧
      s.dev.mayWrite m = true ∧
      s.dev.sage.mbox.length < 262144) ∧
    (∃ (s : State) (m : Master),
      s.dev.passes m (R.SAGE_MBOX_DATA.addr 0 0) = true ∧
      s.dev.mayWrite m = true ∧
      262144 ≤ s.dev.sage.mbox.length) ∧
    (∃ (s : State) (m : Master),
      s.dev.passes m (R.SAGE_CS_CMD.addr 0 0) = true ∧
      s.dev.mayWrite m = true ∧
      s.dev.rst.step = 9 ∧
      s.dev.active.isSome = true ∧
      s.dev.updState ≠ 5 ∧
      (s.dev.csState = 0 ∨ 4 ≤ s.dev.csState)) ∧
    (∃ (s : State) (m : Master),
      s.dev.passes m (R.SAGE_CS_CMD.addr 0 0) = true ∧
      s.dev.mayWrite m = true ∧
      s.dev.rst.step = 9 ∧
      s.dev.active.isSome = true ∧
      s.dev.updState ≠ 5 ∧
      1 ≤ s.dev.csState ∧
      s.dev.csState ≤ 3) ∧
    (∃ (s : State),
      s.dev.csState = 1 ∧
      s.dev.active.isSome = true ∧
      csForm s.dev.sage.cs.bytes = true) ∧
    (∃ (s : State),
      s.dev.csState = 1 ∧
      s.dev.active.isSome = true ∧
      csForm s.dev.sage.cs.bytes = false ∧
      s.dev.sage.cs = { bytes := s.dev.sage.cs.bytes }) ∧
    (∃ (s : State) (e : Dev),
      s.dev.csState = 2 ∧
      s.dev.active.isSome = true ∧
      s.dev.csLate = false ∧
      s.dev.jrnlPut s.dev.sage.cs.bytes = some e ∧
      ((e.setCs fun c =>
             { bytes := c.bytes, shadow := c.shadow, tickets := c.tickets, opened := c.opened, filed := true, cut := c.cut,
               ver := c.ver, at_ := c.at_ }).csUnits
         s.dev.sage.cs.bytes).snd =
     0) ∧
    (∃ (s : State),
      s.dev.csState = 2 ∧
      s.dev.active.isSome = true ∧
      s.dev.csLate = true) ∧
    (∃ (s : State),
      s.dev.csState = 3 ∧
      s.dev.sage.cs.cut = false) ∧
    (∃ (s : State),
      s.dev.csState = 2 ∧
      s.dev.sage.cs.cut = false ∧
      s.dev.active.isSome = true) ∧
    (∃ (s : State) (ticket : Nat) (m : Master),
      s.dev.passes m (R.SAGE_CS_CMD.addr 0 0) = true ∧
      s.dev.mayWrite m = true ∧
      s.dev.csState ≠ 0 ∧
      ticket % 2 ^ 16 = s.dev.get F.SAGE_CS_STATUS_TICKET ∧
      (s.dev.csState = 1 ∨ s.dev.csState ≤ 3 ∧ s.dev.csLate = false)) ∧
    (∃ (s : State) (ticket : Nat) (m : Master),
      s.dev.passes m (R.SAGE_CS_CMD.addr 0 0) = true ∧
      s.dev.mayWrite m = true ∧
      s.dev.csState ≠ 0 ∧
      ticket % 2 ^ 16 = s.dev.get F.SAGE_CS_STATUS_TICKET ∧
      (4 ≤ s.dev.csState ∨ 2 ≤ s.dev.csState ∧ s.dev.csLate = true)) ∧
    (∃ (s : State) (ticket : Nat) (m : Master),
      s.dev.passes m (R.SAGE_CS_CMD.addr 0 0) = true ∧
      s.dev.mayWrite m = true ∧
      ticket % 2 ^ 16 ≠ s.dev.get F.SAGE_CS_STATUS_TICKET) ∧
    (∃ (s : State),
      s.dev.csState = 3 ∧
      s.dev.active.isSome = true ∧
      s.dev.csWaits = false ∧
      s.dev.csFell = false) ∧
    (∃ (s : State),
      s.dev.csState = 3 ∧
      s.dev.active.isSome = true ∧
      s.dev.csWaits = false ∧
      s.dev.csFell = true) :=
  ⟨⟨on { up with sage := { mbox := [1, 2] } }, .sageA, by decide +kernel, by decide +kernel⟩,
    ⟨on up, .sageA, by decide +kernel, by decide +kernel, by decide +kernel⟩,
    ⟨on { up with sage := { mbox := List.replicate 262144 1 } }, .sageA, by decide +kernel, by decide +kernel, Nat.le_of_eq List.length_replicate.symm⟩,
    ⟨on { up with sage := { mbox := [1, 2] } }, .sageA, by decide +kernel, by decide +kernel, by decide +kernel, by decide +kernel, by decide +kernel, by decide +kernel⟩,
    ⟨on (csd 2 cs0), .sageA, by decide +kernel, by decide +kernel, by decide +kernel, by decide +kernel, by decide +kernel, by decide +kernel, by decide +kernel⟩,
    ⟨on (csd 1 cs0), by decide +kernel, by decide +kernel, by decide +kernel⟩,
    ⟨on { csd 1 [] with sage := { cs := { bytes := [1#8] } } }, by decide +kernel, by decide +kernel, by decide +kernel, by decide +kernel⟩,
    ⟨on (csd 2 []), jp, by decide +kernel, by decide +kernel, by decide +kernel, jp_eq, by decide +kernel⟩,
    ⟨on (cut 2), by decide +kernel, by decide +kernel, by decide +kernel⟩,
    ⟨on (csd 3 cs0), by decide +kernel, by decide +kernel⟩,
    ⟨on (csd 2 cs0), by decide +kernel, by decide +kernel, by decide +kernel⟩,
    ⟨on (csd 3 cs0), 5, .sageA, by decide +kernel, by decide +kernel, by decide +kernel, by decide +kernel, by decide +kernel⟩,
    ⟨on (cut 3), 5, .sageA, by decide +kernel, by decide +kernel, by decide +kernel, by decide +kernel, by decide +kernel⟩,
    ⟨on (csd 3 cs0), 6, .sageA, by decide +kernel, by decide +kernel, by decide +kernel⟩,
    ⟨on (csd 3 cs0), by decide +kernel, by decide +kernel, by decide +kernel, by decide +kernel⟩,
    ⟨on fell, by decide +kernel, by decide +kernel, by decide +kernel, by decide +kernel⟩⟩

theorem wit_EventsOrdered :
    (∃ (s : State) (o : Occ),
      s.dev.evt.occ = [o] ∧
      isAlarm o.src = false ∧
      o.src < 1536 ∧
      bit (s.dev.num R.EVT_GRP_LOG_EN (o.src / 32)) (o.src % 32) = false) ∧
    (∃ (s : State) (a : Occ) (b : Occ),
      s.dev.evt.occ = [a, b] ∧
      a.clk = b.clk ∧
      b.rank < a.rank ∧
      isAlarm a.src = false ∧
      isAlarm b.src = false ∧
      a.src < 1536 ∧
      b.src < 1536 ∧
      s.dev.on F.EVT_CTRL_FIFO_EN = true ∧
      bit (s.dev.num R.EVT_GRP_IRQ_EN (a.src / 32)) (a.src % 32) = true ∧
      bit (s.dev.num R.EVT_GRP_IRQ_EN (b.src / 32)) (b.src % 32) = true ∧
      (∀ (g : Nat), g < 48 → s.dev.num R.EVT_GRP_LOG_EN g = 0) ∧
      s.dev.evt.fifo = []) ∧
    (∃ (s : State) (r : EvtRec) (rest : List EvtRec),
      s.dev.evt.fifo = r :: rest) ∧
    (∃ (s : State),
      s.dev.evt.fifo = []) ∧
    (∃ (s : State) (bit_ : Nat) (m : Master),
      s.dev.isActive m = true ∧
      bit_ % 32 < 8) ∧
    (∃ (s : State) (source : Nat) (m : Master),
      s.dev.passes m (R.EVT_FORCE.addr 0 0) = true ∧
      s.dev.forceMay m = true ∧
      sourceExists (source % 2048) = true) :=
  ⟨⟨on { up with evt := { occ := [oc 40 2] } }, oc 40 2, by decide +kernel, by decide +kernel, by decide +kernel, by decide +kernel⟩,
    ⟨on oo, oc 41 2, oc 40 3, by decide +kernel, by decide +kernel, by decide +kernel, by decide +kernel, by decide +kernel, by decide +kernel, by decide +kernel, by decide +kernel, by decide +kernel, by decide +kernel, by decide +kernel, by decide +kernel⟩,
    ⟨on { up with evt := { fifo := [{ seq := 3, src := 40 }] } }, { seq := 3, src := 40 }, [], by decide +kernel⟩,
    ⟨on up, by decide +kernel⟩,
    ⟨on up, 3, .sageA, by decide +kernel, by decide +kernel⟩,
    ⟨on { up with fuse := { lcs := 0 } }, 40, .sageA, by decide +kernel, by decide +kernel, by decide +kernel⟩⟩

theorem wit_TamperAnswered :
    (∃ (s : State) (region : Nat) (det : Nat),
      s.dev.fused (region % 12) = false ∧
      bit (SMap.get 0 s.dev.tamp.light (region % 12)) (det % 8) = false ∧
      6 ≤ s.dev.rst.step ∧
      s.dev.calm = true ∧
      s.dev.get F.TAMP_REG_CTRL_CLASS (region % 12) = 0) ∧
    (∃ (s : State) (region : Nat) (det : Nat),
      s.dev.fused (region % 12) = false ∧
      bit (SMap.get 0 s.dev.tamp.light (region % 12)) (det % 8) = false ∧
      6 ≤ s.dev.rst.step ∧
      s.dev.calm = true ∧
      s.dev.get F.TAMP_REG_CTRL_CLASS (region % 12) = 1 ∧
      regionScope (region % 12) ≤ 1 ∧
      s.dev.on (muteF (regionScope (region % 12))) = false) ∧
    (∃ (s : State) (region : Nat) (det : Nat),
      s.dev.fused (region % 12) = false ∧
      bit (SMap.get 0 s.dev.tamp.light (region % 12)) (det % 8) = false ∧
      6 ≤ s.dev.rst.step ∧
      s.dev.calm = true ∧
      s.dev.get F.TAMP_REG_CTRL_CLASS (region % 12) = 2 ∧
      s.dev.on F.TAMP_STATUS_HALTED = false) ∧
    (∃ (s : State) (region : Nat),
      s.dev.fused (region % 12) = true) ∧
    (∃ (s : State) (region : Nat) (c : Nat),
      SMap.get none s.dev.tamp.disagree (region % 12) = some c ∧
      6 ≤ s.dev.rst.step ∧
      s.dev.fused (region % 12) = false ∧
      bit s.dev.tamp.detFault (region % 12) = false ∧
      s.dev.calm = true ∧
      s.dev.get F.TAMP_CLASS_MISC_DET_FAULT = 0) ∧
    (∃ (s : State) (c : Nat),
      s.dev.tamp.class3 = some c ∧
      s.dev.tamp.hold = false) ∧
    (∃ (s : State) (k : Nat) (m : Master),
      k < 3 ∧
      s.dev.isActive m = true ∧
      s.dev.on (muteF k) = true ∧
      s.dev.muteQuiet k = true ∧
      (s.dev.dom k).causes = 4) ∧
    (∃ (s : State) (k : Nat) (m : Master),
      k < 3 ∧
      s.dev.isActive m = true ∧
      s.dev.on (muteF k) = true ∧
      s.dev.muteQuiet k = false) ∧
    (∃ (s : State) (scope : Nat),
      s.dev.on F.TAMP_CTRL_AUTO_UNMUTE = true ∧
      s.dev.on (muteF (scope % 3)) = true ∧
      s.dev.on F.TAMP_STATUS_HALTED = false ∧
      ((s.dev.muters (scope % 3)).all fun x => !s.dev.tripped x) = true ∧
      (s.dev.dom (scope % 3)).causes = 4) ∧
    (∃ (s : State) (m : Master),
      s.dev.passes m (R.TAMP_FUSE_CONFIRM.addr 0 0) = true ∧
      s.dev.mayWrite m = true) ∧
    (∃ (s : State) (m : Master) (c : Nat),
      s.dev.passes m (R.TAMP_FUSE_CMD.addr 0 0) = true ∧
      s.dev.tamp.fuseArmed = some c ∧
      s.dev.tim.clk ≤ c + ms 1 ∧
      s.dev.fuseMay m = true ∧
      s.dev.on F.TAMP_FUSE_STATUS_BUSY = false) ∧
    (∃ (s : State) (m : Master),
      s.dev.passes m (R.TAMP_FUSE_CMD.addr 0 0) = true ∧
      s.dev.tamp.fuseArmed = none) ∧
    (∃ (s : State),
      s.dev.on F.TAMP_FUSE_STATUS_BUSY = true) ∧
    (∃ (s : State),
      s.dev.on F.TAMP_FUSE_STATUS_BUSY = true) ∧
    (∃ (s : State) (which : Nat) (m : Master),
      s.dev.passes m (stickyAddr which) = true ∧
      s.dev.mayWrite m = true ∧
      s.dev.on F.TAMP_STATUS_COPY_PENDING = false) ∧
    (∃ (s : State) (which : Nat) (m : Master),
      s.dev.passes m (stickyAddr which) = true ∧
      s.dev.mayWrite m = true ∧
      s.dev.on F.TAMP_STATUS_COPY_PENDING = true) :=
  ⟨⟨on (lt 0), 2, 3, by decide +kernel, by decide +kernel, by decide +kernel, by decide +kernel, by decide +kernel⟩,
    ⟨on (lt 1), 2, 3, by decide +kernel, by decide +kernel, by decide +kernel, by decide +kernel, by decide +kernel, by decide +kernel, by decide +kernel⟩,
    ⟨on ((lt 2).setTx 1 1 0 { st := 2, key := [1#8] }), 2, 3, by decide +kernel, by decide +kernel, by decide +kernel, by decide +kernel, by decide +kernel, by decide +kernel⟩,
    ⟨on { lt 0 with fuse := { light := 4 } }, 2, by decide +kernel⟩,
    ⟨on { lt 0 with tamp := { disagree := [(2, some 5)] } }, 2, 5, by decide +kernel, by decide +kernel, by decide +kernel, by decide +kernel, by decide +kernel, by decide +kernel⟩,
    ⟨on { up with tamp := { class3 := some 5 } }, 5, by decide +kernel, by decide +kernel⟩,
    ⟨on (mu { muteB := [296] }), 1, .sageA, by decide +kernel, by decide +kernel, by decide +kernel, by decide +kernel, by decide +kernel⟩,
    ⟨on (mu { muteB := [296], light := [(5, 1)] }), 1, .sageA, by decide +kernel, by decide +kernel, by decide +kernel, by decide +kernel⟩,
    ⟨on (mu { muteB := [296] }), 1, by decide +kernel, by decide +kernel, by decide +kernel, by decide +kernel, by decide +kernel⟩,
    ⟨on up, .sageA, by decide +kernel, by decide +kernel⟩,
    ⟨on (fu 2), .sageA, 5, by decide +kernel, by decide +kernel, by decide +kernel, by decide +kernel, by decide +kernel⟩,
    ⟨on up, .sageA, by decide +kernel, by decide +kernel⟩,
    ⟨on fb, by decide +kernel⟩,
    ⟨on fb, by decide +kernel⟩,
    ⟨on (rs up [(R.TAMP_REG_STICKY, 2, 5)]), 2, .sageA, by decide +kernel, by decide +kernel, by decide +kernel⟩,
    ⟨on (rs (fs up [(F.TAMP_STATUS_COPY_PENDING, 0, 1)]) [(R.TAMP_REG_STICKY, 2, 5)]), 2, .sageA, by decide +kernel, by decide +kernel, by decide +kernel⟩⟩

theorem wit_RosemaryKeeps :
    (∃ (s : State),
      s.dev.rsm.wait ≠ [] ∧
      s.dev.rsm.flashOk = true ∧
      rsmThreshold ≤ s.dev.rsm.level ∧
      s.dev.rsm.level ≤ 14745600000000000 ∧
      s.dev.rsm.supCount = 0 ∧
      s.dev.rsm.segPages + 1 < segmentPages) ∧
    (∃ (s : State),
      s.dev.rsm.flashOk = false ∧
      s.dev.rsm.supCount = 0) ∧
    (∃ (s : State),
      s.dev.active.isSome = true ∧
      s.dev.rsm.flashOk = true ∧
      segmentPages * 3 < s.dev.rsm.segPages * 4 ∧
      (s.dev.rsmSegments - 1) * segmentPages <
     s.dev.rsm.general.length / 4 + (segmentPages - s.dev.rsm.segPages)) :=
  ⟨⟨on { up with rsm := { lseq := 3, wait := [1, 2, 3], ring := [(1, { lseq := 1, bytes := zeros 64 }), (2, { lseq := 2, bytes := zeros 64 }), (3, { lseq := 3, bytes := zeros 64 })] } }, by decide +kernel, by decide +kernel, by decide +kernel, by decide +kernel, by decide +kernel, by decide +kernel⟩,
    ⟨on { up with rsm := { flashOk := false, lseq := 1, wait := [1] } }, by decide +kernel, by decide +kernel⟩,
    filled_compacts long long_length⟩

theorem wit_TargetsServed :
    (∃ (s : State),
      s.dev.mgmtUp = true ∧
      s.dev.answers Master.spi = true) ∧
    (∃ (s : State) (rest : Bytes) (r : Dev × List Nat),
      s.dev.mgmtUp = true ∧
      s.dev.answers Master.spi = true ∧
      List.length rest = 7 ∧
      crc16 (11 :: List.take 5 rest) = numAt rest 5 2 ∧
      numAt rest 4 1 < 16 ∧
      r =
     (s.dev.bump R.GLB_CNT_SPI_FRAMES).frameRead Master.spi (numAt rest 0 4)
       (numAt rest 4 1 + 1)) ∧
    (∃ (s : State) (rest : Bytes),
      s.dev.mgmtUp = true ∧
      s.dev.answers Master.spi = true ∧
      List.length rest = 7 ∧
      crc16 (11 :: List.take 5 rest) ≠ numAt rest 5 2) ∧
    (∃ (s : State) (rest : Bytes) (r : Dev × Nat),
      s.dev.mgmtUp = true ∧
      s.dev.answers Master.spi = true ∧
      numAt rest 4 1 < 16 ∧
      List.length rest = 11 + 4 * numAt rest 4 1 ∧
      crc16 (2 :: List.take (9 + 4 * numAt rest 4 1) rest) =
     numAt rest (9 + 4 * numAt rest 4 1) 2 ∧
      r =
     ((s.dev.emit (Output.spi [s.dev.statusByte s.dev.mgmt.spiResult])).bump
           R.GLB_CNT_SPI_FRAMES).frameWrite
       Master.spi (numAt rest 0 4)
       (bytesToWords (slice rest 5 (4 + 4 * numAt rest 4 1)))) ∧
    (∃ (s : State) (rest : Bytes),
      s.dev.mgmtUp = true ∧
      s.dev.answers Master.spi = true ∧
      numAt rest 4 1 < 16 ∧
      List.length rest = 11 + 4 * numAt rest 4 1 ∧
      crc16 (2 :: List.take (9 + 4 * numAt rest 4 1) rest) ≠
     numAt rest (9 + 4 * numAt rest 4 1) 2) ∧
    (∃ (d : Dev) (addr : Nat),
      addr % 4 = 0 ∧
      addr < 2 ^ 32 ∧
      d.refused addr = true) ∧
    (∃ (d : Dev) (m : Master) (addr : Nat),
      addr % 4 = 0 ∧
      addr < 2 ^ 32 ∧
      d.refused addr = false ∧
      d.defers m = true ∧
      d.sage.defer.length < 64) ∧
    (∃ (d : Dev) (m : Master) (addr : Nat),
      addr % 4 = 0 ∧
      addr < 2 ^ 32 ∧
      d.refused addr = false ∧
      d.defers m = false) ∧
    (∃ (s : State) (rest : Bytes),
      s.dev.mgmtUp = true ∧
      List.length rest = 6 ∧
      crc16 (153 :: List.take 4 rest) = numAt rest 4 2 ∧
      numAt rest 0 4 = s.dev.num R.RST_MGMT_KEY) ∧
    (∃ (s : State) (rest : Bytes),
      s.dev.mgmtUp = true ∧
      List.length rest = 6 ∧
      crc16 (153 :: List.take 4 rest) = numAt rest 4 2 ∧
      numAt rest 0 4 ≠ s.dev.num R.RST_MGMT_KEY) ∧
    (∃ (s : State) (target : Nat),
      s.dev.mgmtUp = true ∧
      s.dev.answers Master.i2c = true ∧
      target % 128 = s.dev.i2cAddr) ∧
    (∃ (s : State) (target : Nat) (rest : Bytes) (r : Dev × List Nat),
      s.dev.mgmtUp = true ∧
      s.dev.answers Master.i2c = true ∧
      target % 128 = s.dev.i2cAddr ∧
      List.length rest = 6 ∧
      crc8 (i2cHead (target % 128) 11 ++ List.take 5 rest) = numAt rest 5 1 ∧
      numAt rest 4 1 < 16 ∧
      r =
     (s.dev.bump R.GLB_CNT_I2C_FRAMES).frameRead Master.i2c (numAt rest 0 4)
       (numAt rest 4 1 + 1)) ∧
    (∃ (s : State) (target : Nat) (rest : Bytes) (r : Dev × Nat),
      s.dev.mgmtUp = true ∧
      s.dev.answers Master.i2c = true ∧
      target % 128 = s.dev.i2cAddr ∧
      numAt rest 4 1 < 16 ∧
      List.length rest = 10 + 4 * numAt rest 4 1 ∧
      crc8
       (i2cHead (target % 128) 2 ++ List.take (9 + 4 * numAt rest 4 1) rest) =
     numAt rest (9 + 4 * numAt rest 4 1) 1 ∧
      r =
     (s.dev.bump R.GLB_CNT_I2C_FRAMES).frameWrite Master.i2c (numAt rest 0 4)
       (bytesToWords (slice rest 5 (4 + 4 * numAt rest 4 1)))) ∧
    (∃ (s : State) (target : Nat) (rest : Bytes),
      s.dev.mgmtUp = true ∧
      target % 128 = s.dev.i2cAddr ∧
      List.length rest = 5 ∧
      crc8 (i2cHead (target % 128) 153 ++ List.take 4 rest) = numAt rest 4 1 ∧
      numAt rest 0 4 = s.dev.num R.RST_MGMT_KEY) ∧
    (∃ (s : State),
      s.dev.mgmtUp = true) ∧
    (∃ (s : State),
      s.dev.mgmtUp = true ∧
      s.dev.on F.GLB_ETH_CFG_EN = true) ∧
    (∃ (s : State) (b : Bytes) (p : Bytes),
      s.dev.ethAnswers = true ∧
      60 ≤ List.length b ∧
      List.length b ≤ 1514 ∧
      slice b 0 6 = beBytes 6 (2 ^ 48 - 1) ∧
      numAt b 12 2 = 2054 ∧
      p = List.drop 14 b ∧
      s.dev.ownV6 = false ∧
      numAt p 0 4 = 67584 ∧
      numAt p 4 4 = 100925441 ∧
      slice p 24 4 = s.dev.ownIp) ∧
    (∃ (frame : Bytes),
      List.drop (List.length frame - 4) frame ≠ fcsBytes (List.take (List.length frame - 4) frame)) :=
  ⟨⟨on mg, by decide +kernel, by decide +kernel⟩,
    ⟨on mg, rd, (mg.bump R.GLB_CNT_SPI_FRAMES).frameRead Master.spi 0x1000 1, by decide +kernel, by decide +kernel, by decide +kernel, by decide +kernel, by decide +kernel, by decide +kernel⟩,
    ⟨on mg, rd0 ++ beBytes 2 (crc16 (11 :: rd0) ^^^ 1), by decide +kernel, by decide +kernel, by decide +kernel, by decide +kernel⟩,
    ⟨on mg, wr, ((mg.emit (Output.spi [mg.statusByte mg.mgmt.spiResult])).bump R.GLB_CNT_SPI_FRAMES).frameWrite Master.spi (R.GLB_SCRATCH.addr 0 0) [77], by decide +kernel, by decide +kernel, by decide +kernel, by decide +kernel, by decide +kernel, by decide +kernel⟩,
    ⟨on mg, wr0 ++ beBytes 2 (crc16 (2 :: wr0) ^^^ 1), by decide +kernel, by decide +kernel, by decide +kernel, by decide +kernel, by decide +kernel⟩,
    ⟨{}, 16, by decide +kernel, by decide +kernel, by decide +kernel⟩,
    ⟨fs up [(F.SAGE_STATUS_HOLDER, 0, 0)], .spi, 16, by decide +kernel, by decide +kernel, by decide +kernel, by decide +kernel, by decide +kernel⟩,
    ⟨up, .sageA, 16, by decide +kernel, by decide +kernel, by decide +kernel, by decide +kernel⟩,
    ⟨on rk, rst0 ++ beBytes 2 (crc16 (0x99 :: rst0)), by decide +kernel, by decide +kernel, by decide +kernel, by decide +kernel⟩,
    ⟨on rk, rst1 ++ beBytes 2 (crc16 (0x99 :: rst1)), by decide +kernel, by decide +kernel, by decide +kernel, by decide +kernel⟩,
    ⟨on mg, mg.i2cAddr, by decide +kernel, by decide +kernel, by decide +kernel⟩,
    ⟨on mg, mg.i2cAddr, rd0 ++ beBytes 1 (crc8 (i2cHead (mg.i2cAddr % 128) 11 ++ rd0)), (mg.bump R.GLB_CNT_I2C_FRAMES).frameRead Master.i2c 0x1000 1, by decide +kernel, by decide +kernel, by decide +kernel, by decide +kernel, by decide +kernel, by decide +kernel, by decide +kernel⟩,
    ⟨on mg, mg.i2cAddr, wr0 ++ beBytes 1 (crc8 (i2cHead (mg.i2cAddr % 128) 2 ++ wr0)), (mg.bump R.GLB_CNT_I2C_FRAMES).frameWrite Master.i2c (R.GLB_SCRATCH.addr 0 0) [77], by decide +kernel, by decide +kernel, by decide +kernel, by decide +kernel, by decide +kernel, by decide +kernel, by decide +kernel⟩,
    ⟨on rk, rk.i2cAddr, rst0 ++ beBytes 1 (crc8 (i2cHead (rk.i2cAddr % 128) 0x99 ++ rst0)), by decide +kernel, by decide +kernel, by decide +kernel, by decide +kernel, by decide +kernel⟩,
    ⟨on mg, by decide +kernel⟩,
    ⟨on mg, by decide +kernel, by decide +kernel⟩,
    ⟨on arpd, arpb, arpb.drop 14, by decide +kernel, by decide +kernel, by decide +kernel, by decide +kernel, by decide +kernel, by decide +kernel, by decide +kernel, by decide +kernel, by decide +kernel, by decide +kernel⟩,
    ⟨arpb, by decide +kernel⟩⟩

end Sys2Proof.Tests.W7
end

