-- ==== Sys2Proof/Tests/Witness8.lean ====
section
/-! SUPPORT. States and operands that meet the hypotheses of the statements, group 8: for each clause of a
statement one state in which all its hypotheses hold together. -/

open Sys2Proof Sys2Proof.Machine
namespace Sys2Proof.Tests.W8
set_option Elab.async false

def mg : Dev := ts { fs up [(F.GLB_MGMT_CFG_SPI_EN, 0, 1), (F.GLB_MGMT_CFG_I2C_EN, 0, 1), (F.GLB_ETH_CFG_EN, 0, 1), (F.GLB_ETH_STATUS_LINK, 0, 1)] with fuse := { lcs := 2 } } [(0xF2, 0, [2^31, 0, 0, 0, 0x0A000001])]
def shdr (msg k p len : Nat) : Bytes := beBytes 1 msg ++ zeros 1 ++ beBytes 2 k ++ beBytes 1 p ++ zeros 3 ++ beBytes 8 0 ++ beBytes 2 len ++ zeros 2
def rnd : Dev := { mg with mint := { randOut := List.replicate 16 3 } }
def half : Dev := { mg with mgmt := { sess := [(2, { st := 1, principal := 1, addr := 9 })] } }
def se (p : Nat) : Sess := { st := 2, principal := p, addr := 9, keyRx := List.replicate 32 1#8, keyTx := List.replicate 32 2#8 }
def sx (p : Nat) : Dev := { mg with mgmt := { sess := [(2, se p)] } }
def sealed (p : Nat) (t : Bytes) : Bytes := let r := gcmSeal (List.replicate 32 1#8) (2^64 + 5) (shdr 16 2 p t.length) t; r.1 ++ r.2
def sxx (p : Nat) : Sess := { se p with rxHigh := (seqTake 0 0 64 5).1, rxMap := (seqTake 0 0 64 5).2, idleClk := 0 }
def rq (q : Nat) (b : Bytes) : Bytes := beBytes 1 q ++ zeros 1 ++ beBytes 2 7 ++ b
def t2 : Bytes := rq 16 (beBytes 4 0x1000 ++ beBytes 2 2)
def t3 : Bytes := rq 17 (beBytes 4 (R.GLB_SCRATCH.addr 0 0) ++ beBytes 2 1 ++ beBytes 4 77)
def t5 : Bytes := rq 18 (zeros 71)
def t6 : Bytes := rq 19 (zeros 8 ++ beBytes 1 4)
def t7 : Bytes := rq 20 (zeros 32)
def t8 : Bytes := rq 21 (zeros 4 ++ beBytes 4 7680 ++ zeros 20)
def t9 : Bytes := rq 22 (beBytes 1 1 ++ beBytes 4 0)
def t10 : Bytes := rq 23 (zeros 2)
def t11 : Bytes := rq 24 (beBytes 1 3 ++ beBytes 1 1)
def t12 : Bytes := rq 31 []
def tel : Dev := { fs mg [(F.MON_STATUS_VALID, 0, 1)] with mgmt := { sess := [(2, { st := 2, principal := 1, addr := 9, keyTx := List.replicate 32 2#8, sub := some { sets := 3 } })] } }
def fl (f : FleetSt) : Dev := ts { mg with fleet := { f with on := true, member := 4 }, mint := { randOut := List.replicate 16 3, keyOut := List.replicate 16 5 } } [(0xF0, 3, [2^31]), (0xF0, 4, [2^31 + 2^30]), (0xF0, 6, [2^31]), (0xF2, 3, [2^31, 0, 0, 0, 7]), (0xF2, 4, [2^31, 0, 0, 0, 6])]
def dg (k : Nat) : Bytes := beBytes 4 1397835339 ++ zeros 1 ++ beBytes 1 k ++ zeros 5 ++ beBytes 1 2 ++ zeros 40
def fg : FragSet := { src := 3, msgId := 4, clk := 7 }
def mh (msg src len : Nat) : Bytes := zeros 3 ++ beBytes 1 msg ++ beBytes 4 9 ++ zeros 4 ++ beBytes 2 src ++ beBytes 2 4 ++ beBytes 2 len ++ zeros 2
def ms (msg src : Nat) (b : Bytes) (k : Nat) : FleetMsg := { hdr := mh msg src b.length, body := b, keyed := k }
def nk : Bytes := List.replicate 160 6#8
def cb : Bytes := confirmTag nk [1#8]
def pe2 : Peer := { hs := 2, newKeys := nk, th := [1#8] }
def ndg : Dev := ts { fl {} with fleet := { on := true, member := 1 } } [(0xF0, 0, [2^31]), (0xF2, 0, [2^31, 0, 0, 0, 7]), (0xF2, 1, [2^31, 0, 0, 0, 6])]
def upm (m : Nat) (d : Dev) : Dev := d.setTf 0xF8 m 0 31 29 2
def fm (msg : Nat) (b : Bytes) (f : FleetSt) : Dev := upm 3 (fl { f with inbox := [ms msg 3 b 1] })
def dr : Bytes := beBytes 2 1 ++ beBytes 2 9 ++ zeros 48
def gch : Chan := { member := 3, role := 2, svc := 9, slice := 1, entry := 5 }

theorem sess_opened (d : Dev) (source seq : Nat) (hdr t : Bytes) (x : Sess) (hx : d.sess (hdrSess hdr) = x) (h1 : x.st = 2)
    (h2 : x.addr = source) (h3 : x.principal = hdrPrincipal hdr) (h4 : d.hdrOk hdr 16 t.length = true)
    (h5 : seqOk x.rxHigh x.rxMap 64 seq = true) :
    d.sessOpenMsg source hdr seq ((gcmSeal x.keyRx (2 ^ 64 + seq) hdr t).1 ++ (gcmSeal x.keyRx (2 ^ 64 + seq) hdr t).2) =
      some (hdrSess hdr,
        { x with rxHigh := (seqTake x.rxHigh x.rxMap 64 seq).1, rxMap := (seqTake x.rxHigh x.rxMap 64 seq).2, idleClk := d.tim.clk }, t) := by
  have e : ((gcmSeal x.keyRx (2 ^ 64 + seq) hdr t).1 ++ (gcmSeal x.keyRx (2 ^ 64 + seq) hdr t).2).length - 16 =
      (gcmSeal x.keyRx (2 ^ 64 + seq) hdr t).1.length := by simp
  simp only [Dev.sessOpenMsg, hx, e, List.take_left', List.drop_left', gcmOpen_gcmSeal, gcmSeal_length, h1, h2, h3, h4, h5]
  simp

theorem wit_SessionsServed :
    (∃ (s : State) (source : Nat) (k : Nat) (e : Dev) (ws : List Nat),
      s.dev.sessUp = true ∧
      s.dev.blockedSrc source = false ∧
      s.dev.freeSlot = some k ∧
      s.dev.takeRandWords 8 = some (e, ws)) ∧
    (∃ (s : State) (source : Nat) (hdr : Bytes) (body : Bytes),
      s.dev.sessUp = true ∧
      s.dev.blockedSrc source = false ∧
      s.dev.hdrOk hdr 3 (List.length body) = true ∧
      (s.dev.sess (hdrSess hdr)).st = 1 ∧
      (s.dev.sess (hdrSess hdr)).addr = source ∧
      (s.dev.sess (hdrSess hdr)).principal = hdrPrincipal hdr) ∧
    (∃ (s : State) (source : Nat) (seq : Nat) (k : Nat) (hdr : Bytes) (data : Bytes) (t : Bytes) (x : Sess),
      s.dev.Requests source hdr seq data 16 k x t ∧
      10 ≤ List.length t ∧
      1 ≤ numAt (List.drop 4 t) 4 2 ∧
      numAt (List.drop 4 t) 4 2 ≤ 1024) ∧
    (∃ (s : State) (source : Nat) (seq : Nat) (k : Nat) (hdr : Bytes) (data : Bytes) (t : Bytes) (x : Sess),
      s.dev.Requests source hdr seq data 17 k x t ∧
      x.principal = 1 ∧
      1 ≤ numAt (List.drop 4 t) 4 2 ∧
      numAt (List.drop 4 t) 4 2 ≤ 256 ∧
      List.length t = 10 + 4 * numAt (List.drop 4 t) 4 2) ∧
    (∃ (s : State) (source : Nat) (seq : Nat) (k : Nat) (hdr : Bytes) (data : Bytes) (t : Bytes) (x : Sess),
      s.dev.Requests source hdr seq data 17 k x t ∧
      x.principal ≠ 1) ∧
    (∃ (s : State) (source : Nat) (seq : Nat) (k : Nat) (hdr : Bytes) (data : Bytes) (t : Bytes) (x : Sess),
      s.dev.Requests source hdr seq data 18 k x t ∧
      x.principal = 1 ∧
      List.length t = 75) ∧
    (∃ (s : State) (source : Nat) (seq : Nat) (k : Nat) (hdr : Bytes) (data : Bytes) (t : Bytes) (x : Sess),
      s.dev.Requests source hdr seq data 19 k x t ∧
      x.principal = 1 ∧
      List.length t = 13 ∧
      1 ≤ numAt (List.drop 4 t) 8 1 ∧
      numAt (List.drop 4 t) 8 1 ≤ 64) ∧
    (∃ (s : State) (source : Nat) (seq : Nat) (k : Nat) (hdr : Bytes) (data : Bytes) (t : Bytes) (x : Sess),
      s.dev.Requests source hdr seq data 20 k x t ∧
      List.length t = 36) ∧
    (∃ (s : State) (source : Nat) (seq : Nat) (k : Nat) (hdr : Bytes) (data : Bytes) (t : Bytes) (x : Sess),
      s.dev.Requests source hdr seq data 21 k x t ∧
      x.principal = 1 ∧
      numAt (List.drop 4 t) 0 4 = 0 ∧
      13 ≤ List.length t ∧
      List.length t ≤ 16396 ∧
      List.length t < 12 + numAt (List.drop 4 t) 4 4 ∧
      numAt (List.drop 4 t) 4 4 ≤ 1048576) ∧
    (∃ (s : State) (source : Nat) (seq : Nat) (k : Nat) (hdr : Bytes) (data : Bytes) (t : Bytes) (x : Sess),
      s.dev.Requests source hdr seq data 22 k x t ∧
      x.principal = 1 ∧
      9 ≤ List.length t ∧
      List.length t ≤ 16393 ∧
      (List.length t - 9) % 4 = 0) ∧
    (∃ (s : State) (source : Nat) (seq : Nat) (k : Nat) (hdr : Bytes) (data : Bytes) (t : Bytes) (x : Sess),
      s.dev.Requests source hdr seq data 23 k x t ∧
      x.principal = 1 ∧
      List.length t = 6) ∧
    (∃ (s : State) (source : Nat) (seq : Nat) (k : Nat) (hdr : Bytes) (data : Bytes) (t : Bytes) (x : Sess),
      s.dev.Requests source hdr seq data 24 k x t ∧
      x.principal = 1 ∧
      List.length t = 6 ∧
      1 ≤ numAt (List.drop 4 t) 0 1 % 16 ∧
      1 ≤ numAt (List.drop 4 t) 1 1 ∧
      numAt (List.drop 4 t) 1 1 ≤ 60 ∧
      (List.filter (fun e => decide (e.fst ≠ k) && e.snd.sub.isSome) s.dev.mgmt.sess).length < 4) ∧
    (∃ (s : State) (source : Nat) (seq : Nat) (k : Nat) (hdr : Bytes) (data : Bytes) (t : Bytes) (x : Sess),
      s.dev.Requests source hdr seq data 31 k x t) ∧
    (∃ (s : State) (session : Nat),
      (s.dev.sess (session % 8)).st ≠ 0) ∧
    (∃ (s : State) (session : Nat),
      (s.dev.sess (session % 8)).st = 2) ∧
    (∃ (s : State) (source : Nat) (at_ : Nat),
      List.find? (fun x => decide (x.fst = source)) s.dev.mgmt.blocked = some (source, at_)) ∧
    (∃ (s : State) (session : Nat) (b : Sub),
      (s.dev.sess (session % 8)).sub = some b ∧
      b.unsent = 0 ∧
      s.dev.sessUp = true ∧
      (s.dev.sess (session % 8)).st = 2 ∧
      s.dev.on F.MON_STATUS_VALID = true ∧
      (s.dev.num R.MON_SNAP_SEC_HI * 2 ^ 32 + s.dev.num R.MON_SNAP_SEC_LO) %
       max 1 b.period =
     0 ∧
      b.done ≠ s.dev.num R.MON_SNAP_SEC_HI * 2 ^ 32 + s.dev.num R.MON_SNAP_SEC_LO + 1) :=
  ⟨⟨on rnd, 9, 0, ((rnd.takeRandWords 8).getD ({}, [])).1, ((rnd.takeRandWords 8).getD ({}, [])).2, by decide +kernel, by decide +kernel, by decide +kernel, by decide +kernel⟩,
    ⟨on half, 9, shdr 3 2 1 48, zeros 48, by decide +kernel, by decide +kernel, by decide +kernel, by decide +kernel, by decide +kernel, by decide +kernel⟩,
    ⟨on (sx 1), 9, 5, 2, shdr 16 2 1 t2.length, sealed 1 t2, t2, sxx 1, ⟨by decide +kernel, (sess_opened (sx 1) 9 5 (shdr 16 2 1 t2.length) t2 (se 1) (by decide +kernel) rfl rfl (by decide +kernel) (by decide +kernel) (by decide +kernel)).trans (by decide +kernel), by decide +kernel, by decide +kernel, by decide +kernel, by decide +kernel⟩, by decide +kernel, by decide +kernel, by decide +kernel⟩,
    ⟨on (sx 1), 9, 5, 2, shdr 16 2 1 t3.length, sealed 1 t3, t3, sxx 1, ⟨by decide +kernel, (sess_opened (sx 1) 9 5 (shdr 16 2 1 t3.length) t3 (se 1) (by decide +kernel) rfl rfl (by decide +kernel) (by decide +kernel) (by decide +kernel)).trans (by decide +kernel), by decide +kernel, by decide +kernel, by decide +kernel, by decide +kernel⟩, by decide +kernel, by decide +kernel, by decide +kernel, by decide +kernel⟩,
    ⟨on (sx 3), 9, 5, 2, shdr 16 2 3 t3.length, sealed 3 t3, t3, sxx 3, ⟨by decide +kernel, (sess_opened (sx 3) 9 5 (shdr 16 2 3 t3.length) t3 (se 3) (by decide +kernel) rfl rfl (by decide +kernel) (by decide +kernel) (by decide +kernel)).trans (by decide +kernel), by decide +kernel, by decide +kernel, by decide +kernel, by decide +kernel⟩, by decide +kernel⟩,
    ⟨on (sx 1), 9, 5, 2, shdr 16 2 1 t5.length, sealed 1 t5, t5, sxx 1, ⟨by decide +kernel, (sess_opened (sx 1) 9 5 (shdr 16 2 1 t5.length) t5 (se 1) (by decide +kernel) rfl rfl (by decide +kernel) (by decide +kernel) (by decide +kernel)).trans (by decide +kernel), by decide +kernel, by decide +kernel, by decide +kernel, by decide +kernel⟩, by decide +kernel, by decide +kernel⟩,
    ⟨on (sx 1), 9, 5, 2, shdr 16 2 1 t6.length, sealed 1 t6, t6, sxx 1, ⟨by decide +kernel, (sess_opened (sx 1) 9 5 (shdr 16 2 1 t6.length) t6 (se 1) (by decide +kernel) rfl rfl (by decide +kernel) (by decide +kernel) (by decide +kernel)).trans (by decide +kernel), by decide +kernel, by decide +kernel, by decide +kernel, by decide +kernel⟩, by decide +kernel, by decide +kernel, by decide +kernel, by decide +kernel⟩,
    ⟨on (sx 1), 9, 5, 2, shdr 16 2 1 t7.length, sealed 1 t7, t7, sxx 1, ⟨by decide +kernel, (sess_opened (sx 1) 9 5 (shdr 16 2 1 t7.length) t7 (se 1) (by decide +kernel) rfl rfl (by decide +kernel) (by decide +kernel) (by decide +kernel)).trans (by decide +kernel), by decide +kernel, by decide +kernel, by decide +kernel, by decide +kernel⟩, by decide +kernel⟩,
    ⟨on (sx 1), 9, 5, 2, shdr 16 2 1 t8.length, sealed 1 t8, t8, sxx 1, ⟨by decide +kernel, (sess_opened (sx 1) 9 5 (shdr 16 2 1 t8.length) t8 (se 1) (by decide +kernel) rfl rfl (by decide +kernel) (by decide +kernel) (by decide +kernel)).trans (by decide +kernel), by decide +kernel, by decide +kernel, by decide +kernel, by decide +kernel⟩, by decide +kernel, by decide +kernel, by decide +kernel, by decide +kernel, by decide +kernel, by decide +kernel⟩,
    ⟨on (sx 1), 9, 5, 2, shdr 16 2 1 t9.length, sealed 1 t9, t9, sxx 1, ⟨by decide +kernel, (sess_opened (sx 1) 9 5 (shdr 16 2 1 t9.length) t9 (se 1) (by decide +kernel) rfl rfl (by decide +kernel) (by decide +kernel) (by decide +kernel)).trans (by decide +kernel), by decide +kernel, by decide +kernel, by decide +kernel, by decide +kernel⟩, by decide +kernel, by decide +kernel, by decide +kernel, by decide +kernel⟩,
    ⟨on (sx 1), 9, 5, 2, shdr 16 2 1 t10.length, sealed 1 t10, t10, sxx 1, ⟨by decide +kernel, (sess_opened (sx 1) 9 5 (shdr 16 2 1 t10.length) t10 (se 1) (by decide +kernel) rfl rfl (by decide +kernel) (by decide +kernel) (by decide +kernel)).trans (by decide +kernel), by decide +kernel, by decide +kernel, by decide +kernel, by decide +kernel⟩, by decide +kernel, by decide +kernel⟩,
    ⟨on (sx 1), 9, 5, 2, shdr 16 2 1 t11.length, sealed 1 t11, t11, sxx 1, ⟨by decide +kernel, (sess_opened (sx 1) 9 5 (shdr 16 2 1 t11.length) t11 (se 1) (by decide +kernel) rfl rfl (by decide +kernel) (by decide +kernel) (by decide +kernel)).trans (by decide +kernel), by decide +kernel, by decide +kernel, by decide +kernel, by decide +kernel⟩, by decide +kernel, by decide +kernel, by decide +kernel, by decide +kernel, by decide +kernel, by decide +kernel⟩,
    ⟨on (sx 1), 9, 5, 2, shdr 16 2 1 t12.length, sealed 1 t12, t12, sxx 1, ⟨by decide +kernel, (sess_opened (sx 1) 9 5 (shdr 16 2 1 t12.length) t12 (se 1) (by decide +kernel) rfl rfl (by decide +kernel) (by decide +kernel) (by decide +kernel)).trans (by decide +kernel), by decide +kernel, by decide +kernel, by decide +kernel, by decide +kernel⟩⟩,
    ⟨on half, 2, by decide +kernel⟩,
    ⟨on (sx 1), 2, by decide +kernel⟩,
    ⟨on { mg with mgmt := { blocked := [(9, 500)] } }, 9, 500, by decide +kernel⟩,
    ⟨on tel, 2, { sets := 3 }, by decide +kernel, by decide +kernel, by decide +kernel, by decide +kernel, by decide +kernel, by decide +kernel, by decide +kernel⟩⟩

theorem wit_FleetAssociates :
    (∃ (s : State) (b : Bytes),
      s.dev.fleetOn = true ∧
      s.dev.ethUp = true ∧
      36 ≤ List.length b ∧
      List.length b ≤ 1236 ∧
      numAt b 0 4 = 1397835339 ∧
      numAt b 4 1 = 0 ∧
      s.dev.fleet.frags = [] ∧
      numAt b 5 1 = 0 ∧
      1 ≤ numAt b 11 1 ∧
      numAt b 11 1 ≤ 4) ∧
    (∃ (s : State) (b : Bytes),
      s.dev.fleetOn = true ∧
      s.dev.ethUp = true ∧
      36 ≤ List.length b ∧
      List.length b ≤ 1236 ∧
      numAt b 0 4 = 1397835339 ∧
      numAt b 4 1 = 0 ∧
      s.dev.fleet.frags = [] ∧
      numAt b 5 1 = 1) ∧
    (∃ (s : State) (f : FragSet) (rest : List FragSet),
      s.dev.fleet.frags = f :: rest) ∧
    (∃ (s : State) (at_ : FleetAt) (x : FleetMsg),
      s.dev.Delivers at_ 1 x ∧
      x.src < s.dev.fleet.member ∧
      8 ≤ s.dev.mint.randOut.length) ∧
    (∃ (s : State) (at_ : FleetAt) (x : FleetMsg),
      s.dev.Delivers at_ 2 x ∧
      (s.dev.peer x.src).hs = 1) ∧
    (∃ (s : State) (at_ : FleetAt) (x : FleetMsg),
      s.dev.Delivers at_ 3 x ∧
      (s.dev.peer x.src).hs = 2 ∧
      x.body = confirmTag (s.dev.peer x.src).newKeys (s.dev.peer x.src).th) ∧
    (∃ (s : State) (at_ : FleetAt) (x : FleetMsg),
      s.dev.Delivers at_ 3 x ∧
      (s.dev.peer x.src).hs = 2 ∧
      x.body ≠ confirmTag (s.dev.peer x.src).newKeys (s.dev.peer x.src).th) ∧
    (∃ (s : State) (at_ : FleetAt) (x : FleetMsg),
      s.dev.Delivers at_ 4 x ∧
      s.dev.fleet.member < x.src ∧
      s.dev.assoc x.src ≠ 2 ∧
      (s.dev.peer x.src).nudgeClk = none ∧
      8 ≤ s.dev.mint.randOut.length) ∧
    (∃ (s : State),
      s.dev.fleetOn = true ∧
      s.dev.ethUp = true ∧
      (∀ (m : Nat), m < s.dev.fleet.member → s.dev.ctlChan m = none ∧ s.dev.tf 242 m 0 31 31 = 1)) ∧
    (∃ (s : State) (member : Nat),
      s.dev.fleetOn = true ∧
      s.dev.fleet.member < member % 4096 ∧
      s.dev.memberValid (member % 4096) = true ∧
      ((s.dev.peer (member % 4096)).hs = 1 ∨ (s.dev.peer (member % 4096)).hs = 3)) ∧
    (∃ (s : State) (member : Nat),
      s.dev.fleetOn = true ∧
      s.dev.fleet.member < member % 4096 ∧
      s.dev.memberValid (member % 4096) = true ∧
      (s.dev.peer (member % 4096)).hs = 0 ∧
      s.dev.assoc (member % 4096) ≠ 2 ∧
      8 ≤ s.dev.mint.randOut.length) ∧
    (∃ (s : State) (member : Nat),
      s.dev.fleetOn = true ∧
      s.dev.assoc (member % 4096) = 2 ∧
      s.dev.fleet.member < member % 4096 ∧
      (s.dev.peer (member % 4096)).hs = 0 ∧
      8 ≤ s.dev.mint.randOut.length) ∧
    (∃ (s : State) (member : Nat),
      (s.dev.peer (member % 4096)).old ≠ []) ∧
    (∃ (s : State) (member : Nat),
      s.dev.fleetOn = true ∧
      s.dev.assoc (member % 4096) = 2) :=
  ⟨⟨on (fl {}), dg 0, by decide +kernel, by decide +kernel, by decide +kernel, by decide +kernel, by decide +kernel, by decide +kernel, by decide +kernel, by decide +kernel, by decide +kernel, by decide +kernel⟩,
    ⟨on (fl {}), dg 1, by decide +kernel, by decide +kernel, by decide +kernel, by decide +kernel, by decide +kernel, by decide +kernel, by decide +kernel, by decide +kernel⟩,
    ⟨on (fl { frags := [fg] }), fg, [], by decide +kernel⟩,
    ⟨on (fl { inbox := [ms 1 3 (zeros 48) 0] }), .inbox 0, ms 1 3 (zeros 48) 0, by unfold Dev.Delivers; decide +kernel, by decide +kernel, by decide +kernel⟩,
    ⟨on (fl { peers := [(6, { hs := 1 })], inbox := [ms 2 6 (zeros 48) 0] }), .inbox 0, ms 2 6 (zeros 48) 0, by unfold Dev.Delivers; decide +kernel, by decide +kernel⟩,
    ⟨on (fl { peers := [(3, pe2)], inbox := [ms 3 3 cb 3] }), .inbox 0, ms 3 3 cb 3, by unfold Dev.Delivers; decide +kernel, by decide +kernel, by decide +kernel⟩,
    ⟨on (fl { peers := [(3, pe2)], inbox := [ms 3 3 (zeros 48) 3] }), .inbox 0, ms 3 3 (zeros 48) 3, by unfold Dev.Delivers; decide +kernel, by decide +kernel, by decide +kernel⟩,
    ⟨on (fl { inbox := [ms 4 6 [] 0] }), .inbox 0, ms 4 6 [] 0, by unfold Dev.Delivers; decide +kernel, by decide +kernel, by decide +kernel, by decide +kernel, by decide +kernel⟩,
    ⟨on ndg, by decide +kernel, by decide +kernel, by decide +kernel⟩,
    ⟨on (fl { peers := [(6, { hs := 1 })] }), 6, by decide +kernel, by decide +kernel, by decide +kernel, by decide +kernel⟩,
    ⟨on (fl {}), 6, by decide +kernel, by decide +kernel, by decide +kernel, by decide +kernel, by decide +kernel, by decide +kernel⟩,
    ⟨on (upm 6 (fl {})), 6, by decide +kernel, by decide +kernel, by decide +kernel, by decide +kernel, by decide +kernel⟩,
    ⟨on (fl { peers := [(6, { old := [1#8] })] }), 6, by decide +kernel⟩,
    ⟨on (upm 6 (fl {})), 6, by decide +kernel, by decide +kernel⟩⟩

theorem wit_FleetAgrees :
    (∃ (s : State),
      s.dev.fleetOn = true ∧
      s.dev.peersUp = []) ∧
    (∃ (s : State) (m : Nat),
      s.dev.fleetOn = true ∧
      s.dev.peersUp = [m]) ∧
    (∃ (s : State) (at_ : FleetAt) (x : FleetMsg),
      s.dev.Delivers at_ 16 x ∧
      List.length x.body = 184) ∧
    (∃ (s : State) (at_ : FleetAt) (x : FleetMsg),
      s.dev.Delivers at_ 17 x ∧
      numAt x.body 0 2 ≤ 1024 ∧
      List.length x.body = 2 + 2 * numAt x.body 0 2) ∧
    (∃ (s : State) (at_ : FleetAt) (x : FleetMsg),
      s.dev.Delivers at_ 18 x ∧
      numAt x.body 0 2 = 1 ∧
      List.length x.body = 52 ∧
      (s.dev.delivered at_ 18).shares (numAt x.body 2 2) x.src = true) ∧
    (∃ (s : State) (at_ : FleetAt) (x : FleetMsg),
      s.dev.Delivers at_ 48 x ∧
      s.dev.ksCapable = true ∧
      Option.map (fun x => x.fst) s.dev.fleet.ks = some x.src ∧
      s.dev.fleet.term < numAt x.body 0 4) ∧
    (∃ (s : State) (at_ : FleetAt) (x : FleetMsg),
      s.dev.Delivers at_ 36 x ∧
      s.dev.fleet.claim = true ∧
      s.dev.svcMode (numAt x.body 0 2 % 16384) ≠ 0 ∧
      s.dev.fleet.offers = [] ∧
      ¬numAt x.body 0 2 % 16384 ∈ s.dev.fleet.rekey) ∧
    (∃ (s : State) (member : Nat),
      s.dev.fleetOn = true ∧
      (s.dev.peer (member % 4096)).asked ≠ []) ∧
    (∃ (s : State) (member : Nat) (service : Nat) (c : Chan),
      s.dev.fleetOn = true ∧
      s.dev.isGated (member % 4096) (service % 16384) = true ∧
      s.dev.svcGate (service % 16384) = 2 ∧
      s.dev.fleet.chans = [c] ∧
      c.member = member % 4096 ∧
      c.svc = service % 16384 ∧
      (c.role = 2 ∨ c.role = 3 ∨ c.role = 5)) ∧
    (∃ (s : State),
      s.dev.fleetOn = true ∧
      s.dev.fleet.claim = false ∧
      s.dev.ksCapable = true ∧
      s.dev.peersUp = []) ∧
    (∃ (s : State) (member : Nat) (c : Nat),
      s.dev.fleetOn = true ∧
      s.dev.fleet.claim = true ∧
      s.dev.assoc (member % 4096) = 2 ∧
      (s.dev.peer (member % 4096)).capClk = some c ∧
      s.dev.fleet.offers = [] ∧
      ranksAbove (s.dev.tf 240 (member % 4096) 0 7 0) (member % 4096) s.dev.ownPriority s.dev.fleet.member =
     true) :=
  ⟨⟨on (fl {}), by decide +kernel, by decide +kernel⟩,
    ⟨on (upm 3 (fl {})), 3, by decide +kernel, by decide +kernel⟩,
    ⟨on (fm 16 (zeros 184) {}), .inbox 0, ms 16 3 (zeros 184) 1, by unfold Dev.Delivers; decide +kernel, by decide +kernel⟩,
    ⟨on (fm 17 (beBytes 2 1 ++ beBytes 2 9) {}), .inbox 0, ms 17 3 (beBytes 2 1 ++ beBytes 2 9) 1, by unfold Dev.Delivers; decide +kernel, by decide +kernel, by decide +kernel⟩,
    ⟨on (ts (fm 18 dr {}) [(0xF3, 9, [2^31 + 3])]), .inbox 0, ms 18 3 dr 1, by unfold Dev.Delivers; decide +kernel, by decide +kernel, by decide +kernel, by decide +kernel⟩,
    ⟨on (fm 48 (beBytes 4 7) { ks := some (3, 2, 0, 500), term := 2 }), .inbox 0, ms 48 3 (beBytes 4 7) 1, by unfold Dev.Delivers; decide +kernel, by decide +kernel, by decide +kernel, by decide +kernel⟩,
    ⟨on (ts (fm 36 (beBytes 2 9) { claim := true }) [(0xF3, 9, [2^31 + 2^29])]), .inbox 0, ms 36 3 (beBytes 2 9) 1, by unfold Dev.Delivers; decide +kernel, by decide +kernel, by decide +kernel, by decide +kernel, by decide +kernel⟩,
    ⟨on (fl { peers := [(3, { asked := [9], askClk := 4 })] }), 3, by decide +kernel, by decide +kernel⟩,
    ⟨on (ts (fl { peers := [(3, { gated := [(9, 5)] })], chans := [gch] }) [(0xF3, 9, [2^31 + 2 * 2^26 + 3])]), 3, 9, gch, by decide +kernel, by decide +kernel, by decide +kernel, by decide +kernel, by decide +kernel, by decide +kernel, by decide +kernel⟩,
    ⟨on (fl {}), by decide +kernel, by decide +kernel, by decide +kernel, by decide +kernel⟩,
    ⟨on (ts (upm 3 (fl { claim := true, peers := [(3, { capClk := some 5 })] })) [(0xF0, 3, [2^31 + 2^30 + 9])]), 3, 5, by decide +kernel, by decide +kernel, by decide +kernel, by decide +kernel, by decide +kernel, by decide +kernel⟩⟩

end Sys2Proof.Tests.W8
end

