-- ==== Sys2Proof/Tests/Witness9.lean ====
section
/-! SUPPORT. States and operands that meet the hypotheses of the statements, group 9: for each clause of a
statement one state in which all its hypotheses hold together. -/

open Sys2Proof Sys2Proof.Machine
namespace Sys2Proof.Tests.W9
set_option Elab.async false

def mg : Dev := ts { fs up [(F.GLB_MGMT_CFG_SPI_EN, 0, 1), (F.GLB_MGMT_CFG_I2C_EN, 0, 1), (F.GLB_ETH_CFG_EN, 0, 1), (F.GLB_ETH_STATUS_LINK, 0, 1)] with fuse := { lcs := 2 } } [(0xF2, 0, [2^31, 0, 0, 0, 0x0A000001])]
def fl (f : FleetSt) : Dev := (ts { mg with fleet := { f with on := true, member := 4 }, mint := { randOut := List.replicate 16 3, keyOut := List.replicate 16 5 } } [(0xF0, 3, [2^31]), (0xF0, 4, [2^31 + 2^30]), (0xF0, 6, [2^31]), (0xF2, 3, [2^31, 0, 0, 0, 7]), (0xF2, 4, [2^31, 0, 0, 0, 6])]).setTf 0xF8 3 0 31 29 2
def mh (msg src len : Nat) : Bytes := zeros 3 ++ beBytes 1 msg ++ beBytes 4 9 ++ zeros 4 ++ beBytes 2 src ++ beBytes 2 4 ++ beBytes 2 len ++ zeros 2
def ms (msg src : Nat) (b : Bytes) : FleetMsg := { hdr := mh msg src b.length, body := b, keyed := 1 }
def fm (msg : Nat) (b : Bytes) (f : FleetSt) : Dev := fl { f with inbox := [ms msg 3 b] }
def ch1 : Chan := { member := 3, role := 1, svc := 9, slice := 1, entry := 5 }
def of1 : Offer := { member := 3, id := 7, role := 1, svc := 9, sends := 2, clk := 5 }
def ackB (r : Nat) : Bytes := beBytes 4 7 ++ beBytes 1 r ++ zeros 20
def offB : Bytes := beBytes 4 7 ++ beBytes 1 1 ++ zeros 107
def ro : RxOffer := { member := 3, id := 7, role := 1, svc := 9, clk := 5, put := { slice := 1, entry := 5 } }
def canB : Bytes := beBytes 4 7
def ksiB : Bytes := zeros 4 ++ beBytes 2 1 ++ beBytes 1 1 ++ zeros 3
def rot : RxOffer := { ro with timed := true, role := 5 }
def roe : RxOffer := { rot with role := 1 }
def rog : RxOffer := rot
def mk0 : MkaPort := { cfg := { prio := 3, slice := 1, txEntry := 5, interval := 60 }, peer := some [1#8], peerPrio := 9, peerClk := 5, sakClk := 7 }
def mkd : Dev := { fs (fl {}) [(F.LPORT_CTRL_ENABLE, 2, 1), (F.LPORT_CTRL_WIDTH, 2, 4), (F.LPORT_CTRL_LANE_RATE, 2, 3), (F.ENV_CTRL_MODE, 2, 1)] with fleet := { mka := [(2, mk0)], on := true, member := 4 } }
def ex1 : ExcRec := { reason := 129, port := 2, data := zeros 60 }
def lc (k : Nat) : Dev := { mg with fuse := { lcs := k, opFused := 1 }, mgmt := { lcsArmed := some 0 } }
def prv : Dev := fs { lc 0 with mgmt := { lcsArmed := some 0, prov := [(1, List.replicate 64 4#8)] } } [(F.MNT_TEST_CTRL_INJECT, 0, 0)]
def lp (k : Nat) (op : Nat) : Dev := { mg with fuse := { lcs := 1, opFused := 1 }, mgmt := { lcsOp := op, lcsPhase := k, lcsClk := 3 } }
def l0 : Dev := { lp 1 1 with fuse := { lcs := 0, opFused := 1 } }

theorem wit_FleetKeysChange :
    (∃ (s : State) (ch : Chan),
      s.dev.fleetOn = true ∧
      ch.role = 1 ∧
      s.dev.assoc ch.member = 2 ∧
      11 ≤ s.dev.mint.keyOut.length) ∧
    (∃ (s : State) (index : Nat) (o : Offer),
      s.dev.fleet.offers[index]? = some o ∧
      s.dev.fleetOn = true ∧
      o.acked = false ∧
      o.sends < 6) ∧
    (∃ (s : State) (index : Nat) (o : Offer),
      s.dev.fleet.offers[index]? = some o ∧
      s.dev.fleetOn = true ∧
      o.acked = false ∧
      6 ≤ o.sends ∧
      o.ticket = none) ∧
    (∃ (s : State) (at_ : FleetAt) (x : FleetMsg) (o : Offer),
      s.dev.Delivers at_ 33 x ∧
      List.find? (fun o => decide (o.member = x.src) && decide (o.id = numAt x.body 0 4) && !o.acked)
       s.dev.fleet.offers =
     some o ∧
      numAt x.body 4 1 ≠ 0 ∧
      o.ticket = none) ∧
    (∃ (s : State) (at_ : FleetAt) (x : FleetMsg) (o : Offer),
      s.dev.Delivers at_ 33 x ∧
      List.find? (fun o => decide (o.member = x.src) && decide (o.id = numAt x.body 0 4) && !o.acked)
       s.dev.fleet.offers =
     some o ∧
      numAt x.body 4 1 = 0 ∧
      o.role = 5) ∧
    (∃ (s : State) (at_ : FleetAt) (x : FleetMsg) (o : Offer),
      s.dev.Delivers at_ 33 x ∧
      List.find? (fun o => decide (o.member = x.src) && decide (o.id = numAt x.body 0 4) && !o.acked)
       s.dev.fleet.offers =
     some o ∧
      numAt x.body 4 1 = 0 ∧
      o.role = 1 ∧
      o.timed = false) ∧
    (∃ (s : State) (at_ : FleetAt) (x : FleetMsg) (put : Placement),
      s.dev.Delivers at_ 32 x ∧
      List.length x.body = 112 ∧
      numAt x.body 4 1 = 1 ∧
      bit (numAt x.body 5 1) 7 = false ∧
      s.dev.fleet.taken = [] ∧
      put.emode = true ∧
      ((s.dev.delivered at_ 32).rx (put.slice % 8) (put.entry % 8192)).st = 0) ∧
    (∃ (s : State) (at_ : FleetAt) (x : FleetMsg),
      s.dev.Delivers at_ 32 x ∧
      List.length x.body ≠ 112) ∧
    (∃ (s : State) (at_ : FleetAt) (x : FleetMsg) (r : RxOffer),
      s.dev.Delivers at_ 34 x ∧
      List.find? (fun r => decide (r.member = x.src) && decide (r.id = numAt x.body 0 4)) s.dev.fleet.taken = some r ∧
      r.tickets = [] ∧
      r.role = 1) ∧
    (∃ (s : State) (at_ : FleetAt) (x : FleetMsg) (c : Chan),
      s.dev.Delivers at_ 35 x ∧
      numAt x.body 4 2 = 1 ∧
      List.length x.body = 10 ∧
      s.dev.fleet.chans = [c] ∧
      c.role = 5 ∧
      c.member = x.src ∧
      c.slice = numAt x.body 6 1 % 8 ∧
      (s.dev.tx c.slice c.entry 0).st = 1) ∧
    (∃ (s : State) (index : Nat) (r : RxOffer),
      s.dev.fleet.taken[index]? = some r ∧
      s.dev.fleetOn = true ∧
      r.timed = false ∧
      r.role ≠ 4 ∧
      r.olds = []) ∧
    (∃ (s : State) (index : Nat) (r : RxOffer),
      s.dev.fleet.taken[index]? = some r ∧
      s.dev.fleetOn = true ∧
      r.timed = true ∧
      r.role ≠ 4 ∧
      r.entries = []) ∧
    (∃ (s : State) (index : Nat) (r : RxOffer) (e : Nat × Nat),
      s.dev.fleet.taken[index]? = some r ∧
      s.dev.fleetOn = true ∧
      r.timed = true ∧
      r.role ≠ 4 ∧
      r.entries = [e] ∧
      (s.dev.rx e.fst e.snd).st = 2 ∧
      (s.dev.rx e.fst e.snd).ok = 0) ∧
    (∃ (s : State) (index : Nat) (r : RxOffer),
      s.dev.fleet.taken[index]? = some r ∧
      s.dev.fleetOn = true ∧
      r.timed = true ∧
      r.role = 5 ∧
      r.tickets = [] ∧
      r.half = false ∧
      r.put.floods = []) :=
  ⟨⟨on (fl {}), ch1, by decide +kernel, by decide +kernel, by decide +kernel, by decide +kernel⟩,
    ⟨on (fl { offers := [of1] }), 0, of1, by decide +kernel, by decide +kernel, by decide +kernel, by decide +kernel⟩,
    ⟨on (fl { offers := [{ of1 with sends := 6 }] }), 0, { of1 with sends := 6 }, by decide +kernel, by decide +kernel, by decide +kernel, by decide +kernel, by decide +kernel⟩,
    ⟨on (fm 33 (ackB 3) { offers := [of1] }), .inbox 0, ms 33 3 (ackB 3), of1, by unfold Dev.Delivers; decide +kernel, by decide +kernel, by decide +kernel, by decide +kernel⟩,
    ⟨on (fm 33 (ackB 0) { offers := [{ of1 with role := 5 }] }), .inbox 0, ms 33 3 (ackB 0), { of1 with role := 5 }, by unfold Dev.Delivers; decide +kernel, by decide +kernel, by decide +kernel, by decide +kernel⟩,
    ⟨on (fm 33 (ackB 0) { offers := [of1] }), .inbox 0, ms 33 3 (ackB 0), of1, by unfold Dev.Delivers; decide +kernel, by decide +kernel, by decide +kernel, by decide +kernel, by decide +kernel⟩,
    ⟨on (fm 32 offB {}), .inbox 0, ms 32 3 offB, { slice := 1, entry := 5 }, by unfold Dev.Delivers; decide +kernel, by decide +kernel, by decide +kernel, by decide +kernel, by decide +kernel, by decide +kernel, by decide +kernel⟩,
    ⟨on (fm 32 (zeros 10) {}), .inbox 0, ms 32 3 (zeros 10), by unfold Dev.Delivers; decide +kernel, by decide +kernel⟩,
    ⟨on (fm 34 canB { taken := [ro] }), .inbox 0, ms 34 3 canB, ro, by unfold Dev.Delivers; decide +kernel, by decide +kernel, by decide +kernel, by decide +kernel⟩,
    ⟨on ((fm 35 ksiB { chans := [{ ch1 with role := 5 }] }).setTx 1 5 0 { st := 1 }), .inbox 0, ms 35 3 ksiB, { ch1 with role := 5 }, by unfold Dev.Delivers; decide +kernel, by decide +kernel, by decide +kernel, by decide +kernel, by decide +kernel, by decide +kernel, by decide +kernel, by decide +kernel⟩,
    ⟨on (fl { taken := [ro] }), 0, ro, by decide +kernel, by decide +kernel, by decide +kernel, by decide +kernel, by decide +kernel⟩,
    ⟨on (fl { taken := [rot] }), 0, rot, by decide +kernel, by decide +kernel, by decide +kernel, by decide +kernel, by decide +kernel⟩,
    ⟨on ((fl { taken := [roe] }).setRx 1 5 { st := 2 }), 0, roe, (1, 5), by decide +kernel, by decide +kernel, by decide +kernel, by decide +kernel, by decide +kernel, by decide +kernel, by decide +kernel⟩,
    ⟨on (fl { taken := [rog] }), 0, rog, by decide +kernel, by decide +kernel, by decide +kernel, by decide +kernel, by decide +kernel, by decide +kernel, by decide +kernel⟩⟩

theorem wit_MkaServed :
    (∃ (s : State) (index : Nat) (r : ExcRec),
      s.dev.active.isSome = true ∧
      s.dev.fe.buf[index]? = some r ∧
      r.reason = 129 ∧
      s.dev.mkaOn r.port = true) ∧
    (∃ (s : State) (port : Nat),
      s.dev.mkaOn (port % 32) = true) ∧
    (∃ (s : State) (port : Nat),
      s.dev.mkaOn (port % 32) = true ∧
      (s.dev.mkaPort (port % 32)).peer.isSome = true) ∧
    (∃ (s : State) (port : Nat),
      s.dev.mkaOn (port % 32) = true ∧
      (s.dev.mkaPort (port % 32)).cfg.interval ≠ 0 ∧
      s.dev.mkaServer (port % 32) = true ∧
      (s.dev.mkaPort (port % 32)).peer.isSome = true) :=
  ⟨⟨on { mkd with fe := { buf := [ex1] } }, 0, ex1, by decide +kernel, by decide +kernel, by decide +kernel, by decide +kernel⟩,
    ⟨on mkd, 2, by decide +kernel⟩,
    ⟨on mkd, 2, by decide +kernel, by decide +kernel⟩,
    ⟨on mkd, 2, by decide +kernel, by decide +kernel, by decide +kernel, by decide +kernel⟩⟩

theorem wit_LifecycleServed :
    (∃ (s : State) (m : Master),
      s.dev.passes m (R.GLB_LCS_CONFIRM.addr 0 0) = true ∧
      s.dev.mayWrite m = true) ∧
    (∃ (s : State) (m : Master),
      s.dev.passes m (R.GLB_LCS_CMD.addr 0 0) = true ∧
      s.dev.lcsConfirmed = true ∧
      s.dev.lcsBusy = false ∧
      s.dev.lcsMay 2 m = true ∧
      s.dev.locked = true) ∧
    (∃ (s : State) (m : Master),
      s.dev.passes m (R.GLB_LCS_CMD.addr 0 0) = true ∧
      s.dev.lcsConfirmed = true ∧
      s.dev.lcsBusy = false ∧
      s.dev.lcsMay 3 m = true) ∧
    (∃ (s : State) (m : Master),
      s.dev.passes m (R.GLB_LCS_CMD.addr 0 0) = true ∧
      s.dev.lcsConfirmed = true ∧
      s.dev.lcsBusy = false ∧
      s.dev.lcsMay 4 m = true) ∧
    (∃ (s : State) (m : Master),
      s.dev.passes m (R.GLB_LCS_CMD.addr 0 0) = true ∧
      s.dev.lcsConfirmed = true ∧
      s.dev.lcsBusy = false ∧
      s.dev.lcsMay 1 m = true ∧
      s.dev.opLive ≠ [] ∧
      s.dev.get F.MNT_TEST_CTRL_INJECT = 0 ∧
      ((List.take 1665 s.dev.provBytes).all fun x => x == 0) = false) ∧
    (∃ (s : State) (m : Master) (c : Instr),
      s.dev.passes m (R.GLB_LCS_CMD.addr 0 0) = true ∧
      s.dev.lcsConfirmed = false ∧
      s.dev.lcsBusy = false ∧
      (c = .provision m ∨ c = .operate m ∨ c = .fieldReturn m ∨ c = .decommission m)) ∧
    (∃ (s : State),
      s.dev.mgmt.lcsPhase = 2) ∧
    (∃ (s : State),
      s.dev.mgmt.lcsPhase = 2) ∧
    (∃ (s : State) (index : Nat) (m : Master),
      s.dev.provMay m = true ∧
      s.dev.principal m = some 0 ∧
      s.dev.mgmt.lcsPhase = 1 ∧
      1 ≤ index % 256 ∧
      index % 256 ≤ 26) ∧
    (∃ (s : State) (index : Nat) (m : Master),
      s.dev.provMay m = true ∧
      s.dev.principal m = some 0 ∧
      s.dev.mgmt.lcsPhase = 1 ∧
      index % 256 = 27) ∧
    (∃ (s : State),
      s.dev.mgmt.lcsPhase = 1) ∧
    (∃ (s : State) (slot : Nat) (op : Nat) (m : Master) (c : Instr),
      s.dev.passes m (R.GLB_KEYSLOT_CMD.addr 0 0) = true ∧
      s.dev.keyslotMay m = true ∧
      s.dev.lcsConfirmed = true ∧
      s.dev.lcsBusy = false ∧
      s.dev.keyslotOk op (slot % 4) = true ∧
      ((op = 1 ∧ c = .fuseOperator slot m) ∨ (op = 2 ∧ c = .revokeOperator slot m) ∨ (op = 3 ∧ c = .revokeVendor slot m))) ∧
    (∃ (s : State),
      s.dev.mgmt.ksOp ≠ 0) :=
  ⟨⟨on up, .sageA, by decide +kernel, by decide +kernel⟩,
    ⟨on (lc 1), .sageA, by decide +kernel, by decide +kernel, by decide +kernel, by decide +kernel, by decide +kernel⟩,
    ⟨on (lc 2), .sageA, by decide +kernel, by decide +kernel, by decide +kernel, by decide +kernel⟩,
    ⟨on (lc 2), .eth 1, by decide +kernel, by decide +kernel, by decide +kernel, by decide +kernel⟩,
    ⟨on prv, .eth 0, by decide +kernel, by decide +kernel, by decide +kernel, by decide +kernel, by decide +kernel, by decide +kernel, by decide +kernel⟩,
    ⟨on mg, .sageA, Instr.operate .sageA, by decide +kernel, by decide +kernel, by decide +kernel, Or.inr (Or.inl rfl)⟩,
    ⟨on (lp 2 2), by decide +kernel⟩,
    ⟨on (lp 2 2), by decide +kernel⟩,
    ⟨on l0, 3, .eth 0, by decide +kernel, by decide +kernel, by decide +kernel, by decide +kernel, by decide +kernel⟩,
    ⟨on l0, 27, .eth 0, by decide +kernel, by decide +kernel, by decide +kernel, by decide +kernel⟩,
    ⟨on l0, by decide +kernel⟩,
    ⟨on { lc 1 with fuse := { lcs := 1, opFused := 3 } }, 1, 2, .sageA, Instr.revokeOperator 1 .sageA, by decide +kernel, by decide +kernel, by decide +kernel, by decide +kernel, by decide +kernel, Or.inr (Or.inl ⟨rfl, rfl⟩)⟩,
    ⟨on { mg with mgmt := { ksOp := 2, ksSlot := 1 } }, by decide +kernel⟩⟩

end Sys2Proof.Tests.W9
end

section
/-! PROOFS. Rules shared by the proofs about the client front ends: what one operation leaves unchanged, part by part, and what a
field reads after a write. -/

namespace Sys2Proof.Machine

/-! Parts of the module that an operation may change. -/

theorem Dev.ChangesOnly.refl (d : Dev) (ps : List Part) : d.ChangesOnly d ps := fun p _ => by cases p <;> rfl

/-- One operation more, whose own parts are among those listed. -/
theorem Dev.ChangesOnly.andThen {d d' d'' : Dev} {ps qs : List Part} (h : d.ChangesOnly d' ps) (h' : d'.ChangesOnly d'' qs)
    (hs : ∀ p ∈ qs, p ∈ ps) : d.ChangesOnly d'' ps := h.trans (h'.mono hs)

/-- What every round of a loop keeps, the loop keeps. -/
theorem foldl_keeps {α β γ : Type} (φ : α → γ) {f : α → β → α} (hf : ∀ a b, φ (f a b) = φ a) (l : List β) (a : α) :
    φ (l.foldl f a) = φ a := by
  induction l generalizing a with
  | nil => rfl
  | cons b l ih => rw [List.foldl_cons, ih, hf]

theorem Dev.ChangesOnly.foldl {β : Type} {ps : List Part} {f : Dev → β → Dev} (hf : ∀ (d : Dev) (b : β), d.ChangesOnly (f d b) ps)
    (l : List β) (d : Dev) : d.ChangesOnly (l.foldl f d) ps := by
  induction l generalizing d with
  | nil => exact .refl d ps
  | cons b l ih => exact (hf d b).trans (ih _)

theorem Dev.put_changesOnly (d : Dev) (r : Reg) (w : Word) (i j : Nat) : d.ChangesOnly (d.put r w i j) [.regs] := by
  intro p hp
  cases p <;> simp_all [Dev.Agrees]

theorem Dev.set_changesOnly (d : Dev) (f : Fld) (v i j : Nat) : d.ChangesOnly (d.set f v i j) [.regs] :=
  d.put_changesOnly _ _ _ _

@[simp] theorem Dev.set_fe (d : Dev) (f : Fld) (v i j : Nat) : (d.set f v i j).fe = d.fe := d.put_fe _ _ i j

@[simp] theorem Dev.set_tbl (d : Dev) (f : Fld) (v i j : Nat) : (d.set f v i j).tbl = d.tbl := d.put_tbl _ _ i j

theorem Dev.flag_changesOnly (d : Dev) (f : Fld) (b : Bool) (i j : Nat) : d.ChangesOnly (d.flag f b i j) [.regs] :=
  d.put_changesOnly _ _ _ _

theorem Dev.putNum_changesOnly (d : Dev) (r : Reg) (v i j : Nat) : d.ChangesOnly (d.putNum r v i j) [.regs] :=
  d.put_changesOnly _ _ _ _

theorem Dev.bump_changesOnly (d : Dev) (r : Reg) (i j n : Nat) : d.ChangesOnly (d.bump r i j n) [.regs] :=
  d.put_changesOnly _ _ _ _

theorem Dev.raise_changesOnly (d : Dev) (e : Ev) (i : Nat) : d.ChangesOnly (d.raise e i) [.regs, .evt] := by
  intro p hp
  cases p <;> simp_all [Dev.Agrees]

theorem Dev.count_changesOnly (d : Dev) (u code : Nat) (e : Seen) : d.ChangesOnly (d.count u code e) [.regs, .mon, .evt] := by
  intro p hp
  cases p <;> simp_all [Dev.Agrees]

theorem Dev.advance_changesOnly (d : Dev) (t : Nat) : d.ChangesOnly (d.advance t) [.tim] := by
  intro p hp
  cases p <;> simp_all [Dev.Agrees]

theorem Dev.setEntry_changesOnly (d : Dev) (sel idx : Nat) (ws : List Nat) : d.ChangesOnly (d.setEntry sel idx ws) [.tbl] := by
  intro p hp
  cases p <;> simp_all [Dev.Agrees, Dev.setEntry]

theorem Dev.dropEntries_changesOnly (d : Dev) (q : Nat → Nat → Bool) : d.ChangesOnly (d.dropEntries q) [.tbl] := by
  intro p hp
  cases p <;> simp_all [Dev.Agrees, Dev.dropEntries]

theorem Dev.setFe_changesOnly (d : Dev) (x : FeSt) : d.ChangesOnly { d with fe := x } [.fe] := by
  intro p hp
  cases p <;> simp_all [Dev.Agrees]

/-! Fields read after a field was written. -/

/-- Operations that write no register keep every field. -/
theorem Dev.ChangesOnly.get {d d' : Dev} {ps : List Part} (h : d.ChangesOnly d' ps) (hr : Part.regs ∉ ps) (f : Fld)
    (i j : Nat) : d'.get f i j = d.get f i j := Dev.get_congr (Dev.word_congr f.reg i j (h .regs hr))

theorem Dev.get_set_apart (d : Dev) (f g : Fld) (v i j i' j' : Nat) (h : f.reg.apart g.reg = true) :
    (d.set f v i j).get g i' j' = d.get g i' j' := Dev.get_congr (d.set_word_apart f v i j i' j' h)

theorem Dev.get_flag_apart (d : Dev) (f g : Fld) (b : Bool) (i j i' j' : Nat) (h : f.reg.apart g.reg = true) :
    (d.flag f b i j).get g i' j' = d.get g i' j' := Dev.get_congr (d.flag_word_apart f b i j i' j' h)

theorem Dev.get_putNum_apart (d : Dev) (r : Reg) (g : Fld) (v i j i' j' : Nat) (h : r.apart g.reg = true) :
    (d.putNum r v i j).get g i' j' = d.get g i' j' := Dev.get_congr (d.putNum_word_apart v i j i' j' h)

theorem Dev.get_raise_apart (d : Dev) (e : Ev) (g : Fld) (k i j : Nat) (h : e.reg.apart g.reg = true) :
    (d.raise e k).get g i j = d.get g i j := Dev.get_congr (d.raise_word_apart e k i j h)

/-- A field of a word written as a number. -/
theorem Dev.get_putNum_self (d : Dev) (f : Fld) (v i j : Nat) (hij : i < f.reg.n1 ∧ j < f.reg.n2) :
    (d.putNum f.reg v i j).get f i j = getBits (BitVec.ofNat 32 v) f.hi f.lo := by
  rw [Dev.get, Dev.putNum, Dev.word_put_self _ _ _ _ _ hij]

/-- A field's value fits its width. -/
theorem Dev.get_lt (d : Dev) (f : Fld) (i j : Nat) : d.get f i j < 2 ^ (f.hi + 1 - f.lo) := getBits_lt ..

/-- A counter bumped counts one more, up to its highest value. -/
theorem Dev.num_bump_self (d : Dev) (r : Reg) (i j n : Nat) (hij : i < r.n1 ∧ j < r.n2) :
    (d.bump r i j n).num r i j = min 0xFFFFFFFF (d.num r i j + n) := by
  rw [Dev.bump, Dev.num, Dev.putNum, Dev.word_put_self _ _ _ _ _ hij, BitVec.toNat_ofNat]
  exact Nat.mod_eq_of_lt (by omega)

/-! Commands that stand for an access of the active core. -/

/-- A command of the active core runs on the module as its access leaves it. -/
theorem completes_of_coreAccess {c : Instr} {s : State} {a : Nat} {w : Bool} {f : Dev → Dev} {Q : Dev → Prop}
    (h : exec c s = .next (s.run fun d => d.coreAccess a w f)) (hq : ∀ d, s.dev.AccessedAs d → Q (f d).pins) :
    Completes c s Q := by
  obtain ⟨d, hd, he⟩ := Dev.coreAccess_as s.dev a w f
  exact completes_of_run h (he ▸ hq d hd)

end Sys2Proof.Machine
end

section
/-! PROOFS. Window tables: entries read after tables were dropped, written and copied (R71, R80). -/

namespace Sys2Proof

/-- A read of a table from which indices were dropped. -/
theorem SMap.get_filter {α : Type} (z : α) (m : SMap α) (q : Nat → Bool) (k : Nat) :
    SMap.get z (m.filter fun e => q e.1) k = if q k then SMap.get z m k else z := by
  induction m with
  | nil => simp [SMap.get]
  | cons e m ih =>
    obtain ⟨a, v⟩ := e
    by_cases hk : k = a
    · subst hk
      by_cases hq : q k = true
      · simp [hq, SMap.get]
      · simp [hq, ih]
    · by_cases hq : q a = true
      · simp [hq, SMap.get, hk, ih]
      · simp [hq, SMap.get, hk, ih]

/-- Indices in rising order lie above the lower bound and differ pairwise. -/
theorem SMap.pairwise_of_rising {α : Type} (m : SMap α) (lo : Nat) (h : SMap.risingFrom lo m = true) :
    (∀ e ∈ m, lo ≤ e.1) ∧ m.Pairwise (fun a b => a.1 < b.1) := by
  induction m generalizing lo with
  | nil => simp
  | cons e m ih =>
    obtain ⟨a, v⟩ := e
    simp only [SMap.risingFrom, Bool.and_eq_true, decide_eq_true_eq] at h
    obtain ⟨hlo, hm⟩ := ih (a + 1) h.2
    have hhead : ∀ b ∈ m, a < b.1 := fun b hb => hlo b hb
    refine ⟨?_, List.pairwise_cons.2 ⟨hhead, hm⟩⟩
    rintro b (_ | ⟨_, hb⟩)
    · exact h.1
    · exact h.1.trans (hhead b hb).le

/-- Dropping indices keeps the order. -/
theorem SMap.filter_rising {α : Type} (m : SMap α) (q : Nat × α → Bool) (lo : Nat) (h : SMap.risingFrom lo m = true) :
    SMap.risingFrom lo (m.filter q) = true := by
  induction m generalizing lo with
  | nil => rfl
  | cons e m ih =>
    obtain ⟨a, v⟩ := e
    simp only [SMap.risingFrom, Bool.and_eq_true, decide_eq_true_eq] at h
    rw [List.filter_cons]
    split
    · simp only [SMap.risingFrom, Bool.and_eq_true, decide_eq_true_eq]
      exact ⟨h.1, ih (a + 1) h.2⟩
    · exact ih lo (SMap.risingFrom_mono m (by omega) h.2)

/-- Dropping indices keeps the canonical form. -/
theorem SMap.filter_wf {α : Type} [DecidableEq α] (z : α) (m : SMap α) (q : Nat × α → Bool) (h : SMap.wf z m = true) :
    SMap.wf z (m.filter q) = true := by
  simp only [SMap.wf, Bool.and_eq_true, List.all_eq_true] at h ⊢
  exact ⟨SMap.filter_rising m q 0 h.1, fun e he => h.2 e (List.mem_filter.1 he).1⟩

/-- An index that a filter drops may be erased unseen. -/
theorem SMap.filter_erase {α : Type} (m : SMap α) (k : Nat) (q : Nat → Bool) (hq : q k = false) :
    (SMap.erase m k).filter (fun e => q e.1) = m.filter fun e => q e.1 := by
  induction m with
  | nil => rfl
  | cons e m ih =>
    by_cases hk : k = e.1
    · rw [SMap.erase, if_pos hk, ih, List.filter_cons_of_neg (by simp [← hk, hq])]
    · rw [SMap.erase, if_neg hk, List.filter_cons, List.filter_cons, ih]

/-- It may be put in unseen. -/
theorem SMap.filter_ins {α : Type} (m : SMap α) (k : Nat) (v : α) (q : Nat → Bool) (hq : q k = false) :
    (SMap.ins m k v).filter (fun e => q e.1) = m.filter fun e => q e.1 := by
  induction m with
  | nil => simp [SMap.ins, hq]
  | cons e m ih =>
    rw [SMap.ins]
    split
    · rw [List.filter_cons_of_neg (by simp [hq])]
    · rw [List.filter_cons, List.filter_cons, ih]

/-- So it may be written unseen. -/
theorem SMap.filter_set {α : Type} [DecidableEq α] (z : α) (m : SMap α) (k : Nat) (v : α) (q : Nat → Bool) (hq : q k = false) :
    (SMap.set z m k v).filter (fun e => q e.1) = m.filter fun e => q e.1 := by
  unfold SMap.set
  split
  · exact SMap.filter_erase m k q hq
  · rw [SMap.filter_ins _ k v q hq, SMap.filter_erase m k q hq]

end Sys2Proof

namespace Sys2Proof.Machine

/-- The table and the index of an entry's home. -/
theorem tblKey_div (sel i : Nat) (hi : i < 2 ^ 32) : tblKey sel i / 2 ^ 32 = sel := by unfold tblKey; omega

theorem tblKey_mod (sel i : Nat) (hi : i < 2 ^ 32) : tblKey sel i % 2 ^ 32 = i := by unfold tblKey; omega

theorem tblKey_inj {sel i a : Nat} : tblKey sel i = tblKey sel a ↔ i = a := Nat.add_left_cancel_iff

theorem Dev.entry_setEntry (d : Dev) (sel idx sel' i : Nat) (ws : List Nat) :
    (d.setEntry sel idx ws).entry sel' i = if tblKey sel' i = tblKey sel idx then trimWords ws else d.entry sel' i :=
  SMap.get_set ..

theorem Dev.entry_dropEntries (d : Dev) (p : Nat → Nat → Bool) (sel i : Nat) (hi : i < 2 ^ 32) :
    (d.dropEntries p).entry sel i = if p sel i then [] else d.entry sel i := by
  have h := SMap.get_filter [] d.tbl (fun k => !p (k / 2 ^ 32) (k % 2 ^ 32)) (tblKey sel i)
  rw [tblKey_div sel i hi, tblKey_mod sel i hi] at h
  exact h.trans (by cases p sel i <;> rfl)

/-- The list of a table's entries is itself a table. -/
theorem Dev.get_entries (d : Dev) (sel i : Nat) (hi : i < 2 ^ 32) : SMap.get [] (d.entries sel) i = d.entry sel i := by
  unfold Dev.entries Dev.entry
  induction d.tbl with
  | nil => rfl
  | cons e m ih =>
    obtain ⟨a, v⟩ := e
    by_cases ha : a / 2 ^ 32 = sel
    · have hiff : i = a % 2 ^ 32 ↔ tblKey sel i = a := by unfold tblKey; omega
      simp only [List.filter_cons, ha, decide_true, if_true, List.map_cons, SMap.get, ih, hiff]
    · have hne : tblKey sel i ≠ a := fun h => ha (h ▸ tblKey_div sel i hi)
      simp only [List.filter_cons, ha, decide_false, Bool.false_eq_true, if_false, SMap.get, ih, hne]

theorem Dev.entries_lt (d : Dev) (sel : Nat) : ∀ e ∈ d.entries sel, e.1 < 2 ^ 32 := by
  intro e he
  obtain ⟨x, -, rfl⟩ := List.mem_map.1 he
  exact Nat.mod_lt _ (by decide)

theorem Dev.entries_pairwise (d : Dev) (sel : Nat) (h : SMap.wf [] d.tbl = true) :
    (d.entries sel).Pairwise fun a b => a.1 ≠ b.1 := by
  have hr := (SMap.pairwise_of_rising d.tbl 0 (Bool.and_eq_true_iff.1 h).1).2
  unfold Dev.entries
  rw [List.pairwise_map]
  refine (List.Pairwise.filter _ hr).imp_of_mem fun {a b} ha hb hab => ?_
  have ha := of_decide_eq_true (List.mem_filter.1 ha).2
  have hb := of_decide_eq_true (List.mem_filter.1 hb).2
  dsimp only
  omega

/-! Tables copied entry by entry (R80). -/

/-- Entries written elsewhere leave an entry as it was. -/
theorem Dev.entry_foldl_setEntry_other (l : List (Nat × List Nat)) (d : Dev) (sel sel' i : Nat)
    (h : ∀ e ∈ l, tblKey sel' i ≠ tblKey sel e.1) :
    (l.foldl (fun d e => d.setEntry sel e.1 e.2) d).entry sel' i = d.entry sel' i := by
  induction l generalizing d with
  | nil => rfl
  | cons e l ih =>
    rw [List.foldl_cons, ih _ fun x hx => h x (List.mem_cons_of_mem _ hx), Dev.entry_setEntry,
      if_neg (h e List.mem_cons_self)]

/-- Entries written at indices that differ into an empty table: each reads as it was written. -/
theorem Dev.entry_foldl_setEntry (l : SMap (List Nat)) (d : Dev) (sel i : Nat) (hne : l.Pairwise fun a b => a.1 ≠ b.1)
    (h0 : d.entry sel i = []) :
    (l.foldl (fun d e => d.setEntry sel e.1 e.2) d).entry sel i = trimWords (SMap.get [] l i) := by
  induction l generalizing d with
  | nil => exact h0
  | cons e l ih =>
    obtain ⟨a, v⟩ := e
    obtain ⟨ha, hl⟩ := List.pairwise_cons.1 hne
    rw [List.foldl_cons]
    by_cases hi : i = a
    · subst hi
      rw [Dev.entry_foldl_setEntry_other l _ sel sel i fun x hx hk => ha x hx (tblKey_inj.1 hk),
        Dev.entry_setEntry, if_pos rfl, SMap.get, if_pos rfl]
    · rw [ih _ hl (by rw [Dev.entry_setEntry, if_neg fun hk => hi (tblKey_inj.1 hk), h0]), SMap.get, if_neg hi]

/-- Front end `s`'s table copied into front end `n`'s. -/
def Dev.copyTable (n s : Nat) (d : Dev) (sel : Nat) : Dev :=
  (d.entries (feSel sel s)).foldl (fun d e => d.setEntry (feSel sel n) e.1 e.2) d

theorem Dev.copyTable_wf (n s : Nat) (d : Dev) (sel : Nat) (h : SMap.wf [] d.tbl = true) :
    SMap.wf [] (d.copyTable n s sel).tbl = true := by
  unfold Dev.copyTable
  induction d.entries (feSel sel s) generalizing d with
  | nil => exact h
  | cons e l ih => exact ih _ (SMap.set_wf [] _ _ _ h)

theorem Dev.entry_copyTable_other (n s : Nat) (d : Dev) (sel sel' i : Nat) (hs : sel' ≠ feSel sel n) (hi : i < 2 ^ 32) :
    (d.copyTable n s sel).entry sel' i = d.entry sel' i := by
  refine Dev.entry_foldl_setEntry_other _ d _ sel' i fun e he hk => hs ?_
  rw [← tblKey_div sel' i hi, hk, tblKey_div _ _ (d.entries_lt _ e he)]

theorem Dev.entry_copyTable (n s : Nat) (d : Dev) (sel i : Nat) (h : SMap.wf [] d.tbl = true) (hi : i < 2 ^ 32)
    (h0 : d.entry (feSel sel n) i = []) : (d.copyTable n s sel).entry (feSel sel n) i = trimWords (d.entry (feSel sel s) i) := by
  rw [Dev.copyTable, Dev.entry_foldl_setEntry _ d _ i (d.entries_pairwise _ h) h0, Dev.get_entries d _ i hi]

theorem feSel_div (sel n : Nat) (h : sel < 2 ^ 16) : feSel sel n / 2 ^ 16 = n := by unfold feSel; omega

theorem feSel_mod (sel n : Nat) (h : sel < 2 ^ 16) : feSel sel n % 2 ^ 16 = sel := by unfold feSel; omega

/-- Tables differ where they are another front end's, or another table of the same front end. -/
theorem feSel_ne {sel sel' n n' : Nat} (hs : sel < 2 ^ 16) (hs' : sel' < 2 ^ 16) (h : sel ≠ sel' ∨ n ≠ n') :
    feSel sel n ≠ feSel sel' n' := by
  unfold feSel
  omega

/-- Other tables of front end `n` keep their entries while some are copied. -/
theorem Dev.entry_copyTables_other (n s : Nat) (sels : List Nat) (hlt : ∀ x ∈ sels, x < 2 ^ 16) (sel i : Nat)
    (hs : sel < 2 ^ 16) (hn : sel ∉ sels) (hi : i < 2 ^ 32) (d : Dev) :
    (sels.foldl (Dev.copyTable n s) d).entry (feSel sel n) i = d.entry (feSel sel n) i := by
  induction sels generalizing d with
  | nil => rfl
  | cons x l ih =>
    simp only [List.mem_cons, not_or] at hn
    rw [List.foldl_cons, ih (fun y hy => hlt y (List.mem_cons_of_mem _ hy)) hn.2,
      Dev.entry_copyTable_other n s d x _ i (feSel_ne hs (hlt x List.mem_cons_self) (.inl hn.1)) hi]

/-- Several tables of front end `s` copied into the emptied tables of front end `n`. -/
theorem Dev.entry_copyTables (n s : Nat) (hns : s ≠ n) (sels : List Nat) (hnd : sels.Nodup) (hlt : ∀ x ∈ sels, x < 2 ^ 16)
    (i : Nat) (hi : i < 2 ^ 32) (d : Dev) (h : SMap.wf [] d.tbl = true) (h0 : ∀ x ∈ sels, d.entry (feSel x n) i = [])
    (sel : Nat) (hsel : sel ∈ sels) :
    (sels.foldl (Dev.copyTable n s) d).entry (feSel sel n) i = trimWords (d.entry (feSel sel s) i) := by
  induction sels generalizing d with
  | nil => simp at hsel
  | cons x l ih =>
    obtain ⟨hx, hnd⟩ := List.nodup_cons.1 hnd
    have hxlt := hlt x List.mem_cons_self
    have hllt : ∀ y ∈ l, y < 2 ^ 16 := fun y hy => hlt y (List.mem_cons_of_mem _ hy)
    rw [List.foldl_cons]
    rcases List.mem_cons.1 hsel with rfl | hsl
    · rw [Dev.entry_copyTables_other n s l hllt sel i hxlt hx hi,
        Dev.entry_copyTable n s d sel i h hi (h0 sel List.mem_cons_self)]
    · rw [ih hnd hllt _ (Dev.copyTable_wf n s d x h) _ hsl,
        Dev.entry_copyTable_other n s d x _ i (feSel_ne (hllt sel hsl) hxlt (.inr hns)) hi]
      intro y hy
      rw [Dev.entry_copyTable_other n s d x _ i (feSel_ne (hllt y hy) hxlt (.inl fun he => hx (he ▸ hy))) hi]
      exact h0 y (List.mem_cons_of_mem _ hy)

end Sys2Proof.Machine
end

section
/-! PROOFS. Rule versions of the client front ends (R69, R72-R80): what the operations on the version registers show and leave
unchanged, and what each command does where its checks hold. -/

namespace Sys2Proof.Machine

/-! What an access leaves of the version state. -/

theorem Dev.AccessedAs.fe {d d' : Dev} (h : d.AccessedAs d') : d'.fe = d.fe := h.parts .fe (by decide)

theorem Dev.AccessedAs.staged {d d' : Dev} (h : d.AccessedAs d') : d'.staged = d.staged := h.on _ _ _ (by decide)

theorem Dev.AccessedAs.stagedClosed {d d' : Dev} (h : d.AccessedAs d') : d'.stagedClosed = d.stagedClosed := by
  rw [Dev.stagedClosed, Dev.stagedClosed, h.staged, h.on _ _ _ (by decide)]

theorem Dev.AccessedAs.feBusy {d d' : Dev} (h : d.AccessedAs d') : d'.feBusy = d.feBusy := by
  simp only [Dev.feBusy, h.fe, h.on F.FE_STATUS_RESYNC_BUSY _ _ (by decide)]

theorem Dev.AccessedAs.thyPending {d d' : Dev} (h : d.AccessedAs d') (action : Nat) :
    d'.thyPending action = d.thyPending action := by
  rw [Dev.thyPending, Dev.thyPending, h.parts .thy (by decide)]

/-! FE_VER_CMD_STATUS (R85). -/

theorem Dev.verStatus_changesOnly (d : Dev) (st op reason v : Nat) : d.ChangesOnly (d.verStatus st op reason v) [.regs] :=
  (((d.set_changesOnly _ _ _ _).trans (Dev.set_changesOnly _ _ _ _ _)).trans (Dev.set_changesOnly _ _ _ _ _)).trans
    (Dev.set_changesOnly _ _ _ _ _)

@[simp] theorem Dev.verStatus_fe (d : Dev) (st op reason v : Nat) : (d.verStatus st op reason v).fe = d.fe :=
  d.verStatus_changesOnly st op reason v .fe (by decide)

theorem Dev.verStatus_get_apart (d : Dev) (st op reason v : Nat) (f : Fld) (i j : Nat)
    (h : R.FE_VER_CMD_STATUS.apart f.reg = true) : (d.verStatus st op reason v).get f i j = d.get f i j := by
  rw [Dev.verStatus, Dev.get_set_apart _ F.FE_VER_CMD_STATUS_VERSION f _ _ _ i j h,
    Dev.get_set_apart _ F.FE_VER_CMD_STATUS_REASON f _ _ _ i j h, Dev.get_set_apart _ F.FE_VER_CMD_STATUS_OP f _ _ _ i j h,
    Dev.get_set_apart _ F.FE_VER_CMD_STATUS_STATE f _ _ _ i j h]

@[simp] theorem Dev.verStatus_state (d : Dev) (st op reason v : Nat) :
    (d.verStatus st op reason v).get F.FE_VER_CMD_STATUS_STATE = st % 4 := by
  rw [Dev.verStatus, Dev.get_set_field _ _ _ _ _ _ (by rfl) (by decide) (by decide),
    Dev.get_set_field _ _ _ _ _ _ (by rfl) (by decide) (by decide), Dev.get_set_field _ _ _ _ _ _ (by rfl) (by decide) (by decide),
    Dev.get_set_self _ _ _ _ _ (by decide) (by decide)]
  rfl

@[simp] theorem Dev.verStatus_op (d : Dev) (st op reason v : Nat) :
    (d.verStatus st op reason v).get F.FE_VER_CMD_STATUS_OP = op % 16 := by
  rw [Dev.verStatus, Dev.get_set_field _ _ _ _ _ _ (by rfl) (by decide) (by decide),
    Dev.get_set_field _ _ _ _ _ _ (by rfl) (by decide) (by decide), Dev.get_set_self _ _ _ _ _ (by decide) (by decide)]
  rfl

@[simp] theorem Dev.verStatus_reason (d : Dev) (st op reason v : Nat) :
    (d.verStatus st op reason v).get F.FE_VER_CMD_STATUS_REASON = reason % 256 := by
  rw [Dev.verStatus, Dev.get_set_field _ _ _ _ _ _ (by rfl) (by decide) (by decide),
    Dev.get_set_self _ _ _ _ _ (by decide) (by decide)]
  rfl

/-! STAGE_BUSY, FE_LIVE_TAGS and the staged version's register. -/

theorem Dev.stageBusy_changesOnly (d : Dev) (b : Bool) : d.ChangesOnly (d.stageBusy b) [.regs] := by
  refine Dev.ChangesOnly.foldl (fun d n => ?_) _ d
  split
  · exact .refl d _
  · exact d.flag_changesOnly _ _ _ _

@[simp] theorem Dev.stageBusy_fe (d : Dev) (b : Bool) : (d.stageBusy b).fe = d.fe :=
  d.stageBusy_changesOnly b .fe (by decide)

theorem Dev.stageBusy_get_apart (d : Dev) (b : Bool) (f : Fld) (i j : Nat) (h : R.FE_STATUS.apart f.reg = true) :
    (d.stageBusy b).get f i j = d.get f i j := by
  refine foldl_keeps (fun d : Dev => d.get f i j) (fun d n => ?_) _ d
  split
  · rfl
  · exact d.get_flag_apart F.FE_STATUS_STAGE_BUSY f b n 0 i j h

theorem Dev.showTags_changesOnly (d : Dev) : d.ChangesOnly d.showTags [.regs] := d.set_changesOnly _ _ _ _

@[simp] theorem Dev.showTags_fe (d : Dev) : d.showTags.fe = d.fe := d.showTags_changesOnly .fe (by decide)

theorem Dev.showTags_get_apart (d : Dev) (f : Fld) (i j : Nat) (h : R.FE_LIVE_TAGS.apart f.reg = true) :
    d.showTags.get f i j = d.get f i j := d.get_set_apart _ _ _ _ _ _ _ h

theorem Dev.dropStaged_changesOnly (d : Dev) : d.ChangesOnly d.dropStaged [.regs] :=
  (d.putNum_changesOnly _ _ _ _).trans (Dev.showTags_changesOnly _)

theorem Dev.dropStaged_get_apart (d : Dev) (f : Fld) (i j : Nat) (hs : R.FE_VER_STAGED.apart f.reg = true)
    (ht : R.FE_LIVE_TAGS.apart f.reg = true) : d.dropStaged.get f i j = d.get f i j := by
  rw [Dev.dropStaged, Dev.showTags_get_apart _ _ _ _ ht, Dev.get_putNum_apart _ _ _ _ _ _ _ _ hs]

/-- No version is staged once the staged version is dropped. -/
theorem Dev.dropStaged_valid (d : Dev) : d.dropStaged.get F.FE_VER_STAGED_VALID = 0 := by
  rw [Dev.dropStaged, Dev.showTags_get_apart _ _ _ _ (by decide)]
  exact (d.get_putNum_self F.FE_VER_STAGED_VALID 0 0 0 (by decide)).trans (by decide)

/-! The tags in use (R69). -/

/-- A tag shown live is that of the current, the draining or the staged version. -/
theorem Dev.bit_liveTags (d : Dev) (t : Nat) (h : bit d.liveTags t = true) :
    (d.get F.FE_VER_CURRENT_VERSION ≠ 0 ∧ t = d.get F.FE_VER_CURRENT_TAG) ∨
      (d.on F.FE_VER_DRAINING_VALID = true ∧ t = d.get F.FE_VER_DRAINING_TAG) ∨
      (d.staged = true ∧ t = d.get F.FE_VER_STAGED_TAG) := by
  have htag {n : Nat} (hn : (2 ^ n).testBit t = true) : t = n := by
    rw [Nat.testBit_two_pow, decide_eq_true_eq] at hn
    exact hn.symm
  simp only [bit, Dev.liveTags, Nat.testBit_or, Bool.or_eq_true] at h
  rcases h with (h | h) | h <;> split at h
  · simp at h
  · next hc => exact .inl ⟨hc, htag h⟩
  · next hv => exact .inr (.inl ⟨hv, htag h⟩)
  · simp at h
  · next hv => exact .inr (.inr ⟨hv, htag h⟩)
  · simp at h

/-- Dropping the staged version leaves live the tags of the current and the draining version alone (R78). -/
theorem Dev.dropStaged_live (d : Dev) (t : Nat) (h : bit (d.dropStaged.get F.FE_LIVE_TAGS_LIVE) t = true) :
    (d.get F.FE_VER_CURRENT_VERSION ≠ 0 ∧ t = d.get F.FE_VER_CURRENT_TAG) ∨
      (d.on F.FE_VER_DRAINING_VALID = true ∧ t = d.get F.FE_VER_DRAINING_TAG) := by
  have hkeep (f : Fld) (hf : R.FE_VER_STAGED.apart f.reg = true) : (d.putNum R.FE_VER_STAGED 0).get f = d.get f :=
    d.get_putNum_apart _ f _ _ _ _ _ hf
  have hnone : (d.putNum R.FE_VER_STAGED 0).staged = false := by
    have := d.get_putNum_self F.FE_VER_STAGED_VALID 0 0 0 (by decide)
    simp [Dev.staged, Dev.on, show (d.putNum R.FE_VER_STAGED 0).get F.FE_VER_STAGED_VALID = 0 from this.trans (by decide)]
  rw [Dev.dropStaged, Dev.showTags, Dev.get_set_self _ _ _ _ _ (by decide) (by decide), bit, Nat.testBit_mod_two_pow] at h
  have hl := Dev.bit_liveTags _ t (Bool.and_eq_true_iff.1 h).2
  simpa [hnone, Dev.on, hkeep F.FE_VER_CURRENT_VERSION (by decide), hkeep F.FE_VER_CURRENT_TAG (by decide),
    hkeep F.FE_VER_DRAINING_VALID (by decide), hkeep F.FE_VER_DRAINING_TAG (by decide)] using hl


/-- The module with pass `k` running: 0 none, 1 OPEN, 2 CLOSE (R72, R73). -/
def Dev.setPass (d : Dev) (k : Nat) : Dev := { d with fe := { d.fe with pass := k } }

theorem Dev.setPass_changesOnly (d : Dev) (k : Nat) : d.ChangesOnly (d.setPass k) [.fe] := d.setFe_changesOnly _

@[simp] theorem Dev.setPass_pass (d : Dev) (k : Nat) : (d.setPass k).fe.pass = k := rfl

@[simp] theorem Dev.setPass_get (d : Dev) (k : Nat) (f : Fld) (i j : Nat) : (d.setPass k).get f i j = d.get f i j :=
  (d.setPass_changesOnly k).get (by decide) f i j

/-! OPEN and its pass (R72). -/

/-- The module with version `v` staged under its tag, open to writes (R69, R72). -/
def Dev.stageAs (d : Dev) (v : Nat) : Dev :=
  (((d.set F.FE_VER_STAGED_VALID 1).set F.FE_VER_STAGED_CLOSED 0).set F.FE_VER_STAGED_TAG (v % 4)).set
    F.FE_VER_STAGED_VERSION v

theorem Dev.stageAs_changesOnly (d : Dev) (v : Nat) : d.ChangesOnly (d.stageAs v) [.regs] :=
  (((d.set_changesOnly _ _ _ _).trans (Dev.set_changesOnly _ _ _ _ _)).trans (Dev.set_changesOnly _ _ _ _ _)).trans
    (Dev.set_changesOnly _ _ _ _ _)

theorem Dev.stageAs_get_apart (d : Dev) (v : Nat) (f : Fld) (i j : Nat) (h : R.FE_VER_STAGED.apart f.reg = true) :
    (d.stageAs v).get f i j = d.get f i j := by
  rw [Dev.stageAs, Dev.get_set_apart _ F.FE_VER_STAGED_VERSION f _ _ _ i j h,
    Dev.get_set_apart _ F.FE_VER_STAGED_TAG f _ _ _ i j h, Dev.get_set_apart _ F.FE_VER_STAGED_CLOSED f _ _ _ i j h,
    Dev.get_set_apart _ F.FE_VER_STAGED_VALID f _ _ _ i j h]

@[simp] theorem Dev.stageAs_valid (d : Dev) (v : Nat) : (d.stageAs v).get F.FE_VER_STAGED_VALID = 1 := by
  rw [Dev.stageAs, Dev.get_set_field _ _ _ _ _ _ (by rfl) (by decide) (by decide),
    Dev.get_set_field _ _ _ _ _ _ (by rfl) (by decide) (by decide),
    Dev.get_set_field _ _ _ _ _ _ (by rfl) (by decide) (by decide), Dev.get_set_self _ _ _ _ _ (by decide) (by decide)]
  rfl

@[simp] theorem Dev.stageAs_closed (d : Dev) (v : Nat) : (d.stageAs v).get F.FE_VER_STAGED_CLOSED = 0 := by
  rw [Dev.stageAs, Dev.get_set_field _ _ _ _ _ _ (by rfl) (by decide) (by decide),
    Dev.get_set_field _ _ _ _ _ _ (by rfl) (by decide) (by decide), Dev.get_set_self _ _ _ _ _ (by decide) (by decide)]
  rfl

@[simp] theorem Dev.stageAs_tag (d : Dev) (v : Nat) : (d.stageAs v).get F.FE_VER_STAGED_TAG = v % 4 := by
  rw [Dev.stageAs, Dev.get_set_field _ _ _ _ _ _ (by rfl) (by decide) (by decide),
    Dev.get_set_self _ _ _ _ _ (by decide) (by decide)]
  exact Nat.mod_mod v 4

@[simp] theorem Dev.stageAs_version (d : Dev) (v : Nat) : (d.stageAs v).get F.FE_VER_STAGED_VERSION = v % 2 ^ 16 := by
  rw [Dev.stageAs, Dev.get_set_self _ _ _ _ _ (by decide) (by decide)]
  rfl

/-- OPEN where no version is staged or draining and the number is the next one. -/
theorem doOpenVersion_eq_stageAs (d : Dev) (version : Nat) (hb : d.feBusy = false) (hs : d.staged = false)
    (hd : d.on F.FE_VER_DRAINING_VALID = false) (h0 : version % 2 ^ 16 ≠ 0)
    (hn : d.get F.FE_VER_CURRENT_VERSION = 0 ∨
      version % 2 ^ 16 = (if d.get F.FE_VER_CURRENT_VERSION = 0xFFFF then 1 else d.get F.FE_VER_CURRENT_VERSION + 1)) :
    doOpenVersion version d =
      ((((d.verStatus 1 1 0 (version % 2 ^ 16)).stageBusy true).stageAs (version % 2 ^ 16)).showTags).setPass 1 := by
  have hv : ¬(version % 2 ^ 16 = 0 ∨ (d.get F.FE_VER_CURRENT_VERSION ≠ 0 ∧ version % 2 ^ 16 ≠
      (if d.get F.FE_VER_CURRENT_VERSION = 0xFFFF then 1 else d.get F.FE_VER_CURRENT_VERSION + 1))) := by
    rintro (h | ⟨hc, hne⟩)
    · exact h0 h
    · exact hn.elim hc hne
  simp only [doOpenVersion, hb, hs, hd, if_neg hv, Bool.false_eq_true, if_false]
  rfl

theorem doOpenVersion_of_staged (d : Dev) (version : Nat) (hb : d.feBusy = false) (hs : d.staged = true) :
    doOpenVersion version d = d.verStatus 3 1 2 (version % 2 ^ 16) := by
  simp only [doOpenVersion, hb, hs, Bool.false_eq_true, if_false, if_true]

/-- One round of a pass over a table's entries: the entry is rewritten or left alone. -/
theorem Dev.ite_setEntry_changesOnly (d : Dev) (q : Prop) [Decidable q] (sel idx : Nat) (ws : List Nat) :
    d.ChangesOnly (if q then d.setEntry sel idx ws else d) [.tbl] := by
  split
  · exact d.setEntry_changesOnly _ _ _
  · exact .refl d _

/-- A pass over the entries of several tables, each round of which writes table entries alone. -/
theorem Dev.tablePass_changesOnly (d : Dev) (sels : List Nat) (n : Nat) {f : Nat → Dev → Nat × List Nat → Dev}
    (hf : ∀ sel (d : Dev) e, d.ChangesOnly (f sel d e) [.tbl]) :
    d.ChangesOnly (sels.foldl (fun d sel => (d.entries (feSel sel n)).foldl (f sel) d) d) [.tbl] :=
  Dev.ChangesOnly.foldl (fun d sel => Dev.ChangesOnly.foldl (hf sel) _ d) sels d

theorem Dev.openPassFe_changesOnly (d : Dev) (n t : Nat) (c : Option Nat) : d.ChangesOnly (d.openPassFe n t c) [.tbl] := by
  unfold Dev.openPassFe
  cases c with
  | none =>
    refine .trans ?_ (Dev.dropEntries_changesOnly _ _)
    exact d.tablePass_changesOnly _ n fun sel d e => d.ite_setEntry_changesOnly _ _ _ _
  | some c =>
    refine .trans (.trans ?_ (Dev.dropEntries_changesOnly _ _))
      (Dev.tablePass_changesOnly _ _ n fun sel d e => d.ite_setEntry_changesOnly _ _ _ _)
    exact d.tablePass_changesOnly _ n fun sel d e => d.ite_setEntry_changesOnly _ _ _ _

theorem Dev.openPassSlice_changesOnly (d : Dev) (s t : Nat) (c : Option Nat) :
    d.ChangesOnly (d.openPassSlice s t c) [.tbl] := by
  have dropped := d.dropEntries_changesOnly (fun sel idx => sel = 0x20 + s && idx / 2 ^ 24 % 4 = t)
  cases c with
  | none => exact dropped
  | some c => exact dropped.trans (Dev.ChangesOnly.foldl (fun d e => d.ite_setEntry_changesOnly _ _ _ _) _ _)


/-- The OPEN pass rewrites tables, and then shows OPEN done. -/
theorem doOpenPassDone_of_pass (d : Dev) (h : d.fe.pass = 1) :
    ∃ e, d.ChangesOnly e [.tbl] ∧ doOpenPassDone d =
      ((e.stageBusy false).verStatus 2 1 0 (e.get F.FE_VER_STAGED_VERSION)).setPass 0 := by
  have fes := Dev.ChangesOnly.foldl (ps := [.tbl])
    (f := fun e n => if e.feUp n then e.openPassFe n (d.get F.FE_VER_STAGED_TAG) e.curTag else e)
    (fun e n => by
      split
      · exact e.openPassFe_changesOnly _ _ _
      · exact .refl e _) (List.range 4) d
  have slices := fes.trans (Dev.ChangesOnly.foldl
    (fun e s => e.openPassSlice_changesOnly s (d.get F.FE_VER_STAGED_TAG) e.curTag) (List.range 8) _)
  exact ⟨_, slices, by rw [doOpenPassDone, if_pos h]; rfl⟩

/-! CLOSE and its pass (R73). -/

theorem doCloseVersion_of_open (d : Dev) (hb : d.feBusy = false) (hs : d.staged = true) (hc : d.stagedClosed = false) :
    doCloseVersion d = ((d.verStatus 1 2 0 (d.get F.FE_VER_STAGED_VERSION)).stageBusy true).setPass 2 := by
  simp only [doCloseVersion, hb, hs, hc, Bool.not_true, Bool.false_eq_true, if_false]
  rfl

/-- Validation reads the tables alone. -/
theorem Dev.stagedOk_congr {d d' : Dev} (h : d'.tbl = d.tbl) (n t : Nat) : d'.stagedOk n t = d.stagedOk n t := by
  change Dev.stagedOk { tbl := d'.tbl } n t = Dev.stagedOk { tbl := d.tbl } n t
  rw [h]

/-- So does the digest. -/
theorem Dev.stagedDigest_congr {d d' : Dev} (h : d'.tbl = d.tbl) (n t : Nat) :
    d'.stagedDigest n t = d.stagedDigest n t := by
  change Dev.stagedDigest { tbl := d'.tbl } n t = Dev.stagedDigest { tbl := d.tbl } n t
  rw [h]

/-- FE_DIGEST and DIGEST_MISMATCH of the front ends that took part. -/
def Dev.showDigests (d : Dev) (ds : List (Nat × Nat)) (same : Bool) : Dev :=
  ds.foldl (fun d x => ((d.putNum R.FE_DIGEST_LO (x.2 % 2 ^ 32) x.1).putNum R.FE_DIGEST_HI (x.2 / 2 ^ 32) x.1).flag
    F.FE_STATUS_DIGEST_MISMATCH (!same) x.1) d

theorem Dev.showDigests_changesOnly (d : Dev) (ds : List (Nat × Nat)) (same : Bool) :
    d.ChangesOnly (d.showDigests ds same) [.regs] :=
  Dev.ChangesOnly.foldl (fun d _ => ((d.putNum_changesOnly _ _ _ _).trans (Dev.putNum_changesOnly _ _ _ _ _)).trans
    (Dev.flag_changesOnly _ _ _ _ _)) ds d

@[simp] theorem Dev.showDigests_fe (d : Dev) (ds : List (Nat × Nat)) (same : Bool) : (d.showDigests ds same).fe = d.fe :=
  d.showDigests_changesOnly ds same .fe (by decide)

theorem Dev.showDigests_get_staged (d : Dev) (ds : List (Nat × Nat)) (same : Bool) (f : Fld) (h : f.reg = R.FE_VER_STAGED) :
    (d.showDigests ds same).get f = d.get f := by
  refine foldl_keeps (fun d : Dev => d.get f) (fun d x => ?_) ds d
  rw [Dev.get_flag_apart _ _ _ _ _ _ _ _ (by rw [h]; decide), Dev.get_putNum_apart _ _ _ _ _ _ _ _ (by rw [h]; decide),
    Dev.get_putNum_apart _ _ _ _ _ _ _ _ (by rw [h]; decide)]

/-- The module as validation finds it: no pass runs (R73). -/
def Dev.passOver (d : Dev) : Dev := (d.stageBusy false).setPass 0

theorem Dev.passOver_changesOnly (d : Dev) : d.ChangesOnly d.passOver [.regs, .fe] :=
  .andThen (.andThen (.refl d _) (d.stageBusy_changesOnly false) (by decide)) (Dev.setPass_changesOnly _ 0) (by decide)

@[simp] theorem Dev.passOver_pass (d : Dev) : d.passOver.fe.pass = 0 := rfl

theorem Dev.passOver_get_apart (d : Dev) (f : Fld) (i j : Nat) (h : R.FE_STATUS.apart f.reg = true) :
    d.passOver.get f i j = d.get f i j := by
  rw [Dev.passOver, Dev.setPass_get, Dev.stageBusy_get_apart _ _ _ _ _ h]

theorem Dev.passOver_tbl (d : Dev) : d.passOver.tbl = d.tbl := d.passOver_changesOnly .tbl (by decide)

/-- The digests of some front ends (R73). -/
def Dev.digests (d : Dev) (ns : List Nat) (t : Nat) : List (Nat × Nat) := ns.map fun n => (n, d.stagedDigest n t)

/-- Are the digests all the same? -/
def sameDigest (ds : List (Nat × Nat)) : Bool := ds.all fun x => x.2 = (ds.headD (0, 0)).2

theorem sameDigest_digests (d : Dev) (ns : List Nat) (t : Nat)
    (h : ∀ n ∈ ns, ∀ m ∈ ns, d.stagedDigest n t = d.stagedDigest m t) : sameDigest (d.digests ns t) = true := by
  cases ns with
  | nil => rfl
  | cons m ns => simpa [sameDigest, Dev.digests] using fun n hn => h n (by simp [hn]) m (by simp)

/-- What the CLOSE pass finds and shows (R73). -/
theorem doClosePassDone_of_pass (d : Dev) (hp : d.fe.pass = 2) :
    doClosePassDone d =
      if d.feRunning = [] then d.passOver.verStatus 3 2 12 (d.get F.FE_VER_STAGED_VERSION)
      else if !d.feRunning.all (fun n => d.passOver.stagedOk n (d.get F.FE_VER_STAGED_TAG)) then
        d.passOver.verStatus 3 2 5 (d.get F.FE_VER_STAGED_VERSION)
      else
        let ds := d.passOver.digests d.feRunning (d.get F.FE_VER_STAGED_TAG)
        if sameDigest ds then
          ((d.passOver.showDigests ds (sameDigest ds)).set F.FE_VER_STAGED_CLOSED 1).verStatus 2 2 0
            (d.get F.FE_VER_STAGED_VERSION)
        else
          (ds.foldl (fun d x => d.raise E.FE_DIGEST_MISMATCH x.1) (d.passOver.showDigests ds (sameDigest ds))).verStatus 3 2 6
            (d.get F.FE_VER_STAGED_VERSION) := by
  rw [doClosePassDone, if_pos hp]
  rfl

/-- CLOSE of a version that is valid, with the same digest, in every front end that runs. -/
theorem doClosePassDone_of_valid (d : Dev) (hp : d.fe.pass = 2) (hne : d.feRunning ≠ [])
    (hok : ∀ n ∈ d.feRunning, d.stagedOk n (d.get F.FE_VER_STAGED_TAG) = true)
    (hdig : ∀ n ∈ d.feRunning, ∀ m ∈ d.feRunning,
      d.stagedDigest n (d.get F.FE_VER_STAGED_TAG) = d.stagedDigest m (d.get F.FE_VER_STAGED_TAG)) :
    ∃ ds same, doClosePassDone d =
      ((d.passOver.showDigests ds same).set F.FE_VER_STAGED_CLOSED 1).verStatus 2 2 0 (d.get F.FE_VER_STAGED_VERSION) := by
  have hall : d.feRunning.all (fun n => d.passOver.stagedOk n (d.get F.FE_VER_STAGED_TAG)) = true :=
    List.all_eq_true.2 fun n hn => (Dev.stagedOk_congr d.passOver_tbl n _).trans (hok n hn)
  have hsame : sameDigest (d.passOver.digests d.feRunning (d.get F.FE_VER_STAGED_TAG)) = true :=
    sameDigest_digests _ _ _ fun n hn m hm => by
      rw [Dev.stagedDigest_congr d.passOver_tbl, Dev.stagedDigest_congr d.passOver_tbl, hdig n hn m hm]
  exact ⟨_, _, by rw [doClosePassDone_of_pass d hp, if_neg hne, if_neg (by simp [hall])]; exact if_pos hsame⟩

/-- CLOSE of a version that is not valid in some front end. -/
theorem doClosePassDone_of_invalid (d : Dev) (hp : d.fe.pass = 2)
    (hbad : ∃ n ∈ d.feRunning, d.stagedOk n (d.get F.FE_VER_STAGED_TAG) = false) :
    doClosePassDone d = d.passOver.verStatus 3 2 5 (d.get F.FE_VER_STAGED_VERSION) := by
  obtain ⟨n, hn, hbad⟩ := hbad
  have hall : d.feRunning.all (fun n => d.passOver.stagedOk n (d.get F.FE_VER_STAGED_TAG)) = false :=
    List.all_eq_false.2 ⟨n, hn, by rw [Dev.stagedOk_congr d.passOver_tbl, hbad]; decide⟩
  rw [doClosePassDone_of_pass d hp, if_neg (List.ne_nil_of_mem hn), if_pos (by simp [hall])]

/-! DISCARD, COMMIT_NOW and the end of a draining version (R77-R79). -/

theorem doDiscardVersion_of_staged (d : Dev) (hb : d.feBusy = false) (hs : d.staged = true) (hp : d.thyPending 1 = false) :
    doDiscardVersion d = d.dropStaged.verStatus 2 3 0 (d.get F.FE_VER_STAGED_VERSION) := by
  simp [doDiscardVersion, hb, hs, hp]

theorem doDiscardVersion_of_pending (d : Dev) (hb : d.feBusy = false) (hs : d.staged = true) (hp : d.thyPending 1 = true) :
    doDiscardVersion d = d.verStatus 3 3 9 (d.get F.FE_VER_STAGED_VERSION) := by
  simp [doDiscardVersion, hb, hs, hp]

/-- The version registers once version `v` is current (R75). -/
def Dev.showCurrent (d : Dev) (v : Nat) : Dev :=
  ((d.set F.FE_VER_CURRENT_TAG (v % 4)).set F.FE_VER_CURRENT_VERSION v).dropStaged

theorem Dev.showCurrent_changesOnly (d : Dev) (v : Nat) : d.ChangesOnly (d.showCurrent v) [.regs] :=
  ((d.set_changesOnly _ _ _ _).trans (Dev.set_changesOnly _ _ _ _ _)).trans (Dev.dropStaged_changesOnly _)

theorem Dev.showCurrent_version (d : Dev) (v : Nat) : (d.showCurrent v).get F.FE_VER_CURRENT_VERSION = v % 2 ^ 16 := by
  rw [Dev.showCurrent, Dev.dropStaged_get_apart _ _ _ _ (by decide) (by decide),
    Dev.get_set_self _ _ _ _ _ (by decide) (by decide)]
  rfl

theorem Dev.showCurrent_draining (d : Dev) (v : Nat) :
    (d.showCurrent v).on F.FE_VER_DRAINING_VALID = d.on F.FE_VER_DRAINING_VALID := by
  rw [Dev.on, Dev.on, Dev.showCurrent, Dev.dropStaged_get_apart _ _ _ _ (by decide) (by decide),
    Dev.get_set_apart _ F.FE_VER_CURRENT_VERSION _ _ _ _ _ _ (by decide),
    Dev.get_set_apart _ F.FE_VER_CURRENT_TAG _ _ _ _ _ _ (by decide)]

theorem Dev.showCurrent_staged (d : Dev) (v : Nat) : (d.showCurrent v).staged = false := by
  rw [Dev.staged, Dev.on, Dev.showCurrent, Dev.dropStaged_valid]
  rfl

/-- A version made current with nothing to drain: its registers, and the commit instant (R79). -/
theorem Dev.makeCurrent_undrained (d : Dev) :
    ∃ x : FeSt, x.commitClk = d.tim.clk ∧
      d.makeCurrent false = { d.showCurrent (d.get F.FE_VER_STAGED_VERSION) with fe := x } :=
  ⟨_, congrArg TimSt.clk (d.showCurrent_changesOnly (d.get F.FE_VER_STAGED_VERSION) .tim (by decide)), rfl⟩

theorem doCommitNow_of_closed (d : Dev) (hb : d.feBusy = false) (hc : d.stagedClosed = true)
    (hports : ∀ p, p < 32 → d.on F.CPORT_CTRL_ENABLE p = false) :
    doCommitNow d = (d.makeCurrent false).verStatus 2 4 0 (d.get F.FE_VER_STAGED_VERSION) := by
  have hs : d.staged = true := (Bool.and_eq_true_iff.1 hc).1
  have hany : (List.range 32).any (fun p => d.on F.CPORT_CTRL_ENABLE p) = false :=
    List.any_eq_false.2 fun p hp => by simp [hports p (List.mem_range.1 hp)]
  simp only [doCommitNow, hb, hs, hc, hany, Bool.not_true, Bool.false_eq_true, if_false]

theorem doVersionRetire_of_empty (d : Dev) (hv : d.on F.FE_VER_DRAINING_VALID = true) (h0 : d.drainCount = 0) :
    doVersionRetire d =
      ((d.putNum R.FE_VER_DRAINING 0).set F.FE_INFLIGHT_RETIRE_PENDING 0).showTags.raise E.FE_RETIRED := by
  simp [doVersionRetire, hv, h0]


/-! FE_RESYNC (R80). -/

/-- A copy named from another front end starts where both run and none fills the target. -/
theorem doFeResync_of_running (d : Dev) (fe source : Nat) (hne : source % 4 ≠ fe % 4)
    (hs : d.on F.FE_STATUS_RUNNING (source % 4) = true) (hn : d.on F.FE_STATUS_RUNNING (fe % 4) = true)
    (hb : d.on F.FE_STATUS_RESYNC_BUSY (fe % 4) = false) :
    doFeResync fe source d = ((d.set F.FE_RESYNC_SOURCE (source % 4) (fe % 4)).set F.FE_STATUS_RESYNC_BUSY 1 (fe % 4)).set
      F.FE_STATUS_IN_SYNC 0 (fe % 4) := by
  have hkeep (f : Fld) (hf : R.FE_RESYNC.apart f.reg = true) (k : Nat) :
      (d.set F.FE_RESYNC_SOURCE (source % 4) (fe % 4)).on f k = d.on f k := by
    rw [Dev.on, Dev.get_set_apart _ F.FE_RESYNC_SOURCE f _ _ _ _ _ hf, Dev.on]
  simp only [doFeResync, hkeep F.FE_STATUS_RUNNING (by decide), hkeep F.FE_STATUS_RESYNC_BUSY (by decide), hs, hn, hb, hne,
    Bool.not_true, Bool.false_eq_true, or_self, if_false]

/-- The tables that a copy replaces, emptied, and filled from those of front end `s`. -/
def Dev.resyncTables (d : Dev) (n s : Nat) : Dev :=
  [0x10, 0x11, 0x12, 0x13, 0x14].foldl (Dev.copyTable n s)
    (d.dropEntries fun sel _ => sel / 2 ^ 16 = n && 0x10 ≤ sel % 2 ^ 16 && sel % 2 ^ 16 ≤ 0x14)

/-- A copied entry is the source's. -/
theorem Dev.entry_resyncTables (d : Dev) (n s : Nat) (hns : s ≠ n) (h : SMap.wf [] d.tbl = true) (sel i : Nat)
    (hlo : 0x10 ≤ sel) (hhi : sel ≤ 0x14) (hi : i < 2 ^ 32) :
    (d.resyncTables n s).entry (feSel sel n) i = trimWords (d.entry (feSel sel s) i) := by
  have hmem (x : Nat) : x ∈ [0x10, 0x11, 0x12, 0x13, 0x14] ↔ 0x10 ≤ x ∧ x ≤ 0x14 := by
    simp only [List.mem_cons, List.not_mem_nil, or_false]
    omega
  rw [Dev.resyncTables, Dev.entry_copyTables n s hns _ (by decide) (by decide) i hi _ (SMap.filter_wf [] d.tbl _ h) _ sel
    ((hmem sel).2 ⟨hlo, hhi⟩), Dev.entry_dropEntries _ _ _ _ hi, feSel_div sel s (by omega)]
  · simp only [hns, decide_false, Bool.false_and, Bool.false_eq_true, if_false]
  · intro x hx
    obtain ⟨hxlo, hxhi⟩ := (hmem x).1 hx
    rw [Dev.entry_dropEntries _ _ _ _ hi, feSel_div x n (by omega), feSel_mod x n (by omega)]
    simp only [hxlo, hxhi, decide_true, Bool.and_self, if_true]

/-- The copy's end: the tables copied, the repaired entries forgotten, the front end in sync. -/
theorem doResyncDone_of_busy (fe : Nat) (d : Dev) (hb : d.on F.FE_STATUS_RESYNC_BUSY (fe % 4) = true) :
    ∃ x, doResyncDone fe d = (((Dev.set { d.resyncTables (fe % 4) (d.get F.FE_RESYNC_SOURCE (fe % 4)) with fe := x }
      F.FE_STATUS_RESYNC_BUSY 0 (fe % 4)).set F.FE_STATUS_IN_SYNC 1 (fe % 4)).set F.FE_STATUS_ECC_BAD_ENTRY 0 (fe % 4)) :=
  ⟨_, by rw [doResyncDone, if_pos hb]; rfl⟩


/-! What the pins and an access leave of the version state. -/

theorem Dev.pins_staged (d : Dev) : d.pins.staged = d.staged := d.pins_on _ _ _ (by decide)

theorem Dev.pins_stagedClosed (d : Dev) : d.pins.stagedClosed = d.stagedClosed := by
  rw [Dev.stagedClosed, Dev.stagedClosed, Dev.pins_staged, Dev.pins_on _ _ _ _ (by decide)]

theorem Dev.verStatus_staged (d : Dev) (st op reason v : Nat) : (d.verStatus st op reason v).staged = d.staged := by
  rw [Dev.staged, Dev.staged, Dev.on, Dev.on, Dev.verStatus_get_apart _ _ _ _ _ _ _ _ (by decide)]

theorem Dev.verStatus_stagedClosed (d : Dev) (st op reason v : Nat) :
    (d.verStatus st op reason v).stagedClosed = d.stagedClosed := by
  rw [Dev.stagedClosed, Dev.stagedClosed, Dev.verStatus_staged, Dev.on, Dev.on,
    Dev.verStatus_get_apart _ _ _ _ _ _ _ _ (by decide)]

/-! The commands where their checks hold. -/

/-- OPEN of the next version number stages it (R72). -/
theorem openVersion_stages (s : State) (version : Nat) (hb : s.dev.feBusy = false) (hs : s.dev.staged = false)
    (hd : s.dev.on F.FE_VER_DRAINING_VALID = false) (h0 : version % 2 ^ 16 ≠ 0)
    (hn : s.dev.get F.FE_VER_CURRENT_VERSION = 0 ∨
      version % 2 ^ 16 = (if s.dev.get F.FE_VER_CURRENT_VERSION = 0xFFFF then 1 else s.dev.get F.FE_VER_CURRENT_VERSION + 1)) :
    Completes (.openVersion version) s fun d =>
      d.staged = true ∧ d.stagedClosed = false ∧ d.get F.FE_VER_STAGED_VERSION = version % 2 ^ 16 ∧
      d.get F.FE_VER_STAGED_TAG = version % 2 ^ 16 % 4 ∧ d.fe.pass = 1 ∧ d.get F.FE_VER_CMD_STATUS_STATE = 1 ∧
      s.dev.ChangesOnly d [.regs, .mon, .evt, .fe] := by
  refine completes_of_coreAccess rfl fun d ha => ?_
  rw [doOpenVersion_eq_stageAs d version (ha.feBusy.trans hb) (ha.staged.trans hs)
    ((ha.on _ _ _ (by decide)).trans hd) h0 (by rwa [ha.get F.FE_VER_CURRENT_VERSION 0 0 (by decide)])]
  have hframe : s.dev.ChangesOnly _ [.regs, .mon, .evt, .fe] :=
    ha.parts.mono (by decide) |>.andThen (d.verStatus_changesOnly 1 1 0 (version % 2 ^ 16)) (by decide)
      |>.andThen (Dev.stageBusy_changesOnly _ true) (by decide)
      |>.andThen (Dev.stageAs_changesOnly _ (version % 2 ^ 16)) (by decide)
      |>.andThen (Dev.showTags_changesOnly _) (by decide) |>.andThen (Dev.setPass_changesOnly _ 1) (by decide)
  refine ⟨?_, ?_, ?_, ?_, by simp, ?_, hframe.pins (by decide)⟩
  all_goals
    simp (disch := decide) [Dev.staged, Dev.stagedClosed, Dev.on, Dev.pins_get, Dev.showTags_get_apart,
      Dev.stageAs_get_apart, Dev.stageBusy_get_apart]

/-- OPEN while a version is staged is refused (R72). -/
theorem openVersion_refused_of_staged (s : State) (version : Nat) (hb : s.dev.feBusy = false) (hs : s.dev.staged = true) :
    Completes (.openVersion version) s fun d =>
      d.get F.FE_VER_CMD_STATUS_STATE = 3 ∧ d.get F.FE_VER_CMD_STATUS_REASON = 2 ∧ d.staged = true ∧
      d.get F.FE_VER_STAGED_VERSION = s.dev.get F.FE_VER_STAGED_VERSION ∧ s.dev.ChangesOnly d [.regs, .mon, .evt] := by
  refine completes_of_coreAccess rfl fun d ha => ?_
  rw [doOpenVersion_of_staged d version (ha.feBusy.trans hb) (ha.staged.trans hs)]
  have hframe := ha.parts.andThen (d.verStatus_changesOnly 3 1 2 (version % 2 ^ 16)) (by decide)
  refine ⟨?_, ?_, ?_, ?_, hframe.pins (by decide)⟩
  · simp (disch := decide) [Dev.pins_get]
  · simp (disch := decide) [Dev.pins_get]
  · rw [Dev.pins_staged, Dev.verStatus_staged, ha.staged, hs]
  · simp (disch := decide) only [Dev.pins_get, Dev.verStatus_get_apart, ha.get]

/-- The OPEN pass ends with the version still staged (R72). -/
theorem openPassDone_keeps_staged (s : State) (h : s.dev.fe.pass = 1) :
    Completes .openPassDone s fun d =>
      d.fe.pass = 0 ∧ d.get F.FE_VER_CMD_STATUS_STATE = 2 ∧
      d.get F.FE_VER_STAGED_VERSION = s.dev.get F.FE_VER_STAGED_VERSION ∧ s.dev.ChangesOnly d [.regs, .tbl, .fe] := by
  obtain ⟨e, he, hdone⟩ := doOpenPassDone_of_pass s.dev h
  refine completes_of_run (f := doOpenPassDone) rfl ?_
  rw [hdone]
  have hframe : s.dev.ChangesOnly _ [.regs, .tbl, .fe] :=
    he.mono (by decide) |>.andThen (e.stageBusy_changesOnly false) (by decide)
      |>.andThen (Dev.verStatus_changesOnly _ 2 1 0 (e.get F.FE_VER_STAGED_VERSION)) (by decide)
      |>.andThen (Dev.setPass_changesOnly _ 0) (by decide)
  refine ⟨by simp, ?_, ?_, hframe.pins (by decide)⟩
  · simp (disch := decide) [Dev.pins_get]
  · simp (disch := decide) only [Dev.pins_get, Dev.setPass_get, Dev.verStatus_get_apart, Dev.stageBusy_get_apart, he.get]

/-- CLOSE starts its pass (R73). -/
theorem closeVersion_starts (s : State) (hb : s.dev.feBusy = false) (hs : s.dev.staged = true)
    (hc : s.dev.stagedClosed = false) :
    Completes .closeVersion s fun d =>
      d.fe.pass = 2 ∧ d.get F.FE_VER_CMD_STATUS_STATE = 1 ∧ d.get F.FE_VER_CMD_STATUS_OP = 2 ∧
      s.dev.ChangesOnly d [.regs, .mon, .evt, .fe] := by
  refine completes_of_coreAccess rfl fun d ha => ?_
  rw [doCloseVersion_of_open d (ha.feBusy.trans hb) (ha.staged.trans hs) (ha.stagedClosed.trans hc)]
  have hframe : s.dev.ChangesOnly _ [.regs, .mon, .evt, .fe] :=
    ha.parts.mono (by decide) |>.andThen (d.verStatus_changesOnly 1 2 0 (d.get F.FE_VER_STAGED_VERSION)) (by decide)
      |>.andThen (Dev.stageBusy_changesOnly _ true) (by decide) |>.andThen (Dev.setPass_changesOnly _ 2) (by decide)
  refine ⟨by simp, ?_, ?_, hframe.pins (by decide)⟩ <;>
    simp (disch := decide) [Dev.pins_get, Dev.stageBusy_get_apart]

/-- The CLOSE pass freezes a version that every front end finds valid, with one digest (R73). -/
theorem closePassDone_closes (s : State) (hp : s.dev.fe.pass = 2) (hs : s.dev.staged = true) (hne : s.dev.feRunning ≠ [])
    (hok : ∀ n ∈ s.dev.feRunning, s.dev.stagedOk n (s.dev.get F.FE_VER_STAGED_TAG) = true)
    (hdig : ∀ n ∈ s.dev.feRunning, ∀ m ∈ s.dev.feRunning,
      s.dev.stagedDigest n (s.dev.get F.FE_VER_STAGED_TAG) = s.dev.stagedDigest m (s.dev.get F.FE_VER_STAGED_TAG)) :
    Completes .closePassDone s fun d =>
      d.fe.pass = 0 ∧ d.stagedClosed = true ∧ d.get F.FE_VER_CMD_STATUS_STATE = 2 ∧
      s.dev.ChangesOnly d [.regs, .fe] := by
  obtain ⟨ds, same, hdone⟩ := doClosePassDone_of_valid s.dev hp hne hok hdig
  refine completes_of_run (f := doClosePassDone) rfl ?_
  rw [hdone]
  have hframe : s.dev.ChangesOnly _ [.regs, .fe] :=
    s.dev.passOver_changesOnly.andThen (Dev.showDigests_changesOnly _ ds same) (by decide)
      |>.andThen (Dev.set_changesOnly _ F.FE_VER_STAGED_CLOSED 1 0 0) (by decide)
      |>.andThen (Dev.verStatus_changesOnly _ 2 2 0 (s.dev.get F.FE_VER_STAGED_VERSION)) (by decide)
  refine ⟨?_, ?_, ?_, hframe.pins (by decide)⟩
  · simp
  · have hvalid : (s.dev.passOver.showDigests ds same).get F.FE_VER_STAGED_VALID = 1 := by
      rw [Dev.showDigests_get_staged _ _ _ _ rfl, Dev.passOver_get_apart _ _ _ _ (by decide)]
      exact eq_of_beq hs
    rw [Dev.pins_stagedClosed, Dev.verStatus_stagedClosed, Dev.stagedClosed, Dev.staged,
      Dev.on_set_one _ _ _ _ (by decide) (by decide) (by decide) (by decide), Dev.on,
      Dev.get_set_field _ _ _ _ _ _ (by rfl) (by decide) (by decide), hvalid]
    rfl
  · simp (disch := decide) [Dev.pins_get]

/-- The CLOSE pass leaves a version open that some front end finds invalid (R73). -/
theorem closePassDone_refuses_invalid (s : State) (hp : s.dev.fe.pass = 2)
    (hbad : ∃ n ∈ s.dev.feRunning, s.dev.stagedOk n (s.dev.get F.FE_VER_STAGED_TAG) = false) :
    Completes .closePassDone s fun d =>
      d.fe.pass = 0 ∧ d.stagedClosed = s.dev.stagedClosed ∧ d.get F.FE_VER_CMD_STATUS_STATE = 3 ∧
      d.get F.FE_VER_CMD_STATUS_REASON = 5 := by
  refine completes_of_run (f := doClosePassDone) rfl ?_
  rw [doClosePassDone_of_invalid s.dev hp hbad]
  refine ⟨?_, ?_, ?_, ?_⟩
  · simp
  · rw [Dev.pins_stagedClosed, Dev.verStatus_stagedClosed]
    simp (disch := decide) only [Dev.stagedClosed, Dev.staged, Dev.on, Dev.passOver_get_apart]
  · simp (disch := decide) [Dev.pins_get]
  · simp (disch := decide) [Dev.pins_get]

/-- DISCARD drops the staged version and frees its tag (R78). -/
theorem discardVersion_drops (s : State) (hb : s.dev.feBusy = false) (hs : s.dev.staged = true)
    (hp : s.dev.thyPending 1 = false) :
    Completes .discardVersion s fun d =>
      d.staged = false ∧ d.get F.FE_VER_CMD_STATUS_STATE = 2 ∧
      (∀ t, t < 4 → bit (d.get F.FE_LIVE_TAGS_LIVE) t = true →
        (s.dev.get F.FE_VER_CURRENT_VERSION ≠ 0 ∧ t = s.dev.get F.FE_VER_CURRENT_TAG) ∨
        (s.dev.on F.FE_VER_DRAINING_VALID = true ∧ t = s.dev.get F.FE_VER_DRAINING_TAG)) ∧
      d.get F.FE_VER_CURRENT_VERSION = s.dev.get F.FE_VER_CURRENT_VERSION ∧ s.dev.ChangesOnly d [.regs, .mon, .evt] := by
  refine completes_of_coreAccess rfl fun d ha => ?_
  rw [doDiscardVersion_of_staged d (ha.feBusy.trans hb) (ha.staged.trans hs) ((ha.thyPending 1).trans hp)]
  have hframe : s.dev.ChangesOnly _ [.regs, .mon, .evt] :=
    ha.parts.andThen d.dropStaged_changesOnly (by decide)
      |>.andThen (Dev.verStatus_changesOnly _ 2 3 0 (d.get F.FE_VER_STAGED_VERSION)) (by decide)
  refine ⟨?_, ?_, fun t _ ht => ?_, ?_, hframe.pins (by decide)⟩
  · rw [Dev.pins_staged, Dev.verStatus_staged, Dev.staged, Dev.on, Dev.dropStaged_valid]
    rfl
  · simp (disch := decide) [Dev.pins_get]
  · rw [Dev.pins_get _ _ _ _ (by decide), Dev.verStatus_get_apart _ _ _ _ _ _ _ _ (by decide)] at ht
    have hlive := d.dropStaged_live t ht
    rwa [ha.get F.FE_VER_CURRENT_VERSION 0 0 (by decide), ha.get F.FE_VER_CURRENT_TAG 0 0 (by decide),
      ha.on F.FE_VER_DRAINING_VALID 0 0 (by decide), ha.get F.FE_VER_DRAINING_TAG 0 0 (by decide)] at hlive
  · simp (disch := decide) only [Dev.pins_get, Dev.verStatus_get_apart, Dev.dropStaged_get_apart, ha.get]

/-- DISCARD while a RULE_COMMIT entry is pending is refused, and the version stays (R78). -/
theorem discardVersion_refused_of_pending (s : State) (hb : s.dev.feBusy = false) (hs : s.dev.staged = true)
    (hp : s.dev.thyPending 1 = true) :
    Completes .discardVersion s fun d =>
      d.staged = true ∧ d.stagedClosed = s.dev.stagedClosed ∧
      d.get F.FE_VER_STAGED_VERSION = s.dev.get F.FE_VER_STAGED_VERSION ∧
      d.get F.FE_VER_CMD_STATUS_STATE = 3 ∧ d.get F.FE_VER_CMD_STATUS_REASON = 9 ∧
      s.dev.ChangesOnly d [.regs, .mon, .evt] := by
  refine completes_of_coreAccess rfl fun d ha => ?_
  rw [doDiscardVersion_of_pending d (ha.feBusy.trans hb) (ha.staged.trans hs) ((ha.thyPending 1).trans hp)]
  have hframe := ha.parts.andThen (d.verStatus_changesOnly 3 3 9 (d.get F.FE_VER_STAGED_VERSION)) (by decide)
  refine ⟨?_, ?_, ?_, ?_, ?_, hframe.pins (by decide)⟩
  · rw [Dev.pins_staged, Dev.verStatus_staged, ha.staged, hs]
  · rw [Dev.pins_stagedClosed, Dev.verStatus_stagedClosed, ha.stagedClosed]
  · simp (disch := decide) only [Dev.pins_get, Dev.verStatus_get_apart, ha.get]
  · simp (disch := decide) [Dev.pins_get]
  · simp (disch := decide) [Dev.pins_get]

/-- COMMIT_NOW makes a closed version current at once where no client port is enabled (R79). -/
theorem commitNow_makes_current (s : State) (hb : s.dev.feBusy = false) (hc : s.dev.stagedClosed = true)
    (hports : ∀ p, p < 32 → s.dev.on F.CPORT_CTRL_ENABLE p = false) :
    Completes .commitNow s fun d =>
      d.get F.FE_VER_CURRENT_VERSION = s.dev.get F.FE_VER_STAGED_VERSION ∧ d.staged = false ∧
      d.on F.FE_VER_DRAINING_VALID = s.dev.on F.FE_VER_DRAINING_VALID ∧ d.fe.commitClk = s.dev.tim.clk ∧
      d.get F.FE_VER_CMD_STATUS_STATE = 2 := by
  refine completes_of_coreAccess rfl fun d ha => ?_
  rw [doCommitNow_of_closed d (ha.feBusy.trans hb) (ha.stagedClosed.trans hc) fun p hp =>
    (ha.on _ _ _ (by decide)).trans (hports p hp)]
  obtain ⟨x, hx, hcur⟩ := d.makeCurrent_undrained
  have hget (f : Fld) : (d.makeCurrent false).get f = (d.showCurrent (d.get F.FE_VER_STAGED_VERSION)).get f := by
    rw [hcur]
    exact (Dev.setFe_changesOnly _ x).get (by decide) f 0 0
  have hfit : d.get F.FE_VER_STAGED_VERSION < 2 ^ 16 := d.get_lt F.FE_VER_STAGED_VERSION 0 0
  refine ⟨?_, ?_, ?_, ?_, by simp (disch := decide) [Dev.pins_get]⟩
  · rw [Dev.pins_get _ _ _ _ (by decide), Dev.verStatus_get_apart _ _ _ _ _ _ _ _ (by decide), hget, Dev.showCurrent_version,
      Nat.mod_eq_of_lt hfit, ha.get _ _ _ (by decide)]
  · rw [Dev.pins_staged, Dev.verStatus_staged, Dev.staged, Dev.on, hget]
    exact d.showCurrent_staged _
  · rw [Dev.pins_on _ _ _ _ (by decide), Dev.on, Dev.verStatus_get_apart _ _ _ _ _ _ _ _ (by decide), hget]
    exact (d.showCurrent_draining _).trans (ha.on _ _ _ (by decide))
  · rw [Dev.pins_fe, Dev.verStatus_fe, hcur]
    exact hx.trans (congrArg TimSt.clk (ha.parts .tim (by decide)))

/-- A draining version that no frame carries retires at once (R77). -/
theorem versionRetire_ends_draining (s : State) (hv : s.dev.on F.FE_VER_DRAINING_VALID = true) (h0 : s.dev.drainCount = 0) :
    Completes .versionRetire s fun d =>
      d.on F.FE_VER_DRAINING_VALID = false ∧ d.get F.FE_INFLIGHT_RETIRE_PENDING = 0 ∧
      s.dev.ChangesOnly d [.regs, .evt] := by
  refine completes_of_run (f := doVersionRetire) rfl ?_
  rw [doVersionRetire_of_empty s.dev hv h0]
  have hframe : s.dev.ChangesOnly _ [.regs, .evt] :=
    (s.dev.putNum_changesOnly R.FE_VER_DRAINING 0 0 0).mono (by decide)
      |>.andThen (Dev.set_changesOnly _ F.FE_INFLIGHT_RETIRE_PENDING 0 0 0) (by decide)
      |>.andThen (Dev.showTags_changesOnly _) (by decide) |>.andThen (Dev.raise_changesOnly _ E.FE_RETIRED 0) (by decide)
  refine ⟨?_, ?_, hframe.pins (by decide)⟩
  · have hzero := (s.dev.get_putNum_self F.FE_VER_DRAINING_VALID 0 0 0 (by decide)).trans (by decide : _ = 0)
    simp (disch := decide) only [Dev.on, Dev.pins_get, Dev.get_raise_apart, Dev.showTags_get_apart, Dev.get_set_apart]
    exact congrArg (· == 1) hzero
  · simp (disch := decide) only [Dev.pins_get, Dev.get_raise_apart, Dev.showTags_get_apart, Dev.get_set_self]
    rfl

/-- FE_RESYNC from another running front end starts the copy (R80). -/
theorem feResync_starts (s : State) (fe source : Nat) (hne : source % 4 ≠ fe % 4)
    (hs : s.dev.on F.FE_STATUS_RUNNING (source % 4) = true) (hn : s.dev.on F.FE_STATUS_RUNNING (fe % 4) = true)
    (hb : s.dev.on F.FE_STATUS_RESYNC_BUSY (fe % 4) = false) :
    Completes (.feResync fe source) s fun d =>
      d.on F.FE_STATUS_RESYNC_BUSY (fe % 4) = true ∧ d.on F.FE_STATUS_IN_SYNC (fe % 4) = false ∧
      d.get F.FE_RESYNC_SOURCE (fe % 4) = source % 4 ∧ s.dev.ChangesOnly d [.regs, .mon, .evt] := by
  have hfe : fe % 4 < 4 := Nat.mod_lt _ (by decide)
  refine completes_of_coreAccess rfl fun d ha => ?_
  rw [doFeResync_of_running d fe source hne ((ha.on _ _ _ (by decide)).trans hs) ((ha.on _ _ _ (by decide)).trans hn)
    ((ha.on _ _ _ (by decide)).trans hb)]
  have hframe : s.dev.ChangesOnly _ [.regs, .mon, .evt] :=
    ha.parts.andThen (d.set_changesOnly F.FE_RESYNC_SOURCE (source % 4) (fe % 4) 0) (by decide)
      |>.andThen (Dev.set_changesOnly _ F.FE_STATUS_RESYNC_BUSY 1 (fe % 4) 0) (by decide)
      |>.andThen (Dev.set_changesOnly _ F.FE_STATUS_IN_SYNC 0 (fe % 4) 0) (by decide)
  refine ⟨?_, ?_, ?_, hframe.pins (by decide)⟩
  · rw [Dev.pins_on _ _ _ _ (by decide), Dev.on, Dev.get_set_field _ _ _ _ _ _ (by rfl) (by decide) (by decide)]
    exact Dev.on_set_one _ _ _ _ hfe (by decide) (by decide) (by decide)
  · rw [Dev.pins_on _ _ _ _ (by decide)]
    exact Dev.on_set_zero _ _ _ _ hfe (by decide) (by decide)
  · rw [Dev.pins_get _ _ _ _ (by decide), Dev.get_set_apart _ F.FE_STATUS_IN_SYNC _ _ _ _ _ _ (by decide),
      Dev.get_set_apart _ F.FE_STATUS_RESYNC_BUSY _ _ _ _ _ _ (by decide), Dev.get_set_self _ _ _ _ _ ⟨hfe, by decide⟩ (by decide)]
    exact Nat.mod_mod source 4

/-- The copy ends with the front end in sync and its tables those of its source (R80). -/
theorem resyncDone_copies (s : State) (fe : Nat) (hb : s.dev.on F.FE_STATUS_RESYNC_BUSY (fe % 4) = true)
    (hne : s.dev.get F.FE_RESYNC_SOURCE (fe % 4) ≠ fe % 4) (hwf : SMap.wf [] s.dev.tbl = true) :
    Completes (.resyncDone fe) s fun d =>
      d.on F.FE_STATUS_RESYNC_BUSY (fe % 4) = false ∧ d.on F.FE_STATUS_IN_SYNC (fe % 4) = true ∧
      ∀ sel i, 0x10 ≤ sel → sel ≤ 0x14 → i < 2 ^ 32 →
        d.entry (feSel sel (fe % 4)) i = trimWords (s.dev.entry (feSel sel (s.dev.get F.FE_RESYNC_SOURCE (fe % 4))) i) := by
  have hfe : fe % 4 < 4 := Nat.mod_lt _ (by decide)
  obtain ⟨x, hdone⟩ := doResyncDone_of_busy fe s.dev hb
  refine completes_of_run (f := doResyncDone fe) rfl ?_
  rw [hdone]
  refine ⟨?_, ?_, fun sel i hlo hhi hi => ?_⟩
  · rw [Dev.pins_on _ _ _ _ (by decide), Dev.on, Dev.get_set_field _ _ _ _ _ _ (by rfl) (by decide) (by decide),
      Dev.get_set_field _ _ _ _ _ _ (by rfl) (by decide) (by decide)]
    exact Dev.on_set_zero _ _ _ _ hfe (by decide) (by decide)
  · rw [Dev.pins_on _ _ _ _ (by decide), Dev.on, Dev.get_set_field _ _ _ _ _ _ (by rfl) (by decide) (by decide)]
    exact Dev.on_set_one _ _ _ _ hfe (by decide) (by decide) (by decide)
  · rw [← s.dev.entry_resyncTables _ _ hne hwf sel i hlo hhi hi, Dev.entry, Dev.entry]
    simp only [Dev.pins_tbl, Dev.set_tbl]

/-- Settles O32: each command on rule versions, by what it does where its checks hold. -/
theorem versionsStaged : Obligations.VersionsStaged :=
  ⟨openVersion_stages, openVersion_refused_of_staged, openPassDone_keeps_staged, closeVersion_starts, closePassDone_closes,
    closePassDone_refuses_invalid, discardVersion_drops, commitNow_makes_current, versionRetire_ends_draining,
    feResync_starts, resyncDone_copies, discardVersion_refused_of_pending⟩

end Sys2Proof.Machine
end

section
/-! PROOFS. Client frames (R22, R46-R63): what an arrival reads of the module, that the counters of an arrival leave it as it
was, and where a frame goes. -/

namespace Sys2Proof.Machine

/-! What classification reads. -/

/-- Every window table but the counters of the client ports. -/
def Dev.otherTables (d : Dev) : SMap (List Nat) := d.tbl.filter fun e => !decide (e.1 / 2 ^ 32 = 0xD0)

/-- The registers that the arrival of a frame counts in (R86, R206, R571). -/
def arrivalRegs : List Reg :=
  countRegs ++ [R.FE_CNT_PARSE_ERR, R.FE_CNT_PARSE_TRUNC, R.FE_CNT_CTRL_REJECT, R.POL_CNT_UNPOLICED]

/-- Classification reads the same in two modules: the registers but for the counters of an arrival, the tables but for those of
the ports, the front ends' state and the resets. -/
structure Dev.ReadsAs (d d' : Dev) : Prop where
  words : ∀ (r : Reg) (i j : Nat), arrivalRegs.all (fun x => x.apart r) = true → d'.word r i j = d.word r i j
  tables : d'.otherTables = d.otherTables
  fe : d'.fe = d.fe
  rst : d'.rst = d.rst

theorem Dev.ReadsAs.refl (d : Dev) : d.ReadsAs d := ⟨fun _ _ _ _ => rfl, rfl, rfl, rfl⟩

theorem Dev.ReadsAs.trans {d d' d'' : Dev} (h : d.ReadsAs d') (h' : d'.ReadsAs d'') : d.ReadsAs d'' where
  words r i j hr := (h'.words r i j hr).trans (h.words r i j hr)
  tables := h'.tables.trans h.tables
  fe := h'.fe.trans h.fe
  rst := h'.rst.trans h.rst

theorem Dev.otherTables_congr {d d' : Dev} (h : d'.tbl = d.tbl) : d'.otherTables = d.otherTables := by
  rw [Dev.otherTables, Dev.otherTables, h]

theorem Dev.advance_readsAs (d : Dev) (t : Nat) : d.ReadsAs (d.advance t) where
  words r i j _ := d.advance_word t r i j
  tables := Dev.otherTables_congr (d.advance_tbl t)
  fe := d.advance_fe t
  rst := d.advance_rst t

theorem Dev.count_readsAs (d : Dev) (u code : Nat) (e : Seen) : d.ReadsAs (d.count u code e) where
  words _ i j h := d.count_word_apart u code e i j (List.all_append ▸ h |> Bool.and_eq_true_iff.1).1
  tables := Dev.otherTables_congr (d.count_tbl u code e)
  fe := d.count_fe u code e
  rst := d.count_rst u code e

theorem Dev.bump_readsAs (d : Dev) (r : Reg) (i j n : Nat) (hr : r ∈ arrivalRegs) : d.ReadsAs (d.bump r i j n) where
  words _ i' j' h := d.bump_word_apart n i j i' j' (List.all_eq_true.1 h r hr)
  tables := Dev.otherTables_congr (d.put_tbl _ _ _ _)
  fe := d.put_fe _ _ _ _
  rst := d.put_rst _ _ _ _

theorem Dev.svcBump_readsAs (d : Dev) (svc w : Nat) : d.ReadsAs (d.svcBump svc w) := ⟨fun _ _ _ _ => rfl, rfl, rfl, rfl⟩

theorem Dev.setEntry_otherTables (d : Dev) (i : Nat) (ws : List Nat) (hi : i < 2 ^ 32) :
    (d.setEntry 0xD0 i ws).otherTables = d.otherTables :=
  SMap.filter_set [] d.tbl (tblKey 0xD0 i) (trimWords ws) (fun a => !decide (a / 2 ^ 32 = 0xD0))
    (by rw [tblKey_div 0xD0 _ hi]; rfl)

/-- A counter of a client port is an entry of its own table. -/
theorem Dev.cCount_eq_setEntry (d : Dev) (p k n : Nat) : ∃ ws, d.cCount p k n = d.setEntry 0xD0 (p * 16 + k) ws := ⟨_, rfl⟩

theorem Dev.cCount_changesOnly (d : Dev) (p k n : Nat) : d.ChangesOnly (d.cCount p k n) [.tbl] := d.setEntry_changesOnly _ _ _

theorem Dev.cCount_readsAs (d : Dev) (p k n : Nat) (hk : p * 16 + k < 2 ^ 32) : d.ReadsAs (d.cCount p k n) := by
  obtain ⟨ws, h⟩ := d.cCount_eq_setEntry p k n
  rw [h]
  exact ⟨fun r i j _ => d.setEntry_word _ _ _ r i j, d.setEntry_otherTables _ ws hk, d.setEntry_changesOnly _ _ _ .fe (by decide),
    d.setEntry_changesOnly _ _ _ .rst (by decide)⟩

section
variable {d d' : Dev} (h : d.ReadsAs d')
include h

theorem Dev.ReadsAs.get (f : Fld) (i j : Nat) (ha : arrivalRegs.all (fun x => x.apart f.reg) = true) :
    d'.get f i j = d.get f i j := Dev.get_congr (h.words f.reg i j ha)

theorem Dev.ReadsAs.on (f : Fld) (i j : Nat) (ha : arrivalRegs.all (fun x => x.apart f.reg) = true) :
    d'.on f i j = d.on f i j := by
  rw [Dev.on, Dev.on, h.get f i j ha]

theorem Dev.ReadsAs.entries (sel : Nat) (hs : sel ≠ 0xD0) : d'.entries sel = d.entries sel := by
  have hother (d : Dev) : d.tbl.filter (fun e => decide (e.1 / 2 ^ 32 = sel)) =
      d.otherTables.filter (fun e => decide (e.1 / 2 ^ 32 = sel)) := by
    rw [Dev.otherTables, List.filter_filter]
    refine List.filter_congr fun e _ => ?_
    by_cases he : e.1 / 2 ^ 32 = sel
    · simp only [he, hs, decide_true, decide_false, Bool.not_false, Bool.and_self]
    · simp only [he, decide_false, Bool.false_and]
  rw [Dev.entries, Dev.entries, hother d', hother d, h.tables]

theorem Dev.ReadsAs.entry (sel i : Nat) (hs : sel ≠ 0xD0) (hi : i < 2 ^ 32) : d'.entry sel i = d.entry sel i := by
  rw [← d'.get_entries sel i hi, ← d.get_entries sel i hi, h.entries sel hs]

theorem Dev.ReadsAs.tw (sel i w : Nat) (hs : sel ≠ 0xD0) (hi : i < 2 ^ 32) : d'.tw sel i w = d.tw sel i w := by
  rw [Dev.tw, Dev.tw, h.entry sel i hs hi]

theorem Dev.ReadsAs.domHeld (k : Nat) : d'.domHeld k = d.domHeld k := by rw [Dev.domHeld, Dev.domHeld, h.rst]

theorem Dev.ReadsAs.sliceOff (s : Nat) : d'.sliceOff s = d.sliceOff s := by
  rw [Dev.sliceOff, Dev.sliceOff, h.on _ _ _ (by decide), h.domHeld]

theorem Dev.ReadsAs.feUp (n : Nat) : d'.feUp n = d.feUp n := by
  rw [Dev.feUp, Dev.feUp, h.on F.FE_STATUS_RUNNING _ _ (by decide), h.on F.FE_STATUS_IN_SYNC _ _ (by decide)]

theorem Dev.ReadsAs.tagAt (arr : Nat) : d'.tagAt arr = d.tagAt arr := by
  simp only [Dev.tagAt, Dev.curTag, h.fe, h.get F.FE_VER_CURRENT_VERSION _ _ (by decide),
    h.get F.FE_VER_CURRENT_TAG _ _ (by decide), h.on F.FE_VER_DRAINING_VALID _ _ (by decide),
    h.get F.FE_VER_DRAINING_TAG _ _ (by decide)]

theorem Dev.ReadsAs.chooseSlices (w0 : Nat) (bs : Bytes) : d'.chooseSlices w0 bs = d.chooseSlices w0 bs := by
  simp only [Dev.chooseSlices, Dev.macHash, Dev.remap, Dev.num, h.words R.FE_HASH_SEED _ _ (by decide),
    h.get F.FE_SLICE_REMAP_MAP _ _ (by decide)]

end

/-- The tables of the front ends are not the counters of the ports. -/
theorem feSel_ne_counters (sel n : Nat) (hs : sel < 0xD0) : feSel sel n ≠ 0xD0 := by unfold feSel; omega

theorem nbits_lt (v hi lo : Nat) : nbits v hi lo < 2 ^ (hi + 1 - lo) := Nat.mod_lt _ (Nat.two_pow_pos _)

section
variable {d d' : Dev} (h : d.ReadsAs d')
include h

theorem Dev.ReadsAs.ternLookup (n t : Nat) (pre : Bool) (key : List Nat) :
    d'.ternLookup n t pre key = d.ternLookup n t pre key := by
  have hs := feSel_ne_counters 0x11 n (by decide)
  have hhits : ∀ e ∈ d.entries (feSel 0x11 n),
      (e.1 % 4 = 2 && bit (e.2.getD 2 0) t && bit (e.2.getD 1 0) 31 == pre &&
        ternHit key (d'.entry (feSel 0x11 n) (e.1 - 2)) (d'.entry (feSel 0x11 n) (e.1 - 1))) =
      (e.1 % 4 = 2 && bit (e.2.getD 2 0) t && bit (e.2.getD 1 0) 31 == pre &&
        ternHit key (d.entry (feSel 0x11 n) (e.1 - 2)) (d.entry (feSel 0x11 n) (e.1 - 1))) := fun e he => by
    have hlt := d.entries_lt _ e he
    rw [h.entry _ (e.1 - 2) hs (by omega), h.entry _ (e.1 - 1) hs (by omega)]
  unfold Dev.ternLookup
  rw [h.entries _ hs, List.filter_congr hhits]

theorem Dev.ReadsAs.emLookup (n t kt port f : Nat) : d'.emLookup n t kt port f = d.emLookup n t kt port f := by
  rw [Dev.emLookup, Dev.emLookup, h.entries _ (feSel_ne_counters 0x10 n (by decide))]

theorem Dev.ReadsAs.lookup (n t port : Nat) (bs : Bytes) (p : Parsed) (ht : t < 4) (hp : port < 32) :
    d'.lookup n t port bs p = d.lookup n t port bs p := by
  have hprof (w : Nat) := h.tw (feSel 0x13 n) (port + t * 2 ^ 24) w (feSel_ne_counters 0x13 n (by decide)) (by omega)
  unfold Dev.lookup
  simp only [hprof, h.ternLookup, h.emLookup]

theorem Dev.ReadsAs.classOf (n t act w0 : Nat) (p : Parsed) (ht : t < 4) : d'.classOf n t act w0 p = d.classOf n t act w0 p := by
  have hlt := nbits_lt w0 17 12
  have hmap (w : Nat) := h.tw (feSel 0x14 n) (nbits w0 17 12 + t * 2 ^ 24) w (feSel_ne_counters 0x14 n (by decide)) (by omega)
  unfold Dev.classOf
  simp only [Dev.tf, hmap]

end


/-! A frame admitted to its slice (R55-R63). -/

/-- A word of the service that an action names, under tag `t` (R58). -/
def Dev.svcWord (d : Dev) (n t act w : Nat) : Nat := d.tw (feSel 0x12 n) (nbits act 13 0 + t * 2 ^ 24) w

/-- Front end `n` admits a frame of its port to slice `sl`: no entry is bad, the lookup gives a service, the service is valid,
allows the frame's class and has no meter, its one slice serves, and the hold has room. -/
structure Dev.Admits (d : Dev) (n t port : Nat) (data : Bytes) (p : Parsed) (sl : Nat) : Prop where
  clean : d.fe.bad = []
  service : nbits (d.lookup n t port data p).1 31 30 = 1
  valid : bit (d.svcWord n t (d.lookup n t port data p).1 0) 31 = true
  allowed : bit (nbits (d.svcWord n t (d.lookup n t port data p).1 0) 23 20)
    (d.classOf n t (d.lookup n t port data p).1 (d.svcWord n t (d.lookup n t port data p).1 0) p) = true
  unmetered : bit (d.svcWord n t (d.lookup n t port data p).1 1) 15 = false
  slices : d.chooseSlices (d.svcWord n t (d.lookup n t port data p).1 0) data = [sl]
  serves : d.sliceOff sl = false
  room : ∀ ex, heldBytes (SMap.get [] d.fe.hold n) ex + data.length + 4 ≤ 32768

theorem Dev.ReadsAs.svcWord {d d' : Dev} (h : d.ReadsAs d') (n t act w : Nat) (ht : t < 4) :
    d'.svcWord n t act w = d.svcWord n t act w := by
  have hlt := nbits_lt act 13 0
  exact h.tw _ _ w (feSel_ne_counters 0x12 n (by decide)) (by omega)

theorem Dev.ReadsAs.admits {d d' : Dev} (h : d.ReadsAs d') {n t port : Nat} {data : Bytes} {p : Parsed} {sl : Nat}
    (ht : t < 4) (hp : port < 32) (ha : d.Admits n t port data p sl) : d'.Admits n t port data p sl where
  clean := by rw [h.fe, ha.clean]
  service := by rw [h.lookup _ _ _ _ _ ht hp, ha.service]
  valid := by rw [h.lookup _ _ _ _ _ ht hp, h.svcWord _ _ _ _ ht, ha.valid]
  allowed := by rw [h.lookup _ _ _ _ _ ht hp, h.svcWord _ _ _ _ ht, h.classOf _ _ _ _ _ ht, ha.allowed]
  unmetered := by rw [h.lookup _ _ _ _ _ ht hp, h.svcWord _ _ _ _ ht, ha.unmetered]
  slices := by rw [h.lookup _ _ _ _ _ ht hp, h.svcWord _ _ _ _ ht, h.chooseSlices, ha.slices]
  serves := by rw [h.sliceOff, ha.serves]
  room := by rw [h.fe]; exact ha.room

/-- SLICE_CHOICE of a frame with one slice that serves: it joins the hold (R59, R245). -/
theorem Dev.sliceChoice_holds (d : Dev) (n w0 : Nat) (p : Parsed) (f : Frame) (sl : Nat)
    (hs : d.chooseSlices w0 f.data = [sl]) (hl : d.sliceOff sl = false) (hp : p.ptpEvent = false)
    (hroom : ∀ ex, heldBytes (SMap.get [] d.fe.hold n) ex + f.data.length + 4 ≤ 32768) :
    ∃ g : Frame, SMap.get [] (d.sliceChoice n w0 p f).fe.hold n = SMap.get [] d.fe.hold n ++ [g] ∧
      g.data = f.data ∧ g.port = f.port ∧ g.tag = f.tag ∧ g.slices = [sl] ∧ g.svc = f.svc := by
  have hfits : heldBytes (SMap.get [] d.fe.hold n) (decide (f.cls = 0)) + (f.data.length + 4) ≤
      (if f.cls = 0 then 32768 else 524288) := by
    have := hroom (decide (f.cls = 0))
    split <;> omega
  unfold Dev.sliceChoice
  simp only [hs, hl, hp, List.filter_cons, List.filter_nil, Bool.not_false, if_true, List.length_cons, List.length_nil,
    Nat.sub_self, List.range_zero, List.foldl_nil, Bool.false_and, Bool.false_eq_true, if_false, List.cons_ne_nil]
  by_cases hc : 1 ≤ f.cls
  · simp only [if_pos hc, if_pos hfits, SMap.get_set_self]
    exact ⟨_, rfl, rfl, rfl, rfl, rfl, rfl⟩
  · simp only [if_neg hc, if_pos hfits, SMap.get_set_self]
    exact ⟨_, rfl, rfl, rfl, rfl, rfl, rfl⟩

/-- METER of a service without a meter counts the frame and passes it (R200). -/
theorem Dev.police_unmetered (d : Dev) (n w1 : Nat) (dei : Bool) (f : Frame) (h : bit w1 15 = false) :
    d.police n w1 dei f = (d.bump R.POL_CNT_UNPOLICED n, some f) := by
  rw [Dev.police, if_pos (by rw [h]; rfl)]

/-- The frame of a service, with its class (R56, R58). -/
def Dev.served (d : Dev) (n t : Nat) (p : Parsed) (f : Frame) : Frame :=
  { f with svc := nbits (d.lookup n t f.port f.data p).1 13 0,
           cls := d.classOf n t (d.lookup n t f.port f.data p).1 (d.svcWord n t (d.lookup n t f.port f.data p).1 0) p }

/-- The module once a frame of a service is counted. -/
def Dev.servedCount (d : Dev) (n : Nat) (f : Frame) : Dev := (d.count n 0x01 f.seen).svcBump f.svc 2

theorem Dev.servedCount_readsAs (d : Dev) (n : Nat) (f : Frame) : d.ReadsAs (d.servedCount n f) :=
  (d.count_readsAs n 0x01 f.seen).trans (Dev.svcBump_readsAs _ _ _)

/-- An admitted frame goes to SLICE_CHOICE. -/
theorem Dev.classify_eq_sliceChoice (d : Dev) (n t : Nat) (p : Parsed) (f : Frame) (sl : Nat) (ht : t < 4)
    (ha : d.Admits n t f.port f.data p sl) :
    d.classify n t p f = ((d.servedCount n (d.served n t p f)).bump R.POL_CNT_UNPOLICED n).sliceChoice n
      (d.svcWord n t (d.lookup n t f.port f.data p).1 0) p (d.served n t p f) := by
  have hw1 : bit ((d.servedCount n (d.served n t p f)).svcWord n t (d.lookup n t f.port f.data p).1 1) 15 = false := by
    rw [(d.servedCount_readsAs n _).svcWord _ _ _ _ ht, ha.unmetered]
  have hpolice := (d.servedCount n (d.served n t p f)).police_unmetered n _ (bit p.otci 12) (d.served n t p f) hw1
  have hvalid := ha.valid
  have hallowed := ha.allowed
  simp only [Dev.svcWord, Dev.servedCount, Dev.served] at hpolice hvalid hallowed
  simp only [Dev.classify, ha.clean, ha.service, List.contains_nil, Bool.or_self, Bool.and_false, Bool.false_eq_true, if_false,
    hvalid, hallowed, Bool.not_true]
  rw [hpolice]
  rfl

/-- An admitted frame waits in the hold of its front end for its slice. -/
theorem Dev.classify_holds (d : Dev) (n t : Nat) (p : Parsed) (f : Frame) (sl : Nat) (ht : t < 4)
    (hptp : p.ptpEvent = false) (ha : d.Admits n t f.port f.data p sl) :
    ∃ g : Frame, SMap.get [] (d.classify n t p f).fe.hold n = SMap.get [] d.fe.hold n ++ [g] ∧
      g.data = f.data ∧ g.port = f.port ∧ g.tag = f.tag ∧ g.slices = [sl] ∧
      g.svc = nbits (d.lookup n t f.port f.data p).1 13 0 := by
  have hreads : d.ReadsAs ((d.servedCount n (d.served n t p f)).bump R.POL_CNT_UNPOLICED n) :=
    (d.servedCount_readsAs n _).trans (Dev.bump_readsAs _ _ _ _ _ (by simp [arrivalRegs]))
  obtain ⟨g, hg⟩ := Dev.sliceChoice_holds _ n (d.svcWord n t (d.lookup n t f.port f.data p).1 0) p (d.served n t p f) sl
    ((hreads.chooseSlices _ _).trans ha.slices) ((hreads.sliceOff sl).trans ha.serves) hptp
    (by rw [hreads.fe]; exact ha.room)
  rw [hreads.fe] at hg
  rw [d.classify_eq_sliceChoice n t p f sl ht ha]
  exact ⟨g, hg⟩


/-! The front end's work on a frame (R46-R53). -/

/-- What the parser reads besides the frame (R48). -/
def Dev.parseCfg (d : Dev) : ParseCfg :=
  { altTpid := d.get F.FE_PARSE_CTRL_ALT_TPID, altEn := d.on F.FE_PARSE_CTRL_ALT_TPID_EN, ptpL2 := d.on F.FE_PTP_CTRL_L2_EN,
    ptpUdp4 := d.on F.FE_PTP_CTRL_UDP4_EN, ptpUdp6 := d.on F.FE_PTP_CTRL_UDP6_EN }

theorem Dev.ReadsAs.parseCfg {d d' : Dev} (h : d.ReadsAs d') : d'.parseCfg = d.parseCfg := by
  simp only [Dev.parseCfg, h.get F.FE_PARSE_CTRL_ALT_TPID _ _ (by decide), h.on F.FE_PARSE_CTRL_ALT_TPID_EN _ _ (by decide),
    h.on F.FE_PTP_CTRL_L2_EN _ _ (by decide), h.on F.FE_PTP_CTRL_UDP4_EN _ _ (by decide),
    h.on F.FE_PTP_CTRL_UDP6_EN _ _ (by decide)]

/-- The EtherTypes of tags (R48). -/
theorem isTpid_iff (c : ParseCfg) (e : Nat) :
    isTpid c e = true ↔ e = 0x88A8 ∨ e = 0x8100 ∨ (c.altEn = true ∧ e = c.altTpid) := by
  simp only [isTpid, Bool.or_eq_true, Bool.and_eq_true, decide_eq_true_eq, or_assoc]

/-- An EtherType 0x88B5 where the parser looks for one marks a control frame (R51). -/
theorem parseType_ctrl (c : ParseCfg) (bs : Bytes) (o : Nat) (p : Parsed) (h : numAt bs o 2 = 0x88B5) :
    (parseType c bs o p).ctrl = true := by
  simp only [parseType, h, if_true]

/-- R51: EtherType 0x88B5 after no tag, one tag, or two tags. -/
theorem parseFrame_ctrl (c : ParseCfg) (bs : Bytes)
    (h : (isTpid c (numAt bs 12 2) = false ∧ numAt bs 12 2 = 0x88B5) ∨
      (isTpid c (numAt bs 12 2) = true ∧ numAt bs 16 2 = 0x88B5) ∨
      (isTpid c (numAt bs 12 2) = true ∧ numAt bs 16 2 = 0x8100 ∧ isTpid c (numAt bs 20 2) = false ∧
        numAt bs 20 2 = 0x88B5)) : (parseFrame c bs).ctrl = true := by
  unfold parseFrame
  rcases h with ⟨htag, he⟩ | ⟨htag, he⟩ | ⟨htag, hin, hlast, he⟩
  · simp only [htag, Bool.false_eq_true, if_false]
    exact parseType_ctrl c bs 12 _ he
  · simp only [htag, he, if_true]
    exact parseType_ctrl c bs 16 _ he
  · simp only [htag, hin, hlast, if_true, Bool.false_eq_true, if_false]
    exact parseType_ctrl c bs 20 _ he

/-- The counts of parse errors and truncations (R49, R50). -/
def Dev.parseCount (d : Dev) (n : Nat) (p : Parsed) : Dev :=
  let d := if p.err then d.bump R.FE_CNT_PARSE_ERR n else d
  if p.trunc then d.bump R.FE_CNT_PARSE_TRUNC n else d

theorem Dev.parseCount_changesOnly (d : Dev) (n : Nat) (p : Parsed) : d.ChangesOnly (d.parseCount n p) [.regs] := by
  have herr : d.ChangesOnly (if p.err then d.bump R.FE_CNT_PARSE_ERR n else d) [.regs] := by
    split
    · exact d.bump_changesOnly _ _ _ _
    · exact .refl d _
  unfold Dev.parseCount
  dsimp only
  split
  · exact herr.trans (Dev.bump_changesOnly _ _ _ _ _)
  · exact herr

theorem Dev.parseCount_word (d : Dev) (n : Nat) (p : Parsed) (r : Reg) (i j : Nat) (herr : R.FE_CNT_PARSE_ERR.apart r = true)
    (htrunc : R.FE_CNT_PARSE_TRUNC.apart r = true) : (d.parseCount n p).word r i j = d.word r i j := by
  have h : (if p.err then d.bump R.FE_CNT_PARSE_ERR n else d).word r i j = d.word r i j := by
    split
    · exact d.bump_word_apart _ _ _ _ _ herr
    · rfl
  unfold Dev.parseCount
  dsimp only
  split
  · exact (Dev.bump_word_apart _ _ _ _ _ _ htrunc).trans h
  · exact h

theorem Dev.parseCount_readsAs (d : Dev) (n : Nat) (p : Parsed) : d.ReadsAs (d.parseCount n p) where
  words r i j h := d.parseCount_word n p r i j (List.all_eq_true.1 h _ (by simp [arrivalRegs]))
    (List.all_eq_true.1 h _ (by simp [arrivalRegs]))
  tables := Dev.otherTables_congr (d.parseCount_changesOnly n p .tbl (by decide))
  fe := d.parseCount_changesOnly n p .fe (by decide)
  rst := d.parseCount_changesOnly n p .rst (by decide)

/-- What a front end does with a frame while it and its version stand ready (R46, R51, R75). -/
theorem Dev.feFrame_of_ready (d : Dev) (port : Nat) (data : Bytes) (arr : Nat) (hen : d.on F.FE_CTRL_ENABLE (port / 8) = true)
    (hup : d.feUp (port / 8) = true) (hver : d.get F.FE_VER_CURRENT_VERSION ≠ 0) :
    d.feFrame port data arr =
      let p := parseFrame d.parseCfg data
      let d := d.parseCount (port / 8) p
      if p.ctrl then (d.feDiscard R.FE_CNT_CTRL_REJECT (port / 8) port (data.length + 4)).raise E.FE_CTRL_REJECT (port / 8)
      else match d.tagAt arr with
      | none => (d.feDiscard R.FE_CNT_VERSION_STALE (port / 8) port (data.length + 4)).raise E.FE_VERSION_STALE (port / 8)
      | some t => d.classify (port / 8) t p { data := data, port := port, arr := arr, arrNet := d.netAt arr, tag := t } := by
  rw [Dev.feFrame, if_neg (by simp [hen, hup, hver])]
  rfl

/-! The client MAC (R354, R363). -/

/-- The module once the client MAC has passed a frame of `len` bytes. -/
def Dev.macPass (d : Dev) (p at_ len : Nat) : Dev :=
  (((d.advance at_).cCount p 0).cCount p 1 len).count 25 0x4A { cport := some p, bytes := len }

theorem Dev.macPass_changesOnly (d : Dev) (p at_ len : Nat) :
    d.ChangesOnly (d.macPass p at_ len) [.regs, .mon, .evt, .tim, .tbl] :=
  (d.advance_changesOnly at_).mono (by decide) |>.andThen (Dev.cCount_changesOnly _ p 0 1) (by decide)
    |>.andThen (Dev.cCount_changesOnly _ p 1 len) (by decide) |>.andThen (Dev.count_changesOnly _ _ _ _) (by decide)

theorem Dev.macPass_readsAs (d : Dev) (p at_ len : Nat) (hp : p < 32) : d.ReadsAs (d.macPass p at_ len) :=
  (((d.advance_readsAs at_).trans (Dev.cCount_readsAs _ p 0 1 (by omega))).trans
    (Dev.cCount_readsAs _ p 1 len (by omega))).trans (Dev.count_readsAs _ _ _ _)

theorem Dev.macPass_word (d : Dev) (p at_ len : Nat) (r : Reg) (i j : Nat) (h : countRegs.all (fun x => x.apart r) = true) :
    (d.macPass p at_ len).word r i j = d.word r i j := by
  rw [Dev.macPass, Dev.count_word_apart _ _ _ _ _ _ h]
  exact (Dev.word_congr r i j (Dev.cCount_changesOnly _ p 1 len .regs (by decide))).trans
    ((Dev.word_congr r i j (Dev.cCount_changesOnly _ p 0 1 .regs (by decide))).trans (d.advance_word at_ r i j))

/-- A client port takes frames: it is enabled and up, and neither its shell nor its half is held (R46). -/
structure Dev.TakesFrames (d : Dev) (p : Nat) : Prop where
  enabled : d.on F.CPORT_CTRL_ENABLE p = true
  linkUp : d.on F.CPORT_STATUS_LINK_UP p = true
  shell : d.domHeld 2 = false
  half : d.domHeld (p / 16) = false

/-- A frame that the MAC passes goes on to the front end without its FCS. -/
theorem doClientFrameArrival_of_good (d : Dev) (port at_ : Nat) (frame data : Bytes) (ht : d.TakesFrames (port % 32))
    (hframe : frame = data ++ fcsBytes data) (hlen : frame.length = data.length + 4) (hmin : 64 ≤ frame.length)
    (hmax : frame.length ≤ 16000) (hpause : numAt data 12 2 ≠ 0x8808) :
    doClientFrameArrival port frame at_ none d = (d.macPass (port % 32) at_ frame.length).feFrame (port % 32) data at_ := by
  have hr := d.advance_readsAs at_
  have htake : (!(d.advance at_).on F.CPORT_CTRL_ENABLE (port % 32) || !(d.advance at_).on F.CPORT_STATUS_LINK_UP (port % 32) ||
      (d.advance at_).domHeld 2 || (d.advance at_).domHeld (port % 32 / 16)) = false := by
    rw [hr.on F.CPORT_CTRL_ENABLE _ _ (by decide), hr.on F.CPORT_STATUS_LINK_UP _ _ (by decide), hr.domHeld, hr.domHeld,
      ht.enabled, ht.linkUp, ht.shell, ht.half]
    rfl
  have hdata : frame.take (frame.length - 4) = data := by rw [hlen, Nat.add_sub_cancel, hframe, List.take_left]
  have hfcs : frame.drop (frame.length - 4) = fcsBytes data := by rw [hlen, Nat.add_sub_cancel, hframe, List.drop_left]
  simp only [doClientFrameArrival, htake, Nat.not_lt.2 hmin, Nat.not_lt.2 hmax, hdata, hfcs, hpause, ne_eq, not_true_eq_false,
    Bool.false_eq_true, if_false]
  rfl

/-- A frame whose FCS is wrong only counts at its port (R354). -/
theorem doClientFrameArrival_of_bad (d : Dev) (port at_ : Nat) (frame : Bytes) (ecc : Option (Nat × Nat × Bool))
    (hfcs : frame.drop (frame.length - 4) ≠ fcsBytes (frame.take (frame.length - 4))) :
    (d.advance at_).ChangesOnly (doClientFrameArrival port frame at_ ecc d) [.tbl] := by
  unfold doClientFrameArrival
  dsimp only
  rw [if_pos hfcs]
  split
  · exact .refl _ _
  · split
    · exact Dev.cCount_changesOnly _ _ _ _
    · split
      · exact Dev.cCount_changesOnly _ _ _ _
      · exact Dev.cCount_changesOnly _ _ _ _

/-- A version tag has two bits. -/
theorem Dev.tagAt_lt (d : Dev) (arr t : Nat) (h : d.tagAt arr = some t) : t < 4 := by
  have hcur := d.get_lt F.FE_VER_CURRENT_TAG 0 0
  have hdrain := d.get_lt F.FE_VER_DRAINING_TAG 0 0
  unfold Dev.tagAt Dev.curTag at h
  split at h
  · split at h
    · simp at h
    · exact Option.some.inj h ▸ hcur
  · split at h
    · exact Option.some.inj h ▸ hdrain
    · simp at h

theorem Dev.feDiscard_changesOnly (d : Dev) (r : Reg) (n port len : Nat) :
    d.ChangesOnly (d.feDiscard r n port len) [.regs, .mon, .evt] :=
  (d.bump_changesOnly r n 0 1).mono (by decide) |>.andThen (Dev.count_changesOnly _ _ _ _) (by decide)

/-- A discard counts in the counter of its reason (R86). -/
theorem Dev.num_feDiscard_self (d : Dev) (r : Reg) (n port len : Nat) (hn : n < r.n1 ∧ 0 < r.n2)
    (h : countRegs.all (fun x => x.apart r) = true) :
    (d.feDiscard r n port len).num r n = min 0xFFFFFFFF (d.num r n + 1) := by
  rw [Dev.feDiscard, Dev.num, Dev.count_word_apart _ _ _ _ _ _ h]
  exact d.num_bump_self r n 0 1 hn

/-! Arrivals. -/

theorem clientFrameArrival_badFcs (s : State) (port at_ : Nat) (frame : Bytes) (ecc : Option (Nat × Nat × Bool))
    (hfcs : frame.drop (frame.length - 4) ≠ fcsBytes (frame.take (frame.length - 4))) :
    Completes (.clientFrameArrival port frame at_ ecc) s fun d =>
      d.fe = s.dev.fe ∧ d.out = s.dev.out ∧ d.sch = s.dev.sch ∧ d.tim.clk = max s.dev.tim.clk at_ := by
  refine completes_of_run (f := doClientFrameArrival port frame at_ ecc) rfl ?_
  have hkeep := doClientFrameArrival_of_bad s.dev port at_ frame ecc hfcs
  have hfe := hkeep .fe (by decide)
  have hout := hkeep .out (by decide)
  have hsch := hkeep .sch (by decide)
  have htim := hkeep .tim (by decide)
  simp only [Dev.Agrees] at hfe hout hsch htim
  simp only [Dev.pins_fe, Dev.pins_out, Dev.pins_sch, Dev.pins_tim, hfe, hout, hsch, htim, Dev.advance_fe, Dev.advance_out,
    Dev.advance_sch, Dev.advance_clk, and_self]

/-- An admitted frame waits for its slice (R46-R63). -/
theorem clientFrameArrival_admitted (s : State) (port at_ t sl : Nat) (frame data : Bytes)
    (htake : s.dev.TakesFrames (port % 32)) (hlen : frame.length = data.length + 4) (hmin : 64 ≤ frame.length)
    (hmax : frame.length ≤ 16000) (hframe : frame = data ++ fcsBytes data) (hpause : numAt data 12 2 ≠ 0x8808)
    (hen : s.dev.on F.FE_CTRL_ENABLE (port % 32 / 8) = true) (hup : s.dev.feUp (port % 32 / 8) = true)
    (hver : s.dev.get F.FE_VER_CURRENT_VERSION ≠ 0) (hctrl : (parseFrame s.dev.parseCfg data).ctrl = false)
    (hptp : (parseFrame s.dev.parseCfg data).ptpEvent = false) (htag : s.dev.tagAt at_ = some t)
    (hadm : s.dev.Admits (port % 32 / 8) t (port % 32) data (parseFrame s.dev.parseCfg data) sl) :
    Completes (.clientFrameArrival port frame at_ none) s fun d =>
      ∃ f : Frame, SMap.get [] d.fe.hold (port % 32 / 8) = SMap.get [] s.dev.fe.hold (port % 32 / 8) ++ [f] ∧
        f.data = data ∧ f.port = port % 32 ∧ f.tag = t ∧ f.slices = [sl] ∧
        f.svc = nbits (s.dev.lookup (port % 32 / 8) t (port % 32) data (parseFrame s.dev.parseCfg data)).1 13 0 := by
  have hp : port % 32 < 32 := Nat.mod_lt _ (by decide)
  have ht := s.dev.tagAt_lt at_ t htag
  have hr := s.dev.macPass_readsAs (port % 32) at_ frame.length hp
  have hr' := hr.trans (Dev.parseCount_readsAs _ (port % 32 / 8) (parseFrame s.dev.parseCfg data))
  refine completes_of_run (f := doClientFrameArrival port frame at_ none) rfl ?_
  rw [doClientFrameArrival_of_good s.dev port at_ frame data htake hframe hlen hmin hmax hpause,
    Dev.feFrame_of_ready _ _ _ _ ((hr.on _ _ _ (by decide)).trans hen) ((hr.feUp _).trans hup)
      (by rwa [hr.get F.FE_VER_CURRENT_VERSION 0 0 (by decide)])]
  simp only [hr.parseCfg, hctrl, Bool.false_eq_true, if_false, hr'.tagAt, htag]
  obtain ⟨g, hg⟩ := Dev.classify_holds _ (port % 32 / 8) t (parseFrame s.dev.parseCfg data)
    { data := data, port := port % 32, arr := at_, arrNet := Dev.netAt _ at_, tag := t } sl ht hptp (hr'.admits ht hp hadm)
  rw [hr'.fe, hr'.lookup _ _ _ _ _ ht hp] at hg
  rw [Dev.pins_fe]
  exact ⟨g, hg⟩

/-- A control frame is counted and goes nowhere (R51). -/
theorem clientFrameArrival_control (s : State) (port at_ : Nat) (frame data : Bytes) (htake : s.dev.TakesFrames (port % 32))
    (hframe : frame = data ++ fcsBytes data) (hlen : frame.length = data.length + 4) (hmin : 64 ≤ frame.length)
    (hmax : frame.length ≤ 16000) (hpause : numAt data 12 2 ≠ 0x8808)
    (hen : s.dev.on F.FE_CTRL_ENABLE (port % 32 / 8) = true) (hup : s.dev.feUp (port % 32 / 8) = true)
    (hver : s.dev.get F.FE_VER_CURRENT_VERSION ≠ 0) (hctrl : (parseFrame s.dev.parseCfg data).ctrl = true) :
    Completes (.clientFrameArrival port frame at_ none) s fun d =>
      d.num R.FE_CNT_CTRL_REJECT (port % 32 / 8) =
        min 0xFFFFFFFF (s.dev.num R.FE_CNT_CTRL_REJECT (port % 32 / 8) + 1) ∧
      s.dev.ChangesOnly d [.regs, .mon, .evt, .tim, .tbl] := by
  have hp : port % 32 < 32 := Nat.mod_lt _ (by decide)
  have hfe : port % 32 / 8 < 4 := by omega
  have hr := s.dev.macPass_readsAs (port % 32) at_ frame.length hp
  refine completes_of_run (f := doClientFrameArrival port frame at_ none) rfl ?_
  rw [doClientFrameArrival_of_good s.dev port at_ frame data htake hframe hlen hmin hmax hpause,
    Dev.feFrame_of_ready _ _ _ _ ((hr.on _ _ _ (by decide)).trans hen) ((hr.feUp _).trans hup)
      (by rwa [hr.get F.FE_VER_CURRENT_VERSION 0 0 (by decide)])]
  simp only [hr.parseCfg, hctrl, if_true]
  have hframe : s.dev.ChangesOnly _ [.regs, .mon, .evt, .tim, .tbl] :=
    s.dev.macPass_changesOnly (port % 32) at_ frame.length
      |>.andThen (Dev.parseCount_changesOnly _ (port % 32 / 8) (parseFrame s.dev.parseCfg data)) (by decide)
      |>.andThen (Dev.feDiscard_changesOnly _ R.FE_CNT_CTRL_REJECT (port % 32 / 8) (port % 32) (data.length + 4)) (by decide)
      |>.andThen (Dev.raise_changesOnly _ E.FE_CTRL_REJECT (port % 32 / 8)) (by decide)
  refine ⟨?_, hframe.pins (by decide)⟩
  rw [Dev.pins_num _ _ _ _ (by decide), Dev.num, Dev.raise_word_apart _ _ _ _ _ (by decide)]
  refine (Dev.num_feDiscard_self _ R.FE_CNT_CTRL_REJECT _ _ _ ⟨hfe, by decide⟩ (by decide)).trans ?_
  rw [Dev.num, Dev.parseCount_word _ _ _ _ _ _ (by decide) (by decide), Dev.macPass_word _ _ _ _ _ _ _ (by decide), Dev.num]

/-- Settles O31: a bad FCS ends at the MAC, an admitted frame in the hold, a control frame in its counter. -/
theorem clientFramesClassified : Obligations.ClientFramesClassified := by
  refine ⟨clientFrameArrival_badFcs, ?_, ?_⟩
  · intro s port at_ t sl frame data p hen hlink hshell hhalf hlen hmin hmax hframe hpause hfen hup hver hp hctrl hptp htag hclean
      hservice hvalid hallowed hunmetered hslices hserves hroom
    subst hp
    exact clientFrameArrival_admitted s port at_ t sl frame data ⟨hen, hlink, hshell, hhalf⟩ hlen hmin hmax hframe hpause hfen
      hup hver hctrl hptp htag ⟨hclean, hservice, hvalid, hallowed, hunmetered, hslices, hserves, hroom⟩
  · intro s port at_ frame data tag htag hcases hen hlink hshell hhalf hframe hlen hmin hmax hpause hfen hup hver
    have htpid : tag = isTpid s.dev.parseCfg :=
      funext fun e => Bool.eq_iff_iff.2 ((htag e).trans (isTpid_iff s.dev.parseCfg e).symm)
    subst htpid
    exact clientFrameArrival_control s port at_ frame data ⟨hen, hlink, hshell, hhalf⟩ hframe hlen hmin hmax hpause hfen hup hver
      (parseFrame_ctrl _ _ hcases)

end Sys2Proof.Machine
end

section
/-! PROOFS. The Thyme schedule (R379-R384, R391): what an access leaves of what its commands read, what THY_CMD_STATUS shows, and
how an entry ends. -/

namespace Sys2Proof.Machine

/-! What an access leaves of the state that the commands of the schedule read. -/

theorem Dev.AccessedAs.thy {d d' : Dev} (h : d.AccessedAs d') : d'.thy = d.thy := h.parts .thy (by decide)

theorem Dev.AccessedAs.tim {d d' : Dev} (h : d.AccessedAs d') : d'.tim = d.tim := h.parts .tim (by decide)

theorem Dev.AccessedAs.num {d d' : Dev} (h : d.AccessedAs d') (r : Reg) (i j : Nat)
    (ha : countRegs.all (fun x => x.apart r) = true) : d'.num r i j = d.num r i j := congrArg BitVec.toNat (h.words r i j ha)

theorem Dev.AccessedAs.isActive {d d' : Dev} (h : d.AccessedAs d') (m : Master) : d'.isActive m = d.isActive m := by
  simp (disch := decide) only [Dev.isActive, Dev.active, h.on, h.get]

theorem Dev.AccessedAs.net {d d' : Dev} (h : d.AccessedAs d') : d'.net = d.net := by
  simp (disch := decide) only [Dev.net, Dev.netAt, Dev.netPair, Dev.rate, h.tim, h.get]

theorem Dev.AccessedAs.netAhead {d d' : Dev} (h : d.AccessedAs d') (t : Nat) : d'.netAhead t = d.netAhead t := by
  rw [Dev.netAhead, Dev.netAhead, h.net]

theorem Dev.AccessedAs.netReached {d d' : Dev} (h : d.AccessedAs d') (t : Nat) : d'.netReached t = d.netReached t := by
  rw [Dev.netReached, Dev.netReached, h.netAhead]

theorem Dev.AccessedAs.thyFree {d d' : Dev} (h : d.AccessedAs d') : d'.thyFree = d.thyFree := by
  rw [Dev.thyFree, Dev.thyFree, h.thy]

theorem Dev.AccessedAs.thyStop {d d' : Dev} (h : d.AccessedAs d') : d'.thyStop = d.thyStop := by
  have hget (f : Fld) (hf : countRegs.all (fun x => x.apart f.reg) = true) : @Dev.get d' f = @Dev.get d f :=
    funext₂ fun i j => h.get f i j hf
  unfold Dev.thyStop
  rw [hget F.THY_STAGE_ACTION_ACTION (by decide), hget F.THY_STAGE_AT_WRAP_WRAP (by decide),
    hget F.FE_VER_STAGED_VERSION (by decide), hget F.FE_VER_CURRENT_VERSION (by decide),
    hget F.TIM_PPS_OUT_CTRL_MODE (by decide), h.num R.THY_STAGE_ARG 0 0 (by decide), h.num R.THY_STAGE_AT_NS 0 0 (by decide),
    funext h.netAhead, funext h.thyPending, h.net, h.staged, h.fe, h.thyFree]

/-- A register write of the active core runs on the module as its access leaves it. -/
theorem completes_of_activeWrite {c : Instr} {s : State} {m : Master} {a w : Nat} {f : Dev → Dev} {Q : Dev → Prop}
    (h : exec c s = .next (s.run fun d => d.gated m a w f)) (hm : s.dev.isActive m = true)
    (hq : ∀ d, s.dev.AccessedAs d → Q (f d).pins) : Completes c s Q := by
  obtain ⟨d, hd, he⟩ := Dev.gated_as s.dev m a w f (s.dev.passes_of_active m a hm)
  exact completes_of_run h (he ▸ hq d hd)

/-! Bits of an event register (R478). -/

/-- A bit that is 1 stays 1 when a bit of its register is set. -/
theorem Dev.bit_setBit_mono (d : Dev) (r : Reg) (b b' i : Nat) (h : bit (d.num r i) b = true) :
    bit ((d.setBit r b' i).num r i) b = true := by
  by_cases hi : i < r.n1 ∧ 0 < r.n2
  · rw [Dev.setBit, Dev.num, Dev.word_put_self _ _ _ _ _ hi, BitVec.toNat_or, bit, Nat.testBit_or]
    exact Bool.or_eq_true_iff.2 (.inl h)
  · rwa [Dev.setBit, Dev.put, if_neg hi]

/-- A bit set in a register that exists reads 1. -/
theorem Dev.bit_setBit_self (d : Dev) (r : Reg) (b i : Nat) (hi : i < r.n1 ∧ 0 < r.n2) (hb : b < 32) :
    bit ((d.setBit r b i).num r i) b = true := by
  rw [Dev.setBit, Dev.num, Dev.word_put_self _ _ _ _ _ hi, BitVec.toNat_or, bit, Nat.testBit_or, BitVec.toNat_ofNat,
    Nat.mod_eq_of_lt (Nat.pow_lt_pow_right (by decide) hb), Nat.testBit_two_pow_self, Bool.or_true]

/-- A bit that is 1 stays 1 when an event of its register is raised. -/
theorem Dev.bit_raise_mono (d : Dev) (e : Ev) (b i : Nat) (h : bit (d.num e.reg i) b = true) :
    bit ((d.raise e i).num e.reg i) b = true := by
  unfold Dev.raise
  split
  · exact d.bit_setBit_mono e.reg b e.bit i h
  · split <;> exact h

/-- An enabled event that is raised shows its bit. -/
theorem Dev.bit_raise_self (d : Dev) (e : Ev) (i : Nat) (he : d.enabled e i = true) (hi : i < e.reg.n1 ∧ 0 < e.reg.n2)
    (hb : e.bit < 32) : bit ((d.raise e i).num e.reg i) e.bit = true := by
  rw [Dev.raise, if_pos he]
  exact d.bit_setBit_self e.reg e.bit i hi hb

@[simp] theorem Dev.set_thy (d : Dev) (f : Fld) (v i j : Nat) : (d.set f v i j).thy = d.thy := d.put_thy _ _ i j

@[simp] theorem Dev.putNum_thy (d : Dev) (r : Reg) (v i j : Nat) : (d.putNum r v i j).thy = d.thy := d.put_thy _ _ i j

/-! THY_CMD_STATUS (R391). -/

theorem Dev.thyStatus_changesOnly (d : Dev) (st ab op reason entry : Nat) :
    d.ChangesOnly (d.thyStatus st ab op reason entry) [.regs] :=
  ((((d.set_changesOnly _ _ _ _).trans (Dev.set_changesOnly _ _ _ _ _)).trans (Dev.set_changesOnly _ _ _ _ _)).trans
    (Dev.set_changesOnly _ _ _ _ _)).trans (Dev.set_changesOnly _ _ _ _ _)

@[simp] theorem Dev.thyStatus_thy (d : Dev) (st ab op reason entry : Nat) : (d.thyStatus st ab op reason entry).thy = d.thy :=
  d.thyStatus_changesOnly st ab op reason entry .thy (by decide)

theorem Dev.thyStatus_num_apart (d : Dev) (st ab op reason entry : Nat) (r : Reg) (i j : Nat)
    (h : R.THY_CMD_STATUS.apart r = true) : (d.thyStatus st ab op reason entry).num r i j = d.num r i j := by
  rw [Dev.num, Dev.thyStatus, Dev.set_word_apart _ F.THY_CMD_STATUS_ENTRY _ _ _ _ _ h,
    Dev.set_word_apart _ F.THY_CMD_STATUS_REASON _ _ _ _ _ h, Dev.set_word_apart _ F.THY_CMD_STATUS_OP _ _ _ _ _ h,
    Dev.set_word_apart _ F.THY_CMD_STATUS_ABORT_RESULT _ _ _ _ _ h, Dev.set_word_apart _ F.THY_CMD_STATUS_STATE _ _ _ _ _ h,
    Dev.num]

@[simp] theorem Dev.thyStatus_state (d : Dev) (st ab op reason entry : Nat) :
    (d.thyStatus st ab op reason entry).get F.THY_CMD_STATUS_STATE = st % 4 := by
  rw [Dev.thyStatus, Dev.get_set_field _ _ _ _ _ _ (by rfl) (by decide) (by decide),
    Dev.get_set_field _ _ _ _ _ _ (by rfl) (by decide) (by decide),
    Dev.get_set_field _ _ _ _ _ _ (by rfl) (by decide) (by decide),
    Dev.get_set_field _ _ _ _ _ _ (by rfl) (by decide) (by decide), Dev.get_set_self _ _ _ _ _ (by decide) (by decide)]
  rfl

@[simp] theorem Dev.thyStatus_abortResult (d : Dev) (st ab op reason entry : Nat) :
    (d.thyStatus st ab op reason entry).get F.THY_CMD_STATUS_ABORT_RESULT = ab % 4 := by
  rw [Dev.thyStatus, Dev.get_set_field _ _ _ _ _ _ (by rfl) (by decide) (by decide),
    Dev.get_set_field _ _ _ _ _ _ (by rfl) (by decide) (by decide),
    Dev.get_set_field _ _ _ _ _ _ (by rfl) (by decide) (by decide),
    Dev.get_set_self _ _ _ _ _ (by decide) (by decide)]
  rfl

@[simp] theorem Dev.thyStatus_reason (d : Dev) (st ab op reason entry : Nat) :
    (d.thyStatus st ab op reason entry).get F.THY_CMD_STATUS_REASON = reason % 256 := by
  rw [Dev.thyStatus, Dev.get_set_field _ _ _ _ _ _ (by rfl) (by decide) (by decide),
    Dev.get_set_self _ _ _ _ _ (by decide) (by decide)]
  rfl

/-! An entry changed, and a result sent to THY_DONE_FIFO (R384). -/

theorem Dev.setThy_changesOnly (d : Dev) (x : ThySt) : d.ChangesOnly { d with thy := x } [.thy] := by
  intro p hp
  cases p <;> simp_all [Dev.Agrees]

theorem Dev.thyUpd_changesOnly (d : Dev) (k : Nat) (f : ThyEnt → ThyEnt) : d.ChangesOnly (d.thyUpd k f) [.thy] :=
  d.setThy_changesOnly _

@[simp] theorem Dev.thyUpd_self (d : Dev) (k : Nat) (f : ThyEnt → ThyEnt) :
    SMap.get {} (d.thyUpd k f).thy.ent k = f (SMap.get {} d.thy.ent k) := SMap.get_upd_self _ _ _ _

/-- A result that finds room enters the FIFO behind the others. -/
theorem Dev.thyPush_room_fifo (d : Dev) (r : ThyRec) (h : d.thy.fifo.length < 256) :
    (d.thyPush r).thy.fifo = d.thy.fifo ++ [r] := by
  rw [Dev.thyPush, if_pos h]

theorem Dev.thyPush_of_full (d : Dev) (r : ThyRec) (h : 256 ≤ d.thy.fifo.length) :
    d.thyPush r = (d.set F.THY_STATUS_FIFO_OVF 1).raise E.THY_FIFO_OVF := if_neg h.not_gt

/-- A result that enters changes the FIFO; one that is lost sets FIFO_OVF. -/
theorem Dev.thyPush_changesOnly (d : Dev) (r : ThyRec) : d.ChangesOnly (d.thyPush r) [.regs, .evt, .thy] := by
  unfold Dev.thyPush
  split
  · exact (d.setThy_changesOnly _).mono (by decide)
  · exact ((d.set_changesOnly _ _ _ _).mono (by decide)).andThen (Dev.raise_changesOnly _ _ _) (by decide)

@[simp] theorem Dev.thyPush_ent (d : Dev) (r : ThyRec) : (d.thyPush r).thy.ent = d.thy.ent := by
  unfold Dev.thyPush
  split
  · rfl
  · rw [Dev.raise_thy, Dev.set_thy]

/-- A lost result leaves the FIFO as it is. -/
theorem Dev.thyPush_full_fifo (d : Dev) (r : ThyRec) (h : 256 ≤ d.thy.fifo.length) : (d.thyPush r).thy.fifo = d.thy.fifo := by
  rw [d.thyPush_of_full r h, Dev.raise_thy, Dev.set_thy]

/-- It shows FIFO_OVF in THY_STATUS. -/
theorem Dev.thyPush_full_status (d : Dev) (r : ThyRec) (h : 256 ≤ d.thy.fifo.length) :
    (d.thyPush r).on F.THY_STATUS_FIFO_OVF = true := by
  rw [d.thyPush_of_full r h, Dev.on, Dev.get_raise_apart _ _ _ _ _ _ (by decide)]
  exact d.on_set_one _ _ _ (by decide) (by decide) (by decide) (by decide)

/-- It shows FIFO_OVF in THY_EVT_STATUS. -/
theorem Dev.thyPush_full_event (d : Dev) (r : ThyRec) (h : 256 ≤ d.thy.fifo.length) :
    bit ((d.thyPush r).num E.THY_FIFO_OVF.reg) E.THY_FIFO_OVF.bit = true := by
  rw [d.thyPush_of_full r h]
  exact Dev.bit_raise_self _ E.THY_FIFO_OVF 0 rfl (by decide) (by decide)

/-! The end of an entry (R381-R383). -/

/-- An entry as its end leaves it. -/
def ThyEnt.ended (e : ThyEnt) (reason count missed net clk : Nat) (stepped : Bool) : ThyEnt :=
  { e with st := if reason = 0 then 2 else 3, stepped := stepped, reason := reason, count := count, missed := missed,
           endNet := net, endClk := clk }

/-- The end of an entry counted and raised: DONE or ABORTED, and the occurrence of a firing that aborted (R381, R478). -/
def Dev.thyNote (d : Dev) (reason : Nat) (fired : Bool) : Dev :=
  let d := d.bump (if fired then R.THY_CNT_DONE else R.THY_CNT_ABORTED)
  if reason = 0 then d.raise E.THY_DONE
  else (if fired then d.occur 0 E.THY_DONE.src E.THY_DONE.bit (d.num R.THY_EVT_STATUS) else d).raise E.THY_ABORTED

/-- The entry takes its result, the result goes to the FIFO, and the end is counted and raised. -/
theorem Dev.thyEnd_eq (d : Dev) (k reason count missed : Nat) (stepped fired : Bool) :
    d.thyEnd k reason count missed stepped fired =
      ((d.thyUpd k fun e => e.ended reason count missed d.net d.tim.clk stepped).thyPush
        ⟨reason ≠ 0, stepped, (SMap.get ({} : ThyEnt) d.thy.ent k).action, k, (SMap.get ({} : ThyEnt) d.thy.ent k).ticket,
          reason, count⟩).thyNote reason fired := rfl

/-- The counter and the events of an end, case by case: what each of its steps keeps, all of them keep. -/
theorem Dev.thyNote_keeps {P : Dev → Prop} (d : Dev) (reason : Nat) (fired : Bool) (h : P d)
    (hbump : ∀ (d : Dev) (r : Reg), r = R.THY_CNT_DONE ∨ r = R.THY_CNT_ABORTED → P d → P (d.bump r))
    (hoccur : ∀ (d : Dev) (k src b st : Nat), P d → P (d.occur k src b st))
    (hraise : ∀ (d : Dev) (e : Ev), e.reg = R.THY_EVT_STATUS → P d → P (d.raise e)) : P (d.thyNote reason fired) := by
  have hb : P (d.bump (if fired then R.THY_CNT_DONE else R.THY_CNT_ABORTED)) := by
    refine hbump d _ ?_ h
    cases fired
    · exact .inr rfl
    · exact .inl rfl
  unfold Dev.thyNote
  dsimp only
  generalize d.bump (if fired then R.THY_CNT_DONE else R.THY_CNT_ABORTED) = d' at hb ⊢
  split
  · exact hraise _ _ rfl hb
  · refine hraise _ _ rfl ?_
    split
    · exact hoccur _ _ _ _ _ hb
    · exact hb

theorem Dev.occur_changesOnly (d : Dev) (k src b st : Nat) (fo : Bool) : d.ChangesOnly (d.occur k src b st fo) [.evt] := by
  intro p hp
  cases p <;> simp_all [Dev.Agrees, Dev.occur]

theorem Dev.thyNote_changesOnly (d : Dev) (reason : Nat) (fired : Bool) :
    d.ChangesOnly (d.thyNote reason fired) [.regs, .evt] :=
  d.thyNote_keeps (P := fun d' => d.ChangesOnly d' [.regs, .evt]) reason fired (.refl d _)
    (fun d' r _ h => h.andThen (d'.bump_changesOnly r 0 0 1) (by decide))
    (fun d' k src b st h => h.andThen (d'.occur_changesOnly k src b st false) (by decide))
    (fun d' e _ h => h.andThen (d'.raise_changesOnly e 0) (by decide))

@[simp] theorem Dev.thyNote_thy (d : Dev) (reason : Nat) (fired : Bool) : (d.thyNote reason fired).thy = d.thy :=
  d.thyNote_changesOnly reason fired .thy (by decide)

/-- FIFO_OVF of THY_STATUS stays while an end is noted. -/
theorem Dev.thyNote_status (d : Dev) (reason : Nat) (fired : Bool) :
    (d.thyNote reason fired).on F.THY_STATUS_FIFO_OVF = d.on F.THY_STATUS_FIFO_OVF :=
  d.thyNote_keeps (P := fun d' => d'.on F.THY_STATUS_FIFO_OVF = d.on F.THY_STATUS_FIFO_OVF) reason fired rfl
    (fun d' r hr h => by
      rw [← h, Dev.on, Dev.on, Dev.get_congr (d'.bump_word_apart 1 0 0 0 0 (by rcases hr with rfl | rfl <;> decide))])
    (fun _ _ _ _ _ h => h)
    (fun d' e he h => by rw [← h, Dev.on, Dev.on, d'.get_raise_apart e _ _ _ _ (he ▸ by decide)])

/-- A bit of THY_EVT_STATUS that is 1 stays 1 while an end is noted. -/
theorem Dev.bit_thyNote_mono (d : Dev) (reason b : Nat) (fired : Bool) (h : bit (d.num R.THY_EVT_STATUS) b = true) :
    bit ((d.thyNote reason fired).num R.THY_EVT_STATUS) b = true :=
  d.thyNote_keeps (P := fun d' => bit (d'.num R.THY_EVT_STATUS) b = true) reason fired h
    (fun d' r hr h => by rwa [Dev.num, d'.bump_word_apart 1 0 0 0 0 (by rcases hr with rfl | rfl <;> decide)])
    (fun _ _ _ _ _ h => h)
    (fun d' e he h => he ▸ d'.bit_raise_mono e b 0 (he ▸ h))

theorem Dev.thyEnd_changesOnly (d : Dev) (k reason count missed : Nat) (stepped fired : Bool) :
    d.ChangesOnly (d.thyEnd k reason count missed stepped fired) [.regs, .evt, .thy] := by
  rw [Dev.thyEnd_eq]
  exact ((d.thyUpd_changesOnly _ _).mono (by decide)).andThen (Dev.thyPush_changesOnly _ _) (by decide)
    |>.andThen (Dev.thyNote_changesOnly _ _ _) (by decide)

/-- The entry holds its result. -/
theorem Dev.thyEnd_entry (d : Dev) (k reason count missed : Nat) (stepped fired : Bool) :
    SMap.get ({} : ThyEnt) (d.thyEnd k reason count missed stepped fired).thy.ent k =
      (SMap.get ({} : ThyEnt) d.thy.ent k).ended reason count missed d.net d.tim.clk stepped := by
  rw [Dev.thyEnd_eq, Dev.thyNote_thy, Dev.thyPush_ent, Dev.thyUpd_self]

/-- R384: the result enters the FIFO where it has room, and is lost with FIFO_OVF where it is full; the entry holds it. -/
theorem Dev.thyEnd_result (d : Dev) (k reason count missed : Nat) (stepped fired : Bool) (e e' : ThyEnt)
    (he : e = SMap.get {} d.thy.ent k) (he' : e' = SMap.get {} (d.thyEnd k reason count missed stepped fired).thy.ent k) :
    (d.thy.fifo.length < 256 → (d.thyEnd k reason count missed stepped fired).thy.fifo =
      d.thy.fifo ++ [⟨reason ≠ 0, stepped, e.action, k, e.ticket, reason, count⟩]) ∧
    (256 ≤ d.thy.fifo.length → (d.thyEnd k reason count missed stepped fired).thy.fifo = d.thy.fifo ∧
      (d.thyEnd k reason count missed stepped fired).on F.THY_STATUS_FIFO_OVF = true ∧
      bit ((d.thyEnd k reason count missed stepped fired).num E.THY_FIFO_OVF.reg) E.THY_FIFO_OVF.bit = true) ∧
    e'.st = (if reason = 0 then 2 else 3) ∧ e'.reason = reason ∧ e'.count = count ∧ e'.ticket = e.ticket := by
  subst he he'
  rw [Dev.thyEnd_entry]
  refine ⟨fun hroom => ?_, fun hfull => ?_, rfl, rfl, rfl, rfl⟩
  · rw [Dev.thyEnd_eq, Dev.thyNote_thy]
    exact Dev.thyPush_room_fifo _ _ hroom
  · rw [Dev.thyEnd_eq, Dev.thyNote_thy, Dev.thyNote_status]
    exact ⟨Dev.thyPush_full_fifo _ _ hfull, Dev.thyPush_full_status _ _ hfull,
      Dev.bit_thyNote_mono _ _ _ _ (Dev.thyPush_full_event _ _ hfull)⟩

end Sys2Proof.Machine
end

section
/-! PROOFS. The commands of the Thyme schedule (R379, R380, R383, R384), each by what it does where its checks hold. -/

namespace Sys2Proof.Machine

/-! THY_WRITE (R379, R380). -/

/-- The ticket of the next entry (log entry 27). -/
def Dev.nextTicket (d : Dev) : Nat := (d.thy.ticket + 1) % 2 ^ 16

/-- The pending entry that the staging registers describe. -/
def Dev.stagedEntry (d : Dev) : ThyEnt :=
  { st := 1, late := d.on F.THY_STAGE_ACTION_LATE_ABORT, action := d.get F.THY_STAGE_ACTION_ACTION, ticket := d.nextTicket,
    at_ := d.get F.THY_STAGE_AT_WRAP_WRAP * 2 ^ 32 + d.num R.THY_STAGE_AT_NS, arg := d.num R.THY_STAGE_ARG,
    gen := (SMap.get ({} : PinSt) d.tim.pins (d.num R.THY_STAGE_ARG % 4)).modeGen }

/-- The staged entry in place `k`. -/
def Dev.placeStaged (d : Dev) (k : Nat) : Dev :=
  { d with thy := { d.thy with ticket := d.nextTicket, ent := SMap.set {} d.thy.ent k d.stagedEntry } }

theorem Dev.placeStaged_changesOnly (d : Dev) (k : Nat) : d.ChangesOnly (d.placeStaged k) [.thy] := d.setThy_changesOnly _

theorem Dev.AccessedAs.nextTicket {d d' : Dev} (h : d.AccessedAs d') : d'.nextTicket = d.nextTicket := by
  rw [Dev.nextTicket, Dev.nextTicket, h.thy]

theorem Dev.AccessedAs.stagedEntry {d d' : Dev} (h : d.AccessedAs d') : d'.stagedEntry = d.stagedEntry := by
  simp (disch := decide) only [Dev.stagedEntry, h.on, h.get, h.num, h.nextTicket, h.tim]

theorem doThyWrite_of_free (d : Dev) (m : Master) (k : Nat) (hm : d.isActive m = true) (hs : d.thyStop = 0)
    (hf : d.thyFree = some k) :
    doThyWrite m d = ((d.placeStaged k).putNum R.THY_CMD_TICKET d.nextTicket).thyStatus 2 0 1 0 k := by
  simp only [doThyWrite, hm, hs, hf, Bool.not_true, Bool.false_eq_true, if_false]
  rfl

theorem doThyWrite_of_stop (d : Dev) (m : Master) (hm : d.isActive m = true) (hs : d.thyStop ≠ 0) :
    doThyWrite m d = ((d.bump R.THY_CNT_REFUSED).raise E.THY_REFUSED).thyStatus 3 0 1 d.thyStop 0 := by
  simp only [doThyWrite, hm, Bool.not_true, Bool.false_eq_true, if_false]
  split
  · next h0 _ => exact absurd h0 hs
  · rfl

/-- The reason codes of a refused write fit the REASON field (R391). -/
theorem Dev.thyStop_lt (d : Dev) : d.thyStop < 256 := by
  unfold Dev.thyStop
  extract_lets
  repeat refine iteInduction (motive := (· < 256)) (fun _ => by decide) fun _ => ?_
  decide

/-- A write with nothing against it places the staged entry in the lowest free place (R379, R380). -/
theorem thyWrite_places (s : State) (m : Master) (k : Nat) (hm : s.dev.isActive m = true) (hs : s.dev.thyStop = 0)
    (hf : s.dev.thyFree = some k) :
    Completes (.thyWrite m) s fun d =>
      (SMap.get ({} : ThyEnt) d.thy.ent k).st = 1 ∧
      (SMap.get ({} : ThyEnt) d.thy.ent k).action = s.dev.get F.THY_STAGE_ACTION_ACTION ∧
      (SMap.get ({} : ThyEnt) d.thy.ent k).arg = s.dev.num R.THY_STAGE_ARG ∧
      (SMap.get ({} : ThyEnt) d.thy.ent k).at_ =
        s.dev.get F.THY_STAGE_AT_WRAP_WRAP * 2 ^ 32 + s.dev.num R.THY_STAGE_AT_NS ∧
      (SMap.get ({} : ThyEnt) d.thy.ent k).ticket = (s.dev.thy.ticket + 1) % 2 ^ 16 ∧
      d.get F.THY_CMD_STATUS_STATE = 2 ∧ d.num R.THY_CMD_TICKET = (s.dev.thy.ticket + 1) % 2 ^ 16 ∧
      (∀ j, j ≠ k → SMap.get ({} : ThyEnt) d.thy.ent j = SMap.get ({} : ThyEnt) s.dev.thy.ent j) ∧
      s.dev.ChangesOnly d [.regs, .mon, .evt, .thy] := by
  refine completes_of_activeWrite rfl hm fun d ha => ?_
  rw [doThyWrite_of_free d m k ((ha.isActive m).trans hm) (ha.thyStop.trans hs) (ha.thyFree.trans hf)]
  have hframe : s.dev.ChangesOnly _ [.regs, .mon, .evt, .thy] :=
    ha.parts.mono (by decide) |>.andThen (d.placeStaged_changesOnly k) (by decide)
      |>.andThen (Dev.putNum_changesOnly _ R.THY_CMD_TICKET d.nextTicket 0 0) (by decide)
      |>.andThen (Dev.thyStatus_changesOnly _ 2 0 1 0 k) (by decide)
  have hent : (((d.placeStaged k).putNum R.THY_CMD_TICKET d.nextTicket).thyStatus 2 0 1 0 k).pins.thy.ent =
      SMap.set {} s.dev.thy.ent k s.dev.stagedEntry := by
    rw [Dev.pins_thy, Dev.thyStatus_thy, Dev.putNum_thy, Dev.placeStaged, ha.stagedEntry, ha.thy]
  rw [hent, SMap.get_set_self]
  refine ⟨rfl, rfl, rfl, rfl, rfl, ?_, ?_, fun j hj => SMap.get_set_ne _ _ _ hj, hframe.pins (by decide)⟩
  · simp (disch := decide) [Dev.pins_get]
  · have hfit : d.nextTicket < 2 ^ 32 := (Nat.mod_lt _ (by decide)).trans (by decide : 2 ^ 16 < 2 ^ 32)
    rw [Dev.pins_num _ _ _ _ (by decide), Dev.thyStatus_num_apart _ _ _ _ _ _ _ _ _ (by decide), Dev.num, Dev.putNum,
      Dev.word_put_self _ _ _ _ _ (by decide), BitVec.toNat_ofNat, Nat.mod_eq_of_lt hfit, ha.nextTicket]
    rfl

/-- A write with something against it leaves the schedule and shows the reason (R380, R391). -/
theorem thyWrite_refused (s : State) (m : Master) (hm : s.dev.isActive m = true) (hs : s.dev.thyStop ≠ 0) :
    Completes (.thyWrite m) s fun d =>
      d.thy = s.dev.thy ∧ d.get F.THY_CMD_STATUS_STATE = 3 ∧ d.get F.THY_CMD_STATUS_REASON = s.dev.thyStop ∧
      d.num R.THY_CNT_REFUSED = min 0xFFFFFFFF (s.dev.num R.THY_CNT_REFUSED + 1) := by
  refine completes_of_activeWrite rfl hm fun d ha => ?_
  rw [doThyWrite_of_stop d m ((ha.isActive m).trans hm) (ha.thyStop.trans_ne hs)]
  refine ⟨?_, ?_, ?_, ?_⟩
  · rw [Dev.pins_thy, Dev.thyStatus_thy, Dev.raise_thy, Dev.bump, Dev.putNum_thy, ha.thy]
  · simp (disch := decide) [Dev.pins_get]
  · rw [Dev.pins_get _ _ _ _ (by decide), Dev.thyStatus_reason, ha.thyStop, Nat.mod_eq_of_lt s.dev.thyStop_lt]
  · rw [Dev.pins_num _ _ _ _ (by decide), Dev.thyStatus_num_apart _ _ _ _ _ _ _ _ _ (by decide), Dev.num,
      Dev.raise_word_apart _ _ _ _ _ (by decide), ← ha.num R.THY_CNT_REFUSED 0 0 (by decide)]
    exact d.num_bump_self _ _ _ _ (by decide)

/-! THY_ABORT (R383). -/

theorem doThyAbort_of_found (d : Dev) (m : Master) (ticket k : Nat) (e : ThyEnt) (hm : d.isActive m = true)
    (hf : d.thy.ent.find? (fun e => e.2.st = 1 && e.2.ticket = ticket % 2 ^ 16) = some (k, e)) :
    doThyAbort ticket m d =
      if d.netReached e.at_ then (d.abortReq E.THY_ABORTED).thyStatus 2 2 2 0 k
      else ((d.abortReq E.THY_ABORTED).thyEnd k 11 0 0 false false).thyStatus 2 1 2 0 k := by
  have hf' : (d.abortReq E.THY_ABORTED).thy.ent.find? (fun e => e.2.st = 1 && e.2.ticket = ticket % 2 ^ 16) = some (k, e) := hf
  simp only [doThyAbort, hm, hf', Bool.not_true, Bool.false_eq_true, if_false]
  rfl

theorem Dev.abortReq_changesOnly (d : Dev) (e : Ev) : d.ChangesOnly (d.abortReq e) [.evt] := d.occur_changesOnly _ _ _ _ _

/-- An abort before the firing ends the entry ABORTED with the reason of an abort (R383). -/
theorem thyAbort_inTime (s : State) (m : Master) (ticket k : Nat) (e : ThyEnt) (hm : s.dev.isActive m = true)
    (hf : s.dev.thy.ent.find? (fun e => e.2.st = 1 && e.2.ticket = ticket % 2 ^ 16) = some (k, e))
    (hr : s.dev.netReached e.at_ = false) :
    Completes (.thyAbort ticket m) s fun d =>
      (SMap.get ({} : ThyEnt) d.thy.ent k).st = 3 ∧ (SMap.get ({} : ThyEnt) d.thy.ent k).reason = 11 ∧
      d.get F.THY_CMD_STATUS_ABORT_RESULT = 1 ∧ s.dev.ChangesOnly d [.regs, .mon, .evt, .thy] := by
  refine completes_of_activeWrite rfl hm fun d ha => ?_
  rw [doThyAbort_of_found d m ticket k e ((ha.isActive m).trans hm) (by rwa [ha.thy]), ha.netReached, hr,
    if_neg Bool.false_ne_true, Dev.pins_thy, Dev.thyStatus_thy, Dev.thyEnd_entry]
  have hframe : s.dev.ChangesOnly _ [.regs, .mon, .evt, .thy] :=
    ha.parts.mono (by decide) |>.andThen (d.abortReq_changesOnly E.THY_ABORTED) (by decide)
      |>.andThen (Dev.thyEnd_changesOnly _ k 11 0 0 false false) (by decide)
      |>.andThen (Dev.thyStatus_changesOnly _ 2 1 2 0 k) (by decide)
  exact ⟨rfl, rfl, by simp (disch := decide) [Dev.pins_get], hframe.pins (by decide)⟩

/-- An abort at the firing or later leaves the entry (R383). -/
theorem thyAbort_tooLate (s : State) (m : Master) (ticket k : Nat) (e : ThyEnt) (hm : s.dev.isActive m = true)
    (hf : s.dev.thy.ent.find? (fun e => e.2.st = 1 && e.2.ticket = ticket % 2 ^ 16) = some (k, e))
    (hr : s.dev.netReached e.at_ = true) :
    Completes (.thyAbort ticket m) s fun d =>
      d.thy = s.dev.thy ∧ d.get F.THY_CMD_STATUS_ABORT_RESULT = 2 ∧ s.dev.ChangesOnly d [.regs, .mon, .evt] := by
  refine completes_of_activeWrite rfl hm fun d ha => ?_
  rw [doThyAbort_of_found d m ticket k e ((ha.isActive m).trans hm) (by rwa [ha.thy]), ha.netReached, hr, if_pos rfl]
  have hframe : s.dev.ChangesOnly _ [.regs, .mon, .evt] :=
    ha.parts.andThen (d.abortReq_changesOnly E.THY_ABORTED) (by decide)
      |>.andThen (Dev.thyStatus_changesOnly _ 2 2 2 0 k) (by decide)
  have hpins := hframe.pins (by decide)
  exact ⟨hpins .thy (by decide), by simp (disch := decide) [Dev.pins_get], hpins⟩

/-! THY_RELEASE and the end of the hold time (R383). -/

theorem doThyRelease_of_ended (d : Dev) (m : Master) (entry : Nat) (hm : d.isActive m = true)
    (he : 2 ≤ (SMap.get ({} : ThyEnt) d.thy.ent (entry % 4096)).st) :
    doThyRelease entry m d = (d.thyUpd (entry % 4096) fun _ => {}).thyStatus 2 0 3 0 (entry % 4096) := by
  simp only [doThyRelease, hm, he, Bool.not_true, Bool.false_eq_true, if_false, if_true]

theorem doThyRelease_of_not_ended (d : Dev) (m : Master) (entry : Nat) (hm : d.isActive m = true)
    (he : (SMap.get ({} : ThyEnt) d.thy.ent (entry % 4096)).st < 2) :
    doThyRelease entry m d = d.thyStatus 3 0 3 14 (entry % 4096) := by
  simp only [doThyRelease, hm, he.not_ge, Bool.not_true, Bool.false_eq_true, if_false]

/-- A release frees an ended entry (R383). -/
theorem thyRelease_frees (s : State) (m : Master) (entry : Nat) (hm : s.dev.isActive m = true)
    (he : 2 ≤ (SMap.get ({} : ThyEnt) s.dev.thy.ent (entry % 4096)).st) :
    Completes (.thyRelease entry m) s fun d =>
      SMap.get ({} : ThyEnt) d.thy.ent (entry % 4096) = {} ∧ d.get F.THY_CMD_STATUS_STATE = 2 ∧
      s.dev.ChangesOnly d [.regs, .mon, .evt, .thy] := by
  refine completes_of_activeWrite rfl hm fun d ha => ?_
  rw [doThyRelease_of_ended d m entry ((ha.isActive m).trans hm) (by rwa [ha.thy])]
  have hframe : s.dev.ChangesOnly _ [.regs, .mon, .evt, .thy] :=
    ha.parts.mono (by decide) |>.andThen (d.thyUpd_changesOnly (entry % 4096) fun _ => {}) (by decide)
      |>.andThen (Dev.thyStatus_changesOnly _ 2 0 3 0 (entry % 4096)) (by decide)
  refine ⟨?_, by simp (disch := decide) [Dev.pins_get], hframe.pins (by decide)⟩
  rw [Dev.pins_thy, Dev.thyStatus_thy, Dev.thyUpd_self]

/-- A release of an entry that has not ended is refused (R383, R391). -/
theorem thyRelease_refused (s : State) (m : Master) (entry : Nat) (hm : s.dev.isActive m = true)
    (he : (SMap.get ({} : ThyEnt) s.dev.thy.ent (entry % 4096)).st < 2) :
    Completes (.thyRelease entry m) s fun d =>
      d.thy = s.dev.thy ∧ d.get F.THY_CMD_STATUS_STATE = 3 ∧ d.get F.THY_CMD_STATUS_REASON = 14 ∧
      s.dev.ChangesOnly d [.regs, .mon, .evt] := by
  refine completes_of_activeWrite rfl hm fun d ha => ?_
  rw [doThyRelease_of_not_ended d m entry ((ha.isActive m).trans hm) (by rwa [ha.thy])]
  have hpins := (ha.parts.andThen (d.thyStatus_changesOnly 3 0 3 14 (entry % 4096)) (by decide)).pins (by decide)
  exact ⟨hpins .thy (by decide), by simp (disch := decide) [Dev.pins_get], by simp (disch := decide) [Dev.pins_get], hpins⟩

/-- An ended entry becomes free HOLD_MS after its end (R383). -/
theorem entryHoldExpiry_frees (s : State) (entry : Nat)
    (he : 2 ≤ (SMap.get ({} : ThyEnt) s.dev.thy.ent (entry % 4096)).st) :
    Completes (.entryHoldExpiry entry) s fun d =>
      SMap.get ({} : ThyEnt) d.thy.ent (entry % 4096) = {} ∧
      d.tim.clk = max s.dev.tim.clk
        ((SMap.get ({} : ThyEnt) s.dev.thy.ent (entry % 4096)).endClk + ms (s.dev.get F.THY_CTRL_HOLD_MS)) ∧
      s.dev.ChangesOnly d [.regs, .tim, .thy] := by
  refine completes_of_run (f := doEntryHoldExpiry entry) rfl ?_
  rw [doEntryHoldExpiry, if_pos he]
  have hframe (t : Nat) : s.dev.ChangesOnly ((s.dev.advance t).thyUpd (entry % 4096) fun _ => {}) [.regs, .tim, .thy] :=
    ((s.dev.advance_changesOnly t).mono (by decide)).andThen (Dev.thyUpd_changesOnly _ _ _) (by decide)
  refine ⟨?_, ?_, (hframe _).pins (by decide)⟩
  · rw [Dev.pins_thy, Dev.thyUpd_self]
  · rw [Dev.pins_tim, Dev.thyUpd_changesOnly _ _ _ .tim (by decide), Dev.advance_clk]

/-! THY_DONE_FIFO_READ (R384). -/

/-- A result as THY_DONE_FIFO shows it. -/
def ThyRec.doneWord (r : ThyRec) : Nat :=
  2 ^ 31 + b2n r.aborted * 2 ^ 30 + b2n r.stepped * 2 ^ 29 + r.action * 2 ^ 20 + r.entry

/-- The module once the oldest result is taken and its ticket, reason and count are latched. -/
def Dev.latchResult (d : Dev) (r : ThyRec) (rest : List ThyRec) : Dev :=
  (Dev.putNum { d with thy := { d.thy with fifo := rest } } R.THY_DONE_TICKET (r.reason * 2 ^ 24 + r.ticket)).set
    F.THY_DONE_COUNT_COUNT r.count

theorem Dev.latchResult_changesOnly (d : Dev) (r : ThyRec) (rest : List ThyRec) :
    d.ChangesOnly (d.latchResult r rest) [.regs, .thy] :=
  ((d.setThy_changesOnly _).mono (by decide)).andThen (Dev.putNum_changesOnly _ _ _ _ _) (by decide)
    |>.andThen (Dev.set_changesOnly _ _ _ _ _) (by decide)

theorem Dev.latchResult_fifo (d : Dev) (r : ThyRec) (rest : List ThyRec) : (d.latchResult r rest).thy.fifo = rest := by
  rw [Dev.latchResult, Dev.set_thy, Dev.putNum_thy]

theorem Dev.latchResult_ticket (d : Dev) (r : ThyRec) (rest : List ThyRec) :
    (d.latchResult r rest).num R.THY_DONE_TICKET = (r.reason * 2 ^ 24 + r.ticket) % 2 ^ 32 := by
  rw [Dev.num, Dev.latchResult, Dev.set_word_apart _ _ _ _ _ _ _ (by decide), Dev.putNum,
    Dev.word_put_self _ _ _ _ _ (by decide), BitVec.toNat_ofNat]

theorem Dev.latchResult_count (d : Dev) (r : ThyRec) (rest : List ThyRec) :
    (d.latchResult r rest).get F.THY_DONE_COUNT_COUNT = r.count % 2 ^ 17 := Dev.get_set_self _ _ _ _ _ (by decide) (by decide)

/-- FIFO_OVF of THY_STATUS is cleared once the FIFO is empty. -/
def Dev.showEmptied (d : Dev) (emptied : Bool) : Dev := if emptied then d.set F.THY_STATUS_FIFO_OVF 0 else d

theorem Dev.showEmptied_changesOnly (d : Dev) (emptied : Bool) : d.ChangesOnly (d.showEmptied emptied) [.regs] := by
  unfold Dev.showEmptied
  split
  · exact d.set_changesOnly _ _ _ _
  · exact .refl d _

theorem Dev.showEmptied_word_apart (d : Dev) (emptied : Bool) {r : Reg} (i j : Nat) (h : R.THY_STATUS.apart r = true) :
    (d.showEmptied emptied).word r i j = d.word r i j := by
  unfold Dev.showEmptied
  split
  · exact d.set_word_apart F.THY_STATUS_FIFO_OVF _ _ _ _ _ h
  · rfl

theorem Dev.answer_changesOnly (d : Dev) (v : Nat) : d.ChangesOnly (d.answer v) [.out] := by
  intro p hp
  cases p <;> simp_all [Dev.Agrees, Dev.answer, Dev.emit]

theorem Dev.answer_word (d : Dev) (v : Nat) (r : Reg) (i j : Nat) : (d.answer v).word r i j = d.word r i j := d.emit_word _ r i j

theorem doThyDoneFifoRead_of_cons (d : Dev) (r : ThyRec) (rest : List ThyRec) (h : d.thy.fifo = r :: rest) :
    doThyDoneFifoRead d = ((d.latchResult r rest).showEmptied rest.isEmpty).answer r.doneWord := by
  simp only [doThyDoneFifoRead, Dev.thyRead, h]
  rfl

/-- A read of THY_DONE_FIFO takes the oldest result (R384). -/
theorem thyDoneFifoRead_takes (s : State) (r : ThyRec) (rest : List ThyRec) (h : s.dev.thy.fifo = r :: rest) :
    Completes .thyDoneFifoRead s fun d =>
      d.thy.fifo = rest ∧ d.num R.THY_DONE_TICKET = (r.reason * 2 ^ 24 + r.ticket) % 2 ^ 32 ∧
      (r.count < 2 ^ 17 → d.get F.THY_DONE_COUNT_COUNT = r.count) ∧
      d.out = s.dev.out ++ [.read (BitVec.ofNat 32 r.doneWord)] ∧
      s.dev.ChangesOnly d [.regs, .mon, .evt, .thy, .out] := by
  refine completes_of_coreAccess rfl fun d ha => ?_
  rw [doThyDoneFifoRead_of_cons d r rest (by rwa [ha.thy])]
  have hlatch : s.dev.ChangesOnly ((d.latchResult r rest).showEmptied rest.isEmpty) [.regs, .mon, .evt, .thy] :=
    ha.parts.mono (by decide) |>.andThen (d.latchResult_changesOnly r rest) (by decide)
      |>.andThen (Dev.showEmptied_changesOnly _ rest.isEmpty) (by decide)
  have hframe : s.dev.ChangesOnly _ [.regs, .mon, .evt, .thy, .out] :=
    hlatch.mono (by decide) |>.andThen (Dev.answer_changesOnly _ r.doneWord) (by decide)
  refine ⟨?_, ?_, fun hc => ?_, ?_, hframe.pins (by decide)⟩
  · rw [Dev.pins_thy, Dev.answer_changesOnly _ _ .thy (by decide), Dev.showEmptied_changesOnly _ _ .thy (by decide),
      Dev.latchResult_fifo]
  · rw [Dev.pins_num _ _ _ _ (by decide), Dev.num, Dev.answer_word, Dev.showEmptied_word_apart _ _ _ _ (by decide)]
    exact d.latchResult_ticket r rest
  · rw [Dev.pins_get _ _ _ _ (by decide), Dev.get_congr (Dev.answer_word _ _ _ _ _),
      Dev.get_congr (Dev.showEmptied_word_apart _ _ _ _ (by decide)), Dev.latchResult_count, Nat.mod_eq_of_lt hc]
  · rw [Dev.pins_out, Dev.answer, Dev.emit, hlatch .out (by decide)]

/-- Settles O42: each command of the schedule by what it does where its checks hold, and the end of an entry. -/
theorem thymeCommandsServed : Obligations.ThymeCommandsServed :=
  ⟨thyWrite_places, thyWrite_refused, thyAbort_inTime, thyAbort_tooLate, thyRelease_frees, thyRelease_refused,
    entryHoldExpiry_frees, thyDoneFifoRead_takes, Dev.thyEnd_result⟩

end Sys2Proof.Machine
end
